-- ==== Sys2Proof/Word.lean ====
section
/-!
DEFINITION. The word types of the model and its plainest arithmetic: bytes, the names of register fields,
little-endian packing (R6) and bit access on naturals.
-/
namespace Sys2Proof

/-- One byte of a memory. -/
abbrev Byte := BitVec 8

/-- A register field: `key` is the bit address of its least significant bit in BAR 0 (eight times the byte offset plus
the bit number), `width` its width in bits, `reset` its value after a fundamental reset (R11). -/
structure Fld where
  key : Nat
  width : Nat
  reset : Nat
  deriving DecidableEq, Repr

/-- The field at byte offset `off` of BAR 0, from bit `lsb` upward. -/
def fld (off lsb width reset : Nat) : Fld := ⟨8 * off + lsb, width, reset⟩

/-- A 64-bit quantity held in two fields, low part first. -/
structure Fld2 where
  lo : Fld
  hi : Fld
  deriving DecidableEq, Repr

/-- Bit `i` of a natural number. -/
def natBit (x i : Nat) : Bool := x / 2 ^ i % 2 == 1

/-- Bits `lo ..< lo + w` of a natural number. -/
def bitsOf (x lo w : Nat) : Nat := x / 2 ^ lo % 2 ^ w

/-- `x` with bit `i` set. -/
def setNatBit (x i : Nat) : Nat := if natBit x i then x else x + 2 ^ i

/-- `x` with bit `i` clear. -/
def clrNatBit (x i : Nat) : Nat := if natBit x i then x - 2 ^ i else x

/-- `x` with bit `i` equal to `b`. -/
def putNatBit (x i : Nat) (b : Bool) : Nat := if b then setNatBit x i else clrNatBit x i

/-- The bits of `x` that are clear in `m` (for clearing by writing ones). -/
def natAndNot (x m : Nat) : Nat := x - (x &&& m)

/-- A `w`-bit field read as a two's complement number. -/
def signed (w x : Nat) : Int := if 2 ^ (w - 1) ≤ x then (x : Int) - (2 ^ w : Nat) else x

/-- An integer stored in a `w`-bit two's complement field. -/
def toField (w : Nat) (x : Int) : Nat := (x % ((2 ^ w : Nat) : Int)).toNat

/-- `n` bytes of `x`, least significant first (R6). -/
def leBytes : Nat → Nat → List Byte
  | 0, _ => []
  | n + 1, x => BitVec.ofNat 8 x :: leBytes n (x / 256)

/-- The number that little-endian bytes spell. -/
def leNat : List Byte → Nat
  | [] => 0
  | b :: bs => b.toNat + 256 * leNat bs

/-- The number that big-endian bytes spell. -/
def beNat (bs : List Byte) : Nat := leNat bs.reverse

/-- Ceiling division. -/
def cdiv (a b : Nat) : Nat := (a + b - 1) / b

/-- `x` kept between `lo` and `hi`. -/
def clampNat (lo hi x : Nat) : Nat := if x < lo then lo else if hi < x then hi else x

/-- `x` kept between `lo` and `hi`. -/
def clampInt (lo hi x : Int) : Int := if x < lo then lo else if hi < x then hi else x

/-- The number of bits that are 1 among the low `w` bits. -/
def popCount : Nat → Nat → Nat
  | 0, _ => 0
  | w + 1, x => x % 2 + popCount w (x / 2)

/-- The indices below `n` at which `p` holds, lowest first. -/
def indicesWhere (n : Nat) (p : Nat → Bool) : List Nat := (List.range n).filter p

/-- The natural number whose bits below `n` are given by `p`. -/
def maskOf (n : Nat) (p : Nat → Bool) : Nat :=
  (List.range n).foldl (fun a i => if p i then a + 2 ^ i else a) 0

/-- Is `a` before `b` under the wrapping 64-bit comparison of time stamps? -/
def tsBefore (a b : Nat) : Bool := (b + 2 ^ 64 - a) % 2 ^ 64 != 0 && (b + 2 ^ 64 - a) % 2 ^ 64 < 2 ^ 63

/-- Ticks from stamp `a` to a later stamp `b`. -/
def ticksFrom (a b : Nat) : Nat := (b + 2 ^ 64 - a % 2 ^ 64) % 2 ^ 64

/-- The tick before a stamp. -/
def prevTick (a : Nat) : Nat := (a + 2 ^ 64 - 1) % 2 ^ 64

/-- The later of two stamps. -/
def tsMax (a b : Nat) : Nat := if tsBefore a b then b else a

/-- `a − b` of two wrapping 64-bit stamps, as a signed number (R152). -/
def tsDiff (a b : Nat) : Int := signed 64 ((a + 2 ^ 64 - b % 2 ^ 64) % 2 ^ 64)

/-- Put a value at index `i` of a list whose unlisted elements count as `d`. -/
def putAt {α : Type} : List α → Nat → α → α → List α
  | [], 0, v, _ => [v]
  | [], i + 1, v, d => d :: putAt [] i v d
  | _ :: l, 0, v, _ => v :: l
  | a :: l, i + 1, v, d => a :: putAt l i v d

end Sys2Proof
end

