-- ==== Sys2Proof/Syntax.lean ====
section
/-!
DEFINITION. The commands of the block: one constructor of `Instr` per row of spec/opcode_table.json, with the operands
the row's rule names. A command is a register write or read by a master, a protocol unit received, or an event that the
outside world or the engine's own timers bring about (a sample word, a debounced pin, the end of a window).
-/
namespace Sys2Proof

/-- A sample word of R14: the stamp of its first sample, the ticks to the stamp of the next word of the tile (R14,
R16) and its 64 units in the order of the SAMPLE record (R211): bit `c` of a unit is channel `32 t + c`, 1 for an input at
the upper end of the operating range of R61 (+1,200 mV), 0 for one at its lower end. `volts` gives the differential ball
voltage in µV at every sample for the channels of the tile that are listed: those bits are the comparator's (R63). -/
structure SampleWord where
  stamp : Nat
  span : Nat
  units : List Nat
  volts : List (Nat × List Int) := []
  deriving DecidableEq, Repr

/-- What the slack gauge measured of one unit of a stage in a window (R27, R28): the ticks it was busy and the items it
received. -/
structure SlackUnit where
  busy : Nat
  items : Nat
  deriving DecidableEq, Repr

/-- The front-end fields that R77 governs. -/
inductive FeField where
  | en (c : Nat)
  | term (c : Nat)
  | hyst (c : Nat)
  | dsk (c : Nat)
  | clksel (t : Nat)
  | stclkCh (n : Nat)
  | stclkEdge (n : Nat)
  | stclkEn (n : Nat)
  | stpt (n : Nat)
  deriving DecidableEq, Repr

/-- What the I²C read of a pod identity brought (R98): the bus outcome and the 256 bytes. -/
inductive IdRead where
  | nack
  | busStuck
  | bytes (b : List Byte)
  deriving DecidableEq, Repr

/-- What a rank returns for its sector of a line (R256): no error, one bit corrected, flagged, or data that differ from
what was stored, unflagged: bytes and the bits that differ. -/
inductive SecResp where
  | clean
  | corrected
  | flagged
  | corrupt (xs : List (Nat × Nat))
  deriving DecidableEq, Repr

/-- What the array of a scratch word returns (R312): no error, one bit corrected (0 to 74), uncorrectable. -/
inductive ScrResp where
  | clean
  | corrected (bit : Nat)
  | uncorrectable
  deriving DecidableEq, Repr

/-- An access to scratch (R306): the requester (a unit by its owner code 0 to 7, or 8 plus a privileged master), the byte
offset, the bytes of a write or none for a read, the length, and what the array returns for each word touched. -/
structure ScrAcc where
  who : Nat
  addr : Nat
  wr : Option (List Byte)
  len : Nat
  resp : List ScrResp
  deriving DecidableEq, Repr

/-- What the initial training finds in a lane of a rank (R296, R298): read centre, write centre and eye width, or no eye. -/
structure LaneFind where
  stk : Nat
  rank : Nat
  lane : Nat
  eye : Option (Nat × Nat × Nat)
  deriving DecidableEq, Repr

/-- An access of the debug port (R444): a register word read or written with byte enables, scratch, Curator halted, stepped or
resumed, Curator RAM. -/
inductive DapOp where
  | regRead (off : Nat)
  | regWrite (off value be : Nat)
  | scratch (a : ScrAcc)
  | halt
  | step
  | resume
  | ramRead (addr len : Nat)
  | ramWrite (addr : Nat) (bytes : List Byte)
  deriving DecidableEq, Repr

/-- A use of the DAP_AUTH chain (R443): the 256 bytes of SEC_BUF shifted in, SEC_NONCE shifted out, a write of SEC_CMD. -/
inductive AuthOp where
  | buf (bytes : List Byte)
  | nonce
  | cmd (op slot : Nat)
  deriving DecidableEq, Repr

/-- What a stage of R27 discards (R453): words per tile; a sequencer step of contexts by its last instant; the container of a
region; the container a decompressor lane decodes for a user and slot; a request of a fabric port; a TLP of a DMA channel; pixels. -/
inductive Lost where
  | nothing
  | words (ks : List Nat)
  | step (ctxs last : Nat)
  | container (region : Nat)
  | decode (user slot : Nat)
  | request (port line : Nat) (write : Bool)
  | tlp (chan : Nat)
  | pixels
  deriving DecidableEq, Repr

/-- A command of the block: one row of spec/opcode_table.json each. -/
inductive Instr where
  /-- REGISTER_WRITE: A write to a register field that has no row of its own takes effect according to the field's type. -/
  | registerWrite (master off value be : Nat)
  /-- BAR0_INVALID_ACCESS: A BAR 0 access of an unsupported width or alignment: a read completes with Unsupported Request, a write is discarded, and HOST_DENY_CNT is counted. -/
  | bar0InvalidAccess (read : Bool)
  /-- LOCK_ALL: A write of GLB_GCTRL.LOCK_ALL sets the eleven LOCK bits at one point in the register fabric order. -/
  | lockAll
  /-- SAMPLE_WORD: A front-end tile writes a stamped sample word into its elastic buffer. -/
  | sampleWord (t : Nat) (w : SampleWord)
  /-- ELASTIC_GAP: Accession meets a drop descriptor, writes a GAP record of cause ELASTIC into each receiving region and updates the drop counters. -/
  | elasticGap (t : Nat)
  /-- ACCESSION_LINE: Accession packs records of a stream into a 256-byte line and writes it into a capture region. -/
  | accessionLine (n t : Nat)
  /-- SLACK_WINDOW_END: At the end of each slack gauge window the engine writes CUR, MIN and WORST for each stage. -/
  | slackWindowEnd (units : List (List SlackUnit))
  /-- CLR_MIN: A write of GLB_SLK_CTRL.CLR_MIN sets every MIN to 100. -/
  | clrMin
  /-- EB_CLR: A write of GLB_EB_CLR clears PEAK, CNT and WORDS of the selected tiles. -/
  | ebClr (tiles : Nat)
  /-- FAB_RSV_WRITE: A write to MEM_FAB_RSV_p is checked and is either accepted or rejected with CFG_ERR. -/
  | fabRsvWrite (p rsv mx : Nat)
  /-- FAB_OUT_READ: A read of MEM_FAB_OUT_p resets PEAK to CUR. -/
  | fabOutRead (p : Nat)
  /-- MEMORY_REQUEST: A fabric port issues a line read or a masked write, which is ordered per line and decoded under the memory codes. -/
  | memoryRequest (port line : Nat) (wr : Option (Nat × List Byte)) (resp : List SecResp) (lat : Nat)
  /-- MODE_REQUEST: A write of GLB_MODE is checked as a mode request against the acceptance conditions in order. -/
  | modeRequest (master mode : Nat) (dbl : Bool) (stop : Nat)
  /-- ACQUISITION_ENTRY: Once the loops are locked, the engine resets the trigger state, starts the tiles at T0, writes the TIME and GAP records and puts the new mode in force. -/
  | acquisitionEntry (t0 : Nat)
  /-- MODE_LOCK_FAIL: When the lock is not reached within 2 ms, the engine abandons mode entry with REJ_CODE 3. -/
  | modeLockFail
  /-- ACQUISITION_STOP: After the drain below the stop tick S, the engine closes containers and lines, seals open windows and puts the target mode in force. -/
  | acquisitionStop
  /-- FORCED_STOP: When the drain is not done 2 ms after acceptance, the engine discards the unprocessed words, writes GAP records of cause FORCED and completes the stop. -/
  | forcedStop (stages : Nat)
  /-- TILE_SVC_REQUEST: A write of GLB_TILE_SVC asks for tiles to enter or leave tile service, or is rejected. -/
  | tileSvcRequest (req : Nat)
  /-- TILE_SERVICE_ENTRY: A tile enters service at its next word boundary U, which opens the tile-service GAP interval. -/
  | tileServiceEntry (k u : Nat)
  /-- TILE_SERVICE_EXIT: A tile leaves service and rejoins at the first word boundary after it is ready. -/
  | tileServiceExit (k v : Nat)
  /-- KEPT_LINE_COPY: The engine copies a line of a window from the ring into the kept region, or skips it when it is poisoned or overwritten. -/
  | keptLineCopy (n : Nat)
  /-- SEAL: A complete window is sealed with the SHA-384 chain and its signature, ACC_KEEP_CNT_n is incremented, and a Ledger entry is written. -/
  | seal (n : Nat)
  /-- KEEP_CTRL_WRITE: A write of ACC_KEEP_CTRL_n is applied, or discarded with ACC_STAT.REJ when its kinds are wrong. -/
  | keepCtrlWrite (n : Nat) (en pol : Bool) (dest : Nat)
  /-- WAKE_ASSERT: The engine asserts WAKE_N for enabled or accumulated causes once MIN_INT has passed while in D3 with PME enabled. -/
  | wakeAssert
  /-- TIP_WRITE: A write of FE_THR_TIP_c computes the ball code from the pod identity, or sets PEND when the identity is not valid. -/
  | tipWrite (c tip : Nat)
  /-- THR_WRITE: A write of FE_THR_c sets CODE with SRC = 0, or with CLAMP = 1 only clears CLAMP. -/
  | thrWrite (c v : Nat)
  /-- FE_FIELD_WRITE: A write to a front-end field while the tile samples is applied from the next word or held with PEND. -/
  | feFieldWrite (m : Nat) (f : FeField) (v : Nat)
  /-- EYE_SCAN_START: A write of FE_ES_CTRL.START starts an eye scan, or ends it at once with ERR 1 or 6. -/
  | eyeScanStart
  /-- EYE_SCAN_ABORT: A write of FE_ES_CTRL.ABORT ends the running scan with ERR 4. -/
  | eyeScanAbort
  /-- EYE_SCAN_DONE: A completed scan writes the result block and the proposal, increments GEN, sets VALID and raises vector 40 + t. -/
  | eyeScanDone (counts : List (List Nat))
  /-- CAL_REQUEST: A write of FE_CAL_CTRL.REQ starts, joins or rejects the calibration of a tile. -/
  | calRequest (tiles : Nat)
  /-- CAL_DONE: The tile calibration ends: it applies the trims and sets DONE, or keeps the old trims and sets FAIL. -/
  | calDone (t fail : Nat) (trims : List Nat) (ilv : Nat)
  /-- POD_INSERTED: PODp_PRSNT_N low for 20 ms declares a pod inserted. -/
  | podInserted (p : Nat)
  /-- POD_REMOVED: PODp_PRSNT_N high for 1 µs declares removal, switches the pod power off and stops the tile. -/
  | podRemoved (p u : Nat)
  /-- POD_POWER_REQUEST: A change of POD_CTRL_p.PWR_REQ powers the pod on from OFF or starts its orderly power-off. -/
  | podPowerRequest (p : Nat) (req : Bool) (u : Nat)
  /-- SOFT_START_END: At the end of the soft-start ramp and the 2 ms wait, the port enters IDENT. -/
  | softStartEnd (p : Nat)
  /-- POD_OVERCURRENT: A pod current above LIMIT for 10 µs switches the supplies off and enters FAULT. -/
  | podOvercurrent (p peak u : Nat)
  /-- ATTN_PRESS: A debounced press of the attention button sets ATTN and powers the pod on, starts a power-off or cancels one. -/
  | attnPress (p : Nat)
  /-- ATTN_POWER_OFF: At the end of the 5 s blink after a press, the engine clears PWR_REQ and powers the pod off. -/
  | attnPowerOff (p u : Nat)
  /-- IDENT_DONE: The identity read ends; the checks give JOINING, HOLD or FAULT. -/
  | identDone (p : Nat) (r : IdRead)
  /-- REREAD: A write of POD_CTRL_p.REREAD in HOLD returns the port to IDENT. -/
  | reread (p : Nat)
  /-- SB_GO: A write of POD_SB_CMD_p.GO queues a software transaction on the sideband. -/
  | sbGo (p : Nat)
  /-- SB_DONE: A sideband transaction ends, setting SB_DONE and, when not acknowledged, NACK. -/
  | sbDone (p : Nat) (nack : Bool) (data : Nat)
  /-- TILE_REJOIN: A joined pod's tile rejoins once the engine is in acquisition, the tile is not in service and BUSY is 0, and the PORT_ABSENT interval closes. -/
  | tileRejoin (p v : Nat)
  /-- PORT_ABSENT_RECORD: Accession reaches stamp U and writes the opening PORT_ABSENT record. -/
  | portAbsentRecord (p : Nat)
  /-- POD_PWR_STAT_READ: A read of POD_PWR_STAT_p resets PEAK_MA to CUR_MA. -/
  | podPwrStatRead (p : Nat)
  /-- LOOP_COMMIT: A write of CLK_CMD.COMMIT accepts, holds or rejects a loop commit and starts the relock sequence. -/
  | loopCommit (mask : Nat)
  /-- LOCK_WINDOW_END: At the end of a lock-detector counting window the window passes or fails. -/
  | lockWindowEnd (n fb t : Nat)
  /-- ANALOGUE_LOCK: LOCK_FILT crosses 0.70 V or 0.45 V, and the engine declares analogue lock or loss. -/
  | analogueLock (lock : Bool) (volt t : Nat)
  /-- CLOCK_MONITOR_FAIL: A clock monitor finds a missing or off-frequency clock and declares it failed. -/
  | clockMonitorFail (src t : Nat) (far : Bool)
  /-- CLOCK_MONITOR_PASS: A failed clock passes its monitor again, for example XREF_BACK. -/
  | clockMonitorPass (src : Nat)
  /-- PHASE_ALIGN_DONE: The SPLL phase alignment ends, and the output switches from bypass to the loop in state LOCKED. -/
  | phaseAlignDone
  /-- LOOP_RETURN: A write of CLK_CMD.RETURN takes a HELD loop out of bypass. -/
  | loopReturn (mask : Nat)
  /-- UNLOCK_RECORD: At a tile's first word after a return from bypass, Accession writes the UNLOCK record of the interval. -/
  | unlockRecord (t : Nat)
  /-- CLK_LD_AN_WRITE: A write of CLK_LD_AN is applied, or held until the loop's next commit. -/
  | clkLdAnWrite (en : Bool) (loop win : Nat)
  /-- RAMP_SEG_WRITE: A write of a ramp segment register is discarded with CMT_REJ while EN is 1. -/
  | rampSegWrite (m sg dur fin : Nat)
  /-- RAMP_PERIOD: Once per profile period the engine correlates and shifts the ramp and updates ALIGNED. -/
  | rampPeriod (m resid : Nat) (shift : Int)
  /-- CLKOUT_CFG_WRITE: A change of a CLKOUT_k configuration is applied through the clock switch or the idle level, or discarded. -/
  | clkoutCfgWrite (master k value mask : Nat)
  /-- TS64_WRAP: TS64 wraps to 0, TIME_EPOCH.GEN is incremented, TS_WRAP is set and a Ledger entry is written. -/
  | ts64Wrap
  /-- SET: TIME_CMD.OP SET loads TS64, at once or at the next qualified PPS_IN edge. -/
  | set (atPps : Bool)
  /-- STEP: TIME_CMD.OP STEP adds a delta to TS64. -/
  | step (atPps : Bool)
  /-- TOD_SET: TIME_CMD.OP TOD_SET loads TOD from TIME_TODSET. -/
  | todSet (atPps : Bool)
  /-- TOD_STEP: TIME_CMD.OP TOD_STEP adds a signed tick count to TOD. -/
  | todStep (atPps : Bool)
  /-- TIME_CMD_ABANDON: A pending AT = 1 command with no qualified edge within 2 s is abandoned with CMD_REJ. -/
  | timeCmdAbandon
  /-- TOD_SECOND: The TOD tick-of-second reaches 12,800,000,000 and the seconds increment. -/
  | todSecond
  /-- PPS_OUT_PULSE_END: The PPS_OUT pulse ends after WIDTH_MS. -/
  | ppsOutPulseEnd
  /-- PPS_IN_EDGE: A PPS_IN edge is timestamped and qualified. -/
  | ppsInEdge (t : Nat) (tref : Int)
  /-- TREF_UPDATE: Every 2^TAU s in MODE 3 the engine updates RATE from TREF_IN. -/
  | trefUpdate (tref : Int)
  /-- PPS_MISS: With no qualified edge for the miss interval, steering enters HOLDOVER. -/
  | ppsMiss
  /-- HO_LIMIT: The holdover error estimate passes LIMIT_US, QUAL becomes FREE and HO_LIMIT is set. -/
  | hoLimit
  /-- RATE_WRITE: A write of TIME_RATE sets RATE in MODE 0 and is discarded otherwise. -/
  | rateWrite (v : Nat)
  /-- STEER_MODE_WRITE: A write of TIME_STEER_CFG.MODE puts the steering in FREE. -/
  | steerModeWrite (mode : Nat)
  /-- AQL_FRAME_RX: A receiver takes in an Aqurn frame, checks its CRC and acts on it by TYPE. -/
  | aqlFrameRx (down : Bool) (raw : List Byte) (t ph : Nat)
  /-- AQL_FRAME_TX: At each frame slot the sender transmits the highest-priority frame that is due. -/
  | aqlFrameTx (down : Bool)
  /-- ENUM: TIME_AQL_CMD.ENUM on the master starts enumeration of the chain. -/
  | enum
  /-- ADOPT: TIME_AQL_CMD.ADOPT steps TS64 by the offset and trims the BPLL phase. -/
  | adopt
  /-- AQL_ARM: TIME_AQL_CMD.ARM sends an ARM frame when ARM_TS is far enough ahead. -/
  | aqlArm
  /-- AQL_OFFSET_AVERAGE: After 1,024 delay exchanges the member writes OFS and DLY and checks OFS_VALID. -/
  | aqlOffsetAverage
  /-- TIME_TS_READ: A read of TIME_TS_LO latches TS64 and TOD at one tick. -/
  | timeTsRead (master : Nat)
  /-- EVALUATION_INSTANT: At each evaluation instant a context evaluates its resources, decides a branch and applies its actions. -/
  | evaluationInstant (t ctxs caught : Nat)
  /-- COUNTER_TERMINAL: A counter reaches TC, sets TCHIT and applies ON_TC. -/
  | counterTerminal (c : Nat)
  /-- TIMER_LIMIT: A timer reaches LIM, sets LIMHIT and applies ON_LIM. -/
  | timerLimit (m : Nat)
  /-- RETENTION_END: The retention of a trigger ends, and the result is written and reported. -/
  | retentionEnd (n : Nat)
  /-- RES_COMMIT: A write of TRIG_RES_CMT requests a commit of resource shadows. -/
  | resCommit (n : Nat) (id : Option Nat)
  /-- RES_COMMIT_APPLY: At I_c the commit is checked and applied, or rejected as a whole. -/
  | resCommitApply (n ic : Nat)
  /-- RES_FIELD_WRITE: A write to a resource shadow through a window, discarded with OWN_ERR when the window's context does not own the resource. -/
  | resFieldWrite (master n off value mask : Nat)
  /-- LAST_READ: A read of a resource's LAST_LO latches LAST_HI and the empty mark. -/
  | lastRead (n i : Nat)
  /-- ARM: A write of TRIG_SEQ_CMD.ARM requests arming at the next step. -/
  | arm (n : Nat)
  /-- DISARM: A write of TRIG_SEQ_CMD.DISARM requests disarming at the next step. -/
  | disarm (n : Nat)
  /-- ARM_APPLY: An arm from a command or an ARM frame applies at its instant, releasing any freeze, or is ignored with ARM_IGN. -/
  | armApply (n t : Nat)
  /-- DISARM_APPLY: A disarm applies at its instant and ends retention in POST. -/
  | disarmApply (n t : Nat)
  /-- SEQ_COMMIT: A write of TRIG_SEQ_CMD.COMMIT requests a commit of the branch shadows. -/
  | seqCommit (n : Nat)
  /-- SEQ_COMMIT_APPLY: The branch commit is checked and applied at the next step, or rejected. -/
  | seqCommitApply (n : Nat)
  /-- SEQ_CFG_WRITE: A write of TRIG_SEQ_CFG is applied, or held with CFG_PEND while EVAL is 1. -/
  | seqCfgWrite (n : Nat) (cont auto frz : Bool) (tgt : Nat)
  /-- RR_START: A write of TRIG_RR_CTRL.START starts a retriggering run in REVIEW, or ends it at once with RANGE. -/
  | rrStart
  /-- RR_STOP: A write of TRIG_RR_CTRL.STOP ends the run at the next step boundary. -/
  | rrStop
  /-- RR_END: A retriggering run ends with its END code, GEN and VALID. -/
  | rrEnd
  /-- CLEAR: A write of ACC_CMD.CLEAR starts clearing a region, or is rejected. -/
  | clear
  /-- CLEAR_DONE: The region clear completes: the pointers are reset, a KHEAD is written for KEPT regions and a Ledger entry is written. -/
  | clearDone
  /-- CREG_POS_READ: A read of ACC_CREG_n_POS latches GS and HOR. -/
  | cregPosRead (master n : Nat)
  /-- CREG_EN_WRITE: A write of ACC_CREG_n_CFG.EN is applied, or held until the acquisition mode ends. -/
  | cregEnWrite (n : Nat) (en : Bool)
  /-- CONTAINER_COMMIT: A lane verifies a closed container and commits it as CBLOCK lines. -/
  | containerCommit (n : Nat) (mismatch : Bool)
  /-- CONTAINER_DECODE: A decompressor lane decodes a container for Vitrine, a retriggering run or a job. -/
  | containerDecode (user slot a : Nat)
  /-- JOB_GO: A write of CMP_JOB_q_CTRL.GO queues a job, or refuses it with an ERR code. -/
  | jobGo (q : Nat)
  /-- RESUME: A write of RESUME continues a STOPPED job into a new DST. -/
  | resume (q : Nat)
  /-- JOB_ABORT: A write of ABORT ends the job with ERR 6. -/
  | jobAbort (q : Nat)
  /-- JOB_CONTAINER: A job slot completes one container: it writes output or stops for space. -/
  | jobContainer (q : Nat) (mismatch : Bool)
  /-- CMP_REG_CFG_WRITE: A write of CMP_REG_n_CFG is applied, or held during an acquisition mode. -/
  | cmpRegCfgWrite (master n tbl cls : Nat) (nbr : Bool)
  /-- CONSERVATOR_REREAD: Conservator re-reads a failed line and writes it back corrected or poisoned. -/
  | conservatorReread (resp : List SecResp)
  /-- PATROL_READ: The Conservator patrol reads the next line, decodes it and writes it back when needed. -/
  | patrolRead (resp : List SecResp)
  /-- INVENTORY_WRITEBACK: Within 1 ms of a corrected read, Conservator writes the line back, re-reads it and updates the entry count. -/
  | inventoryWriteback (resp : List SecResp)
  /-- INVENTORY_RETEST: Every RETEST_S, Conservator retests each entry with a nonzero count. -/
  | inventoryRetest (resps : List (List SecResp))
  /-- INVENTORY_AGE: An inventory entry is removed after AGE_H hours without a further correction. -/
  | inventoryAge
  /-- PPR_START: Post-package repair starts once its conditions hold, and the position enters REPAIR. -/
  | pprStart
  /-- PPR_DONE: The slice repair completes; the position enters REBUILD, or the rank is retired on failure. -/
  | pprDone (st : Nat) (ok : Bool)
  /-- SCORE_HALVE: Every HALF_H hours each rank SCORE halves. -/
  | scoreHalve
  /-- RETIRE: MEM_INT_CMD.RETIRE retires a position's rank, starting a migration or making the position ERASED. -/
  | retire (stk pos : Nat)
  /-- SWEEP_LINE: A sweep recovers and rewrites the swept position of one line and advances PTR. -/
  | sweepLine (st : Nat) (resp : List SecResp) (bad : Bool)
  /-- INJECT_ARM: A write of MEM_INJ.ARM arms an injection, or is discarded with REJ. -/
  | injectArm (line : Nat) (arm : Bool)
  /-- CE_DIV_WRITE: A write of MEM_ERR_CFG clears the CE divider. -/
  | ceDivWrite (v : Nat)
  /-- REFRESH_ACCRUAL: Once per tREFI the refresh debt D of a stack increases. -/
  | refreshAccrual (st : Nat) (eyes : List (Option (Nat × Nat × Nat)))
  /-- REFRESH_ROUND: The controller issues an opportunistic or pulled-in all-bank refresh round. -/
  | refreshRound (st : Nat) (idle : Bool) (eyes : List (Option (Nat × Nat × Nat)))
  /-- BURST_NOTICE: Vitrine or DMA gives a burst notice that permits refresh pull-in. -/
  | burstNotice
  /-- RD_TABLE_CLEAR: The row-disturb tables are cleared every 32 ms ÷ multiplier. -/
  | rdTableClear (st : Nat)
  /-- TARGETED_REFRESH: A queued targeted refresh is issued, which blocks the bank for 100 ns. -/
  | targetedRefresh (st : Nat)
  /-- POWER_DOWN_ENTRY: An idle stack enters power-down after PD_NS × 10 ns. -/
  | powerDownEntry (st : Nat)
  /-- SELF_REFRESH_ENTRY: An idle stack enters self-refresh after SR_US. -/
  | selfRefreshEntry (st : Nat)
  /-- TRAINING_PASS_START: Every PERIOD_MS a periodic training pass starts gathering. -/
  | trainingPassStart
  /-- BIN_REQUEST: A write of MEM_BIN_CTRL.REQ is checked and accepted or rejected. -/
  | binRequest (bin : Nat) (pol : Bool)
  /-- BIN_CHANGE: After the hold the engine stalls the ports, enters self-refresh and relocks MPLL at the new bin. -/
  | binChange
  /-- BIN_LOCK_TIMEOUT: When MPLL has not locked 2 ms after step 5, the previous bin is restored with REJ_CODE 6. -/
  | binLockTimeout
  /-- QOS_MAX_READ: A read of MEM_QOS_MAX_p resets NS to 0. -/
  | qosMaxRead (master p : Nat)
  /-- SCRATCH_ACCESS: A scratch read or write by a unit or a privileged master is decoded and checked. -/
  | scratchAccess (a : ScrAcc) (b : Option ScrAcc)
  /-- SCR_RGN_WRITE: A write of SCR_RGN_m_j is applied from Curator and discarded with PRIV_ERR from others. -/
  | scrRgnWrite (master m j reg v : Nat)
  /-- ATOMIC_GO: A write of SCR_ATOM_m_CMD.GO performs an indivisible ADD or SWAP. -/
  | atomicGo (master m : Nat) (resp : ScrResp)
  /-- SCRATCH_PATROL: The scratch patrol reads a word and writes back corrected or poisoned words. -/
  | scratchPatrol (resp : ScrResp) (again : Bool)
  /-- SCRATCH_INV_AGE: An inventory entry with count 0 is dropped after 24 h. -/
  | scratchInvAge
  /-- SCRATCH_REPAIR_DONE: A row or column repair completes, decrements the spares and sets REPAIRED. -/
  | scratchRepairDone (b : Nat)
  /-- SECURE_WIPE_DONE: The secure partition wipe completes and WIPED is set. -/
  | secureWipeDone (burnFail : Bool)
  /-- MARCH_TEST_START: A write of SCR_MT_CTRL.START runs the march test, or sets REJ. -/
  | marchTestStart
  /-- MARCH_TEST_ABORT: A write of SCR_MT_CTRL.ABORT ends the test at its next row. -/
  | marchTestAbort (rows : Nat) (fails : List (Nat × Nat))
  /-- MARCH_TEST_END: The march test ends, writes SCR_MT_FAIL and sets MT_END. -/
  | marchTestEnd (fails : List (Nat × Nat))
  /-- CONFIG_REQUEST: A configuration request is answered with Request Retry Status or completed. -/
  | configRequest (off : Nat) (wr : Option Nat) (mask : Nat)
  /-- APERTURE_ACCESS: A BAR 2 TLP is translated through the windows to capture memory, or refused. -/
  | apertureAccess (a n : Nat) (wr : Option (List Byte)) (ep : Bool)
  /-- PERST_N: An assertion of PERST_N is a fundamental reset, or a hot reset when KEEP is 1. -/
  | perstN
  /-- HOT_RESET: A hot reset resets the HOST block and retrains the link. -/
  | hotReset
  /-- FUNCTION_LEVEL_RESET: A function-level reset completes within 10 ms with the scope of R330. -/
  | functionLevelReset
  /-- D3HOT_ENTRY: The function enters D3hot: decoding off, DMA stopped and the link in L1. -/
  | d3hotEntry
  /-- D0_ENTRY: The function returns to D0, and WAKE_N is released. -/
  | d0Entry
  /-- LINK_DOWN: The link goes down, and DMA channels end with ERR 7. -/
  | linkDown
  /-- IRQ_EOI: A write of HOST_IRQ_EOI takes a vector out of service and resends it if still asserted. -/
  | irqEoi (v : Nat)
  /-- MSIX_UNMASK: An unmask of an MSI-X vector sends the pending message and clears the PBA bit. -/
  | msixUnmask (v : Nat) (mask : Bool)
  /-- EVQ_READ: A read of HOST_EVQ_DATA forms and latches a 256-bit word. -/
  | evqRead
  /-- EVQ_POP: A write of HOST_EVQ_POP removes the latched items. -/
  | evqPop
  /-- DMA_TAIL_WRITE: A write of HOST_DMA_c_TAIL advances TAIL, or is discarded with TAIL_REJ. -/
  | dmaTailWrite (c v : Nat)
  /-- DMA_ENABLE: A write of EN = 1 starts a channel RUNNING from HEAD. -/
  | dmaEnable (c : Nat)
  /-- DMA_DISABLE: A write of EN = 0 stops the channel after its current descriptor. -/
  | dmaDisable (c : Nat)
  /-- DMA_ABORT: A write of ABORT stops the channel at a TLP boundary with ERR 6. -/
  | dmaAbort (c moved : Nat)
  /-- DMA_DESCRIPTOR: A RUNNING channel starts the descriptor at HEAD. -/
  | dmaDescriptor (c : Nat)
  /-- DMA_DESCRIPTOR_DONE: A descriptor completes: the status write, HEAD advance and events. -/
  | dmaDescriptorDone (c : Nat)
  /-- STREAM_FLUSH: A STREAM descriptor with no new line for FLUSH_US completes with FLUSH. -/
  | streamFlush (c : Nat)
  /-- ATS_INVALIDATE: An Invalidate Request drops translations and is completed after the reads that used them. -/
  | atsInvalidate (itag page pages : Nat)
  /-- COMPLETION_TIMEOUT: A non-posted request times out, ends its descriptor with ERR 3 and quarantines its tag. -/
  | completionTimeout (tag : Nat)
  /-- QUARANTINE_EXPIRY: A quarantined tag is released after QUAR_MS. -/
  | quarantineExpiry
  /-- COMPLETION_RECEIVED: A completion TLP is received for an outstanding request. -/
  | completionReceived (tag status : Nat) (ep : Bool) (bytes : List Byte) (cplid : Nat)
  /-- WIN_COMMIT: A write of HOST_WIN_CMD.COMMIT checks the window shadows and switches all windows at once, or rejects. -/
  | winCommit
  /-- TRAIN: A write of VIT_CMD.TRAIN starts eDP link training, or fails at once with RATE. -/
  | train
  /-- LINK_TRAIN_DONE: Link training ends with LINK_UP or FAIL. -/
  | linkTrainDone (fail swing pre : Nat) (psr : Bool)
  /-- HPD_IRQ: A low pulse of 0.25 … 2 ms on EDP_HPD sets HPD_IRQ. -/
  | hpdIrq (lost : Bool)
  /-- HPD_UNPLUG: EDP_HPD low for more than 2 ms is an unplug. -/
  | hpdUnplug
  /-- HPD_PLUG: EDP_HPD high after 100 ms of low is a plug. -/
  | hpdPlug
  /-- AUX_GO: A write of VIT_AUX_CMD.GO starts an AUX transaction. -/
  | auxGo
  /-- AUX_DONE: An AUX transaction ends with RESULT, GEN and VALID. -/
  | auxDone (result : Nat) (bs : List Byte)
  /-- LATCH_POINT: At the latch point L of a frame, Vitrine counts the frame, gives the burst notice and latches held changes. -/
  | latchPoint
  /-- TIMING_COMMIT: A write of VIT_CMD.COMMIT checks the display timing and latches it, or rejects it. -/
  | timingCommit (now : Bool)
  /-- FLIP: A write of VIT_FLIP requests flips of layers at the next L. -/
  | flip (layers : Nat)
  /-- RENDER: A write of VIT_TR_CMD.RENDER starts a trace render. -/
  | render
  /-- RENDER_STOP: A write of VIT_TR_CMD.STOP ends the render with ERR 3. -/
  | renderStop
  /-- RENDER_DONE: The render completes with ERR, LEFT used and HOLE count. -/
  | renderDone
  /-- SCANOUT_LINE: Vitrine composes and sends one line of pixels. -/
  | scanoutLine (y : Nat) (late : List Nat) (fill : Nat)
  /-- DIRTY: A write of VIT_CMD.DIRTY marks the next frame changed. -/
  | dirty
  /-- LOCKSTEP_MISMATCH: The lockstep checker finds a mismatch and restarts Curator. -/
  | lockstepMismatch
  /-- WATCHDOG_EXPIRY: The firmware watchdog is not serviced for 100 ms and Curator restarts. -/
  | watchdogExpiry
  /-- CUR_RAM_PATROL: The Curator RAM patrol corrects a word, or restarts on an uncorrectable one. -/
  | curRamPatrol (resp : ScrResp)
  /-- CUR_WINDOW_ACCESS: A Curator access through the capture window becomes a CUR port line request. -/
  | curWindowAccess (a n : Nat) (wr : Option Nat) (resp : List SecResp) (lat : Nat)
  /-- TEMP_SAMPLE: Each temperature point is sampled every 1 ms and checked against its limits. -/
  | tempSample (i : Nat) (v : Int)
  /-- VOLT_SAMPLE: Each voltage monitor is sampled every 10 µs and checked against LO and HI. -/
  | voltSample (j mv : Nat)
  /-- TAMPER_DETECTION: TAMPER_N low for 1 ms is a tamper detection passed to the security block. -/
  | tamperDetection
  /-- LIFE_HOUR: Each hour Curator updates the life counters. -/
  | lifeHour (t : Int)
  /-- LEDGER_WRITE: Curator takes a queued cause and writes its entries to the Vault, or suppresses it. -/
  | ledgerWrite
  /-- LEDGER_SECOND: At the end of a Ledger second with suppressed entries, Curator writes a SUPPRESS entry. -/
  | ledgerSecond
  /-- LEDGER_READ: A write of CUR_LDG_RD.GO reads one Ledger entry into CUR_LDG_DATA. -/
  | ledgerRead
  /-- INFO: The mailbox operation INFO returns the firmware version, BOOT and slots. -/
  | info (seq : Nat)
  /-- SLOT_INFO: The mailbox operation SLOT_INFO returns a slot's state and versions. -/
  | slotInfo (seq : Nat)
  /-- UPD_BEGIN: The mailbox operation UPD_BEGIN makes a slot WRITING. -/
  | updBegin (seq : Nat)
  /-- UPD_WRITE: The mailbox operation UPD_WRITE copies image bytes from capture memory into a WRITING slot. -/
  | updWrite (seq : Nat)
  /-- UPD_CHECK: The mailbox operation UPD_CHECK checks the slot and makes it CHECKED or BAD. -/
  | updCheck (seq : Nat)
  /-- UPD_COMMIT: The mailbox operation UPD_COMMIT sets BOOT_SLOT, with or without a trial. -/
  | updCommit (seq : Nat)
  /-- UPD_CONFIRM: The mailbox operation UPD_CONFIRM makes a TRIAL slot CONFIRMED. -/
  | updConfirm (seq : Nat)
  /-- BOOT_SELECT: The mailbox operation BOOT_SELECT sets BOOT_SLOT to a CONFIRMED slot or F. -/
  | bootSelect (seq : Nat)
  /-- LDG_NOTE: The mailbox operation LDG_NOTE writes a software Ledger entry. -/
  | ldgNote (seq : Nat)
  /-- TRIAL_EXPIRY: A trial timer expires without confirmation, BOOT_SLOT reverts and a REVERT entry is written. -/
  | trialExpiry
  /-- VAULT_PATROL: The Vault patrol reads a block and rewrites or reports it. -/
  | vaultPatrol (resp : ScrResp) (key : Option Nat)
  /-- POWER_FAULT: A PG low for 50 µs runs the down table and enters OFF as FAILED. -/
  | powerFault (ch : Nat)
  /-- LOAD: A write of CFG_CMD.LOAD runs a full load of BOOT_SLOT. -/
  | load (bad : List (Nat × Nat)) (both : Bool)
  /-- TILE_LOAD: A write of CFG_CMD.TILE_LOAD loads one tile's section or package. -/
  | tileLoad (bad : Bool)
  /-- READBACK_SCAN: Every 100 ms the readback scan compares the structural CRCs. -/
  | readbackScan (bad : Nat)
  /-- PROVISION: SEC_CMD PROVISION loads the root key, fuses its hash and moves to PROVISIONED. -/
  | provision (slot : Nat)
  /-- TRANSITION: SEC_CMD TRANSITION verifies the token, wipes and burns the new life-cycle state. -/
  | transition (slot : Nat) (moved : List Nat)
  /-- KEY_LOAD: SEC_CMD KEY_LOAD checks a key record and loads a public key slot. -/
  | keyLoad (slot : Nat)
  /-- KEY_ERASE: SEC_CMD KEY_ERASE empties a key slot against a token. -/
  | keyErase (slot : Nat)
  /-- SEAL_GEN: SEC_CMD SEAL_GEN generates a sealing private key. -/
  | sealGen (slot : Nat)
  /-- SEAL_USE: SEC_CMD SEAL_USE makes a sealing slot active. -/
  | sealUse (slot : Nat)
  /-- RAISE_MINVER: SEC_CMD RAISE_MINVER raises SEC_MINVER to the image's SEC_VER. -/
  | raiseMinver (slot : Nat)
  /-- DBG_AUTH: SEC_CMD DBG_AUTH opens a debug session against a token. -/
  | dbgAuth (slot : Nat)
  /-- DBG_CLOSE: SEC_CMD DBG_CLOSE ends the debug session. -/
  | dbgClose (slot : Nat)
  /-- DBG_OPEN: SEC_CMD DBG_OPEN sets debug OPEN in MANUFACTURE. -/
  | dbgOpen (slot : Nat)
  /-- TAMPER_ACK: SEC_CMD TAMPER_ACK clears LATCH and SEEN. -/
  | tamperAck (slot : Nat) (low : Bool)
  /-- NONCE: SEC_CMD NONCE draws a new nonce. -/
  | nonce (slot : Nat)
  /-- TOKEN_LOCKOUT_END: The 1 s refusal of token commands after a failed check ends. -/
  | tokenLockoutEnd
  /-- RNG_HEALTH_FAIL: A health test of the noise source fails and RNG_FAIL is set. -/
  | rngHealthFail
  /-- DEBUG_SESSION_EXPIRY: SEC_DBG_REMAIN reaches 0 and the debug session ends. -/
  | debugSessionExpiry
  /-- TAP_RESET: TRST_N or Test-Logic-Reset resets the TAP only. -/
  | tapReset
  /-- BYPASS: The TAP instruction BYPASS. -/
  | bypass
  /-- IDCODE: The TAP instruction IDCODE returns the identity code. -/
  | idcode
  /-- SAMPLE_PRELOAD: The TAP instruction SAMPLE/PRELOAD. -/
  | samplePreload (pins load : List Bool)
  /-- EXTEST: The TAP instruction EXTEST, given scope BSCAN in SERVICE. -/
  | extest (pins load : List Bool)
  /-- CLAMP: The TAP instruction CLAMP, given scope BSCAN in SERVICE. -/
  | clamp
  /-- HIGHZ: The TAP instruction HIGHZ, given scope BSCAN in SERVICE. -/
  | highz
  /-- DAP: The TAP instruction DAP gives access through the access port within the granted scopes. -/
  | dap (op : DapOp)
  /-- DAP_AUTH: The TAP instruction DAP_AUTH gives the chain onto SEC_BUF, SEC_NONCE and SEC_CMD. -/
  | dapAuth (op : AuthOp)
  /-- DATAPATH_PARITY: A parity error at a handshake is counted and the item is discarded. -/
  | datapathParity (n : Nat) (x : Lost)
  /-- HANDSHAKE_WATCHDOG: A request unacknowledged for 1 µs trips the watchdog and resets the stage. -/
  | handshakeWatchdog (n : Nat) (x : Lost)
  /-- STAGE_RESET_RETRY: Once per second a stuck stage is reset again until a second passes without a trip. -/
  | stageResetRetry
  /-- POWER_ON_RESET: The base rails become valid for 2 ms, or dip, and the engine runs start-up. -/
  | powerOnReset (pgFail : Option Nat) (train : List LaneFind) (bad : List (Nat × Nat))
  /-- OFF: PWR_CMD.OFF with KEY 0xA5 stops acquisition, drains, runs the down table and enters OFF. -/
  | off (key : Nat) (moved : List Nat)
  /-- SWRST: PWR_CMD.SWRST with KEY 0xA5 performs a fundamental reset, or is rejected with CMD_REJ. -/
  | swrst (key : Nat) (pgFail : Option Nat) (train : List LaneFind) (bad : List (Nat × Nat))
  /-- TRICKLE_ENTRY: Once its conditions hold, the engine enters TRICKLE within 1 ms. -/
  | trickleEntry
  /-- IDLE_RETURN: The engine returns to IDLE 1 ms after the last calibration or eye scan ends. -/
  | idleReturn
  /-- PERST_N_RELEASE: The deassertion of PERST_N releases a fundamental reset, so start-up runs and link training may begin. -/
  | perstNRelease (pgFail : Option Nat) (train : List LaneFind) (bad : List (Nat × Nat))
  /-- PCIE_LINK_UP: Link training completes and the PCI Express link comes up, so HOST_LINK_STAT is updated and requests can flow. -/
  | pcieLinkUp (speed width : Nat) (flit : Bool)
  /-- CURATOR_RESUME: A Curator restart completes within 50 ms; Curator resumes, writes the queued Ledger causes and answers interrupted mailbox requests. -/
  | curatorResume
  /-- RNG_HEALTH_RESTORED: The noise source passes its health tests again, SEC_RNG_STAT.OK is set and nonce draws and key generation resume. -/
  | rngHealthRestored
  /-- LEVEL_CHANGE: A channel's comparator output changes, so FE_CH_STAT_c.LEVEL follows within 1 µs and ACT is set. -/
  | levelChange (c : Nat) (vd : Int)
  deriving DecidableEq, Repr

end Sys2Proof
end

