-- ==== Sys2Proof/Machine/Crypto.lean ====
section
/-!
DEFINITION. The cryptographic functions the rules name: SHA-384 (R228, R402, R412) and the verification of ECDSA P-384
signatures (R413, R433, R435) over 48-byte big-endian numbers, PRESUMED from FIPS 180-4 and FIPS 186-5, which the spec
names and does not restate.
-/
namespace Sys2Proof
namespace Machine

/-! ### SHA-384 -/

/-- Round constants 0 to 19 of SHA-512. -/
def shaK0 : List Nat :=
  [0x428A2F98D728AE22, 0x7137449123EF65CD, 0xB5C0FBCFEC4D3B2F, 0xE9B5DBA58189DBBC,
   0x3956C25BF348B538, 0x59F111F1B605D019, 0x923F82A4AF194F9B, 0xAB1C5ED5DA6D8118,
   0xD807AA98A3030242, 0x12835B0145706FBE, 0x243185BE4EE4B28C, 0x550C7DC3D5FFB4E2,
   0x72BE5D74F27B896F, 0x80DEB1FE3B1696B1, 0x9BDC06A725C71235, 0xC19BF174CF692694,
   0xE49B69C19EF14AD2, 0xEFBE4786384F25E3, 0x0FC19DC68B8CD5B5, 0x240CA1CC77AC9C65]

/-- Round constants 20 to 39 of SHA-512. -/
def shaK1 : List Nat :=
  [0x2DE92C6F592B0275, 0x4A7484AA6EA6E483, 0x5CB0A9DCBD41FBD4, 0x76F988DA831153B5,
   0x983E5152EE66DFAB, 0xA831C66D2DB43210, 0xB00327C898FB213F, 0xBF597FC7BEEF0EE4,
   0xC6E00BF33DA88FC2, 0xD5A79147930AA725, 0x06CA6351E003826F, 0x142929670A0E6E70,
   0x27B70A8546D22FFC, 0x2E1B21385C26C926, 0x4D2C6DFC5AC42AED, 0x53380D139D95B3DF,
   0x650A73548BAF63DE, 0x766A0ABB3C77B2A8, 0x81C2C92E47EDAEE6, 0x92722C851482353B]

/-- Round constants 40 to 59 of SHA-512. -/
def shaK2 : List Nat :=
  [0xA2BFE8A14CF10364, 0xA81A664BBC423001, 0xC24B8B70D0F89791, 0xC76C51A30654BE30,
   0xD192E819D6EF5218, 0xD69906245565A910, 0xF40E35855771202A, 0x106AA07032BBD1B8,
   0x19A4C116B8D2D0C8, 0x1E376C085141AB53, 0x2748774CDF8EEB99, 0x34B0BCB5E19B48A8,
   0x391C0CB3C5C95A63, 0x4ED8AA4AE3418ACB, 0x5B9CCA4F7763E373, 0x682E6FF3D6B2B8A3,
   0x748F82EE5DEFB2FC, 0x78A5636F43172F60, 0x84C87814A1F0AB72, 0x8CC702081A6439EC]

/-- Round constants 60 to 79 of SHA-512. -/
def shaK3 : List Nat :=
  [0x90BEFFFA23631E28, 0xA4506CEBDE82BDE9, 0xBEF9A3F7B2C67915, 0xC67178F2E372532B,
   0xCA273ECEEA26619C, 0xD186B8C721C0C207, 0xEADA7DD6CDE0EB1E, 0xF57D4F7FEE6ED178,
   0x06F067AA72176FBA, 0x0A637DC5A2C898A6, 0x113F9804BEF90DAE, 0x1B710B35131C471B,
   0x28DB77F523047D84, 0x32CAAB7B40C72493, 0x3C9EBE0A15C9BEBC, 0x431D67C49C100D4C,
   0x4CC5D4BECB3E42B6, 0x597F299CFC657E2A, 0x5FCB6FAB3AD6FAEC, 0x6C44198C4A475817]

/-- The round constants of SHA-512. -/
def shaK : List Nat := shaK0 ++ shaK1 ++ shaK2 ++ shaK3

/-- The initial hash value of SHA-384. -/
def sha384Init : List Nat :=
  [0xCBBB9D5DC1059ED8, 0x629A292A367CD507, 0x9159015A3070DD17, 0x152FECD8F70E5939,
   0x67332667FFC00B31, 0x8EB44A8768581511, 0xDB0C2E0D64F98FA7, 0x47B5481DBEFA4FA4]

/-- Rotate a 64-bit word right. -/
def rotr64 (x n : Nat) : Nat := x / 2 ^ n + x % 2 ^ n * 2 ^ (64 - n)

/-- The message padded to whole blocks of 128 bytes, as big-endian 64-bit words. -/
def shaPad (m : List Byte) : List Byte :=
  m ++ [0x80#8] ++ List.replicate ((239 - m.length % 128) % 128) 0#8 ++ (leBytes 16 (8 * m.length)).reverse

/-- Big-endian 64-bit words of a byte list. -/
def beWords64 : Nat → List Byte → List Nat
  | 0, _ => []
  | n + 1, b => beNat (b.take 8) :: beWords64 n (b.drop 8)

/-- The message schedule: `n` more words after the last sixteen, newest first. -/
def shaSchedule : Nat → List Nat → List Nat
  | 0, w => w
  | n + 1, w =>
    let s0 := let x := w.getD 14 0; rotr64 x 1 ^^^ rotr64 x 8 ^^^ x / 2 ^ 7
    let s1 := let x := w.getD 1 0; rotr64 x 19 ^^^ rotr64 x 61 ^^^ x / 2 ^ 6
    shaSchedule n (((w.getD 15 0 + s0 + w.getD 6 0 + s1) % 2 ^ 64) :: w)

/-- One round over the eight working variables. -/
def shaRound (v : List Nat) (kw : Nat × Nat) : List Nat :=
  match v with
  | [a, b, c, d, e, f, g, h] =>
    let s1 := rotr64 e 14 ^^^ rotr64 e 18 ^^^ rotr64 e 41
    let ch := (e &&& f) ^^^ ((2 ^ 64 - 1 - e) &&& g)
    let t1 := h + s1 + ch + kw.1 + kw.2
    let s0 := rotr64 a 28 ^^^ rotr64 a 34 ^^^ rotr64 a 39
    let mj := (a &&& b) ^^^ (a &&& c) ^^^ (b &&& c)
    [(t1 + s0 + mj) % 2 ^ 64, a, b, c, (d + t1) % 2 ^ 64, e, f, g]
  | _ => v

/-- One block. -/
def shaBlock (h : List Nat) (block : List Byte) : List Nat :=
  let w := (shaSchedule 64 (beWords64 16 block).reverse).reverse
  let v := (shaK.zip w).foldl shaRound h
  (h.zip v).map fun p => (p.1 + p.2) % 2 ^ 64

/-- All blocks of a padded message. -/
def shaBlocks : Nat → List Byte → List Nat → List Nat
  | 0, _, h => h
  | n + 1, m, h => shaBlocks n (m.drop 128) (shaBlock h (m.take 128))

/-- SHA-384 of a byte list, 48 bytes. -/
def sha384 (m : List Byte) : List Byte :=
  let p := shaPad m
  ((shaBlocks (p.length / 128) p sha384Init).take 6).flatMap fun w => (leBytes 8 w).reverse

/-! ### ECDSA P-384 -/

/-- The field prime of P-384. -/
def p384 : Nat := 2 ^ 384 - 2 ^ 128 - 2 ^ 96 + 2 ^ 32 - 1

/-- The order of the group. -/
def n384 : Nat := 0xFFFFFFFFFFFFFFFFFFFFFFFFFFFFFFFFFFFFFFFFFFFFFFFFC7634D81F4372DDF581A0DB248B0A77AECEC196ACCC52973

/-- The curve constant b. -/
def b384 : Nat := 0xB3312FA7E23EE7E4988E056BE3F82D19181D9C6EFE8141120314088F5013875AC656398D8A2ED19D2A85C8EDD3EC2AEF

/-- The base point. -/
def g384 : Nat × Nat :=
  (0xAA87CA22BE8B05378EB1C71EF320AD746E1D3B628BA79B9859F741E082542A385502F25DBF55296C3A545E3872760AB7,
   0x3617DE4A96262C6F5D9E98BF9292DC29F8F41DBD289A147CE9DA3113B5F0B8C00A60B1CE1D7E819D7A431D7C90EA0E5F)

/-- `b ^ e mod m` by squaring, `fuel` bits of exponent. -/
def powMod (m : Nat) : Nat → Nat → Nat → Nat
  | 0, _, _ => 1 % m
  | fuel + 1, b, e =>
    let r := powMod m fuel (b * b % m) (e / 2)
    if e % 2 = 1 then r * b % m else r

/-- The inverse modulo a prime. -/
def invMod (m a : Nat) : Nat := powMod m 384 (a % m) (m - 2)

/-- Subtraction modulo `m`. -/
def subMod (m a b : Nat) : Nat := (a + m - b % m) % m

/-- A point of the curve in Jacobian coordinates: `(x / z², y / z³)`; z = 0 is the point at infinity. -/
structure Jac where
  x : Nat
  y : Nat
  z : Nat
  deriving DecidableEq, Repr

/-- The point at infinity. -/
def jacInf : Jac := ⟨1, 1, 0⟩

/-- A point doubled. -/
def jacDouble (p : Jac) : Jac :=
  let g := p.y * p.y % p384
  let d := p.z * p.z % p384
  let b := p.x * g % p384
  let a := 3 * subMod p384 p.x d * (p.x + d) % p384
  let x := subMod p384 (a * a) (8 * b)
  ⟨x, subMod p384 (a * subMod p384 (4 * b) x) (8 * g * g), 2 * p.y * p.z % p384⟩

/-- The sum of two points. -/
def jacAdd (p q : Jac) : Jac :=
  if p.z = 0 then q
  else if q.z = 0 then p
  else
    let zp := p.z * p.z % p384
    let zq := q.z * q.z % p384
    let u := p.x * zq % p384
    let s := p.y * zq * q.z % p384
    let h := subMod p384 (q.x * zp) u
    let r := subMod p384 (q.y * zp * p.z) s
    if h = 0 then (if r = 0 then jacDouble p else jacInf)
    else
      let hh := h * h % p384
      let x := subMod p384 (r * r) (hh * h + 2 * u * hh)
      ⟨x, subMod p384 (r * subMod p384 (u * hh) x) (s * hh * h), h * p.z * q.z % p384⟩

/-- Scalar multiplication, `fuel` bits. -/
def jacMul : Nat → Nat → Jac → Jac
  | 0, _, _ => jacInf
  | fuel + 1, k, p => if k % 2 = 1 then jacAdd (jacMul fuel (k / 2) (jacDouble p)) p else jacMul fuel (k / 2) (jacDouble p)

/-- Is a pair of coordinates a point of the curve? -/
def onCurve (x y : Nat) : Bool :=
  x < p384 && y < p384 && y * y % p384 == subMod p384 (x * x * x + b384) (3 * x)

/-- The affine coordinates of a point. -/
def jacAffine (p : Jac) : Nat × Nat :=
  let zi := invMod p384 p.z
  (p.x * (zi * zi % p384) % p384, p.y * (zi * zi % p384 * zi % p384) % p384)

/-- `w` bytes, most significant first. -/
def beBytes (w v : Nat) : List Byte := (leBytes w v).reverse

/-- A scalar from 1 to n − 1 out of random bits. -/
def scalarOf (v : Nat) : Nat := 1 + v % (n384 - 1)

/-- The public key `Qx ++ Qy` of a private key. -/
def ecdsaPublic (d : Nat) : List Byte :=
  let q := jacAffine (jacMul 384 d ⟨g384.1, g384.2, 1⟩)
  beBytes 48 q.1 ++ beBytes 48 q.2

/-- The signature `r ++ s` over a 48-byte digest with the private key `d`, `k` being the random scalar. -/
def ecdsaSign (d k : Nat) (digest : List Byte) : List Byte :=
  let r := (jacAffine (jacMul 384 k ⟨g384.1, g384.2, 1⟩)).1 % n384
  beBytes 48 r ++ beBytes 48 (invMod n384 k * (beNat (digest.take 48) + r * d) % n384)

/-- Verify a signature `r ++ s` (96 bytes) over a 48-byte digest with a public key `Qx ++ Qy` (96 bytes). -/
def ecdsaVerify (key digest sig : List Byte) : Bool :=
  let qx := beNat (key.take 48)
  let qy := beNat ((key.drop 48).take 48)
  let r := beNat (sig.take 48)
  let s := beNat ((sig.drop 48).take 48)
  let z := beNat (digest.take 48)
  let w := invMod n384 s
  let q := jacAdd (jacMul 384 (z * w % n384) ⟨g384.1, g384.2, 1⟩) (jacMul 384 (r * w % n384) ⟨qx, qy, 1⟩)
  onCurve qx qy && 0 < r && r < n384 && 0 < s && s < n384 && q.z != 0 &&
    q.x * invMod p384 (q.z * q.z) % p384 % n384 == r

end Machine
end Sys2Proof
end

