-- ==== Sys2Proof/Machine/RegsClk.lean ====
section
/-!
DEFINITION. The register fields of the CLK block, one name per field row of the spec's register tables
(R479 gives the block base, R485 the index). The arguments are the index variables of the owning chapter;
an index beyond the count of its row is reduced into it.
-/
namespace Sys2Proof
open Sys2Proof

namespace Machine

/- CLK_GCTRL, chapter 05 -/
def CLK_GCTRL_LOCK : Fld := fld (0x00300000) 0 1 0
/- CLK_XREF, chapter 05 -/
def CLK_XREF_FREQ_KHZ : Fld := fld (0x00300004) 0 18 0
/- CLK_MON_STAT, chapter 05 -/
def CLK_MON_STAT_XREF_OK : Fld := fld (0x00300008) 0 1 0
def CLK_MON_STAT_DUT_OK : Fld := fld (0x00300008) 1 4 0
def CLK_MON_STAT_LOOP_OK : Fld := fld (0x00300008) 8 8 0
/- CLK_EVT, chapter 05 -/
def CLK_EVT_LOSS : Fld := fld (0x0030000C) 0 8 0
def CLK_EVT_RELOCK : Fld := fld (0x0030000C) 8 8 0
def CLK_EVT_XREF_LOSS : Fld := fld (0x0030000C) 16 1 0
def CLK_EVT_XREF_BACK : Fld := fld (0x0030000C) 17 1 0
def CLK_EVT_DUT_LOSS : Fld := fld (0x0030000C) 18 4 0
def CLK_EVT_CMT_REJ : Fld := fld (0x0030000C) 22 1 0
/- CLK_EVT_EN, chapter 05 -/
def CLK_EVT_EN_EN : Fld := fld (0x00300010) 0 23 8388607
/- CLK_CMD, chapter 05 -/
def CLK_CMD_COMMIT : Fld := fld (0x00300014) 0 8 0
def CLK_CMD_RETURN : Fld := fld (0x00300014) 8 8 0
/- CLK_LD_AN, chapter 05 -/
def CLK_LD_AN_EN : Fld := fld (0x00300018) 0 1 0
def CLK_LD_AN_LOOP : Fld := fld (0x00300018) 1 3 0
def CLK_LD_AN_WIN : Fld := fld (0x00300018) 4 4 3
def CLK_LD_AN_DECL : Fld := fld (0x00300018) 8 1 0
def CLK_LD_AN_VOLT : Fld := fld (0x00300018) 16 8 0
/- CLK_LOOP_n_CFG, chapter 05 -/
def CLK_LOOP_CFG_REFMUL (n : Nat) : Fld := fld (0x00300100 + 0x40 * (n % 8)) 0 2 0
def CLK_LOOP_CFG_RDIV (n : Nat) : Fld := fld (0x00300100 + 0x40 * (n % 8)) 2 5 0
def CLK_LOOP_CFG_NINT (n : Nat) : Fld := fld (0x00300100 + 0x40 * (n % 8)) 8 12 0
def CLK_LOOP_CFG_ODIV (n : Nat) : Fld := fld (0x00300100 + 0x40 * (n % 8)) 20 3 0
def CLK_LOOP_CFG_BYP_DIV (n : Nat) : Fld := fld (0x00300100 + 0x40 * (n % 8)) 24 3 0
def CLK_LOOP_CFG_AUTO_RET (n : Nat) : Fld := fld (0x00300100 + 0x40 * (n % 8)) 27 1 1
/- CLK_LOOP_n_FRAC, chapter 05 -/
def CLK_LOOP_FRAC_NFRAC (n : Nat) : Fld := fld (0x00300104 + 0x40 * (n % 8)) 0 24 0
/- CLK_LOOP_n_CEIL, chapter 05 -/
def CLK_LOOP_CEIL_FREQ_CEIL (n : Nat) : Fld := fld (0x00300108 + 0x40 * (n % 8)) 0 16 0
/- CLK_LOOP_n_LD, chapter 05 -/
def CLK_LOOP_LD_WIN (n : Nat) : Fld := fld (0x0030010C + 0x40 * (n % 8)) 0 4 6
def CLK_LOOP_LD_TOL (n : Nat) : Fld := fld (0x0030010C + 0x40 * (n % 8)) 4 4 1
def CLK_LOOP_LD_CONSEC (n : Nat) : Fld := fld (0x0030010C + 0x40 * (n % 8)) 8 3 3
def CLK_LOOP_LD_LOSS (n : Nat) : Fld := fld (0x0030010C + 0x40 * (n % 8)) 11 2 0
/- CLK_LOOP_n_STAT, chapter 05 -/
def CLK_LOOP_STAT_STATE (n : Nat) : Fld := fld (0x00300110 + 0x40 * (n % 8)) 0 3 0
def CLK_LOOP_STAT_LOCKED (n : Nat) : Fld := fld (0x00300110 + 0x40 * (n % 8)) 3 1 0
def CLK_LOOP_STAT_BYPASS (n : Nat) : Fld := fld (0x00300110 + 0x40 * (n % 8)) 4 1 1
def CLK_LOOP_STAT_CMT_PEND (n : Nat) : Fld := fld (0x00300110 + 0x40 * (n % 8)) 5 1 0
def CLK_LOOP_STAT_LOSS_CNT (n : Nat) : Fld := fld (0x00300110 + 0x40 * (n % 8)) 8 8 0
/- CLK_LOOP_n_ACT, chapter 05 -/
def CLK_LOOP_ACT_FOUT_KHZ (n : Nat) : Fld := fld (0x00300114 + 0x40 * (n % 8)) 0 24 0
/- CLK_LOOP_n_LASTGOOD_LO, chapter 05 -/
def CLK_LOOP_LASTGOOD_LO_TS (n : Nat) : Fld := fld (0x00300118 + 0x40 * (n % 8)) 0 32 0
/- CLK_LOOP_n_LASTGOOD_HI, chapter 05 -/
def CLK_LOOP_LASTGOOD_HI_TS (n : Nat) : Fld := fld (0x0030011C + 0x40 * (n % 8)) 0 32 0
/- CLK_LOOP_n_TREF, chapter 05 -/
def CLK_LOOP_TREF_TPLL_REF_KHZ (n : Nat) : Fld := fld (0x00300120 + 0x40 * (n % 8)) 0 24 0
/- CLK_RAMP_m_CTRL, chapter 05 -/
def CLK_RAMP_CTRL_EN (m : Nat) : Fld := fld (0x00301000 + 0x400 * (m % 4)) 0 1 0
def CLK_RAMP_CTRL_FOLLOW (m : Nat) : Fld := fld (0x00301000 + 0x400 * (m % 4)) 1 1 0
def CLK_RAMP_CTRL_COUNT (m : Nat) : Fld := fld (0x00301000 + 0x400 * (m % 4)) 2 6 0
/- CLK_RAMP_m_STAT, chapter 05 -/
def CLK_RAMP_STAT_ALIGNED (m : Nat) : Fld := fld (0x00301004 + 0x400 * (m % 4)) 0 1 0
def CLK_RAMP_STAT_RESID (m : Nat) : Fld := fld (0x00301004 + 0x400 * (m % 4)) 8 8 0
def CLK_RAMP_STAT_SEG (m : Nat) : Fld := fld (0x00301004 + 0x400 * (m % 4)) 16 6 0
/- CLK_RAMP_m_SEG_s, chapter 05 -/
def CLK_RAMP_SEG_DUR (m : Nat) (s : Nat) : Fld := fld (0x00301100 + 0x400 * (m % 4) + 4 * (s % 64)) 0 16 0
def CLK_RAMP_SEG_END (m : Nat) (s : Nat) : Fld := fld (0x00301100 + 0x400 * (m % 4) + 4 * (s % 64)) 16 16 0
/- CLK_OUT_k_CFG, chapter 05 -/
def CLK_OUT_CFG_EN (k : Nat) : Fld := fld (0x00302000 + 0x20 * (k % 4)) 0 1 0
def CLK_OUT_CFG_FMT (k : Nat) : Fld := fld (0x00302000 + 0x20 * (k % 4)) 1 3 0
def CLK_OUT_CFG_SRC (k : Nat) : Fld := fld (0x00302000 + 0x20 * (k % 4)) 4 3 0
def CLK_OUT_CFG_TSEL (k : Nat) : Fld := fld (0x00302000 + 0x20 * (k % 4)) 7 2 0
def CLK_OUT_CFG_DIV (k : Nat) : Fld := fld (0x00302000 + 0x20 * (k % 4)) 10 11 0
def CLK_OUT_CFG_LEVEL (k : Nat) : Fld := fld (0x00302000 + 0x20 * (k % 4)) 21 3 0
def CLK_OUT_CFG_ONLOSS (k : Nat) : Fld := fld (0x00302000 + 0x20 * (k % 4)) 24 2 0
/- CLK_OUT_k_STAT, chapter 05 -/
def CLK_OUT_STAT_ACTIVE (k : Nat) : Fld := fld (0x00302004 + 0x20 * (k % 4)) 0 1 0
def CLK_OUT_STAT_SRCLOSS (k : Nat) : Fld := fld (0x00302004 + 0x20 * (k % 4)) 1 1 0
def CLK_OUT_STAT_REJ (k : Nat) : Fld := fld (0x00302004 + 0x20 * (k % 4)) 2 1 0
def CLK_OUT_STAT_FOUT_KHZ (k : Nat) : Fld := fld (0x00302004 + 0x20 * (k % 4)) 8 24 0
/-- CLK_LOOP_LASTGOOD_LO and _HI taken together. -/
def CLK_LOOP_LASTGOOD (n : Nat) : Fld2 := ⟨CLK_LOOP_LASTGOOD_LO_TS n, CLK_LOOP_LASTGOOD_HI_TS n⟩

end Machine
end Sys2Proof
end

