-- ==== Sys2Proof/Config.lean ====
section
/-!
DEFINITION. What an implementation fixes and the free values: constants without a body, so that no proof can see them.
-/
namespace Sys2Proof
namespace Config

/-- A free value of `w` bits, the `k`-th that the engine draws or leaves open: keys, nonces, random numbers, the
measured quantities the spec does not state. Nothing is known of it. -/
opaque freeBits (w : Nat) : Nat → BitVec w

/-- The version number that Curator firmware reports of itself (R398), by the check word of its section; zero stands for
the boot ROM. The spec gives no place in the image for it. -/
opaque firmwareVersion : Nat → BitVec 32

end Config
end Sys2Proof
end

