-- ==== Sys2Proof/Machine/Codec.lean ====
section
/-!
DEFINITION. The check codes (CRC-32C of R241, CRC-16 of the Aqurn link) and the compressed container of chapter 10: the
canonical item stream (R231), the bit sequence and tables (R234 to R236), channel sections and predictors (R237, R238),
bitmap and stored bodies (R239, R240), the choices the engine makes (R244) and the decoder's results (R242).
-/
namespace Sys2Proof
namespace Machine

/-! ### Check codes -/

/-- One bit step of a reflected CRC with polynomial `poly`. -/
def crcBit (poly c : Nat) : Nat := if c % 2 = 1 then c / 2 ^^^ poly else c / 2

/-- Eight bit steps. -/
def crcByte (poly c : Nat) (b : Byte) : Nat :=
  (List.range 8).foldl (fun a _ => crcBit poly a) (c ^^^ b.toNat)

/-- CRC-32C (R241): reflected polynomial 0x82F63B78, initial value and final complement all ones. -/
def crc32c (bs : List Byte) : Nat := bs.foldl (crcByte 0x82F63B78) 0xFFFFFFFF ^^^ 0xFFFFFFFF

/-- One bit step of a CRC-16 shifted out at the top. -/
def crc16Bit (poly c : Nat) : Nat := if natBit c 15 then (c * 2) % 65536 ^^^ poly else (c * 2) % 65536

/-- CRC-16 with a polynomial and an initial value, most significant bit first. -/
def crc16 (poly init : Nat) (bs : List Byte) : Nat :=
  bs.foldl (fun c b => (List.range 8).foldl (fun a _ => crc16Bit poly a) (c ^^^ b.toNat * 256)) init

/-! ### Items and units -/

/-- An item of R213: `level` tells LEVEL from EDGE, `t` is its tick, `ch` its absolute channel. -/
structure Item where
  t : Nat
  ch : Nat
  val : Bool
  level : Bool
  deriving DecidableEq, Repr

/-- The units of one item whose gap is `gap` (R213, R214): a gap of 65,536 ticks or more takes a LONGGAP item first. -/
def itemUnits (gap : Nat) (i : Item) : List Nat :=
  let body (d : Nat) : Nat := d + i.ch * 2 ^ 16 + (if i.level then 2 else 0) * 2 ^ 24 + (if i.val then 4 else 0) * 2 ^ 24
  if gap < 65536 then [body gap]
  else
    [gap % 2 ^ 16 + (gap / 2 ^ 16 % 2 ^ 8) * 2 ^ 16 + 1 * 2 ^ 24, gap / 2 ^ 24 % 2 ^ 24, body 0]

/-- The canonical item stream from a previous time. -/
def itemStream (prev : Nat) : List Item → List Nat
  | [] => []
  | i :: is => itemUnits (ticksFrom prev i.t) i ++ itemStream i.t is

/-- The bytes of a list of units (R6). -/
def unitBytes (us : List Nat) : List Byte := us.flatMap (leBytes 4)

/-- Group bytes into units, dropping an incomplete last one. -/
def bytesUnits : List Byte → List Nat
  | a :: b :: c :: d :: r => leNat [a, b, c, d] :: bytesUnits r
  | _ => []

/-- Read items back from units (R214); `none` where the bits break R213. -/
def parseItems : Nat → List Nat → Option (List Item)
  | _, [] => some []
  | t, u :: us =>
    if bitsOf u 24 2 = 1 then
      match us with
      | [] => none
      | v :: r =>
        if u / 2 ^ 26 ≠ 0 ∨ 2 ^ 24 ≤ v then none
        else
          match r with
          | [] => none
          | w :: r2 =>
            if bitsOf w 24 2 = 1 ∨ bitsOf w 24 2 = 3 ∨ w / 2 ^ 27 ≠ 0 ∨ w % 2 ^ 16 ≠ 0 then none
            else
              let t2 := (t + u % 2 ^ 24 + v * 2 ^ 24) % 2 ^ 64
              (parseItems t2 r2).map fun l => ⟨t2, bitsOf w 16 8, natBit w 26, bitsOf w 24 2 == 2⟩ :: l
    else if bitsOf u 24 2 = 3 ∨ u / 2 ^ 27 ≠ 0 then none
    else (parseItems ((t + u % 2 ^ 16) % 2 ^ 64) us).map fun l => ⟨(t + u % 2 ^ 16) % 2 ^ 64, bitsOf u 16 8, natBit u 26, bitsOf u 24 2 == 2⟩ :: l

/-! ### Bits, values and tables (R234 to R236) -/

/-- The class symbol of a value. -/
def classOf (v : Nat) : Nat := if v = 0 then 0 else Nat.log2 v + 1

/-- The unsigned carrier of a signed residue. -/
def zigzag (r : Int) : Nat := if 0 ≤ r then (2 * r).toNat else (-2 * r - 1).toNat

/-- The residue a carrier stands for. -/
def unzigzag (u : Nat) : Int := if u % 2 = 1 then -(((u + 1) / 2 : Nat) : Int) else ((u / 2 : Nat) : Int)

/-- `n` bits of `v`, least significant first. -/
def rawBits (n v : Nat) : List Bool := (List.range n).map fun i => natBit v i

/-- `n` bits of `v`, most significant first. -/
def codeBits (n v : Nat) : List Bool := (rawBits n v).reverse

/-- The number of symbols of length `l`. -/
def lenCount (lens : List Nat) (l : Nat) : Nat := if l = 0 then 0 else lens.count l

/-- The first canonical code of length `l`. -/
def firstCode (lens : List Nat) : Nat → Nat
  | 0 => 0
  | l + 1 => (firstCode lens l + lenCount lens l) * 2

/-- The canonical code of symbol `s` (R235). -/
def symCode (lens : List Nat) (s : Nat) : Nat :=
  firstCode lens (lens.getD s 0) + (lens.take s).count (lens.getD s 0)

/-- Is a table valid (R235)? -/
def tableValid (lens : List Nat) : Bool :=
  lens.any (· != 0) && decide ((lens.map fun l => if l = 0 then 0 else 2 ^ (15 - l)).sum ≤ 2 ^ 15)

/-- The built-in tables of METHOD 1 (R235). -/
def staticTable : Nat → List Nat
  | 0 => (List.range 49).map fun s => if s = 0 then 1 else if s = 1 then 2 else if s = 2 then 4 else 8
  | 1 => (List.range 49).map fun s => if s ≤ 1 then 2 else if s ≤ 3 then 3 else 8
  | 2 => (List.range 49).map fun s => if 8 ≤ s ∧ s ≤ 37 then 5 else 9
  | _ => List.replicate 49 6

/-- The bits of a value: its class code, then its extra bits. -/
def valueBits (lens : List Nat) (v : Nat) : List Bool :=
  codeBits (lens.getD (classOf v) 0) (symCode lens (classOf v)) ++ rawBits (classOf v - 1) (v - 2 ^ (classOf v - 1))

/-- The number of bits of a value. -/
def valueLen (lens : List Nat) (v : Nat) : Nat := lens.getD (classOf v) 0 + (classOf v - 1)

/-- A node of the Huffman construction: weight, key, leaves. -/
structure HuffNode where
  weight : Nat
  key : Nat
  leaves : List Nat
  deriving DecidableEq, Repr

/-- Is node `a` removed before node `b`? -/
def huffBefore (a b : HuffNode) : Bool := a.weight < b.weight || (a.weight == b.weight && a.key < b.key)

/-- Take out the smallest node. -/
def huffMin : List HuffNode → Option (HuffNode × List HuffNode)
  | [] => none
  | n :: ns =>
    match huffMin ns with
    | none => some (n, [])
    | some (m, r) => if huffBefore n m then some (n, m :: r) else some (m, n :: r)

/-- Add one to the length of every listed leaf. -/
def bumpLens (lens leaves : List Nat) : List Nat :=
  (List.range lens.length).map fun s => lens.getD s 0 + leaves.count s

/-- Merge nodes until one is left, collecting depths. -/
def huffLoop : Nat → Nat → List HuffNode → List Nat → List Nat
  | 0, _, _, lens => lens
  | fuel + 1, m, nodes, lens =>
    match huffMin nodes with
    | none => lens
    | some (a, r) =>
      match huffMin r with
      | none => lens
      | some (b, r2) =>
        huffLoop fuel (m + 1) (⟨a.weight + b.weight, 49 + m, a.leaves ++ b.leaves⟩ :: r2) (bumpLens lens (a.leaves ++ b.leaves))

/-- The symbol whose code the limit step lengthens: the largest length below 15, then the smallest weight, then the
highest symbol. -/
def limitPick (w lens : List Nat) : Nat :=
  (List.range 49).foldl (fun best s =>
    if 15 ≤ lens.getD s 0 then best
    else if 15 ≤ lens.getD best 0 then s
    else if lens.getD best 0 < lens.getD s 0 then s
    else if lens.getD best 0 = lens.getD s 0 ∧ w.getD s 0 ≤ w.getD best 0 then s
    else best) 0

/-- Lengthen codes until the table is valid. -/
def limitLoop (w : List Nat) : Nat → List Nat → List Nat
  | 0, lens => lens
  | fuel + 1, lens =>
    if 2 ^ 15 < (lens.map fun l => 2 ^ (15 - l)).sum then
      limitLoop w fuel (lens.set (limitPick w lens) (lens.getD (limitPick w lens) 0 + 1))
    else lens

/-- The DYNAMIC table derived from symbol counts (R236). -/
def dynamicTable (counts : List Nat) : List Nat :=
  let w := (List.range 49).map fun s => counts.getD s 0 + 1
  let nodes := (List.range 49).map fun s => HuffNode.mk (w.getD s 0) s [s]
  limitLoop w 1000 ((huffLoop 48 0 nodes (List.replicate 49 0)).map fun l => min l 15)

/-! ### Channel sections (R237, R238) -/

/-- The first instant of the reference channel after `k`. -/
def refAfter (ref : Option (List Nat)) (k : Int) : Option Nat :=
  match ref with
  | none => none
  | some l => l.find? fun (x : Nat) => k < (x : Int)

/-- The prediction for interval `i` (from 1) after instant `k`, the last two intervals being `d1` and `d2`. -/
def predict (pmode i : Nat) (ref : Option (List Nat)) (k d1 d2 : Int) : Int :=
  match pmode with
  | 0 => 0
  | 1 => d1
  | 2 => if 3 ≤ i then d2 else d1
  | _ => match refAfter ref k with
    | some kr => (kr : Int) - k
    | none => d1

/-- The carriers of a channel's residues. -/
def residues (pmode : Nat) (ref : Option (List Nat)) : Nat → Int → Int → Int → List Nat → List Nat
  | _, _, _, _, [] => []
  | i, k, d1, d2, x :: xs =>
    zigzag ((x : Int) - k - predict pmode i ref k d1 d2) ::
      residues pmode ref (i + 1) x ((x : Int) - k) d1 xs

/-- The values a section codes: the count, then the residues. -/
def sectionValues (pmode : Nat) (ref : Option (List Nat)) (ks : List Nat) : List Nat :=
  ks.length :: residues pmode ref 1 (-1) 0 0 ks

/-- The length of a section in bits. -/
def sectionLen (lens : List Nat) (pmode : Nat) (ref : Option (List Nat)) (ks : List Nat) : Nat :=
  2 + ((sectionValues pmode ref ks).map (valueLen lens)).sum

/-- The PMODE with the fewest bits, the lower on a tie; PMODE 3 only when permitted (R244). -/
def bestPmode (lens : List Nat) (nbr : Bool) (ref : Option (List Nat)) (ks : List Nat) : Nat :=
  (List.range (if nbr then 4 else 3)).foldl
    (fun best p => if sectionLen lens p ref ks < sectionLen lens best ref ks then p else best) 0

/-- The channels of a mask, lowest first. -/
def maskChannels (mask : Nat) : List Nat := indicesWhere 32 (natBit mask)

/-- The reference channel of `c` (R237); a container's GRPSTART is zero for absent channels (R233). -/
def refChannel (mask grp c : Nat) : Option Nat :=
  match ((List.range c).reverse.find? fun x => natBit mask x) with
  | none => none
  | some r => if ((List.range 32).any fun x => r < x && x ≤ c && natBit mask x && natBit grp x) then none else some r

/-- A coded body: its bits and the counts of its class symbols. -/
structure Coded where
  bits : List Bool
  counts : List Nat
  deriving DecidableEq, Repr

/-- Code the sections of every channel of a mask with a table (R237, R244); `inst c` lists a channel's instants. -/
def codeSections (lens : List Nat) (nbr : Bool) (mask grp : Nat) (inst : Nat → List Nat) : Coded :=
  (maskChannels mask).foldl (fun acc c =>
    let ref := (refChannel mask grp c).map inst
    let p := bestPmode lens nbr ref (inst c)
    let vs := sectionValues p ref (inst c)
    { bits := acc.bits ++ rawBits 2 p ++ vs.flatMap (valueBits lens),
      counts := vs.foldl (fun a v => a.set (classOf v) (a.getD (classOf v) 0 + 1)) acc.counts })
    ⟨[], List.replicate 49 0⟩

/-- Pack bits into bytes, bit 0 of byte 0 first, zero padded (R234). -/
def packBits : Nat → List Bool → List Byte
  | 0, _ => []
  | n + 1, bs =>
    BitVec.ofNat 8 (maskOf 8 fun i => (bs.getD i false)) :: packBits n (bs.drop 8)

/-- All the bits as bytes. -/
def bitsBytes (bs : List Bool) : List Byte := packBits ((bs.length + 7) / 8) bs

/-- The bits of bytes. -/
def bytesBits (b : List Byte) : List Bool := b.flatMap fun x => rawBits 8 x.toNat

/-! ### The container (R233, R244) -/

/-- What a container covers. -/
structure Span where
  base : Nat
  /-- ticks covered -/
  len : Nat
  pitch : Nat
  mask : Nat
  init : Nat
  grp : Nat
  levels : Bool
  tile : Nat
  deriving DecidableEq, Repr

/-- The time of the `k`-th instant of a span (R225: times wrap). -/
def itemTime (s : Span) (k : Nat) : Nat := (s.base + k * s.pitch) % 2 ^ 64

/-- The LEVEL items at BASE. -/
def levelItems (s : Span) : List Item :=
  if s.levels then (maskChannels s.mask).map fun c => ⟨s.base, 32 * s.tile + c, natBit s.init c, true⟩ else []

/-- The canonical item stream of a span with its EDGE items in order (R231). -/
def canonical (s : Span) (edges : List Item) : List Nat := itemStream s.base (levelItems s ++ edges)

/-- The transition instants of tile channel `c`, counted in PITCH units from BASE. -/
def instantsOf (s : Span) (edges : List Item) (c : Nat) : List Nat :=
  (edges.filter fun i => i.ch == 32 * s.tile + c).map fun i => ticksFrom s.base i.t / s.pitch

/-- The bits of a BITMAP body (R239). -/
def bitmapBits (s : Span) (edges : List Item) : List Bool :=
  let chs := maskChannels s.mask
  ((List.range (s.len / s.pitch)).foldl (fun (acc : List Bool × Nat) k =>
    let v := chs.foldl (fun v c =>
      if edges.any (fun i => i.ch == 32 * s.tile + c && i.t == itemTime s k) then putNatBit v c (!natBit v c) else v) acc.2
    (acc.1 ++ chs.map (natBit v), v)) ([], s.init)).1

/-- Header, body and check value. -/
def containerBytes (s : Span) (method cls ulen : Nat) (table : List Nat) (body : List Byte) (units : List Nat) : List Byte :=
  let clen := 64 + body.length + 4
  leBytes 1 1 ++ leBytes 1 (method + cls * 4 + (if s.levels then 16 else 0)) ++ leBytes 2 s.pitch ++ leBytes 8 s.base ++
  leBytes 6 s.len ++ leBytes 2 ulen ++ leBytes 4 s.mask ++ leBytes 4 (s.init &&& s.mask) ++ leBytes 4 (s.grp &&& s.mask) ++
  leBytes 4 clen ++ leBytes 25 (table.foldr (fun l a => l + 16 * a) 0) ++ leBytes 1 s.tile ++ leBytes 2 0 ++
  body ++ leBytes 4 (crc32c (unitBytes units))

/-- What an encoder made: the container and the symbol counts of the coded body. -/
structure Encoded where
  bytes : List Byte
  counts : List Nat
  deriving DecidableEq, Repr

/-- The shortest of the four static classes, the lower on a tie (R244). -/
def bestClass (nbr : Bool) (s : Span) (inst : Nat → List Nat) : Nat :=
  (List.range 4).foldl (fun best c =>
    if (codeSections (staticTable c) nbr s.mask s.grp inst).bits.length <
       (codeSections (staticTable best) nbr s.mask s.grp inst).bits.length then c else best) 0

/-- Code a span as the engine does (R244): `tbl` and `cls` are the region's settings, `prev` the symbol counts of the
previous container of the stream, if there is one. `storedOk`: a job writes STORED when the coded form is larger than
the item stream (R249). -/
def encodeSpan (tbl cls : Nat) (nbr storedOk : Bool) (prev : Option (List Nat)) (s : Span) (edges : List Item) : Encoded :=
  let units := canonical s edges
  let inst := instantsOf s edges
  let c := if tbl = 1 then bestClass nbr s inst else cls
  let dyn := tbl = 2 ∧ prev.isSome
  let table := if tbl = 2 then (match prev with | some p => dynamicTable p | none => staticTable cls) else staticTable c
  let coded := codeSections table nbr s.mask s.grp inst
  let nBitmap := s.len / s.pitch * popCount 32 s.mask
  let bodyBits := if nBitmap ≤ coded.bits.length then bitmapBits s edges else coded.bits
  let method := if nBitmap ≤ coded.bits.length then 3 else if dyn then 2 else 1
  if storedOk ∧ units.length * 4 < (bodyBits.length + 7) / 8 then
    ⟨containerBytes s 0 0 units.length (List.replicate 49 0) (unitBytes units) units, coded.counts⟩
  else
    ⟨containerBytes s method (if method = 1 then c else 0) units.length
       (if method = 2 then table else List.replicate 49 0) (bitsBytes bodyBits) units, coded.counts⟩

/-- The item stream written uncompressed (METHOD 0), as a job does after a verification mismatch (R249). -/
def encodeStored (s : Span) (edges : List Item) : List Byte :=
  containerBytes s 0 0 (canonical s edges).length (List.replicate 49 0) (unitBytes (canonical s edges)) (canonical s edges)

/-! ### The decoder (R238 to R243) -/

/-- The header fields of a container. -/
structure Header where
  method : Nat
  cls : Nat
  span : Span
  ulen : Nat
  clen : Nat
  table : List Nat
  deriving DecidableEq, Repr

/-- `n` bytes from offset `o` of a list as a number. -/
def bytesAt (b : List Byte) (o n : Nat) : Nat := leNat ((b.drop o).take n)

/-- Read the header; `none` where a HEADER check of R242 fails. -/
def readHeader (b : List Byte) : Option Header :=
  let fmt := bytesAt b 1 1
  let tbl := (List.range 49).map fun s => bitsOf (bytesAt b (36 + s / 2) 1) (4 * (s % 2)) 4
  let method := fmt % 4
  let cls := fmt / 4 % 4
  let pitch := bytesAt b 2 2
  let len := bytesAt b 12 6
  let ulen := bytesAt b 18 2
  let mask := bytesAt b 20 4
  let clen := bytesAt b 32 4
  if b.length < 64 ∨ bytesAt b 0 1 ≠ 1 ∨ 32 ≤ fmt ∨ (cls ≠ 0 ∧ method ≠ 1) ∨ pitch = 0 ∨ len % pitch ≠ 0 ∨ 16384 < ulen ∨
     natAndNot (bytesAt b 24 4) mask ≠ 0 ∨ natAndNot (bytesAt b 28 4) mask ≠ 0 ∨ clen < 68 ∨ b.length < clen ∨
     16 ≤ bytesAt b 60 1 ∨ 8 ≤ bytesAt b 61 1 ∨ bytesAt b 62 2 ≠ 0 ∨ (method ≠ 2 ∧ tbl.any (· != 0)) then none
  else some ⟨method, cls, ⟨bytesAt b 4 8, len, pitch, mask, bytesAt b 24 4, bytesAt b 28 4, natBit fmt 4, bytesAt b 61 1⟩,
    ulen, clen, tbl⟩

/-- Read one class symbol bit by bit. -/
def readSym (lens : List Nat) : Nat → Nat → Nat → List Bool → Option (Nat × List Bool)
  | 0, _, _, _ => none
  | _, _, _, [] => none
  | fuel + 1, l, code, b :: bs =>
    let code2 := code * 2 + (if b then 1 else 0)
    match (List.range 49).find? fun s => lens.getD s 0 == l + 1 && symCode lens s == code2 with
    | some s => some (s, bs)
    | none => readSym lens fuel (l + 1) code2 bs

/-- The number that raw bits spell. -/
def rawNat (bs : List Bool) : Nat := maskOf bs.length fun i => bs.getD i false

/-- Read a value. -/
def readValue (lens : List Nat) (bs : List Bool) : Option (Nat × List Bool) :=
  match readSym lens 15 0 0 bs with
  | none => none
  | some (s, r) =>
    if s = 0 then some (0, r)
    else if r.length < s - 1 then none
    else some (2 ^ (s - 1) + rawNat (r.take (s - 1)), r.drop (s - 1))

/-- Read the instants of a section after its count (R238). -/
def readInstants (lens : List Nat) (pmode : Nat) (ref : Option (List Nat)) :
    Nat → Nat → Int → Int → Int → List Bool → Option (List Nat × List Bool)
  | 0, _, _, _, _, bs => some ([], bs)
  | n + 1, i, k, d1, d2, bs =>
    match readValue lens bs with
    | none => none
    | some (u, r) =>
      let d := predict pmode i ref k d1 d2 + unzigzag u
      if d < 1 then none
      else
        match readInstants lens pmode ref n (i + 1) (k + d) d d1 r with
        | none => none
        | some (l, r2) => some ((k + d).toNat :: l, r2)

/-- Read every section; the instants of the channels read so far stay at hand as references. -/
def readSections (lens : List Nat) (s : Span) : List Nat → List (Nat × List Nat) → List Bool → Option (List (Nat × List Nat) × List Bool)
  | [], acc, bs => some (acc, bs)
  | c :: cs, acc, bs =>
    if bs.length < 2 then none
    else
      match readValue lens (bs.drop 2) with
      | none => none
      | some (n, r) =>
        let ref := (refChannel s.mask s.grp c).bind fun x => (acc.find? (·.1 == x)).map (·.2)
        match readInstants lens (rawNat (bs.take 2)) ref n 1 (-1) 0 0 r with
        | none => none
        | some (l, r2) => readSections lens s cs (acc ++ [(c, l)]) r2

/-- Merge two lists of items ordered by time, then channel. -/
def mergeItems : Nat → List Item → List Item → List Item
  | 0, _, _ => []
  | _, [], b => b
  | _, a, [] => a
  | fuel + 1, x :: a, y :: b =>
    if tsBefore x.t y.t ∨ (x.t = y.t ∧ x.ch < y.ch) then x :: mergeItems fuel a (y :: b)
    else y :: mergeItems fuel (x :: a) b

/-- The EDGE items of a channel from its instants. -/
def channelItems (s : Span) (c : Nat) : Bool → List Nat → List Item
  | _, [] => []
  | v, k :: ks => ⟨itemTime s k, 32 * s.tile + c, !v, false⟩ :: channelItems s c (!v) ks

/-- All EDGE items in canonical order. -/
def mergeChannels (s : Span) (l : List (Nat × List Nat)) : List Item :=
  l.foldl (fun acc p =>
    let items := channelItems s p.1 (natBit s.init p.1) p.2
    mergeItems (acc.length + items.length + 1) acc items) []

/-- The EDGE items of a BITMAP body; `none` where LEVELS demands a first row equal to INIT and it is not. -/
def bitmapItems (s : Span) (bits : List Bool) : Option (List Item) :=
  let chs := maskChannels s.mask
  let w := chs.length
  let rows := s.len / s.pitch
  if bits.length < rows * w then none
  else
    let row (k : Nat) (c : Nat) : Bool := bits.getD (k * w + chs.idxOf c) false
    let prev (k : Nat) (c : Nat) : Bool := if k = 0 then natBit s.init c else row (k - 1) c
    if s.levels ∧ 0 < rows ∧ (chs.any fun c => row 0 c != natBit s.init c) then none
    else some ((List.range rows).flatMap fun k =>
      (chs.filter fun c => row k c != prev k c).map fun c => ⟨itemTime s k, 32 * s.tile + c, row k c, false⟩)

/-- Does an item list obey R231 for a span: LEVEL items exactly at BASE where LEVELS says so, then EDGE items in order,
inside the span, on instants of PITCH? -/
def itemsObey (s : Span) (is : List Item) : Bool :=
  let lv := is.takeWhile (·.level)
  let ed := is.dropWhile (·.level)
  (lv.map fun i => (i.t, i.ch)) == ((levelItems s).map fun i => (i.t, i.ch)) &&
  ed.all (fun i => !i.level && ticksFrom s.base i.t < s.len && ticksFrom s.base i.t % s.pitch == 0 &&
    i.ch / 32 == s.tile && natBit s.mask (i.ch % 32)) &&
  (ed.zip (ed.drop 1)).all (fun p => tsBefore p.1.t p.2.t || (p.1.t == p.2.t && p.1.ch < p.2.ch))

/-- The result of a decoding (R242): WHY, and the regenerated units when it is 0. -/
structure Decoded where
  why : Nat
  hdr : Option Header
  units : List Nat
  items : List Item
  deriving DecidableEq, Repr

/-- Finish a decoding: the LENGTH and CRC checks. -/
def finishDecode (h : Header) (b : List Byte) (items : List Item) : Decoded :=
  let units := itemStream h.span.base items
  if units.length ≠ h.ulen then ⟨4, some h, [], []⟩
  else if crc32c (unitBytes units) ≠ bytesAt b (h.clen - 4) 4 then ⟨5, some h, [], []⟩
  else ⟨0, some h, units, items⟩

/-- Decode a container from the bytes that begin with it (R238 to R242). -/
def decodeContainer (b : List Byte) : Decoded :=
  match readHeader b with
  | none => ⟨1, none, [], []⟩
  | some h =>
    let s := h.span
    let body := (b.drop 64).take (h.clen - 68)
    if h.method = 2 ∧ !tableValid h.table then ⟨2, some h, [], []⟩
    else if h.method = 0 then
      match parseItems s.base (bytesUnits body) with
      | none => ⟨3, some h, [], []⟩
      | some is =>
        if itemsObey s is ∧ unitBytes (itemStream s.base is) = body then finishDecode h b is else ⟨3, some h, [], []⟩
    else if h.method = 3 then
      match bitmapItems s (bytesBits body) with
      | none => ⟨3, some h, [], []⟩
      | some ed =>
        if body.length = (s.len / s.pitch * popCount 32 s.mask + 7) / 8 then finishDecode h b (levelItems s ++ ed)
        else ⟨3, some h, [], []⟩
    else
      let lens := if h.method = 2 then h.table else staticTable h.cls
      match readSections lens s (maskChannels s.mask) [] (bytesBits body) with
      | none => ⟨3, some h, [], []⟩
      | some (l, rest) =>
        if 8 ≤ rest.length ∨ (l.any fun p => p.2.any fun k => s.len / s.pitch ≤ k || (s.levels && k == 0)) then ⟨3, some h, [], []⟩
        else finishDecode h b (levelItems s ++ mergeChannels s l)

end Machine
end Sys2Proof
end

