-- ==== Sys2Proof/Machine/State.lean ====
section
/-!
DEFINITION. The state of the block as plain data: the register file, the active values behind shadow and held fields,
the memories, the event FIFO, and for each block what its rules say it holds besides its registers; the reasons a
command can stop; the state after reset.
-/
namespace Sys2Proof
namespace Machine

/-- The register file: pairs (key of a field, value), keys strictly rising, no pair equal to the field's reset value. -/
abbrev RegFile := List (Nat × Nat)

/-- A memory: pairs (byte address, byte), addresses strictly rising, no listed byte zero. -/
abbrev Mem := List Host.Cell

/-- A set of indices (sectors, words, blocks), strictly rising. -/
abbrev IdxSet := List Nat

/-- A write that a command makes to one of the memories. -/
inductive MemOp where
  /-- bytes of capture memory from a byte address -/
  | cap (addr : Nat) (bytes : List Byte)
  /-- a 32-byte sector of capture memory becomes poisoned or clean (R261) -/
  | capPoison (sector : Nat) (on : Bool)
  /-- bytes of scratch -/
  | scr (addr : Nat) (bytes : List Byte)
  /-- a scratch word becomes poisoned or clean (R313) -/
  | scrPoison (word : Nat) (on : Bool)
  /-- bytes of the Vault -/
  | vlt (addr : Nat) (bytes : List Byte)
  /-- a 64-byte Vault block becomes uncorrectable or readable (R401) -/
  | vltBad (block : Nat) (on : Bool)
  /-- bytes of Curator RAM -/
  | ram (addr : Nat) (bytes : List Byte)
  /-- Curator RAM is cleared (R384) -/
  | ramClear
  /-- a range of capture memory is cleared -/
  | capClear (addr len : Nat)
  /-- a range of scratch is cleared -/
  | scrClear (addr len : Nat)
  /-- a range of the Vault is cleared -/
  | vltClear (addr len : Nat)
  deriving DecidableEq, Repr

/-- The memories of the device: capture memory (2^37 bytes), scratch (32 MiB), the Vault (64 MiB) and Curator RAM
(2 MiB), with the sets of poisoned sectors, poisoned scratch words and uncorrectable Vault blocks. -/
structure Mems where
  cap : Mem := []
  capPois : IdxSet := []
  scr : Mem := []
  scrPois : IdxSet := []
  vlt : Mem := []
  vltBad : IdxSet := []
  ram : Mem := []
  deriving DecidableEq, Repr

/-- What the engine has sent out of its host and debug ports, oldest first. -/
inductive OutMsg where
  /-- an AUX transaction of the display link: OP, MOT, address, length, bytes to write (R361) -/
  | aux (op : Nat) (mot : Bool) (addr len : Nat) (bytes : List Byte)
  /-- a line of pixels sent to the panel: row, pixels as 0xRRGGBB (R365) -/
  | pixels (y : Nat) (px : List Nat)
  /-- the start of a frame: the self-refresh state of its VSC SDP (R378), Mvid and Nvid of its main stream attributes (R363) -/
  | frame (active : Bool) (mvid nvid : Nat)
  /-- an MSI-X message of a vector -/
  | msix (v : Nat)
  /-- an MSI message -/
  | msi (n : Nat)
  /-- a PM_PME message (R333) -/
  | pme
  /-- a memory write of the engine: host address, bytes, EP -/
  | mwr (addr : Nat) (bytes : List Byte) (ep : Bool)
  /-- a memory read of the engine: tag, host address, length -/
  | mrd (tag addr len : Nat)
  /-- a Translation Request: tag, page (R346) -/
  | xlat (tag page : Nat)
  /-- an Invalidation Completion (R347) -/
  | invCpl (itag : Nat)
  /-- a completion of a memory request of the host: status (0 success, 1 Unsupported Request), bytes, EP -/
  | cpl (status : Nat) (bytes : List Byte) (ep : Bool)
  /-- a completion of a configuration request: status (0 success, 2 Request Retry Status), data -/
  | cfg (status data : Nat)
  /-- a frame sent on an Aqurn lane, downstream or upstream (R145) -/
  | aql (down : Bool) (frame : List Byte)
  /-- data returned for a scratch read: requester, offset, bytes, whether it carries poison (R312, R313) -/
  | scr (who addr : Nat) (bytes : List Byte) (pois : Bool)
  /-- a line delivered to a fabric port: its bytes and the poisoned data sectors (R261) -/
  | line (port line : Nat) (bytes : List Byte) (pois : Nat)
  /-- `n` bits shifted out of a data register of the TAP, the first bit lowest (R443) -/
  | tdo (n v : Nat)
  deriving DecidableEq, Repr

/-- A Ledger cause waiting in the hardware queue of R394. -/
structure Cause where
  cause : Nat
  sev : Nat
  data : List Byte
  ts : Nat
  egen : Nat
  deriving DecidableEq, Repr

/-- What a reader of an elastic buffer meets: a sample word, a drop descriptor (R21) with the number
of words, or an unlock descriptor (R117). -/
inductive EbItem where
  | word (w : SampleWord)
  | drop (first last n : Nat)
  /-- an unlock descriptor of R117: first and last tick, SUSPECT_FROM, loop -/
  | unlock (first last suspect loop : Nat)
  deriving DecidableEq, Repr

/-- An elastic buffer of R19: the items not yet freed, how many of them each reader has read, the open drop interval
(first tick, last tick, words; with no word: the buffer has yet to drain to 3,072), the items the trigger fabric is working
on. -/
structure ElaTile where
  items : List EbItem := []
  tRead : Nat := 0
  aRead : Nat := 0
  dropping : Option (Nat × Nat × Nat) := none
  view : List EbItem := []
  /-- tick after the last word Accession has taken in -/
  aPos : Nat := 0
  /-- tick after the last word the tile has written in this run -/
  wPos : Nat := 0
  /-- the tile has written a word since it last began or came back: the next word follows at `wPos` -/
  inSeq : Bool := false
  /-- no word begins before this tick: the tile has begun or rejoined, or a loop of it has come back (R51, R119) -/
  resume : Nat := 0
  /-- the tile has been told to stop: it writes no word from this boundary on (U of R51, R99) -/
  upTo : Option Nat := none
  /-- an open unlock interval (R118): START, SUSPECT_FROM, loop -/
  unlock : Option (Nat × Nat × Nat) := none
  deriving DecidableEq, Repr

/-- The event FIFO of R339 to R341: items held, the latched word, items discarded since the last LOST item. -/
structure EvqSt where
  items : List Nat := []
  latched : Option (List Nat) := none
  lost : Nat := 0
  deriving DecidableEq, Repr

/-- The Ledger queue of R394 and the bookkeeping of its seconds. -/
structure LedgerSt where
  queue : List Cause := []
  /-- causes discarded since the last SUPPRESS entry -/
  dropped : Nat := 0
  /-- entries of SEV 0 and 1 written in the current second -/
  used : Nat := 0
  /-- entries suppressed in the current second -/
  suppressed : Nat := 0
  /-- the current second of TS64; a step of TS64 has ended it -/
  sec : Nat := 0
  cut : Bool := false
  deriving DecidableEq, Repr

/-- A mode transition that has been accepted and not completed (R43, R44). -/
structure Trans where
  target : Nat
  double : Bool
  /-- the mode it leaves -/
  prev : Nat
  /-- stop tick S of a stop (R44) -/
  stop : Option Nat := none
  deriving DecidableEq, Repr

/-- An open PORT_ABSENT interval of a tile (R99, R100). -/
structure Absent where
  cause : Nat
  start : Nat
  /-- the OPEN record has been written -/
  written : Bool
  deriving DecidableEq, Repr

/-- Operating modes and tile service. -/
structure ModeSt where
  trans : Option Trans := none
  /-- an acquisition request held until FILL_DONE (R468): mode and DOUBLE -/
  heldReq : Option (Nat × Bool) := none
  /-- GLB_TILE_SVC writes held while BUSY (R53), oldest first -/
  heldSvc : List Nat := []
  /-- tiles whose entry into service is under way, bit per tile -/
  entering : Nat := 0
  /-- tiles whose exit from service is under way, bit per tile -/
  leaving : Nat := 0
  /-- first tick of service of each tile in service (R508) -/
  svcStart : List (Option Nat) := List.replicate 15 none
  /-- DIV latched at step 1 of R43 -/
  div : Nat := 0
  deriving DecidableEq, Repr

/-- A running eye scan: what was in force at its START (R84). -/
structure ScanSt where
  ch : Nat
  ref : Nat
  dwell : Nat
  tol : Nat
  startCode : Int
  stride : Nat
  base : Nat
  ts : Nat
  deriving DecidableEq, Repr

/-- Front end: value of each channel at the last sample that the trigger fabric has put behind it in the current run (R23),
the comparator outputs (R63), values of CODE and HYST that wait for a word which starts after their write (channel, is it
HYST, value, tick of the write; R77), the running eye scan, the tiles that calibrate as step J1 of R99. -/
structure FeSt where
  lastVal : Nat := 0
  comp : Nat := 0
  late : List (Nat × Bool × Nat × Nat) := []
  scan : Option ScanSt := none
  calJ1 : Nat := 0
  /-- an eye scan started in IDLE waits for SPLL (R474) -/
  scanHeld : Bool := false
  deriving DecidableEq, Repr

/-- Pod ports. -/
structure PodSt where
  /-- power-off pending after a press (R95), bit per port -/
  attnOff : Nat := 0
  /-- PODp_PWR_EN levels -/
  pwrEn : Nat := 0
  absent : List (Option Absent) := List.replicate 8 none
  /-- the cause of the interval that tile service closed (R100) -/
  svcCause : List (Option Nat) := List.replicate 8 none
  /-- an orderly power-off waits for X3 of R99, bit per port -/
  offWait : Nat := 0
  /-- READY was entered under J3 while a transition ran: the tile waits to rejoin (R53), bit per port -/
  rejoin : Nat := 0
  /-- a software transaction stands before the identity read (R98), bit per port -/
  sbFirst : Nat := 0
  deriving DecidableEq, Repr

/-- A record line that Accession has formed: its type, tile, time base, payload units in use, container continuation
flag and payload bytes (R205, R206). -/
structure LineRec where
  ty : Nat
  tile : Nat
  base : Nat
  units : Nat
  cont : Bool
  payload : List Byte
  /-- last tick the line holds, for data lines -/
  last : Nat
  deriving DecidableEq, Repr

/-- What waits for its place in a region's line order: a closed container (R232), or a line with the Catalogue entry (context,
number) that names it, if one does. -/
inductive OutItem where
  | cont (s : Span) (edges : List Item)
  | line (l : LineRec) (cat : Option (Nat × Nat))
  deriving DecidableEq, Repr

/-- The open container of a compressed stream (R232). -/
structure OpenCont where
  base : Nat
  levels : Bool
  init : Nat
  edges : List Item
  /-- units of the canonical item stream so far -/
  units : Nat
  deriving DecidableEq, Repr

/-- One tile stream of a region (R208). -/
structure StreamSt where
  /-- units of the open line (and beyond) not yet written -/
  units : List Nat := []
  /-- the tick of each such unit -/
  ticks : List Nat := []
  /-- time of the next instant after the last unit -/
  next : Nat := 0
  /-- channel values at the previous instant, and whether there is one -/
  prev : Option Nat := none
  /-- open container, for FORM 2 -/
  cont : Option OpenCont := none
  /-- symbol counts of the previous container of the stream in this run (R236) -/
  counts : Option (List Nat) := none
  /-- last tick written to memory in this run -/
  written : Option Nat := none
  /-- in STATE, the instants of the latest word with the tile's values: a TIME record may cut it (R209) -/
  tail : List (Nat × Nat) := []
  deriving DecidableEq, Repr

/-- What the pre-trigger start of a trigger follows from (R192): `mark` 0 no mark, 1 a valid one, 2 an invalid one; `want` is
M, or T − PRE. -/
structure PreRef where
  mark : Nat
  want : Nat
  deriving DecidableEq, Repr

/-- A MARK or TRIGGER record that waits for its place (R208, R209): decision instant, is it a TRIGGER record, context, the
record, what PSTART follows from, the Catalogue entry that names it. -/
structure HeldRec where
  t : Nat
  trig : Bool
  ctx : Nat
  line : LineRec
  pre : Option PreRef
  cat : Option (Nat × Nat)
  deriving DecidableEq, Repr

/-- A Catalogue entry that is not in memory yet (R198): its number, TS, KIND, POS, CODE, the record it waits for has no line
yet, LINE and REGION. -/
structure CatEnt where
  id : Nat
  ts : Nat
  kind : Nat
  pos : Nat
  code : Nat
  wait : Bool
  line : Nat
  region : Nat
  deriving DecidableEq, Repr

/-- What Accession holds for a region besides its registers. -/
structure RegionSt where
  streams : List StreamSt := List.replicate 8 {}
  outQ : List OutItem := []
  /-- lines written since the last clear -/
  lines : Nat := 0
  /-- TIME records still held, oldest first: line number since the clear, TS -/
  times : List (Nat × Nat) := []
  /-- TS and RATE of the latest TIME record, and lines written after it -/
  timeTs : Nat := 0
  timeRate : Nat := 0
  timeLines : Nat := 0
  /-- the region has had its START TIME record in this run -/
  started : Bool := false
  /-- TIME causes that wait for their word boundary: CAUSE and tick -/
  causes : List (Nat × Nat) := []
  /-- the word boundary at which the latest word was taken in -/
  wordTs : Option Nat := none
  /-- contexts that will freeze the region: context and retention end E -/
  willFreeze : List (Nat × Nat) := []
  /-- contexts that froze it -/
  frozenBy : List Nat := []
  /-- first tick of the frozen interval -/
  frozenFrom : Nat := 0
  /-- a release waits for the first word boundary after it: first frozen tick, tick of release -/
  release : Option (Nat × Nat) := none
  /-- contexts that protect a line: context, line number -/
  protect : List (Nat × Nat) := []
  /-- the latest tick of all data lines written, and the last tick of the data line written last -/
  lastTick : Nat := 0
  lineTick : Nat := 0
  /-- MARK and TRIGGER records that wait for their place, in the order of their instants -/
  held : List HeldRec := []
  deriving DecidableEq, Repr

/-- A command waiting for its instant (R188, R189). -/
inductive SeqCmd where
  | arm
  | disarm
  /-- Aqurn operation at a time: arm or disarm at the first instant at or after `ts` -/
  | aql (arm : Bool) (ts : Nat)
  deriving DecidableEq, Repr

/-- A target region of a trigger (R192): what P_r follows from, and P_r with PRE_SHORT once Accession has reached T. -/
structure Target where
  region : Nat
  pre : PreRef
  start : Option (Nat × Bool) := none
  deriving DecidableEq, Repr

/-- One accepted trigger whose retention runs (R190, R192). -/
structure Retention where
  t : Nat
  /-- T + POST -/
  due : Nat
  level : Nat
  branch : Nat
  single : Bool
  retrig : Bool
  targets : List Target
  /-- R193 ended the retention early at this tick -/
  limit : Option Nat := none
  /-- a target region was frozen by another context -/
  onFrozen : Bool := false
  deriving DecidableEq, Repr

/-- What a trigger context holds besides its registers. -/
structure CtxSt where
  /-- latest instant -/
  last : Option Nat := none
  /-- the first tick it judges: T0, or V of its exit from tile service (R52) -/
  start : Nat := 0
  /-- index of the next instant within its step of 64 -/
  inst : Nat := 0
  /-- channel values at the latest instant, and channels held there -/
  vals : Nat := 0
  held : Nat := 0
  /-- has accepted a trigger since it was last armed -/
  trigd : Bool := false
  /-- what other contexts see: TRIGGERED and ARMED as the latest instant left them -/
  xTrig : Bool := false
  xArmed : Bool := false
  /-- cascade inputs waiting: line, first tick, and the tick they must lie after -/
  casc : List (Nat × Nat × Nat) := []
  /-- late cascade lines that wait for the next step (R197) -/
  cascStep : List Nat := []
  /-- the high halves of LAST latched by the latest read of each LAST_LO through this window (R172): resource, value -/
  lastHi : List (Nat × Nat) := []
  /-- resource commits waiting: ID, or none for ALL -/
  commits : List (Option Nat) := []
  /-- the step start at which the latest resource commit was applied (R174) -/
  cmtAt : Option Nat := none
  cmds : List SeqCmd := []
  rets : List Retention := []
  /-- Catalogue entries not in memory yet, oldest first, and the number of the next one -/
  cats : List CatEnt := []
  catNext : Nat := 0
  /-- HALT was taken in POST: branches are no longer evaluated -/
  halted : Bool := false
  /-- target regions for which the mark is invalid, bit per region -/
  markBad : Nat := 0
  deriving DecidableEq, Repr

/-- What the resources hold besides their registers, by identifier. -/
structure TrigSt where
  /-- outputs at the owner's latest instant, bit per identifier -/
  out : Nat := 0
  /-- previous match value of recognisers and comparators, and whether there is one -/
  prevM : Nat := 0
  prevOk : Nat := 0
  /-- open pulse of each detector: opening instant, polarity high, long-pulse output given -/
  opens : List (Option (Nat × Bool × Bool)) := List.replicate 64 none
  /-- detectors that take no edge at the next instant (first instant, commit) -/
  noEdge : Nat := 0
  /-- counters and timers that have reached TC or LIM at an instant, until step 6 of R158 answers it -/
  due : Nat := 0
  deriving DecidableEq, Repr

/-- A retriggering run (R200 to R203). -/
structure RrSt where
  /-- contexts in the run, bit per context -/
  ctx : Nat := 0
  region : Nat := 0
  /-- FROM and TO of the run, the first tick held in the region -/
  start : Nat := 0
  upto : Nat := 0
  first : Nat := 0
  out : Nat := 0
  outLen : Nat := 0
  /-- END code asked for: 1 STOPPED or 2 MODE -/
  req : Option Nat := none
  /-- the first line of the region that the run has not read (R261) -/
  seen : Nat := 0
  /-- the lines that the run failed to read, the containers that it failed to decode, by their line, and the steps that it lost to
  a datapath fault (R453, R462) -/
  unread : List Nat := []
  undec : List Nat := []
  lostSteps : Nat := 0
  deriving DecidableEq, Repr

/-- A kept window that is not sealed yet (R55 to R57, R226). -/
structure Window where
  /-- NSTART, T − PRE -/
  nstart : Nat
  /-- START -/
  start : Nat
  /-- E -/
  fin : Nat
  /-- tick of the opening hit, and hits so far -/
  hit : Nat
  hits : Nat
  pre : Nat
  post : Nat
  mx : Nat
  dest : Nat
  cont : Bool
  trunc : Bool := false
  short : Bool := false
  overrun : Bool := false
  poison : Bool := false
  /-- the copy has begun: the WINDOW line stands at this offset of the kept region, with GEN and SEQ there -/
  begun : Option (Nat × Nat × Nat) := none
  /-- lines copied -/
  lines : Nat := 0
  /-- line number of the ring from which the copy goes on -/
  cursor : Nat := 0
  deriving DecidableEq, Repr

/-- The keeping of a ring region: windows not sealed, oldest first, the end of the latest window, the line numbers already
copied into an earlier window. -/
structure KeepRing where
  wins : List Window := []
  prevEnd : Option Nat := none
  copied : List Nat := []
  deriving DecidableEq, Repr

/-- A KEPT region (R226, R228): what its KHEAD carries, the hash of the latest window, the sealed windows it holds
(lines used, HASH), the ring whose window is being copied. -/
structure KeptSt where
  next : Nat := 0
  oldest : Nat := 0
  released : Nat := 0
  lastRel : List Byte := List.replicate 48 0
  genesis : Nat := 0
  egen : Nat := 0
  prev : List Byte := List.replicate 48 0
  held : List (Nat × List Byte) := []
  busy : Option Nat := none
  deriving DecidableEq, Repr

/-- A TRIG frame that waits for transmission (R147, R196): decision stamp, context, line. -/
structure TrigFrame where
  stamp : Nat
  ctx : Nat
  line : Nat
  deriving DecidableEq, Repr

/-- A frame that waits in a sender of the Aqurn link: TYPE, SRC_ID, HOP and payload bytes 2 to 13 (R145). -/
structure AqFrame where
  ty : Nat
  src : Nat
  hop : Nat
  payload : List Byte
  deriving DecidableEq, Repr

/-- One port of the Aqurn link: its receiver's run of good and bad frames (R146), the TRIG and ARM frames of the last
slots with their arrival (R147), its sender's queue, slots sent, and the rest of the TIME group being sent. -/
structure AqPort where
  good : Nat := 0
  bad : Nat := 0
  recent : List (AqFrame × Nat) := []
  txq : List AqFrame := []
  slots : Nat := 0
  group : List AqFrame := []
  /-- a TIME frame is due, a DLY_REQ is due -/
  timeDue : Bool := false
  reqDue : Bool := false
  /-- the first tick of the frame sent last -/
  sent : Option Nat := none
  deriving DecidableEq, Repr

/-- The Aqurn link. -/
structure AqSt where
  trigQ : List TrigFrame := []
  up : AqPort := {}
  dn : AqPort := {}
  /-- TIME frame of the group being received, and its TODA payload -/
  timeRx : Option (Nat × Nat × Nat) := none
  todaRx : Option (Nat × Nat) := none
  /-- departure of the DLY_REQ that has no answer yet -/
  t1 : Option Nat := none
  /-- exchanges since the latest average, and the sums of twice their OFS and DLY in 1/64 tick (R150) -/
  exN : Nat := 0
  exOfs : Int := 0
  exDly : Int := 0
  /-- averages in a row with |OFS| above one tick -/
  ofsBad : Nat := 0
  /-- no ID was taken (R149) -/
  unnumbered : Bool := false
  deriving DecidableEq, Repr

/-- A DMA descriptor being worked on (R343): HADDR, CADDR, LEN, OP, IRQ, XLAT, REGION. -/
structure Desc where
  haddr : Nat := 0
  caddr : Nat := 0
  len : Nat := 0
  op : Nat := 0
  irq : Bool := false
  xlat : Bool := false
  region : Nat := 0
  deriving DecidableEq, Repr

/-- A DMA channel (R342 to R345). -/
structure DmaSt where
  /-- the region that the current STREAM descriptor reads -/
  region : Option Nat := none
  /-- 0 no descriptor, 1 fetching it, 2 moving its data, 3 writing its status -/
  phase : Nat := 0
  desc : Desc := {}
  /-- bytes sent (TO_HOST, STREAM) or asked for (FROM_HOST) -/
  pos : Nat := 0
  /-- source bytes were poisoned; lines were skipped; FLUSH -/
  poison : Bool := false
  lost : Bool := false
  flush : Bool := false
  /-- the result of a descriptor that ends: ERR, and DONE -/
  err : Nat := 0
  done : Nat := 0
  /-- EN was written 0: stop after the current descriptor -/
  stop : Bool := false
  /-- the read position of R344: RPOS, and the GEN and SEQ expected there -/
  rpos : Option (Nat × Nat × Nat) := none
  deriving DecidableEq, Repr

/-- An outstanding non-posted request: tag, channel, KIND (0 data, 1 descriptor fetch, 2 translation), host address (as
the descriptor has it), length, offset in the descriptor, bytes arrived, the page translation it was issued with, and
whether its descriptor has ended. -/
structure NpReq where
  tag : Nat
  chan : Nat
  kind : Nat
  addr : Nat
  len : Nat
  off : Nat
  got : List Byte := []
  page : Option Nat := none
  orphan : Bool := false
  deriving DecidableEq, Repr

/-- A cached translation (R346): page, translated page, read and write permission. -/
structure AtsEnt where
  page : Nat
  dest : Nat
  rd : Bool
  wr : Bool
  deriving DecidableEq, Repr

/-- An Invalidate Request (R347): its ITag, first page, pages, and, once it is handled, the tags of the reads it waits for. -/
structure Inval where
  itag : Nat
  page : Nat
  pages : Nat
  wait : Option (List Nat) := none
  deriving DecidableEq, Repr

/-- A job slot (R249 to R253): what it keeps between containers. -/
structure JobSt where
  /-- COMPRESS: BASE and INIT of the next container, whether it is the first, the symbol counts of the previous one -/
  base : Nat := 0
  init : Nat := 0
  first : Bool := true
  counts : Option (List Nat) := none
  /-- COMPRESS: the time of the latest item taken, from which the next one's gap counts (R231), and the lane kept (R250) -/
  itemT : Nat := 0
  lane : Option Nat := none
  deriving DecidableEq, Repr

/-- The TOD anchor (R132, R133): at TS64 `anchorTs` TOD stood at the given second and tick. -/
structure TodSt where
  anchorTs : Nat := 0
  anchorSec : Nat := 0
  anchorTick : Nat := 0
  /-- the fraction of a tick, in 2^-32 -/
  anchorFrac : Nat := 0
  /-- TOD has been set (R132) -/
  isSet : Bool := false
  deriving DecidableEq, Repr

/-- A TIME_CMD that waits for a PPS_IN edge (R131): OP, the latched operands, the tick (of `now`) of its write. -/
structure TimeCmd where
  op : Nat
  a : Nat
  b : Nat
  since : Nat
  deriving DecidableEq, Repr

/-- Steering (R135 to R138). -/
structure SteerSt where
  pend : Option TimeCmd := none
  /-- previous qualified edge, candidate edge -/
  prev : Option Nat := none
  cand : Option Nat := none
  /-- qualified edges in a row with |e| at most 128 -/
  near : Nat := 0
  /-- f_int in 2^-32 ticks per second -/
  fInt : Int := 0
  /-- RATE at the latest qualified edges, newest first -/
  rates : List Int := []
  /-- TOD second in which a TOD_SET or TOD_STEP applied -/
  stepSec : Option Nat := none
  /-- entry into HOLDOVER (of `now`), the last e before it -/
  hoAt : Nat := 0
  hoDone : Bool := false
  eLast : Int := 0
  deriving DecidableEq, Repr

/-- What a step of TOD leaves of TREF_OUT (R141): the phase of `level` that began at `since` lasts to `t1`, the opposite one to `t2`
(ticks of `now`); then the waveform of TOD goes on. -/
structure TrefHold where
  since : Nat
  level : Bool
  t1 : Nat
  t2 : Nat
  deriving DecidableEq, Repr

/-- The time outputs (R139 to R142): pulse in progress, leading edge of the latest pulse (of `now`), which outputs are
gated on, the bits of the IRIG frame in progress; the BPLL phase trim of R151 in 1/64 tick. -/
structure TimeOut where
  pulse : Bool := false
  lead : Option Nat := none
  ppsOn : Bool := false
  trefOn : Bool := false
  irigOn : Bool := false
  irig : Option Nat := none
  tref : Option TrefHold := none
  trim : Int := 0
  deriving DecidableEq, Repr

/-- The source of the timebase (R120, R128): 0 BPLL, 1 the edges of XREF, 2 those of BKO; the place within the period of that source
in 1 / 12,800,000 of it, the fraction of a tick carried over, and the frequency of BKO in kHz. -/
structure TbSt where
  src : Nat := 0
  ph : Nat := 0
  frac : Nat := 0
  bko : Nat := 1000000
  deriving DecidableEq, Repr

/-- A ramp profile (R122, R123): EN is in force, the tick (of `now`) at which segment 0 began, and the periods in a row with a small
and with a large residual error. -/
structure RampSt where
  on : Bool := false
  start : Nat := 0
  good : Nat := 0
  bad : Nat := 0
  deriving DecidableEq, Repr

/-- A clock loop: passing and failing windows in a row, lock declared, a commit sequence under way (R107), a commit held
(R106). -/
structure LoopSt where
  passes : Nat := 0
  fails : Nat := 0
  decl : Bool := false
  /-- the tick at which the latest loss was declared -/
  lossAt : Option Nat := none
  commit : Bool := false
  held : Bool := false
  deriving DecidableEq, Repr

/-- The values of a loop that R103 speaks of. -/
structure LoopVals where
  refmul : Nat
  rdiv : Nat
  nint : Nat
  odiv : Nat
  nfrac : Nat
  deriving DecidableEq, Repr

/-- Clock synthesis: the loops; references a monitor has failed (bit 0 XREF, bit 1 + m DUT clock m); the loops at whose
commit a held write of CLK_LD_AN applies (R114); the clock plan of the latest image (R43); for each ramp the periods in a row with RESID at most 5 and above 10. -/
structure ClkSt where
  loops : List LoopSt := List.replicate 8 {}
  refBad : Nat := 0
  ldFor : Nat := 0
  plan : List LoopVals := []
  ramp : List RampSt := List.replicate 4 {}
  tb : TbSt := {}
  /-- the tick (of `now`) until which a CLKOUT drives the idle level (R126), 0 if it does not -/
  outIdle : List Nat := List.replicate 4 0
  deriving DecidableEq, Repr

/-- The host link: it is up; configuration requests complete (R322); PERST_N is low with KEEP = 1 (D3cold); outstanding
requests, quarantined tags with the tick (of `now`) of their release (R349), cached translations, the latest used first
(R346), Invalidate Requests (R347). -/
structure LinkSt where
  up : Bool := false
  ready : Bool := false
  cold : Bool := false
  reqs : List NpReq := []
  quar : List (Nat × Nat) := []
  ats : List AtsEnt := []
  inv : List Inval := []
  deriving DecidableEq, Repr

/-- A fault stored in a sector of a line by MEM_INJ (R279), until the line is written again. -/
structure Dmg where
  line : Nat
  pos : Nat
  kind : Nat
  deriving DecidableEq, Repr

/-- A line queued for Conservator (R262): SRC, PORT, failing codewords and positions of the read that found it. -/
structure ConsItem where
  line : Nat
  src : Nat
  port : Nat
  cw : Nat
  pos : Nat
  deriving DecidableEq, Repr

/-- An entry of the inventory (R268): line, position, count; the tick (of `now`) of the latest correction; a write-back is
due; a hard fault was declared; UNREPAIRABLE. -/
structure InvEntry where
  line : Nat
  pos : Nat
  count : Nat := 0
  seen : Nat := 0
  due : Bool := true
  hard : Bool := false
  unrep : Bool := false
  deriving DecidableEq, Repr

/-- An open row of a stack (R281): pseudo-channel and bank, row, the tick (of `now`) of its last access. -/
structure OpenRow where
  bank : Nat
  row : Nat
  last : Nat
  deriving DecidableEq, Repr

/-- A stack of capture memory (R254 to R304): target rank of a migration, positions that wait for one, the repair running
in the slice or in its rebuild (position, rank, bank, row), repairs used (rank, bank), counting tables of R292 (bank, row,
count), targeted refreshes queued (bank, row, from counting), a filling of that queue has been counted, pauses of the
training pass taken, eyes measured per rank and lane, delays applied, when the last entry of R291 was written. -/
structure StackSt where
  target : Option Nat := none
  waiting : List Nat := []
  ppr : Option (Nat × Nat × Nat × Nat) := none
  rebuild : Option (Nat × Nat × Nat × Nat) := none
  used : List (Nat × Nat) := []
  table : List (Nat × Nat × Nat) := []
  trq : List (Nat × Nat × Bool) := []
  full : Bool := false
  pauses : Nat := 0
  eyes : List (Nat × Nat × Option (Nat × Nat × Nat)) := []
  applied : Bool := false
  overAt : Option Nat := none
  /-- the open rows (R281); the urgency of the row hits served in a row and their number -/
  rows : List OpenRow := []
  hitRun : Nat × Nat := (0, 0)
  /-- the tick (of `now`) at which the stack last held a request; at which its counting tables were last cleared (R292) -/
  heldAt : Nat := 0
  clearAt : Nat := 0
  /-- the target of the sweep has been trained (R290) -/
  trained : Bool := false
  deriving DecidableEq, Repr

/-- A speed-bin change under way (R301): bin asked for, bin and NINT in force before, tick (of `now`) of the request, ports
stalled, the previous bin is being restored (R303). -/
structure BinSt where
  bin : Nat
  prev : Nat
  prevNint : Nat
  since : Nat
  stall : Bool := false
  restore : Bool := false
  deriving DecidableEq, Repr

/-- A request of a port (R32): its line, the mask and bytes of a write, what the ranks return, the nanoseconds of its service, and
the tick (of `now`) at which the fabric accepted it. -/
structure MemReq where
  port : Nat
  line : Nat
  wr : Option (Nat × List Byte)
  resp : List SecResp
  lat : Nat
  since : Nat
  /-- of a read: the sectors that the reader takes (R261) -/
  want : Nat := 255
  deriving DecidableEq, Repr

/-- The capture memory controller and Conservator. -/
structure MemSt where
  dmg : List Dmg := []
  cons : List ConsItem := []
  inv : List InvEntry := []
  /-- CORRECTED lines since the divider of R272 was last 0 -/
  ceDiv : Nat := 0
  /-- the second of `now` in which CE log entries were last copied to the Ledger, and how many -/
  ceSec : Nat := 0
  ceUsed : Nat := 0
  stks : List StackSt := List.replicate 4 {}
  scoreAt : Nat := 0
  passAt : Nat := 0
  burstAt : Option Nat := none
  /-- a training pass is under way; it is one before which no traffic resumes (R117, R301 step 6) -/
  pass : Bool := false
  resume : Bool := false
  bin : Option BinSt := none
  /-- stacks with two positions erased, when last looked at (R276) -/
  margin0 : Nat := 0
  /-- requests that the fabric holds, the oldest first, and those stalled at their ports (R32) -/
  fab : List MemReq := []
  stalled : List MemReq := []
  /-- the tick (of `now`) from which the interval to the next periodic pass runs (R297, R302); of the latest opportunistic round -/
  passFrom : Nat := 0
  oppAt : Option Nat := none
  deriving DecidableEq, Repr

/-- A trace of a render (R370): enabled, channel, palette index, top row, height. -/
structure TraceCfg where
  en : Bool
  ch : Nat
  col : Nat
  y : Nat
  h : Nat
  deriving DecidableEq, Repr

/-- A render in progress (R372): what was in force when it was accepted; `follow`: it is one of R373. -/
structure RenderSt where
  reg : Nat
  left : Nat
  tpp : Nat
  buf : Nat
  addr : Nat
  stride : Nat
  hact : Nat
  vact : Nat
  hole : Nat
  traces : List TraceCfg
  follow : Bool
  deriving DecidableEq, Repr

/-- Vitrine: lanes and rate of the trained link, the panel supports self refresh, flips waiting per layer, a timing commit
waiting for L, the frame in progress is black, frames in a row without change, a change noted since the previous L, the
render, a buffer rendered under FOLLOW that waits for its flip, the cursor store. -/
structure VitSt where
  lanes : Nat := 0
  rate : Nat := 0
  psrCap : Bool := false
  flips : List Nat := [0, 0, 0]
  commit : Bool := false
  black : Bool := false
  still : Nat := 0
  dirty : Bool := false
  render : Option RenderSt := none
  followBuf : Option Nat := none
  cursor : List Byte := []
  /-- a line of the frame has gone out: the watermark applies (R374) -/
  inLines : Bool := false
  /-- a software transaction that waits behind the training (R361) -/
  auxWait : Option OutMsg := none
  /-- OP and the number of bytes of the transaction in progress (R361) -/
  auxOp : Nat := 0
  auxLen : Nat := 0
  /-- the link is trained, and the stream waits for the next frame start (R359) -/
  await : Bool := false
  /-- the pixel composed last (R375) -/
  lastPx : Nat := 0
  /-- the frame in progress is marked active in its VSC SDP: self refresh follows (R378) -/
  psrMark : Bool := false
  deriving DecidableEq, Repr

/-- An entry of the scratch inventory (R315): word, bit, count; the tick (of `now`) of the latest correction; a hard fault
was declared; unrepairable. -/
structure ScrEntry where
  word : Nat
  bit : Nat
  count : Nat := 0
  seen : Nat := 0
  hard : Bool := false
  unrep : Bool := false
  deriving DecidableEq, Repr

/-- A scratch access or atomic (master, what the array returns) that waits for the end of a wipe (R317). -/
inductive ScrReq where
  | acc (a : ScrAcc)
  | atom (m : Nat) (resp : ScrResp)
  deriving DecidableEq, Repr

/-- A running march test (R318): MODE and banks. -/
structure March where
  mode : Nat
  banks : Nat
  deriving DecidableEq, Repr

/-- Scratch: the inventory, repairs under way (word, bit, column), accesses that wait for a wipe, the next word of the
patrol, the march test. -/
structure ScrSt where
  inv : List ScrEntry := []
  reps : List (Nat × Nat × Bool) := []
  hold : List ScrReq := []
  patrol : Nat := 0
  march : Option March := none
  deriving DecidableEq, Repr

/-- A step of a power table (R406, R413): channel, ON, WAIT_PG, TMO_MS, DLY_US. -/
structure PwrStep where
  ch : Nat
  on : Bool
  pg : Bool
  tmo : Nat
  dly : Nat
  deriving DecidableEq, Repr

/-- A section in force (R410, R418, R424): TYPE, INDEX, ENABLE, CHK, DEMAND_0 to DEMAND_15. -/
structure SectInfo where
  ty : Nat
  idx : Nat
  en : Bool
  chk : Nat
  demand : List Nat
  deriving DecidableEq, Repr

/-- Configuration: the sections in force, the power tables, units with a readback
mismatch since their last load (R425, bit per unit). -/
structure CfgSt where
  sects : List SectInfo := []
  up : List PwrStep := []
  down : List PwrStep := []
  mism : Nat := 0
  deriving DecidableEq, Repr

/-- A mailbox request accepted and not answered (R397): OP, SEQ, its 16 words; a restart has interrupted it (R405). -/
structure MbxReq where
  op : Nat
  seq : Nat
  words : List Nat
  cut : Bool := false
  deriving DecidableEq, Repr

/-- Curator: the ticks (of `now`) of the latest restarts (R386), a mailbox request that waits, it runs from its boot ROM
(R421), a restart is under way, the next Vault block of the patrol; per sensor: point at or above WARN, at or above CRIT (R388), the previous
sample at 150 °C or more (R389), the previous sample below −55 °C (R439), samples in a row below LO and above HI, monitor
outside its limits, the previous sample beyond the tamper limits; bin 3 and patrol off seen in this hour (R461), the tick
(of `now`) at which the trial timer expires. -/
structure CurSt where
  restarts : List Nat := []
  mbx : Option MbxReq := none
  rom : Bool := false
  restarting : Bool := false
  vp : Nat := 0
  warn : Nat := 0
  crit : Nat := 0
  hot : Nat := 0
  cold : Nat := 0
  low : List Nat := List.replicate 16 0
  high : List Nat := List.replicate 16 0
  vout : Nat := 0
  vfar : Nat := 0
  bin3 : Bool := false
  nopat : Bool := false
  trialEnd : Option Nat := none
  mapDue : Bool := false
  deriving DecidableEq, Repr

/-- The security block: the end (of `now`) of the refusal of token commands (R436), a life-cycle transition whose wipes
run (its target and the command, R429), the sources of tamper events not reported yet (R441), ACT 3 was among them, a health
test of the noise source has failed (R437), the end (of `now`) of the debug session. -/
structure SecSt where
  lockUntil : Option Nat := none
  trans : Option (Nat × Nat) := none
  events : List Nat := []
  erase : Bool := false
  rngBad : Bool := false
  dbgEnd : Option Nat := none
  deriving DecidableEq, Repr

/-- A start-up under way past step 5 of R466: the tick (of `now`) of step 1, what the initial training finds, steps 6, 7, 8 and 9 ended, step 8 begun. -/
structure StartSt where
  since : Nat
  train : List LaneFind
  did6 : Bool := false
  did7 : Bool := false
  cal : Bool := false
  did8 : Bool := false
  did9 : Bool := false
  deriving DecidableEq, Repr

/-- Power: OFF; only a power-on reset leaves it (R471); PERST_N holds a fundamental reset; the start-up under way; a
power-down under way (R470); the bytes of the expansion ROM that start-up built (R324). -/
structure PwrSt where
  off : Bool := false
  latched : Bool := false
  held : Bool := false
  start : Option StartSt := none
  offPend : Bool := false
  rom : List Byte := []
  deriving DecidableEq, Repr

/-- The test access port (R443): the instruction register, the preloaded boundary values. -/
structure TapSt where
  ir : Nat := 1
  bsr : List Bool := []
  deriving DecidableEq, Repr

/-- Datapath watchdog (R454): trips of each stage in the last second (of `now`), stages that are stuck, the tick (of `now`)
of the latest trip of each. -/
structure DpSt where
  trips : List (List Nat) := List.replicate 16 []
  stuck : Nat := 0
  deriving DecidableEq, Repr

/-- The life counters (R391, R461): hours, the sum of the hourly means in 0.1 °C, bands, the mission profile's failed bits,
hours at bin 3, hours without patrol. -/
structure Life where
  hours : Nat := 0
  tsum : Int := 0
  bands : List Nat := List.replicate 16 0
  prof : Nat := 0
  bin3 : Nat := 0
  nopat : Nat := 0
  deriving DecidableEq, Repr

/-- Repairs and maps (R402): the MEM_STK_s_MAP and rank registers, the repairs used in each stack, field repairs of scratch
(bank, column). -/
structure Repairs where
  map : RegFile := []
  used : List (List (Nat × Nat)) := List.replicate 4 []
  scr : List (Nat × Bool) := []
  deriving DecidableEq, Repr

/-- The state record of the Vault (R402): slot states, BOOT_SLOT, the previous slot and the trial seconds, BOOT, power
faults, the records of a thermal trip (point, reading) and of a power fault (channel, step), the life counters, the
repairs. -/
structure Rec where
  slots : List Nat := [4, 0, 0]
  bootSlot : Nat := 0
  prev : Nat := 0
  trialSec : Nat := 600
  boot : Nat := 0
  faults : Nat := 0
  therm : Option (Nat × Nat) := none
  pwr : Option (Nat × Nat) := none
  life : Life := {}
  rep : Repairs := {}
  deriving DecidableEq, Repr

/-- A key slot (R431): the public key as 96 bytes (empty: no key), the last KVER accepted, the private key of a sealing slot
(R438). -/
structure KeySlot where
  key : List Byte := []
  kver : Nat := 0
  priv : Nat := 0
  deriving DecidableEq, Repr

/-- "TK1600-XE" in ASCII. -/
def orderXE : List Byte := [0x54, 0x4B, 0x31, 0x36, 0x30, 0x30, 0x2D, 0x58, 0x45]

/-- What survives every reset: the fuses (silicon revision, serial, ordering code (R3), life-cycle state, an incomplete transition, the hash of
the root key, slot 2 revoked), the key area of the Vault (eight slots, the active sealing slot, SEC_MINVER), and the two
copies of the state record with the sequence of the newer. -/
structure NvSt where
  rev : Nat := 0
  serial : Nat := 0
  code : List Byte := orderXE
  lc : Nat := 0
  incomplete : Bool := false
  rootHash : List Byte := []
  revoked : Bool := false
  keys : List KeySlot := List.replicate 8 {}
  sealAct : Nat := 0
  minver : Nat := 0
  srec : Rec := {}
  old : Rec := {}
  seq : Nat := 0
  deriving DecidableEq, Repr

/-- Everything the engine holds besides the bytes of its memories and the queue of waiting commands. -/
structure Eng where
  regs : RegFile := []
  act : RegFile := []
  /-- the values the image gives fields that a reset of their block takes again (R330) -/
  img : RegFile := []
  /-- ticks since power-on; never stepped -/
  now : Nat := 0
  /-- TS64 -/
  ts : Nat := 0
  /-- free values drawn so far -/
  free : Nat := 0
  /-- memory writes of the command in progress; empty between commands -/
  wq : List MemOp := []
  out : List OutMsg := []
  evq : EvqSt := {}
  ldg : LedgerSt := {}
  /-- MSI-X per-vector mask bits and pending bits (R337) -/
  vmask : Nat := 2 ^ 64 - 1
  pba : Nat := 0
  hl : LinkSt := {}
  tod : TodSt := {}
  steer : SteerSt := {}
  tout : TimeOut := {}
  clk : ClkSt := {}
  mc : MemSt := {}
  sc : ScrSt := {}
  vt : VitSt := {}
  nv : NvSt := {}
  cf : CfgSt := {}
  cu : CurSt := {}
  se : SecSt := {}
  pw : PwrSt := {}
  tap : TapSt := {}
  dp : DpSt := {}
  ela : List ElaTile := List.replicate 8 {}
  /-- tick of the last pace-alarm Ledger entry of each stage (R29) -/
  paceAt : List (Option Nat) := List.replicate 16 none
  md : ModeSt := {}
  fe : FeSt := {}
  pod : PodSt := {}
  rg : List RegionSt := List.replicate 16 {}
  cx : List CtxSt := List.replicate 4 {}
  tr : TrigSt := {}
  rr : RrSt := {}
  kr : List KeepRing := List.replicate 16 {}
  kp : List KeptSt := List.replicate 16 {}
  /-- tick of the latest assertion of WAKE_N (R60), and the level of the pin -/
  wakeAt : Option Nat := none
  wakeLow : Bool := false
  aq : AqSt := {}
  /-- values latched by a read, by master and field -/
  latch : RegFile := []
  /-- the region that is being cleared (R223) -/
  clr : Option Nat := none
  dma : List DmaSt := List.replicate 8 {}
  job : List JobSt := List.replicate 4 {}
  deriving DecidableEq, Repr

/-- The state of the block. -/
structure State where
  eng : Eng := {}
  mem : Mems := {}
  /-- commands that are waiting, first in, first out -/
  pending : List Instr := []
  deriving DecidableEq, Repr

/-- Reasons for which a command stops the block. -/
inductive Fault where
  /-- No rule of the spec raises it: kept so that the type is inhabited. Safe. -/
  | unused
  deriving DecidableEq, Repr

/-- Reasons for which the model gives a command no meaning. -/
inductive Refusal where
  /-- Raised by an arm of `exec` whose command has no meaning yet. Safe: the model stops. -/
  | notModelled (mnemonic : String)
  deriving DecidableEq, Repr

/-- The state after reset (R11): every register at its reset value, the memories empty, no command waiting. -/
def State.reset : State := {}

end Machine
end Sys2Proof
end

