-- ==== Sys2Proof/Machine/Ops.lean ====
section
/-!
DEFINITION. The named operations over the register file and the memories that every meaning is written with: reading
and writing a field (R7), 64-bit pairs, active values, byte memories in canonical form, and the two ways a meaning
changes the state.
-/
namespace Sys2Proof
namespace Machine

/-! ### The register file -/

/-- The value listed for a key. -/
def rfFind : RegFile → Nat → Option Nat
  | [], _ => none
  | (k, v) :: r, key => if k = key then some v else rfFind r key

/-- Insert or replace a pair, keeping the keys strictly rising. -/
def rfInsert : RegFile → Nat → Nat → RegFile
  | [], key, v => [(key, v)]
  | (k, x) :: r, key, v =>
    if key < k then (key, v) :: (k, x) :: r
    else if key = k then (key, v) :: r
    else (k, x) :: rfInsert r key v

/-- Remove the pair of a key. -/
def rfErase (r : RegFile) (key : Nat) : RegFile := r.filter fun p => p.1 != key

/-- The value of a field. -/
def rfGet (r : RegFile) (f : Fld) : Nat := (rfFind r f.key).getD f.reset

/-- Store a value in a field: the value modulo the field's width; a field at its reset value is not listed. -/
def rfSet (r : RegFile) (f : Fld) (v : Nat) : RegFile :=
  if v % 2 ^ f.width = f.reset then rfErase r f.key else rfInsert r f.key (v % 2 ^ f.width)

/-- The keys of a register file rise strictly. -/
def rfSorted : RegFile → Bool
  | [] => true
  | [_] => true
  | a :: b :: r => decide (a.1 < b.1) && rfSorted (b :: r)

/-- Remove every pair whose key lies in `lo ..< hi`. -/
def rfClear (r : RegFile) (lo hi : Nat) : RegFile := r.filter fun p => p.1 < lo || hi ≤ p.1

/-- Read a field. -/
def Eng.rd (e : Eng) (f : Fld) : Nat := rfGet e.regs f

/-- Is a one-bit field set? -/
def Eng.on (e : Eng) (f : Fld) : Bool := e.rd f != 0

/-- Write a field. -/
def Eng.wr (e : Eng) (f : Fld) (v : Nat) : Eng := { e with regs := rfSet e.regs f v }

/-- Write a one-bit field. -/
def Eng.wrb (e : Eng) (f : Fld) (b : Bool) : Eng := e.wr f (if b then 1 else 0)

/-- Read the active value of a shadow or held field. -/
def Eng.rda (e : Eng) (f : Fld) : Nat := rfGet e.act f

/-- Is an active one-bit field set? -/
def Eng.ona (e : Eng) (f : Fld) : Bool := e.rda f != 0

/-- Write the active value of a shadow or held field. -/
def Eng.wra (e : Eng) (f : Fld) (v : Nat) : Eng := { e with act := rfSet e.act f v }

/-- Copy a field's register value into its active value. -/
def Eng.load (e : Eng) (f : Fld) : Eng := e.wra f (e.rd f)

/-- Write a field and its active value. -/
def Eng.wrBoth (e : Eng) (f : Fld) (v : Nat) : Eng := (e.wr f v).wra f v

/-- Read a pair of fields as one number. -/
def Eng.rdq (e : Eng) (q : Fld2) : Nat := e.rd q.lo + 2 ^ 32 * e.rd q.hi

/-- Write a pair of fields from one number. -/
def Eng.wrq (e : Eng) (q : Fld2) (v : Nat) : Eng := (e.wr q.lo (v % 2 ^ 32)).wr q.hi (v / 2 ^ 32)

/-- Read the active values of a pair. -/
def Eng.rdqa (e : Eng) (q : Fld2) : Nat := e.rda q.lo + 2 ^ 32 * e.rda q.hi

/-- Write the active values of a pair. -/
def Eng.wrqa (e : Eng) (q : Fld2) (v : Nat) : Eng := (e.wra q.lo (v % 2 ^ 32)).wra q.hi (v / 2 ^ 32)

/-- Copy a pair into its active values. -/
def Eng.loadq (e : Eng) (q : Fld2) : Eng := (e.load q.lo).load q.hi

/-- Bit `i` of a field. -/
def Eng.bit (e : Eng) (f : Fld) (i : Nat) : Bool := natBit (e.rd f) i

/-- Write bit `i` of a field. -/
def Eng.wrBit (e : Eng) (f : Fld) (i : Nat) (b : Bool) : Eng := e.wr f (putNatBit (e.rd f) i b)

/-- Add to a field that wraps. -/
def Eng.addWrap (e : Eng) (f : Fld) (n : Nat) : Eng := e.wr f (e.rd f + n)

/-- Add to a field that saturates at its largest value (R459). -/
def Eng.addSat (e : Eng) (f : Fld) (n : Nat) : Eng := e.wr f (min (e.rd f + n) (2 ^ f.width - 1))

/-- Apply a function for each index of a list in turn. -/
def forEach {α : Type} (l : List α) (f : Eng → α → Eng) (e : Eng) : Eng := l.foldl f e

/-- Apply a function when a condition holds. -/
def Eng.when (e : Eng) (c : Bool) (f : Eng → Eng) : Eng := if c then f e else e

/-- Draw the next free value of `w` bits. -/
def Eng.freeVal (e : Eng) (w : Nat) : Nat := (Config.freeBits w e.free).toNat

/-- Count a free value as drawn. -/
def Eng.drawn (e : Eng) : Eng := { e with free := e.free + 1 }

/-- Issue a memory write. -/
def Eng.emit (e : Eng) (op : MemOp) : Eng := { e with wq := e.wq ++ [op] }

/-- Send a message. -/
def Eng.send (e : Eng) (m : OutMsg) : Eng := { e with out := e.out ++ [m] }

/-! ### Byte memories -/

/-- The byte at an address; an unlisted address reads 0. -/
def memGet : Mem → Nat → Byte
  | [], _ => 0
  | (a, b) :: m, addr => if a = addr then b else memGet m addr

/-- Insert or replace a byte, keeping the addresses strictly rising. -/
def memInsert : Mem → Nat → Byte → Mem
  | [], addr, v => [(addr, v)]
  | (a, b) :: m, addr, v =>
    if addr < a then (addr, v) :: (a, b) :: m
    else if addr = a then (addr, v) :: m
    else (a, b) :: memInsert m addr v

/-- Store one byte; a zero byte is not listed. -/
def memPut (m : Mem) (addr : Nat) (v : Byte) : Mem := if v = 0 then m.filter fun c => c.1 != addr else memInsert m addr v

/-- Store bytes from an address upward. -/
def memWrite (m : Mem) : Nat → List Byte → Mem
  | _, [] => m
  | addr, b :: bs => memWrite (memPut m addr b) (addr + 1) bs

/-- `n` bytes from an address upward. -/
def memRead (m : Mem) (addr : Nat) : Nat → List Byte
  | 0 => []
  | n + 1 => memGet m addr :: memRead m (addr + 1) n

/-- Zero `n` bytes from an address upward. -/
def memClear (m : Mem) (addr n : Nat) : Mem := m.filter fun c => c.1 < addr || addr + n ≤ c.1

/-- The canonical form: addresses strictly rising. -/
def memRising : Mem → Bool
  | [] => true
  | [_] => true
  | a :: b :: m => decide (a.1 < b.1) && memRising (b :: m)

/-- The canonical form: no listed byte is zero. -/
def memNonzero (m : Mem) : Bool := m.all fun c => c.2 != 0

/-- The canonical form of a memory. -/
def memWf (m : Mem) : Bool := memRising m && memNonzero m

/-- Is an index in the set? -/
def idxMem (s : IdxSet) (i : Nat) : Bool := s.contains i

/-- Add an index. -/
def idxAdd : IdxSet → Nat → IdxSet
  | [], i => [i]
  | a :: s, i => if i < a then i :: a :: s else if i = a then a :: s else a :: idxAdd s i

/-- Remove an index. -/
def idxDel (s : IdxSet) (i : Nat) : IdxSet := s.filter fun a => a != i

/-- Put an index in or out of the set. -/
def idxPut (s : IdxSet) (i : Nat) (on : Bool) : IdxSet := if on then idxAdd s i else idxDel s i

/-- The canonical form of an index set: strictly rising. -/
def idxRising : IdxSet → Bool
  | [] => true
  | [_] => true
  | a :: b :: s => decide (a < b) && idxRising (b :: s)

/-- Apply one memory write. A write of a whole scratch word clears its poison (R312). -/
def Mems.apply (m : Mems) : MemOp → Mems
  | .cap a bs => { m with cap := memWrite m.cap a bs }
  | .capPoison i on => { m with capPois := idxPut m.capPois i on }
  | .scr a bs => { m with scr := memWrite m.scr a bs, scrPois := m.scrPois.filter fun i => i * 8 < a || a + bs.length < i * 8 + 8 }
  | .scrPoison i on => { m with scrPois := idxPut m.scrPois i on }
  | .vlt a bs => { m with vlt := memWrite m.vlt a bs }
  | .vltBad i on => { m with vltBad := idxPut m.vltBad i on }
  | .ram a bs => { m with ram := memWrite m.ram a bs }
  | .ramClear => { m with ram := [] }
  | .capClear a n => { m with cap := memClear m.cap a n, capPois := m.capPois.filter fun i => i * 32 < a || a + n ≤ i * 32 }
  | .scrClear a n => { m with scr := memClear m.scr a n, scrPois := m.scrPois.filter fun i => i * 8 < a || a + n ≤ i * 8 }
  | .vltClear a n => { m with vlt := memClear m.vlt a n, vltBad := m.vltBad.filter fun i => i * 64 < a || a + n ≤ i * 64 }

/-- Apply memory writes in order. -/
def Mems.applyAll (m : Mems) (ops : List MemOp) : Mems := ops.foldl Mems.apply m

/-- Every memory of the device is in its canonical form. -/
def Mems.wf (m : Mems) : Bool :=
  memWf m.cap && idxRising m.capPois && memWf m.scr && idxRising m.scrPois &&
  memWf m.vlt && idxRising m.vltBad && memWf m.ram

/-! ### Meanings -/

/-- The outcome type of a command. -/
abbrev Result := Host.Outcome State Fault Refusal

/-- The engine core is held: OFF (R470), or PERST_N holds a fundamental reset. -/
def Eng.down (e : Eng) : Bool := e.pw.off || e.pw.held

/-- A command that changes the engine and writes no memory; while the core is held it has no effect. -/
def onEng (s : State) (f : Eng → Eng) : Result :=
  if s.eng.down then .next s else .next { s with eng := { f s.eng with wq := [] } }

/-- A command that may read and write the memories: its writes are applied in order as it ends. -/
def applyMem (s : State) (f : Eng → Mems → Eng) : Result :=
  .next { s with eng := { f s.eng s.mem with wq := [] }, mem := s.mem.applyAll (f s.eng s.mem).wq }

/-- A command that may read and write the memories; while the core is held it has no effect. -/
def onMem (s : State) (f : Eng → Mems → Eng) : Result :=
  if s.eng.down then .next s else applyMem s f

end Machine
end Sys2Proof
end

