-- ==== Sys2Proof/Machine/RegsAcc.lean ====
section
/-!
DEFINITION. The register fields of the ACC block, one name per field row of the spec's register tables
(R479 gives the block base, R485 the index). The arguments are the index variables of the owning chapter;
an index beyond the count of its row is reduced into it.
-/
namespace Sys2Proof
open Sys2Proof

namespace Machine

/- ACC_KEEP_CTRL_n, chapter 02 -/
def ACC_KEEP_CTRL_EN (n : Nat) : Fld := fld (0x00708000 + 0x10 * (n % 16)) 0 1 0
def ACC_KEEP_CTRL_FULL_POL (n : Nat) : Fld := fld (0x00708000 + 0x10 * (n % 16)) 1 1 0
def ACC_KEEP_CTRL_DEST (n : Nat) : Fld := fld (0x00708000 + 0x10 * (n % 16)) 4 4 0
/- ACC_KEEP_PRE_n, chapter 02 -/
def ACC_KEEP_PRE_PRE_MS (n : Nat) : Fld := fld (0x00708004 + 0x10 * (n % 16)) 0 22 0
/- ACC_KEEP_POST_n, chapter 02 -/
def ACC_KEEP_POST_POST_MS (n : Nat) : Fld := fld (0x00708008 + 0x10 * (n % 16)) 0 22 0
/- ACC_KEEP_MAX_n, chapter 02 -/
def ACC_KEEP_MAX_MAX_MS (n : Nat) : Fld := fld (0x0070800C + 0x10 * (n % 16)) 0 24 0
/- ACC_KEEP_CNT_n, chapter 02 -/
def ACC_KEEP_CNT_CNT (n : Nat) : Fld := fld (0x00708100 + 4 * (n % 16)) 0 32 0
/- ACC_KEEP_MISS_n, chapter 02 -/
def ACC_KEEP_MISS_CNT (n : Nat) : Fld := fld (0x00708140 + 4 * (n % 16)) 0 32 0
/- ACC_ARC_WAKE, chapter 02 -/
def ACC_ARC_WAKE_SEAL : Fld := fld (0x00708200) 0 1 0
def ACC_ARC_WAKE_FULL : Fld := fld (0x00708200) 1 1 0
def ACC_ARC_WAKE_FAULT : Fld := fld (0x00708200) 2 1 0
def ACC_ARC_WAKE_MIN_INT : Fld := fld (0x00708200) 8 8 60
/- ACC_ARC_WAKE_STAT, chapter 02 -/
def ACC_ARC_WAKE_STAT_CAUSE : Fld := fld (0x00708204) 0 3 0
/- ACC_CMD, chapter 09 -/
def ACC_CMD_REG : Fld := fld (0x00700000) 0 4 0
def ACC_CMD_CLEAR : Fld := fld (0x00700000) 4 1 0
/- ACC_STAT, chapter 09 -/
def ACC_STAT_BUSY : Fld := fld (0x00700004) 0 1 0
def ACC_STAT_REJ : Fld := fld (0x00700004) 1 1 0
/- ACC_CREG_n_CFG, chapter 09 -/
def ACC_CREG_CFG_KIND (n : Nat) : Fld := fld (0x00701000 + 0x40 * (n % 16)) 0 2 0
def ACC_CREG_CFG_FORM (n : Nat) : Fld := fld (0x00701000 + 0x40 * (n % 16)) 2 2 0
def ACC_CREG_CFG_EN (n : Nat) : Fld := fld (0x00701000 + 0x40 * (n % 16)) 4 1 0
/- ACC_CREG_n_BASE, chapter 09 -/
def ACC_CREG_BASE_LINE (n : Nat) : Fld := fld (0x00701004 + 0x40 * (n % 16)) 0 29 0
/- ACC_CREG_n_SIZE, chapter 09 -/
def ACC_CREG_SIZE_LINES (n : Nat) : Fld := fld (0x00701008 + 0x40 * (n % 16)) 0 30 0
/- ACC_CREG_n_POS, chapter 09 -/
def ACC_CREG_POS_WPTR (n : Nat) : Fld := fld (0x00701010 + 0x40 * (n % 16)) 0 30 0
/- ACC_CREG_n_GS, chapter 09 -/
def ACC_CREG_GS_GEN (n : Nat) : Fld := fld (0x00701014 + 0x40 * (n % 16)) 0 8 0
def ACC_CREG_GS_SEQ (n : Nat) : Fld := fld (0x00701014 + 0x40 * (n % 16)) 8 24 0
/- ACC_CREG_n_HOR_LO, chapter 09 -/
def ACC_CREG_HOR_LO_TS (n : Nat) : Fld := fld (0x00701018 + 0x40 * (n % 16)) 0 32 0
/- ACC_CREG_n_HOR_HI, chapter 09 -/
def ACC_CREG_HOR_HI_TS (n : Nat) : Fld := fld (0x0070101C + 0x40 * (n % 16)) 0 32 0
/- ACC_CREG_n_CHMASK_w, chapter 09 -/
def ACC_CREG_CHMASK_CH (n : Nat) (w : Nat) : Fld := fld (0x00701020 + 0x40 * (n % 16) + 4 * (w % 8)) 0 32 0
/- ACC_CREG_n_STAT, chapter 09 -/
def ACC_CREG_STAT_WRAP (n : Nat) : Fld := fld (0x00702000 + 0x10 * (n % 16)) 0 1 0
def ACC_CREG_STAT_FULL (n : Nat) : Fld := fld (0x00702000 + 0x10 * (n % 16)) 1 1 0
def ACC_CREG_STAT_SEALED (n : Nat) : Fld := fld (0x00702000 + 0x10 * (n % 16)) 2 1 0
def ACC_CREG_STAT_MISS (n : Nat) : Fld := fld (0x00702000 + 0x10 * (n % 16)) 3 1 0
def ACC_CREG_STAT_FROZEN (n : Nat) : Fld := fld (0x00702000 + 0x10 * (n % 16)) 4 1 0
def ACC_CREG_STAT_DROP (n : Nat) : Fld := fld (0x00702000 + 0x10 * (n % 16)) 5 1 0
def ACC_CREG_STAT_HVALID (n : Nat) : Fld := fld (0x00702000 + 0x10 * (n % 16)) 16 1 0
def ACC_CREG_STAT_FROZEN_NOW (n : Nat) : Fld := fld (0x00702000 + 0x10 * (n % 16)) 17 1 0
def ACC_CREG_STAT_FULL_NOW (n : Nat) : Fld := fld (0x00702000 + 0x10 * (n % 16)) 18 1 0
/- ACC_CREG_n_EVT_EN, chapter 09 -/
def ACC_CREG_EVT_EN_EN (n : Nat) : Fld := fld (0x00702004 + 0x10 * (n % 16)) 0 6 62
/- ACC_CREG_n_LOST, chapter 09 -/
def ACC_CREG_LOST_CNT (n : Nat) : Fld := fld (0x00702008 + 0x10 * (n % 16)) 0 32 0
/- ACC_CREG_n_FREE, chapter 09 -/
def ACC_CREG_FREE_LINES (n : Nat) : Fld := fld (0x0070200C + 0x10 * (n % 16)) 0 30 0
/-- ACC_CREG_HOR_LO and _HI taken together. -/
def ACC_CREG_HOR (n : Nat) : Fld2 := ⟨ACC_CREG_HOR_LO_TS n, ACC_CREG_HOR_HI_TS n⟩

end Machine
end Sys2Proof
end

