-- ==== Sys2Proof/Machine/RegsCur.lean ====
section
/-!
DEFINITION. The register fields of the CUR block, one name per field row of the spec's register tables
(R479 gives the block base, R485 the index). The arguments are the index variables of the owning chapter;
an index beyond the count of its row is reduced into it.
-/
namespace Sys2Proof
open Sys2Proof

namespace Machine

/- CUR_GCTRL, chapter 16 -/
def CUR_GCTRL_LOCK : Fld := fld (0x00D00000) 0 1 0
/- CUR_STAT, chapter 16 -/
def CUR_STAT_RUN : Fld := fld (0x00D00004) 0 1 0
def CUR_STAT_HALTED : Fld := fld (0x00D00004) 1 1 0
def CUR_STAT_RUN_SLOT : Fld := fld (0x00D00004) 2 2 3
def CUR_STAT_BOOT_SLOT : Fld := fld (0x00D00004) 4 2 0
def CUR_STAT_TRIAL : Fld := fld (0x00D00004) 6 1 0
def CUR_STAT_RESTARTS : Fld := fld (0x00D00004) 8 8 0
def CUR_STAT_WHY : Fld := fld (0x00D00004) 16 3 0
/- CUR_EVT, chapter 16 -/
def CUR_EVT_MBX : Fld := fld (0x00D00008) 0 1 0
def CUR_EVT_UPD : Fld := fld (0x00D00008) 1 1 0
def CUR_EVT_LDG : Fld := fld (0x00D00008) 2 1 0
def CUR_EVT_LDG_DROP : Fld := fld (0x00D00008) 3 1 0
def CUR_EVT_RESTART : Fld := fld (0x00D00008) 4 1 0
def CUR_EVT_HALT : Fld := fld (0x00D00008) 5 1 0
def CUR_EVT_T_WARN : Fld := fld (0x00D00008) 6 1 0
def CUR_EVT_T_CRIT : Fld := fld (0x00D00008) 7 1 0
def CUR_EVT_V_OUT : Fld := fld (0x00D00008) 8 1 0
def CUR_EVT_TAMPER : Fld := fld (0x00D00008) 9 1 0
def CUR_EVT_VLT_CE : Fld := fld (0x00D00008) 10 1 0
def CUR_EVT_VLT_UE : Fld := fld (0x00D00008) 11 1 0
def CUR_EVT_PWR_FAULT : Fld := fld (0x00D00008) 12 1 0
/- CUR_EVT_EN, chapter 16 -/
def CUR_EVT_EN_EN : Fld := fld (0x00D0000C) 0 13 8191
/- CUR_RAM_CE, chapter 16 -/
def CUR_RAM_CE_CNT : Fld := fld (0x00D00010) 0 32 0
/- CUR_WIN, chapter 16 -/
def CUR_WIN_BASE : Fld := fld (0x00D00014) 0 21 0
/- CUR_MBX_CMD, chapter 16 -/
def CUR_MBX_CMD_OP : Fld := fld (0x00D00100) 0 8 0
def CUR_MBX_CMD_SEQ : Fld := fld (0x00D00100) 8 8 0
def CUR_MBX_CMD_GO : Fld := fld (0x00D00100) 16 1 0
/- CUR_MBX_STAT, chapter 16 -/
def CUR_MBX_STAT_BUSY : Fld := fld (0x00D00104) 0 1 0
def CUR_MBX_STAT_VALID : Fld := fld (0x00D00104) 1 1 0
def CUR_MBX_STAT_STATUS : Fld := fld (0x00D00104) 2 6 0
def CUR_MBX_STAT_SEQ : Fld := fld (0x00D00104) 8 8 0
def CUR_MBX_STAT_GEN : Fld := fld (0x00D00104) 16 16 0
/- CUR_MBX_REQ_k, chapter 16 -/
def CUR_MBX_REQ_ARG (k : Nat) : Fld := fld (0x00D00140 + 4 * (k % 16)) 0 32 0
/- CUR_MBX_RSP_k, chapter 16 -/
def CUR_MBX_RSP_VAL (k : Nat) : Fld := fld (0x00D00180 + 4 * (k % 16)) 0 32 0
/- CUR_LDG_CFG, chapter 16 -/
def CUR_LDG_CFG_IRQ_SEV : Fld := fld (0x00D00200) 0 2 0
def CUR_LDG_CFG_RATE : Fld := fld (0x00D00200) 8 8 0
/- CUR_LDG_NEXT, chapter 16 -/
def CUR_LDG_NEXT_SEQ : Fld := fld (0x00D00204) 0 32 0
/- CUR_LDG_OLDEST, chapter 16 -/
def CUR_LDG_OLDEST_SEQ : Fld := fld (0x00D00208) 0 32 0
/- CUR_LDG_QFILL, chapter 16 -/
def CUR_LDG_QFILL_FILL : Fld := fld (0x00D0020C) 0 9 0
/- CUR_LDG_DROP, chapter 16 -/
def CUR_LDG_DROP_CNT : Fld := fld (0x00D00210) 0 32 0
/- CUR_LDG_RD, chapter 16 -/
def CUR_LDG_RD_GO : Fld := fld (0x00D00214) 0 1 0
/- CUR_LDG_RDSEQ, chapter 16 -/
def CUR_LDG_RDSEQ_SEQ : Fld := fld (0x00D00218) 0 32 0
/- CUR_LDG_RDSTAT, chapter 16 -/
def CUR_LDG_RDSTAT_BUSY : Fld := fld (0x00D0021C) 0 1 0
def CUR_LDG_RDSTAT_VALID : Fld := fld (0x00D0021C) 1 1 0
def CUR_LDG_RDSTAT_ERR : Fld := fld (0x00D0021C) 2 2 0
def CUR_LDG_RDSTAT_GEN : Fld := fld (0x00D0021C) 16 16 0
/- CUR_LDG_DATA_k, chapter 16 -/
def CUR_LDG_DATA_BYTES (k : Nat) : Fld := fld (0x00D00220 + 4 * (k % 8)) 0 32 0
/- CUR_TEMP_i, chapter 16 -/
def CUR_TEMP_VAL (i : Nat) : Fld := fld (0x00D00400 + 4 * (i % 24)) 0 12 0
def CUR_TEMP_VALID (i : Nat) : Fld := fld (0x00D00400 + 4 * (i % 24)) 31 1 0
/- CUR_VOLT_j, chapter 16 -/
def CUR_VOLT_MV (j : Nat) : Fld := fld (0x00D00480 + 4 * (j % 16)) 0 14 0
def CUR_VOLT_VALID (j : Nat) : Fld := fld (0x00D00480 + 4 * (j % 16)) 31 1 0
/- CUR_TLIM_i, chapter 16 -/
def CUR_TLIM_WARN (i : Nat) : Fld := fld (0x00D00500 + 4 * (i % 24)) 0 12 0
def CUR_TLIM_CRIT (i : Nat) : Fld := fld (0x00D00500 + 4 * (i % 24)) 16 12 0
/- CUR_VLIM_j, chapter 16 -/
def CUR_VLIM_LO (j : Nat) : Fld := fld (0x00D00580 + 4 * (j % 16)) 0 14 0
def CUR_VLIM_HI (j : Nat) : Fld := fld (0x00D00580 + 4 * (j % 16)) 16 14 0
/- CUR_TEVT, chapter 16 -/
def CUR_TEVT_PT : Fld := fld (0x00D00600) 0 24 0
/- CUR_VEVT, chapter 16 -/
def CUR_VEVT_MON : Fld := fld (0x00D00604) 0 16 0
/- CUR_TAMPER, chapter 16 -/
def CUR_TAMPER_LEVEL : Fld := fld (0x00D00608) 0 1 0
def CUR_TAMPER_SEEN : Fld := fld (0x00D00608) 1 1 0
/- CUR_LIFE_HOURS, chapter 16 -/
def CUR_LIFE_HOURS_H : Fld := fld (0x00D00700) 0 32 0
/- CUR_LIFE_AVG, chapter 16 -/
def CUR_LIFE_AVG_T : Fld := fld (0x00D00704) 0 16 0
/- CUR_LIFE_BAND_b, chapter 16 -/
def CUR_LIFE_BAND_H (b : Nat) : Fld := fld (0x00D00740 + 4 * (b % 16)) 0 32 0
/- CUR_PWR_STAT, chapter 16 -/
def CUR_PWR_STAT_EN : Fld := fld (0x00D00800) 0 8 0
def CUR_PWR_STAT_PG : Fld := fld (0x00D00800) 8 8 0
def CUR_PWR_STAT_STATE : Fld := fld (0x00D00800) 16 3 0
def CUR_PWR_STAT_FAULT_CH : Fld := fld (0x00D00800) 20 3 0
/- CUR_PWR_DOM, chapter 16 -/
def CUR_PWR_DOM_ON : Fld := fld (0x00D00804) 0 11 0
/- CUR_PWR_FAULTS, chapter 16 -/
def CUR_PWR_FAULTS_CNT : Fld := fld (0x00D00808) 0 32 0
/- CUR_VLT_PASS, chapter 16 -/
def CUR_VLT_PASS_CNT : Fld := fld (0x00D00900) 0 32 0
/- CUR_VLT_CE, chapter 16 -/
def CUR_VLT_CE_CNT : Fld := fld (0x00D00904) 0 32 0
/- CUR_VLT_UE, chapter 16 -/
def CUR_VLT_UE_CNT : Fld := fld (0x00D00908) 0 32 0
/- CUR_SLOT_x, chapter 16 -/
def CUR_SLOT_STATE (x : Nat) : Fld := fld (0x00D00910 + 4 * (x % 3)) 0 3 0
def CUR_SLOT_PAGES (x : Nat) : Fld := fld (0x00D00910 + 4 * (x % 3)) 8 13 0

end Machine
end Sys2Proof
end

