-- ==== Sys2Proof/Machine/RegsGlb.lean ====
section
/-!
DEFINITION. The register fields of the GLB block, one name per field row of the spec's register tables
(R479 gives the block base, R485 the index). The arguments are the index variables of the owning chapter;
an index beyond the count of its row is reduced into it.
-/
namespace Sys2Proof
open Sys2Proof

namespace Machine

/- GLB_SLK_CTRL, chapter 01 -/
def GLB_SLK_CTRL_EN : Fld := fld (0x00000400) 0 1 1
def GLB_SLK_CTRL_CLR_MIN : Fld := fld (0x00000400) 1 1 0
def GLB_SLK_CTRL_FLOOR : Fld := fld (0x00000400) 8 8 10
def GLB_SLK_CTRL_WIN : Fld := fld (0x00000400) 16 4 4
/- GLB_SLK_WORST, chapter 01 -/
def GLB_SLK_WORST_MARGIN : Fld := fld (0x00000404) 0 8 100
def GLB_SLK_WORST_STAGE : Fld := fld (0x00000404) 8 4 0
/- GLB_SLK_ALARM, chapter 01 -/
def GLB_SLK_ALARM_STAGE : Fld := fld (0x00000408) 0 16 0
/- GLB_SLK_MARGIN_n, chapter 01 -/
def GLB_SLK_MARGIN_CUR (n : Nat) : Fld := fld (0x00000440 + 4 * (n % 16)) 0 8 100
def GLB_SLK_MARGIN_MIN (n : Nat) : Fld := fld (0x00000440 + 4 * (n % 16)) 8 8 100
def GLB_SLK_MARGIN_BUDGET (n : Nat) : Fld := fld (0x00000440 + 4 * (n % 16)) 16 8 0
/- GLB_EB_STAT_t, chapter 01 -/
def GLB_EB_STAT_FILL (t : Nat) : Fld := fld (0x00000480 + 4 * (t % 8)) 0 13 0
def GLB_EB_STAT_PEAK (t : Nat) : Fld := fld (0x00000480 + 4 * (t % 8)) 16 13 0
def GLB_EB_STAT_DROPPING (t : Nat) : Fld := fld (0x00000480 + 4 * (t % 8)) 31 1 0
/- GLB_EB_OVF_t, chapter 01 -/
def GLB_EB_OVF_CNT (t : Nat) : Fld := fld (0x000004A0 + 4 * (t % 8)) 0 32 0
/- GLB_EB_DROP_t, chapter 01 -/
def GLB_EB_DROP_WORDS (t : Nat) : Fld := fld (0x000004C0 + 4 * (t % 8)) 0 32 0
/- GLB_EB_CLR, chapter 01 -/
def GLB_EB_CLR_TILE : Fld := fld (0x000004E0) 0 8 0
/- GLB_MODE, chapter 02 -/
def GLB_MODE_MODE : Fld := fld (0x00000100) 0 3 0
def GLB_MODE_DOUBLE : Fld := fld (0x00000100) 4 1 0
/- GLB_MODE_STAT, chapter 02 -/
def GLB_MODE_STAT_CUR : Fld := fld (0x00000104) 0 3 0
def GLB_MODE_STAT_BUSY : Fld := fld (0x00000104) 3 1 0
def GLB_MODE_STAT_TARGET : Fld := fld (0x00000104) 4 3 0
def GLB_MODE_STAT_DOUBLE_ACT : Fld := fld (0x00000104) 7 1 0
def GLB_MODE_STAT_REJ_CODE : Fld := fld (0x00000104) 8 4 0
def GLB_MODE_STAT_REJ : Fld := fld (0x00000104) 12 1 0
def GLB_MODE_STAT_FORCED : Fld := fld (0x00000104) 13 1 0
def GLB_MODE_STAT_GEN : Fld := fld (0x00000104) 16 16 0
/- GLB_MODE_START_LO, chapter 02 -/
def GLB_MODE_START_LO_TS : Fld := fld (0x00000108) 0 32 0
/- GLB_MODE_START_HI, chapter 02 -/
def GLB_MODE_START_HI_TS : Fld := fld (0x0000010C) 0 32 0
/- GLB_MODE_STOP_LO, chapter 02 -/
def GLB_MODE_STOP_LO_TS : Fld := fld (0x00000110) 0 32 0
/- GLB_MODE_STOP_HI, chapter 02 -/
def GLB_MODE_STOP_HI_TS : Fld := fld (0x00000114) 0 32 0
/- GLB_TILE_SVC, chapter 02 -/
def GLB_TILE_SVC_REQ : Fld := fld (0x00000120) 0 15 0
/- GLB_TILE_SVC_STAT, chapter 02 -/
def GLB_TILE_SVC_STAT_ACT : Fld := fld (0x00000124) 0 15 0
def GLB_TILE_SVC_STAT_REJ : Fld := fld (0x00000124) 16 15 0
/- GLB_ARC_CTRL, chapter 02 -/
def GLB_ARC_CTRL_DIV : Fld := fld (0x00000130) 0 14 0
/- GLB_FLT_COND, chapter 19 -/
def GLB_FLT_COND_ENV : Fld := fld (0x00000600) 0 1 0
def GLB_FLT_COND_IMAGE : Fld := fld (0x00000600) 1 1 0
def GLB_FLT_COND_PATROL : Fld := fld (0x00000600) 2 1 0
def GLB_FLT_COND_CURATOR : Fld := fld (0x00000600) 3 1 0
def GLB_FLT_COND_MARGIN : Fld := fld (0x00000600) 4 4 0
def GLB_FLT_COND_GUAR : Fld := fld (0x00000600) 8 1 0
/- GLB_FLT_EVT, chapter 19 -/
def GLB_FLT_EVT_DP_PAR : Fld := fld (0x00000604) 0 1 0
def GLB_FLT_EVT_DP_WDT : Fld := fld (0x00000604) 1 1 0
def GLB_FLT_EVT_DP_STUCK : Fld := fld (0x00000604) 2 1 0
def GLB_FLT_EVT_GUAR_LOST : Fld := fld (0x00000604) 3 1 0
def GLB_FLT_EVT_GUAR_BACK : Fld := fld (0x00000604) 4 1 0
def GLB_FLT_EVT_CUR_HALT : Fld := fld (0x00000604) 5 1 0
def GLB_FLT_EVT_PROFILE : Fld := fld (0x00000604) 6 1 0
/- GLB_FLT_EVT_EN, chapter 19 -/
def GLB_FLT_EVT_EN_EN : Fld := fld (0x00000608) 0 7 127
/- GLB_FLT_LAST, chapter 19 -/
def GLB_FLT_LAST_STAGE : Fld := fld (0x0000060C) 0 4 0
def GLB_FLT_LAST_KIND : Fld := fld (0x0000060C) 4 2 0
def GLB_FLT_LAST_STUCK : Fld := fld (0x0000060C) 6 1 0
/- GLB_FLT_SUM, chapter 19 -/
def GLB_FLT_SUM_BLK : Fld := fld (0x00000610) 0 12 0
/- GLB_FLT_GLOST_CNT, chapter 19 -/
def GLB_FLT_GLOST_CNT_CNT : Fld := fld (0x00000614) 0 32 0
/- GLB_FLT_DP_n, chapter 19 -/
def GLB_FLT_DP_PAR (n : Nat) : Fld := fld (0x00000640 + 4 * (n % 16)) 0 16 0
def GLB_FLT_DP_WDT (n : Nat) : Fld := fld (0x00000640 + 4 * (n % 16)) 16 16 0
/- GLB_FLT_PROF, chapter 19 -/
def GLB_FLT_PROF_AVG : Fld := fld (0x00000680) 0 1 0
def GLB_FLT_PROF_HOT : Fld := fld (0x00000680) 1 1 0
def GLB_FLT_PROF_BIN3 : Fld := fld (0x00000680) 2 1 0
def GLB_FLT_PROF_NOPAT : Fld := fld (0x00000680) 3 1 0
/- GLB_FLT_BIN3_H, chapter 19 -/
def GLB_FLT_BIN3_H_H : Fld := fld (0x00000684) 0 32 0
/- GLB_FLT_NOPAT_H, chapter 19 -/
def GLB_FLT_NOPAT_H_H : Fld := fld (0x00000688) 0 32 0
/- GLB_ID, chapter 21 -/
def GLB_ID_DEVICE : Fld := fld (0x00000000) 0 16 5632
def GLB_ID_REV : Fld := fld (0x00000000) 16 8 0
/- GLB_VENDOR, chapter 21 -/
def GLB_VENDOR_VENDOR : Fld := fld (0x00000004) 0 16 8090
/- GLB_SERIAL_LO, chapter 21 -/
def GLB_SERIAL_LO_SERIAL : Fld := fld (0x00000008) 0 32 0
/- GLB_SERIAL_HI, chapter 21 -/
def GLB_SERIAL_HI_SERIAL : Fld := fld (0x0000000C) 0 32 0
/- GLB_STATUS, chapter 21 -/
def GLB_STATUS_BAD_ENC : Fld := fld (0x00000010) 0 1 0
/- GLB_BAD_ENC_LOG, chapter 21 -/
def GLB_BAD_ENC_LOG_OFFS : Fld := fld (0x00000014) 2 24 0
def GLB_BAD_ENC_LOG_MASTER : Fld := fld (0x00000014) 26 2 0
/- GLB_GCTRL, chapter 21 -/
def GLB_GCTRL_LOCK : Fld := fld (0x00000018) 0 1 0
def GLB_GCTRL_LOCK_ALL : Fld := fld (0x00000018) 1 1 0
/-- GLB_MODE_START_LO and _HI taken together. -/
def GLB_MODE_START : Fld2 := ⟨GLB_MODE_START_LO_TS, GLB_MODE_START_HI_TS⟩
/-- GLB_MODE_STOP_LO and _HI taken together. -/
def GLB_MODE_STOP : Fld2 := ⟨GLB_MODE_STOP_LO_TS, GLB_MODE_STOP_HI_TS⟩
/-- GLB_SERIAL_LO and _HI taken together. -/
def GLB_SERIAL : Fld2 := ⟨GLB_SERIAL_LO_SERIAL, GLB_SERIAL_HI_SERIAL⟩

end Machine
end Sys2Proof
end

