-- ==== Sys2Proof/Machine/RegsHost.lean ====
section
/-!
DEFINITION. The register fields of the HOST block, one name per field row of the spec's register tables
(R479 gives the block base, R485 the index). The arguments are the index variables of the owning chapter;
an index beyond the count of its row is reduced into it.
-/
namespace Sys2Proof
open Sys2Proof

namespace Machine

/- HOST_GCTRL, chapter 14 -/
def HOST_GCTRL_LOCK : Fld := fld (0x00B00000) 0 1 0
/- HOST_LINK_STAT, chapter 14 -/
def HOST_LINK_STAT_SPEED : Fld := fld (0x00B00004) 0 4 0
def HOST_LINK_STAT_WIDTH : Fld := fld (0x00B00004) 4 6 0
def HOST_LINK_STAT_FLIT : Fld := fld (0x00B00004) 10 1 0
def HOST_LINK_STAT_DSTATE : Fld := fld (0x00B00004) 11 2 0
/- HOST_RST_CFG, chapter 14 -/
def HOST_RST_CFG_KEEP : Fld := fld (0x00B00008) 0 1 0
/- HOST_RST_STAT, chapter 14 -/
def HOST_RST_STAT_FUND : Fld := fld (0x00B0000C) 0 1 1
def HOST_RST_STAT_LINK : Fld := fld (0x00B0000C) 1 1 0
def HOST_RST_STAT_HOT : Fld := fld (0x00B0000C) 2 1 0
def HOST_RST_STAT_FLR : Fld := fld (0x00B0000C) 3 1 0
/- HOST_EVT, chapter 14 -/
def HOST_EVT_CTO : Fld := fld (0x00B00010) 0 1 0
def HOST_EVT_UNEXP : Fld := fld (0x00B00010) 1 1 0
def HOST_EVT_WIN_MISS : Fld := fld (0x00B00010) 2 1 0
def HOST_EVT_POISON_TX : Fld := fld (0x00B00010) 3 1 0
def HOST_EVT_DENIED : Fld := fld (0x00B00010) 4 1 0
def HOST_EVT_EVQ_OVF : Fld := fld (0x00B00010) 5 1 0
/- HOST_EVT_EN, chapter 14 -/
def HOST_EVT_EN_EN : Fld := fld (0x00B00014) 0 6 63
/- HOST_CTO_CFG, chapter 14 -/
def HOST_CTO_CFG_QUAR_MS : Fld := fld (0x00B00020) 0 16 1000
/- HOST_CTO_CNT, chapter 14 -/
def HOST_CTO_CNT_CNT : Fld := fld (0x00B00024) 0 32 0
/- HOST_UNEXP_CNT, chapter 14 -/
def HOST_UNEXP_CNT_CNT : Fld := fld (0x00B00028) 0 32 0
/- HOST_QUAR_STAT, chapter 14 -/
def HOST_QUAR_STAT_TAGS : Fld := fld (0x00B0002C) 0 11 0
/- HOST_CTO_LOG, chapter 14 -/
def HOST_CTO_LOG_TAG : Fld := fld (0x00B00030) 0 10 0
def HOST_CTO_LOG_KIND : Fld := fld (0x00B00030) 10 2 0
def HOST_CTO_LOG_CHAN : Fld := fld (0x00B00030) 12 3 0
/- HOST_UNEXP_LOG, chapter 14 -/
def HOST_UNEXP_LOG_TAG : Fld := fld (0x00B00034) 0 10 0
def HOST_UNEXP_LOG_QUAR : Fld := fld (0x00B00034) 10 1 0
def HOST_UNEXP_LOG_CPLID : Fld := fld (0x00B00034) 16 16 0
/- HOST_DENY_CNT, chapter 14 -/
def HOST_DENY_CNT_CNT : Fld := fld (0x00B00038) 0 32 0
/- HOST_POISON_CNT, chapter 14 -/
def HOST_POISON_CNT_CNT : Fld := fld (0x00B0003C) 0 32 0
/- HOST_WIN_MISS_CNT, chapter 14 -/
def HOST_WIN_MISS_CNT_CNT : Fld := fld (0x00B00040) 0 32 0
/- HOST_ATS_INV, chapter 14 -/
def HOST_ATS_INV_CNT : Fld := fld (0x00B00044) 0 32 0
/- HOST_IRQ_EOI, chapter 14 -/
def HOST_IRQ_EOI_VEC : Fld := fld (0x00B00100) 0 6 0
/- HOST_IRQ_ASRT_LO, chapter 14 -/
def HOST_IRQ_ASRT_LO_VEC : Fld := fld (0x00B00104) 0 32 0
/- HOST_IRQ_ASRT_HI, chapter 14 -/
def HOST_IRQ_ASRT_HI_VEC : Fld := fld (0x00B00108) 0 32 0
/- HOST_IRQ_INSVC_LO, chapter 14 -/
def HOST_IRQ_INSVC_LO_VEC : Fld := fld (0x00B0010C) 0 32 0
/- HOST_IRQ_INSVC_HI, chapter 14 -/
def HOST_IRQ_INSVC_HI_VEC : Fld := fld (0x00B00110) 0 32 0
/- HOST_BAR2, chapter 14 -/
def HOST_BAR2_LOG2 : Fld := fld (0x00B00200) 0 6 30
def HOST_BAR2_PEND : Fld := fld (0x00B00200) 8 6 30
/- HOST_EVQ_DATA_k, chapter 14 -/
def HOST_EVQ_DATA_ITEM (k : Nat) : Fld := fld (0x00B01000 + 4 * (k % 8)) 0 32 0
/- HOST_EVQ_POP, chapter 14 -/
def HOST_EVQ_POP_POP : Fld := fld (0x00B01020) 0 1 0
/- HOST_EVQ_STAT, chapter 14 -/
def HOST_EVQ_STAT_COUNT : Fld := fld (0x00B01024) 0 13 0
def HOST_EVQ_STAT_LATCHED : Fld := fld (0x00B01024) 13 1 0
def HOST_EVQ_STAT_LOST : Fld := fld (0x00B01024) 16 16 0
/- HOST_WIN_CMD, chapter 14 -/
def HOST_WIN_CMD_COMMIT : Fld := fld (0x00B02000) 0 1 0
/- HOST_WIN_STAT, chapter 14 -/
def HOST_WIN_STAT_REJ : Fld := fld (0x00B02004) 0 1 0
def HOST_WIN_STAT_WHY : Fld := fld (0x00B02004) 1 3 0
def HOST_WIN_STAT_WIN : Fld := fld (0x00B02004) 4 4 0
def HOST_WIN_STAT_GEN : Fld := fld (0x00B02004) 16 16 0
/- HOST_WIN_w_CFG, chapter 14 -/
def HOST_WIN_CFG_EN (w : Nat) : Fld := fld (0x00B02100 + 0x10 * (w % 16)) 0 1 0
def HOST_WIN_CFG_RO (w : Nat) : Fld := fld (0x00B02100 + 0x10 * (w % 16)) 1 1 0
def HOST_WIN_CFG_SIZE (w : Nat) : Fld := fld (0x00B02100 + 0x10 * (w % 16)) 2 6 0
/- HOST_WIN_w_AP, chapter 14 -/
def HOST_WIN_AP_BASE (w : Nat) : Fld := fld (0x00B02104 + 0x10 * (w % 16)) 0 17 0
/- HOST_WIN_w_CAP, chapter 14 -/
def HOST_WIN_CAP_BASE (w : Nat) : Fld := fld (0x00B02108 + 0x10 * (w % 16)) 0 17 0
/- HOST_DMA_c_RING_LO, chapter 14 -/
def HOST_DMA_RING_LO_ADDR (c : Nat) : Fld := fld (0x00B03000 + 0x40 * (c % 8)) 6 26 0
/- HOST_DMA_c_RING_HI, chapter 14 -/
def HOST_DMA_RING_HI_ADDR (c : Nat) : Fld := fld (0x00B03004 + 0x40 * (c % 8)) 0 32 0
/- HOST_DMA_c_RING_CFG, chapter 14 -/
def HOST_DMA_RING_CFG_LOG2 (c : Nat) : Fld := fld (0x00B03008 + 0x40 * (c % 8)) 0 5 2
def HOST_DMA_RING_CFG_FROM (c : Nat) : Fld := fld (0x00B03008 + 0x40 * (c % 8)) 8 1 0
def HOST_DMA_RING_CFG_EPF (c : Nat) : Fld := fld (0x00B03008 + 0x40 * (c % 8)) 9 1 0
def HOST_DMA_RING_CFG_FLUSH_US (c : Nat) : Fld := fld (0x00B03008 + 0x40 * (c % 8)) 16 16 100
/- HOST_DMA_c_TAIL, chapter 14 -/
def HOST_DMA_TAIL_IDX (c : Nat) : Fld := fld (0x00B0300C + 0x40 * (c % 8)) 0 32 0
/- HOST_DMA_c_HEAD, chapter 14 -/
def HOST_DMA_HEAD_IDX (c : Nat) : Fld := fld (0x00B03010 + 0x40 * (c % 8)) 0 32 0
/- HOST_DMA_c_CTRL, chapter 14 -/
def HOST_DMA_CTRL_EN (c : Nat) : Fld := fld (0x00B03014 + 0x40 * (c % 8)) 0 1 0
def HOST_DMA_CTRL_ABORT (c : Nat) : Fld := fld (0x00B03014 + 0x40 * (c % 8)) 1 1 0
/- HOST_DMA_c_STAT, chapter 14 -/
def HOST_DMA_STAT_STATE (c : Nat) : Fld := fld (0x00B03018 + 0x40 * (c % 8)) 0 2 0
def HOST_DMA_STAT_VALID (c : Nat) : Fld := fld (0x00B03018 + 0x40 * (c % 8)) 2 1 0
def HOST_DMA_STAT_ERR (c : Nat) : Fld := fld (0x00B03018 + 0x40 * (c % 8)) 3 4 0
def HOST_DMA_STAT_TAIL_REJ (c : Nat) : Fld := fld (0x00B03018 + 0x40 * (c % 8)) 7 1 0
def HOST_DMA_STAT_GEN (c : Nat) : Fld := fld (0x00B03018 + 0x40 * (c % 8)) 16 16 0
/- HOST_DMA_c_EVT, chapter 14 -/
def HOST_DMA_EVT_DESC (c : Nat) : Fld := fld (0x00B0301C + 0x40 * (c % 8)) 0 1 0
def HOST_DMA_EVT_END (c : Nat) : Fld := fld (0x00B0301C + 0x40 * (c % 8)) 1 1 0
/- HOST_DMA_c_EVT_EN, chapter 14 -/
def HOST_DMA_EVT_EN_EN (c : Nat) : Fld := fld (0x00B03020 + 0x40 * (c % 8)) 0 2 3
/- HOST_DMA_c_LOST, chapter 14 -/
def HOST_DMA_LOST_CNT (c : Nat) : Fld := fld (0x00B03024 + 0x40 * (c % 8)) 0 32 0
/- HOST_DMA_c_BYTES_LO, chapter 14 -/
def HOST_DMA_BYTES_LO_CNT (c : Nat) : Fld := fld (0x00B03028 + 0x40 * (c % 8)) 0 32 0
/- HOST_DMA_c_BYTES_HI, chapter 14 -/
def HOST_DMA_BYTES_HI_CNT (c : Nat) : Fld := fld (0x00B0302C + 0x40 * (c % 8)) 0 32 0
/-- HOST_IRQ_ASRT_LO and _HI taken together. -/
def HOST_IRQ_ASRT : Fld2 := ⟨HOST_IRQ_ASRT_LO_VEC, HOST_IRQ_ASRT_HI_VEC⟩
/-- HOST_IRQ_INSVC_LO and _HI taken together. -/
def HOST_IRQ_INSVC : Fld2 := ⟨HOST_IRQ_INSVC_LO_VEC, HOST_IRQ_INSVC_HI_VEC⟩
/-- HOST_DMA_RING_LO and _HI taken together. -/
def HOST_DMA_RING (c : Nat) : Fld2 := ⟨HOST_DMA_RING_LO_ADDR c, HOST_DMA_RING_HI_ADDR c⟩
/-- HOST_DMA_BYTES_LO and _HI taken together. -/
def HOST_DMA_BYTES (c : Nat) : Fld2 := ⟨HOST_DMA_BYTES_LO_CNT c, HOST_DMA_BYTES_HI_CNT c⟩

end Machine
end Sys2Proof
end

