-- ==== Sys2Proof/Machine/RegsPcie.lean ====
section
/-!
DEFINITION. The fields of configuration space (R321 to R323). The spec gives the structures, their offsets and the values
the engine fixes; the places of the fields inside each structure are those of PCI Express Base Specification 6.0, to which
the chapter refers (PRESUMED). They are kept beside the BAR 0 fields, at byte offsets from 2^32 on.
-/
namespace Sys2Proof
namespace Machine

/-- A field of configuration space. -/
def cfld (off lsb width reset : Nat) : Fld := fld (2 ^ 32 + off) lsb width reset

def CS_MSE : Fld := cfld 0x04 1 1 0
def CS_BME : Fld := cfld 0x04 2 1 0
def CS_INT_DIS : Fld := cfld 0x04 10 1 0
def CS_SVID : Fld := cfld 0x2C 0 16 0x1F9A
def CS_SID : Fld := cfld 0x2C 16 16 0
def CS_PM_STATE : Fld := cfld 0x44 0 2 0
def CS_PME_EN : Fld := cfld 0x44 8 1 0
def CS_PME_STATUS : Fld := cfld 0x44 15 1 0
def CS_MSI_EN : Fld := cfld 0x50 16 1 0
def CS_MSI_MME : Fld := cfld 0x50 20 3 0
def CS_MSI_MASK : Fld := cfld 0x60 0 32 0
def CS_MSI_PEND : Fld := cfld 0x64 0 32 0
def CS_MPS : Fld := cfld 0x78 5 3 0
def CS_MRRS : Fld := cfld 0x78 12 3 2
def CS_FLR : Fld := cfld 0x78 15 1 0
def CS_CTO_DIS : Fld := cfld 0x98 4 1 0
def CS_MSIX_FMASK : Fld := cfld 0xB0 30 1 0
def CS_MSIX_EN : Fld := cfld 0xB0 31 1 0
def CS_AER_UE : Fld := cfld 0x104 0 32 0
def CS_ATS_EN : Fld := cfld 0x15C 31 1 0

/-- How a field of configuration space answers a write: fixed, written, cleared by ones. -/
inductive CfgTy where
  | ro | rw | w1c
  deriving DecidableEq, Repr

/-- A row of configuration space: the field, its type, and whether a hot reset keeps it (sticky). -/
structure CfgRow where
  fld : Fld
  ty : CfgTy
  sticky : Bool
  deriving DecidableEq, Repr

/-- The fields of configuration space, except the base address registers and what is read from registers of the engine
(revision, serial number, link status). -/
def cfgRows : List CfgRow :=
  [ ⟨cfld 0x00 0 16 0x1F9A, .ro, false⟩, ⟨cfld 0x00 16 16 0x1600, .ro, false⟩
  , ⟨CS_MSE, .rw, false⟩, ⟨CS_BME, .rw, false⟩, ⟨cfld 0x04 6 1 0, .rw, false⟩, ⟨cfld 0x04 8 1 0, .rw, false⟩, ⟨CS_INT_DIS, .rw, false⟩
  , ⟨cfld 0x04 20 1 1, .ro, false⟩, ⟨cfld 0x04 24 1 0, .w1c, false⟩, ⟨cfld 0x04 27 5 0, .w1c, false⟩
  , ⟨cfld 0x08 8 24 0x118000, .ro, false⟩, ⟨cfld 0x0C 0 8 0, .rw, false⟩
  , ⟨CS_SVID, .ro, true⟩, ⟨CS_SID, .ro, true⟩
  , ⟨cfld 0x34 0 8 0x40, .ro, false⟩, ⟨cfld 0x3C 0 8 0, .rw, false⟩, ⟨cfld 0x3C 8 8 1, .ro, false⟩
  , ⟨cfld 0x40 0 32 0xC8035001, .ro, false⟩
  , ⟨CS_PM_STATE, .rw, false⟩, ⟨cfld 0x44 3 1 1, .ro, false⟩, ⟨CS_PME_EN, .rw, true⟩, ⟨CS_PME_STATUS, .w1c, true⟩
  , ⟨cfld 0x50 0 16 0x7005, .ro, false⟩, ⟨CS_MSI_EN, .rw, false⟩, ⟨cfld 0x50 17 3 5, .ro, false⟩, ⟨CS_MSI_MME, .rw, false⟩
  , ⟨cfld 0x50 23 2 3, .ro, false⟩, ⟨cfld 0x54 2 30 0, .rw, false⟩, ⟨cfld 0x58 0 32 0, .rw, false⟩, ⟨cfld 0x5C 0 16 0, .rw, false⟩
  , ⟨CS_MSI_MASK, .rw, false⟩, ⟨CS_MSI_PEND, .ro, false⟩
  , ⟨cfld 0x70 0 32 0x2B010, .ro, false⟩, ⟨cfld 0x74 0 32 0x10008022, .ro, false⟩
  , ⟨cfld 0x78 0 4 0, .rw, false⟩, ⟨CS_MPS, .rw, false⟩, ⟨cfld 0x78 8 1 1, .rw, false⟩, ⟨CS_MRRS, .rw, false⟩
  , ⟨cfld 0x78 16 4 0, .w1c, false⟩
  , ⟨cfld 0x7C 0 12 0x906, .ro, false⟩, ⟨cfld 0x80 0 2 0, .rw, false⟩, ⟨cfld 0x80 6 2 0, .rw, false⟩
  , ⟨cfld 0x94 0 32 0x3001F, .ro, false⟩, ⟨cfld 0x98 0 4 0, .rw, false⟩, ⟨CS_CTO_DIS, .rw, false⟩, ⟨cfld 0x98 12 1 0, .rw, false⟩
  , ⟨cfld 0x9C 1 6 0x3F, .ro, false⟩, ⟨cfld 0xA0 0 4 6, .rw, true⟩
  , ⟨cfld 0xB0 0 30 0x3F0011, .ro, false⟩, ⟨CS_MSIX_FMASK, .rw, false⟩, ⟨CS_MSIX_EN, .rw, false⟩
  , ⟨cfld 0xB4 0 32 4, .ro, false⟩, ⟨cfld 0xB8 0 32 0x8004, .ro, false⟩
  , ⟨cfld 0x100 0 32 0x14820001, .ro, false⟩, ⟨CS_AER_UE, .w1c, true⟩, ⟨cfld 0x108 0 32 0, .rw, true⟩
  , ⟨cfld 0x10C 0 32 0x462030, .rw, true⟩, ⟨cfld 0x110 0 32 0, .w1c, true⟩, ⟨cfld 0x114 0 32 0x2000, .rw, true⟩
  , ⟨cfld 0x148 0 32 0x15810003, .ro, false⟩
  , ⟨cfld 0x158 0 32 0x1681000F, .ro, false⟩, ⟨cfld 0x15C 0 6 0x20, .ro, false⟩, ⟨cfld 0x15C 16 5 0, .rw, false⟩, ⟨CS_ATS_EN, .rw, false⟩
  , ⟨cfld 0x168 0 32 0x18810019, .ro, false⟩, ⟨cfld 0x188 0 32 0x19810025, .ro, false⟩, ⟨cfld 0x198 0 32 0x1C010026, .ro, false⟩
  , ⟨cfld 0x1C0 0 32 0x1E010027, .ro, false⟩, ⟨cfld 0x1E0 0 32 0x2201002A, .ro, false⟩, ⟨cfld 0x220 0 32 0x00010031, .ro, false⟩ ]

/-- The base address registers: offset, fixed low bits, 64-bit, log2 of the size (none: HOST_BAR2.LOG2). -/
def barRows : List (Nat × Nat × Bool × Option Nat) :=
  [(0x10, 4, true, some 26), (0x18, 0xC, true, none), (0x20, 4, true, some 16), (0x30, 0, false, some 18)]

/-- The stored word of a base address register. -/
def CS_BAR (off : Nat) : Fld := cfld off 0 32 0

end Machine
end Sys2Proof
end

