-- ==== Sys2Proof/Machine/RegsTime.lean ====
section
/-!
DEFINITION. The register fields of the TIME block, one name per field row of the spec's register tables
(R479 gives the block base, R485 the index). The arguments are the index variables of the owning chapter;
an index beyond the count of its row is reduced into it.
-/
namespace Sys2Proof
open Sys2Proof

namespace Machine

/- TIME_GCTRL, chapter 06 -/
def TIME_GCTRL_LOCK : Fld := fld (0x00400000) 0 1 0
/- TIME_CMD, chapter 06 -/
def TIME_CMD_OP : Fld := fld (0x00400004) 0 3 0
def TIME_CMD_AT : Fld := fld (0x00400004) 3 1 0
def TIME_CMD_BUSY : Fld := fld (0x00400004) 4 1 0
/- TIME_SET_LO, chapter 06 -/
def TIME_SET_LO_VAL : Fld := fld (0x00400008) 0 32 0
/- TIME_SET_HI, chapter 06 -/
def TIME_SET_HI_VAL : Fld := fld (0x0040000C) 0 32 0
/- TIME_TODSET_SEC_LO, chapter 06 -/
def TIME_TODSET_SEC_LO_SEC : Fld := fld (0x00400010) 0 32 0
/- TIME_TODSET_SEC_HI, chapter 06 -/
def TIME_TODSET_SEC_HI_SEC : Fld := fld (0x00400014) 0 16 0
/- TIME_TODSET_TICK_LO, chapter 06 -/
def TIME_TODSET_TICK_LO_TICK : Fld := fld (0x00400018) 0 32 0
/- TIME_TODSET_TICK_HI, chapter 06 -/
def TIME_TODSET_TICK_HI_TICK : Fld := fld (0x0040001C) 0 2 0
/- TIME_TS_LO, chapter 06 -/
def TIME_TS_LO_TS : Fld := fld (0x00400020) 0 32 0
/- TIME_TS_HI, chapter 06 -/
def TIME_TS_HI_TS : Fld := fld (0x00400024) 0 32 0
/- TIME_TOD_SEC_LO, chapter 06 -/
def TIME_TOD_SEC_LO_SEC : Fld := fld (0x00400028) 0 32 0
/- TIME_TOD_SEC_HI, chapter 06 -/
def TIME_TOD_SEC_HI_SEC : Fld := fld (0x0040002C) 0 16 0
/- TIME_TOD_TICK_LO, chapter 06 -/
def TIME_TOD_TICK_LO_TICK : Fld := fld (0x00400030) 0 32 0
/- TIME_TOD_TICK_HI, chapter 06 -/
def TIME_TOD_TICK_HI_TICK : Fld := fld (0x00400034) 0 2 0
/- TIME_EPOCH, chapter 06 -/
def TIME_EPOCH_GEN : Fld := fld (0x00400038) 0 16 0
/- TIME_RATE, chapter 06 -/
def TIME_RATE_RATE : Fld := fld (0x00400040) 0 22 0
/- TIME_STEER_CFG, chapter 06 -/
def TIME_STEER_CFG_MODE : Fld := fld (0x00400044) 0 2 0
def TIME_STEER_CFG_TAU : Fld := fld (0x00400044) 4 4 4
def TIME_STEER_CFG_STEP_EN : Fld := fld (0x00400044) 8 1 1
def TIME_STEER_CFG_PPS_POL : Fld := fld (0x00400044) 9 1 0
/- TIME_PPS_QUAL, chapter 06 -/
def TIME_PPS_QUAL_TOL : Fld := fld (0x00400048) 0 16 10000
/- TIME_PPS_DLY, chapter 06 -/
def TIME_PPS_DLY_DLY : Fld := fld (0x0040004C) 0 24 0
/- TIME_STEER_STAT, chapter 06 -/
def TIME_STEER_STAT_STATE : Fld := fld (0x00400050) 0 2 0
def TIME_STEER_STAT_QUAL : Fld := fld (0x00400050) 4 3 5
def TIME_STEER_STAT_GOOD : Fld := fld (0x00400050) 8 8 0
/- TIME_PHASE_ERR, chapter 06 -/
def TIME_PHASE_ERR_E : Fld := fld (0x00400054) 0 32 0
/- TIME_PPSIN_LO, chapter 06 -/
def TIME_PPSIN_LO_TS : Fld := fld (0x00400058) 0 32 0
/- TIME_PPSIN_HI, chapter 06 -/
def TIME_PPSIN_HI_TS : Fld := fld (0x0040005C) 0 32 0
/- TIME_HO_CFG, chapter 06 -/
def TIME_HO_CFG_STAB_PPB : Fld := fld (0x00400060) 0 16 100
def TIME_HO_CFG_LIMIT_US : Fld := fld (0x00400060) 16 16 1000
/- TIME_HO_STAT, chapter 06 -/
def TIME_HO_STAT_ELAPSED_S : Fld := fld (0x00400064) 0 32 0
/- TIME_HO_ERR, chapter 06 -/
def TIME_HO_ERR_ERR_NS : Fld := fld (0x00400068) 0 32 0
/- TIME_EVT, chapter 06 -/
def TIME_EVT_CMD_DONE : Fld := fld (0x00400070) 0 1 0
def TIME_EVT_CMD_REJ : Fld := fld (0x00400070) 1 1 0
def TIME_EVT_PPS_IN : Fld := fld (0x00400070) 2 1 0
def TIME_EVT_PPS_MISS : Fld := fld (0x00400070) 3 1 0
def TIME_EVT_LOCKED : Fld := fld (0x00400070) 4 1 0
def TIME_EVT_HOLDOVER : Fld := fld (0x00400070) 5 1 0
def TIME_EVT_HO_LIMIT : Fld := fld (0x00400070) 6 1 0
def TIME_EVT_TS_WRAP : Fld := fld (0x00400070) 7 1 0
def TIME_EVT_PPS_SKIP : Fld := fld (0x00400070) 8 1 0
def TIME_EVT_LEAP_DONE : Fld := fld (0x00400070) 9 1 0
def TIME_EVT_AQL_UP : Fld := fld (0x00400070) 10 1 0
def TIME_EVT_AQL_DOWN : Fld := fld (0x00400070) 11 1 0
def TIME_EVT_AQL_OFS : Fld := fld (0x00400070) 12 1 0
def TIME_EVT_ARM_LATE : Fld := fld (0x00400070) 13 1 0
/- TIME_EVT_EN, chapter 06 -/
def TIME_EVT_EN_EN : Fld := fld (0x00400074) 0 14 16379
/- TIME_PPSOUT_CFG, chapter 06 -/
def TIME_PPSOUT_CFG_EN : Fld := fld (0x00400080) 0 1 0
def TIME_PPSOUT_CFG_POL : Fld := fld (0x00400080) 1 1 0
def TIME_PPSOUT_CFG_GATE : Fld := fld (0x00400080) 2 3 0
def TIME_PPSOUT_CFG_WIDTH_MS : Fld := fld (0x00400080) 8 9 0
/- TIME_PPSOUT_OFS, chapter 06 -/
def TIME_PPSOUT_OFS_OFS : Fld := fld (0x00400084) 0 32 0
/- TIME_TREFOUT_CFG, chapter 06 -/
def TIME_TREFOUT_CFG_EN : Fld := fld (0x00400088) 0 1 0
def TIME_TREFOUT_CFG_GATE : Fld := fld (0x00400088) 2 3 0
/- TIME_IRIG_CFG, chapter 06 -/
def TIME_IRIG_CFG_EN : Fld := fld (0x0040008C) 0 1 0
def TIME_IRIG_CFG_CODE : Fld := fld (0x0040008C) 1 1 0
def TIME_IRIG_CFG_GATE : Fld := fld (0x0040008C) 2 3 0
/- TIME_IRIG_OFS, chapter 06 -/
def TIME_IRIG_OFS_OFS : Fld := fld (0x00400090) 0 32 0
/- TIME_LEAP_AT, chapter 06 -/
def TIME_LEAP_AT_SEC : Fld := fld (0x00400094) 0 32 0
/- TIME_LEAP_CTRL, chapter 06 -/
def TIME_LEAP_CTRL_ARM : Fld := fld (0x00400098) 0 1 0
def TIME_LEAP_CTRL_DIR : Fld := fld (0x00400098) 1 1 0
/- TIME_AQL_CTRL, chapter 06 -/
def TIME_AQL_CTRL_ROLE : Fld := fld (0x00400100) 0 2 0
def TIME_AQL_CTRL_TRIG_RX : Fld := fld (0x00400100) 2 1 0
/- TIME_AQL_STAT, chapter 06 -/
def TIME_AQL_STAT_UP_STATE : Fld := fld (0x00400104) 0 2 0
def TIME_AQL_STAT_DN_STATE : Fld := fld (0x00400104) 2 2 0
def TIME_AQL_STAT_ID : Fld := fld (0x00400104) 4 4 0
def TIME_AQL_STAT_COUNT : Fld := fld (0x00400104) 8 4 0
def TIME_AQL_STAT_OFS_VALID : Fld := fld (0x00400104) 12 1 0
def TIME_AQL_STAT_QUAL_M : Fld := fld (0x00400104) 16 3 5
/- TIME_AQL_OFS, chapter 06 -/
def TIME_AQL_OFS_OFS : Fld := fld (0x00400108) 0 32 0
/- TIME_AQL_DLY, chapter 06 -/
def TIME_AQL_DLY_DLY : Fld := fld (0x0040010C) 0 32 0
/- TIME_AQL_CMD, chapter 06 -/
def TIME_AQL_CMD_ENUM : Fld := fld (0x00400110) 0 1 0
def TIME_AQL_CMD_ADOPT : Fld := fld (0x00400110) 1 1 0
def TIME_AQL_CMD_ARM : Fld := fld (0x00400110) 2 1 0
/- TIME_AQL_ARM_LO, chapter 06 -/
def TIME_AQL_ARM_LO_TS : Fld := fld (0x00400114) 0 32 0
/- TIME_AQL_ARM_HI, chapter 06 -/
def TIME_AQL_ARM_HI_TS : Fld := fld (0x00400118) 0 32 0
/- TIME_AQL_ARM_CFG, chapter 06 -/
def TIME_AQL_ARM_CFG_OP : Fld := fld (0x0040011C) 0 2 0
def TIME_AQL_ARM_CFG_CTX : Fld := fld (0x0040011C) 4 4 0
def TIME_AQL_ARM_CFG_MASK : Fld := fld (0x0040011C) 16 16 0
/- TIME_AQL_ERR, chapter 06 -/
def TIME_AQL_ERR_CRC : Fld := fld (0x00400120) 0 16 0
def TIME_AQL_ERR_TYPE : Fld := fld (0x00400120) 16 8 0
/-- TIME_SET_LO and _HI taken together. -/
def TIME_SET : Fld2 := ⟨TIME_SET_LO_VAL, TIME_SET_HI_VAL⟩
/-- TIME_TODSET_SEC_LO and _HI taken together. -/
def TIME_TODSET_SEC : Fld2 := ⟨TIME_TODSET_SEC_LO_SEC, TIME_TODSET_SEC_HI_SEC⟩
/-- TIME_TODSET_TICK_LO and _HI taken together. -/
def TIME_TODSET_TICK : Fld2 := ⟨TIME_TODSET_TICK_LO_TICK, TIME_TODSET_TICK_HI_TICK⟩
/-- TIME_TS_LO and _HI taken together. -/
def TIME_TS : Fld2 := ⟨TIME_TS_LO_TS, TIME_TS_HI_TS⟩
/-- TIME_TOD_SEC_LO and _HI taken together. -/
def TIME_TOD_SEC : Fld2 := ⟨TIME_TOD_SEC_LO_SEC, TIME_TOD_SEC_HI_SEC⟩
/-- TIME_TOD_TICK_LO and _HI taken together. -/
def TIME_TOD_TICK : Fld2 := ⟨TIME_TOD_TICK_LO_TICK, TIME_TOD_TICK_HI_TICK⟩
/-- TIME_PPSIN_LO and _HI taken together. -/
def TIME_PPSIN : Fld2 := ⟨TIME_PPSIN_LO_TS, TIME_PPSIN_HI_TS⟩
/-- TIME_AQL_ARM_LO and _HI taken together. -/
def TIME_AQL_ARM : Fld2 := ⟨TIME_AQL_ARM_LO_TS, TIME_AQL_ARM_HI_TS⟩

end Machine
end Sys2Proof
end

