-- ==== Sys2Proof/Machine/Flags.lean ====
section
/-!
DEFINITION. Event bits, the event FIFO (R339 to R341), interrupt vectors and messages (R335 to R337, R457), the Ledger
causes that events post (R393, R394, R458), and reserved encodings (R12, R482).
-/
namespace Sys2Proof
namespace Machine

/-- A group of event bits of one register (or of a row of like registers) that feed one vector: byte offset, stride and
count of the register, the mask of bits, the offset of the enable register if there is one, the vector and its stride. -/
structure EvGroup where
  off : Nat
  stride : Nat
  count : Nat
  mask : Nat
  en : Option Nat
  vec : Nat
  vstride : Nat
  deriving DecidableEq, Repr

/-- The sources of every vector: R336, R457 and the enable registers of each block. -/
def evGroups : List EvGroup :=
  [ ⟨0x604, 0, 1, 0x24, some 0x608, 0, 0⟩             -- GLB_FLT_EVT.DP_STUCK, CUR_HALT
  , ⟨0x604, 0, 1, 0x03, some 0x608, 1, 0⟩             -- DP_PAR, DP_WDT
  , ⟨0x604, 0, 1, 0x40, some 0x608, 2, 0⟩             -- PROFILE
  , ⟨0x604, 0, 1, 0x18, some 0x608, 3, 0⟩             -- GUAR_LOST, GUAR_BACK
  , ⟨0x408, 0, 1, 0xFFFF, none, 2, 0⟩                 -- GLB_SLK_ALARM
  , ⟨0x901020, 0, 1, 0x006, some 0x901024, 1, 0⟩      -- MEM_ERR_EVT.UE, POISON_RD
  , ⟨0x901020, 0, 1, 0x020, some 0x901024, 3, 0⟩      -- MARGIN0
  , ⟨0x901020, 0, 1, 0x7D9, some 0x901024, 2, 0⟩      -- the other MEM_ERR_EVT bits
  , ⟨0x905030, 0, 1, 0x1FF, some 0x905034, 2, 0⟩      -- MEM_OP_EVT
  , ⟨0xA00010, 0, 1, 0x006, some 0xA00014, 1, 0⟩      -- SCR_EVT.UE, POISON_RD
  , ⟨0xA00010, 0, 1, 0x3F9, some 0xA00014, 2, 0⟩      -- the other SCR_EVT bits
  , ⟨0xB00010, 0, 1, 0x01, some 0xB00014, 1, 0⟩       -- HOST_EVT.CTO
  , ⟨0xB00010, 0, 1, 0x3E, some 0xB00014, 2, 0⟩       -- the other HOST_EVT bits
  , ⟨0xE0001C, 0, 1, 0x8, some 0xE00020, 1, 0⟩        -- CFG_EVT.SCAN
  , ⟨0xE0001C, 0, 1, 0x7, some 0xE00020, 53, 0⟩       -- the other CFG_EVT bits
  , ⟨0x54000C, 0x80000, 4, 0x003, some 0x540010, 4, 2⟩ -- TRIG_SEQ_EVT.TRIG, IRQ
  , ⟨0x54000C, 0x80000, 4, 0x1FC, some 0x540010, 5, 2⟩ -- the other TRIG_SEQ_EVT bits
  , ⟨0x702000, 0x10, 16, 0x3F, some 0x702004, 12, 1⟩  -- ACC_CREG_n_STAT
  , ⟨0xB0301C, 0x40, 8, 0x3, some 0xB03020, 28, 1⟩    -- HOST_DMA_c_EVT
  , ⟨0x800000, 0, 1, 0x000FF, some 0x800004, 36, 0⟩   -- CMP_EVT.VFAIL
  , ⟨0x800000, 0, 1, 0x00F00, some 0x800004, 37, 0⟩   -- JOB_END
  , ⟨0x800000, 0, 1, 0x0F000, some 0x800004, 38, 0⟩   -- JOB_BAD
  , ⟨0x800000, 0, 1, 0x10000, some 0x800004, 39, 0⟩   -- DEC_BAD
  , ⟨0x200008, 0x1000, 8, 0x7F, some 0x20000C, 40, 1⟩ -- POD_EVT_p
  , ⟨0x100404, 0, 1, 0x01010100, none, 40, 0⟩         -- FE_CAL_STAT bits of tile 0
  , ⟨0x100404, 0, 1, 0x02020200, none, 41, 0⟩
  , ⟨0x100404, 0, 1, 0x04040400, none, 42, 0⟩
  , ⟨0x100404, 0, 1, 0x08080800, none, 43, 0⟩
  , ⟨0x100404, 0, 1, 0x10101000, none, 44, 0⟩
  , ⟨0x100404, 0, 1, 0x20202000, none, 45, 0⟩
  , ⟨0x100404, 0, 1, 0x40404000, none, 46, 0⟩
  , ⟨0x100404, 0, 1, 0x80808000, none, 47, 0⟩
  , ⟨0xC0000C, 0, 1, 0x0003, some 0xC00010, 48, 0⟩    -- VIT_EVT
  , ⟨0xC0000C, 0, 1, 0x000C, some 0xC00010, 49, 0⟩
  , ⟨0xC0000C, 0, 1, 0x03F0, some 0xC00010, 50, 0⟩
  , ⟨0xC0000C, 0, 1, 0x1C00, some 0xC00010, 51, 0⟩
  , ⟨0xD00008, 0, 1, 0x0001, some 0xD0000C, 52, 0⟩    -- CUR_EVT
  , ⟨0xD00008, 0, 1, 0x0002, some 0xD0000C, 53, 0⟩
  , ⟨0xD00008, 0, 1, 0x000C, some 0xD0000C, 54, 0⟩
  , ⟨0xD00008, 0, 1, 0x1FF0, some 0xD0000C, 55, 0⟩
  , ⟨0x30000C, 0, 1, 0x40FFFF, some 0x300010, 56, 0⟩  -- CLK_EVT
  , ⟨0x30000C, 0, 1, 0x3F0000, some 0x300010, 57, 0⟩
  , ⟨0x400070, 0, 1, 0x03FF, some 0x400074, 58, 0⟩    -- TIME_EVT
  , ⟨0x400070, 0, 1, 0x3C00, some 0x400074, 59, 0⟩
  , ⟨0xF00010, 0, 1, 0x1F, some 0xF00014, 60, 0⟩      -- SEC_EVT
  , ⟨0xF00010, 0, 1, 0xE0, some 0xF00014, 61, 0⟩
  , ⟨0x1000020, 0, 1, 0x3, some 0x1000024, 62, 0⟩     -- PWR_EVT
  , ⟨0x1000020, 0, 1, 0xC, some 0x1000024, 63, 0⟩ ]

/-- The whole 32-bit word at a byte offset as an event register: read through one field per bit group is not needed,
because the event fields of a register together fill the bits the groups name. -/
def Eng.word (e : Eng) (off : Nat) : Nat :=
  e.regs.foldl (fun a p => if 8 * off ≤ p.1 && p.1 < 8 * off + 32 then a + p.2 * 2 ^ (p.1 - 8 * off) else a) 0

/-- Does a group cover a bit of a register? -/
def EvGroup.covers (g : EvGroup) (off bit : Nat) : Bool :=
  natBit g.mask bit && (off == g.off ||
    (0 < g.stride && g.off ≤ off && (off - g.off) % g.stride == 0 && (off - g.off) / g.stride < g.count))

/-- The index of a register within a group. -/
def EvGroup.idx (g : EvGroup) (off : Nat) : Nat := if g.stride = 0 then 0 else (off - g.off) / g.stride

/-- The vector an event bit feeds, if any. -/
def evVector (off bit : Nat) : Option Nat :=
  (evGroups.find? (·.covers off bit)).map fun g => g.vec + g.vstride * g.idx off

/-- The enable field read for the enable register at an offset (all enable fields start at bit 0). -/
def enField (off : Nat) : Fld :=
  ⟨8 * off, 32,
    if off = 0x608 then 0x7F else if off = 0x901024 then 0x7FF else if off = 0x905034 then 0xCC
    else if off = 0xA00014 then 0x3FF else if off = 0xB00014 then 0x3F else if off = 0xE00020 then 0xF
    else if 0x500000 ≤ off ∧ off < 0x700000 then 0x1FF else if 0x702000 ≤ off ∧ off < 0x703000 then 0x3E
    else if 0xB03000 ≤ off ∧ off < 0xB04000 then 0x3 else if off = 0x800004 then 0x1FFFF
    else if 0x200000 ≤ off ∧ off < 0x300000 then 0x3F else if off = 0xC00010 then 0x1FFE
    else if off = 0xD0000C then 0x1FFF else if off = 0x300010 then 0x7FFFFF else if off = 0x400074 then 0x3FFB
    else if off = 0xF00014 then 0xFF else if off = 0x1000024 then 0xF else 0⟩

/-- The enable bit of an event bit: a bit without an enable register is always enabled (R339). -/
def evEnabled (e : Eng) (off bit : Nat) : Bool :=
  match evGroups.find? (·.covers off bit) with
  | none => true
  | some g =>
    match g.en with
    | none => true
    | some en => natBit (e.rd (enField (en + g.stride * g.idx off))) bit

/-- Is vector `v` asserted: at least one source bit is 1 with its enable set (R335)? GLB_STATUS-like bits feed none. -/
def asserted (e : Eng) (v : Nat) : Bool :=
  evGroups.any fun g => (List.range g.count).any fun k =>
    g.vec + g.vstride * k == v &&
      (e.word (g.off + g.stride * k) &&& g.mask &&&
        (match g.en with
         | none => 0xFFFFFFFF
         | some en => e.rd (enField (en + g.stride * k)))) != 0

/-! ### Interrupt messages (R335, R337) -/

/-- The interrupt mode in use. -/
inductive IrqMode where
  | msix | msi | intx
  deriving DecidableEq, Repr

/-- MSI-X when it is enabled, MSI when MSI-X is not and MSI is, INTx otherwise (R335). -/
def irqMode (e : Eng) : IrqMode :=
  if e.on CS_MSIX_EN then .msix else if e.on CS_MSI_EN then .msi else .intx

/-- Is vector `v` in service? -/
def inService (e : Eng) (v : Nat) : Bool := natBit (e.rdq HOST_IRQ_INSVC) v

/-- Put a vector in or out of service. -/
def putService (e : Eng) (v : Nat) (b : Bool) : Eng := e.wrq HOST_IRQ_INSVC (putNatBit (e.rdq HOST_IRQ_INSVC) v b)

/-- The MSI message of a vector: floor(v × N ÷ 64) with N messages enabled (R337). -/
def msiOf (e : Eng) (v : Nat) : Nat := v * 2 ^ min 5 (e.rd CS_MSI_MME) / 64

/-- The message of a vector that is asserted and not in service (R337): sent and placed in service, or, when masked,
recorded in its pending bit; INTx has no service state. In D3hot no messages are sent (R332). -/
def irqMessage (v : Nat) (e : Eng) : Eng :=
  if e.rd CS_PM_STATE = 3 ∨ inService e v then e
  else match irqMode e with
  | .intx => e
  | .msix =>
    if e.on CS_MSIX_FMASK || natBit e.vmask v then { e with pba := setNatBit e.pba v }
    else putService (e.send (.msix v)) v true
  | .msi =>
    if e.bit CS_MSI_MASK (msiOf e v) then e.wrBit CS_MSI_PEND (msiOf e v) true
    else putService (e.send (.msi (msiOf e v))) v true

/-- Messages of the vectors that are asserted and not in service. -/
def irqResend (e : Eng) : Eng :=
  (List.range 64).foldl (fun a v => if asserted a v then irqMessage v a else a) e

/-- Send the messages of the vectors that became asserted between two states. -/
def irqRises (before : Eng) (vs : List Nat) (e : Eng) : Eng :=
  vs.foldl (fun a v => if asserted e v && !asserted before v then irqMessage v a else a) e

/-! ### The Ledger queue (R393, R394) and the event FIFO (R339, R341) -/

/-- The EVENT item of an event bit (R339). -/
def evItem (off bit : Nat) : Nat := 3 * 2 ^ 29 + (off / 4 % 2 ^ 24) * 2 ^ 5 + bit

/-- The severity of an EVENT cause (R393). -/
def evSeverity : Option Nat → Nat
  | some 0 => 3
  | some 1 => 2
  | some 3 => 2
  | some 2 => 1
  | _ => 0

/-- Add an item to a FIFO that has room; the last slot is kept for the LOST item. -/
def evqRoom (e : Eng) : Bool := e.evq.items.length < 4095

/-- Items held, as HOST_EVQ_STAT shows them. -/
def evqCount (e : Eng) : Eng := e.wr HOST_EVQ_STAT_COUNT e.evq.items.length

/-- Add an item to the event FIFO, or count it as discarded (R341); true: discarded. -/
def evqPush (item : Nat) (e : Eng) : Eng :=
  if evqRoom e then evqCount { e with evq := { e.evq with items := e.evq.items ++ [item] } }
  else { e.addSat HOST_EVQ_STAT_LOST 1 with evq := { e.evq with lost := min (e.evq.lost + 1) (2 ^ 29 - 1) } }

/-- Add a cause to the Ledger queue, or discard it when 256 causes wait. -/
def ldgPush (c : Cause) (e : Eng) : Eng :=
  if e.ldg.queue.length < 256 then
    { e with ldg := { e.ldg with queue := e.ldg.queue ++ [c] } }.wr CUR_LDG_QFILL_FILL (e.ldg.queue.length + 1)
  else { e with ldg := { e.ldg with dropped := e.ldg.dropped + 1 } }.addSat CUR_LDG_DROP_CNT 1

/-- Is the Ledger queue full? -/
def ldgFull (e : Eng) : Bool := 256 ≤ e.ldg.queue.length

/-- The cause that reports an event bit (class EVENT of R393). -/
def evCause (e : Eng) (off bit : Nat) (data : List Byte) : Cause :=
  ⟨evItem off bit, evSeverity (evVector off bit), data, e.ts, e.rd TIME_EPOCH_GEN⟩

/-- The FIFO item of an event bit that is enabled (R339); `r` raises HOST_EVT.EVQ_OVF when the FIFO is full (R341). -/
def evNote (r : Fld → Nat → Eng → Eng) (enabled : Bool) (item : Nat) (e : Eng) : Eng :=
  if !enabled then e else if evqRoom e then evqPush item e else r HOST_EVT_EVQ_OVF 0 (evqPush item e)

/-- The Ledger cause of an event bit that feeds a vector 0 to 3 (R458); `r` raises CUR_EVT.LDG_DROP when the queue is full. -/
def evPost (r : Fld → Nat → Eng → Eng) (v : Option Nat) (c : Cause) (e : Eng) : Eng :=
  if v.all (4 ≤ ·) then e else if ldgFull e then r CUR_EVT_LDG_DROP 0 (ldgPush c e) else ldgPush c e

/-- The wake cause FAULT of an event bit that feeds vector 0 or 1, where the bit is enabled, so that the vector is asserted
(R335), and the cause is enabled (R60). -/
def evWake (r : Fld → Nat → Eng → Eng) (enabled : Bool) (v : Option Nat) (e : Eng) : Eng :=
  if enabled && v.any (· < 2) && e.on ACC_ARC_WAKE_FAULT then r ACC_ARC_WAKE_STAT_CAUSE 2 e else e

/-- The message of a vector that an event bit has newly asserted (R337). -/
def evSend (before : Eng) (v : Option Nat) (e : Eng) : Eng :=
  match v with
  | some v => if asserted e v && !asserted before v then irqMessage v e else e
  | none => e

/-- Set an event bit at a bit address. The change from 0 to 1 adds the FIFO item (R339), posts the Ledger cause when the
bit feeds a vector 0 to 3 (R458, with the given payload), accumulates the wake cause FAULT where the vector is 0 or 1 and
the cause is enabled (R60), and sends the message of a newly asserted vector (R337). A full
FIFO sets HOST_EVT.EVQ_OVF and a full Ledger queue sets CUR_EVT.LDG_DROP, which are event bits in turn: the first
argument bounds that nesting, three levels being all there are. -/
def raiseAt : Nat → Fld → Nat → List Byte → Eng → Eng
  | 0, f, i, _, e => e.wrBit f i true
  | n + 1, f, i, data, e =>
    if e.bit f i then e
    else
      let off := f.key / 32 * 4
      let bit := f.key % 32 + i
      let v := evVector off bit
      let r (g : Fld) (j : Nat) (a : Eng) : Eng := raiseAt n g j [] a
      evSend e v (evWake r (evEnabled e off bit) v (evPost r v (evCause e off bit data) (evNote r (evEnabled e off bit) (evItem off bit) (e.wrBit f i true))))

/-- Set bit `i` of an event field. -/
def Eng.raise (e : Eng) (f : Fld) (i : Nat := 0) : Eng := raiseAt 3 f i [] e

/-- Set bit `i` of an event field whose Ledger entry a rule withholds for the moment (R29): the FIFO item and the message
of the vector come as for any event bit. -/
def Eng.raiseQuiet (e : Eng) (f : Fld) (i : Nat) : Eng :=
  if e.bit f i then e
  else
    let off := f.key / 32 * 4
    let bit := f.key % 32 + i
    evSend e (evVector off bit) (evNote (fun g j a => a.raise g j) (evEnabled e off bit) (evItem off bit) (e.wrBit f i true))

/-- Set bit `i` of an event field whose Ledger entry carries a payload. -/
def Eng.raiseWith (e : Eng) (f : Fld) (i : Nat) (data : List Byte) : Eng := raiseAt 3 f i data e

/-- Post a Ledger cause (R394). -/
def Eng.post (e : Eng) (cause sev : Nat) (data : List Byte) : Eng :=
  let c : Cause := ⟨cause, sev, data, e.ts, e.rd TIME_EPOCH_GEN⟩
  if ldgFull e then raiseAt 3 CUR_EVT_LDG_DROP 0 [] (ldgPush c e) else ldgPush c e

/-- Post a Curator entry (class 6 of R393) by its code. -/
def Eng.postCur (e : Eng) (code sev : Nat) (data : List Byte) : Eng := e.post (6 * 2 ^ 29 + code) sev data

/-- Post the cause of an event bit that feeds no vector 0 to 3, where a rule calls for a Ledger entry. -/
def Eng.postEv (e : Eng) (f : Fld) (i : Nat) (data : List Byte) : Eng :=
  let off := f.key / 32 * 4
  let bit := f.key % 32 + i
  e.post (evItem off bit) (evSeverity (evVector off bit)) data

/-- Set an event bit and let Curator write the Ledger entry, with its payload, that a rule calls for; for a bit that feeds a
vector 0 to 3 and changes from 0 to 1 that entry is the cause R458 posts. -/
def Eng.raisePost (e : Eng) (f : Fld) (i : Nat) (data : List Byte) : Eng :=
  match evVector (f.key / 32 * 4) (f.key % 32 + i) with
  | some v => if v < 4 ∧ e.bit f i = false then e.raiseWith f i data else (e.raise f i).postEv f i data
  | none => (e.raise f i).postEv f i data

/-- Software clears event bits by writing ones (W1C of R7). -/
def Eng.clearBits (e : Eng) (f : Fld) (ones : Nat) : Eng := e.wr f (natAndNot (e.rd f) ones)

/-! ### Reserved encodings (R12, R482) -/

/-- A write that carried a reserved encoding: BAD_ENC and its log (offset of the register, master). -/
def Eng.badEnc (e : Eng) (master : Nat) (f : Fld) : Eng :=
  ((e.raise GLB_STATUS_BAD_ENC).wr GLB_BAD_ENC_LOG_OFFS (f.key / 32)).wr GLB_BAD_ENC_LOG_MASTER master

/-- Write an encoded field: a legal encoding is stored; a reserved one that differs from the value held is kept out and
reported (R12). -/
def Eng.wrEnc (e : Eng) (master : Nat) (f : Fld) (v : Nat) (legal : Bool) : Eng :=
  if legal then e.wr f v else if v % 2 ^ f.width = e.rd f then e else e.badEnc master f

end Machine
end Sys2Proof
end

