-- ==== Sys2Proof/Machine/RegsFe.lean ====
section
/-!
DEFINITION. The register fields of the FE block, one name per field row of the spec's register tables
(R479 gives the block base, R485 the index). The arguments are the index variables of the owning chapter;
an index beyond the count of its row is reduced into it.
-/
namespace Sys2Proof
open Sys2Proof

namespace Machine

/- FE_TILE_CFG_t, chapter 03 -/
def FE_TILE_CFG_CLKSEL (t : Nat) : Fld := fld (0x00100000 + 0x40 * (t % 8)) 0 2 0
/- FE_TILE_STAT_t, chapter 03 -/
def FE_TILE_STAT_CAL_VALID (t : Nat) : Fld := fld (0x00100004 + 0x40 * (t % 8)) 0 1 0
def FE_TILE_STAT_CAL_STALE (t : Nat) : Fld := fld (0x00100004 + 0x40 * (t % 8)) 1 1 0
def FE_TILE_STAT_PEND (t : Nat) : Fld := fld (0x00100004 + 0x40 * (t % 8)) 2 1 0
def FE_TILE_STAT_CAL_TEMP (t : Nat) : Fld := fld (0x00100004 + 0x40 * (t % 8)) 8 8 0
def FE_TILE_STAT_ILV_SKEW (t : Nat) : Fld := fld (0x00100004 + 0x40 * (t % 8)) 16 8 0
/- FE_CAL_CTRL, chapter 03 -/
def FE_CAL_CTRL_REQ : Fld := fld (0x00100400) 0 8 0
/- FE_CAL_STAT, chapter 03 -/
def FE_CAL_STAT_BUSY : Fld := fld (0x00100404) 0 8 0
def FE_CAL_STAT_DONE : Fld := fld (0x00100404) 8 8 0
def FE_CAL_STAT_FAIL : Fld := fld (0x00100404) 16 8 0
def FE_CAL_STAT_REJ : Fld := fld (0x00100404) 24 8 0
/- FE_CAL_CFG, chapter 03 -/
def FE_CAL_CFG_DRIFT : Fld := fld (0x00100408) 0 8 0
def FE_CAL_CFG_AUTO : Fld := fld (0x00100408) 8 1 0
/- FE_STCLK_n, chapter 03 -/
def FE_STCLK_CH (n : Nat) : Fld := fld (0x00100500 + 0x10 * (n % 4)) 0 8 0
def FE_STCLK_EDGE (n : Nat) : Fld := fld (0x00100500 + 0x10 * (n % 4)) 8 2 0
def FE_STCLK_EN (n : Nat) : Fld := fld (0x00100500 + 0x10 * (n % 4)) 10 1 0
/- FE_STPT_n, chapter 03 -/
def FE_STPT_PT (n : Nat) : Fld := fld (0x00100504 + 0x10 * (n % 4)) 0 6 0
/- FE_ES_CTRL, chapter 03 -/
def FE_ES_CTRL_START : Fld := fld (0x00100600) 0 1 0
def FE_ES_CTRL_ABORT : Fld := fld (0x00100600) 1 1 0
def FE_ES_CTRL_CH : Fld := fld (0x00100600) 8 8 0
def FE_ES_CTRL_REF : Fld := fld (0x00100600) 16 3 0
def FE_ES_CTRL_DWELL : Fld := fld (0x00100600) 20 4 4
def FE_ES_CTRL_TOL : Fld := fld (0x00100600) 24 8 0
/- FE_ES_THR, chapter 03 -/
def FE_ES_THR_START_CODE : Fld := fld (0x00100604) 0 12 2048
def FE_ES_THR_STRIDE : Fld := fld (0x00100604) 16 4 15
/- FE_ES_BASE, chapter 03 -/
def FE_ES_BASE_OFFS : Fld := fld (0x00100608) 0 32 0
/- FE_ES_STAT, chapter 03 -/
def FE_ES_STAT_BUSY : Fld := fld (0x0010060C) 0 1 0
def FE_ES_STAT_VALID : Fld := fld (0x0010060C) 1 1 0
def FE_ES_STAT_ERR : Fld := fld (0x0010060C) 2 3 0
def FE_ES_STAT_GEN : Fld := fld (0x0010060C) 16 16 0
/- FE_ES_RES, chapter 03 -/
def FE_ES_RES_PROP_CODE : Fld := fld (0x00100610) 0 12 0
def FE_ES_RES_PROP_COL : Fld := fld (0x00100610) 16 6 0
def FE_ES_RES_OPEN : Fld := fld (0x00100610) 23 1 0
/- FE_ES_SIZE, chapter 03 -/
def FE_ES_SIZE_WIDTH : Fld := fld (0x00100614) 0 7 0
def FE_ES_SIZE_HEIGHT : Fld := fld (0x00100614) 16 9 0
/- FE_CH_CFG_c, chapter 03 -/
def FE_CH_CFG_EN (c : Nat) : Fld := fld (0x00101000 + 0x20 * (c % 256)) 0 1 0
def FE_CH_CFG_TERM (c : Nat) : Fld := fld (0x00101000 + 0x20 * (c % 256)) 1 1 0
def FE_CH_CFG_PEND (c : Nat) : Fld := fld (0x00101000 + 0x20 * (c % 256)) 2 1 0
def FE_CH_CFG_HYST (c : Nat) : Fld := fld (0x00101000 + 0x20 * (c % 256)) 4 4 0
/- FE_THR_c, chapter 03 -/
def FE_THR_CODE (c : Nat) : Fld := fld (0x00101004 + 0x20 * (c % 256)) 0 12 0
def FE_THR_SRC (c : Nat) : Fld := fld (0x00101004 + 0x20 * (c % 256)) 12 1 0
def FE_THR_PEND (c : Nat) : Fld := fld (0x00101004 + 0x20 * (c % 256)) 13 1 0
def FE_THR_CLAMP (c : Nat) : Fld := fld (0x00101004 + 0x20 * (c % 256)) 14 1 0
/- FE_THR_TIP_c, chapter 03 -/
def FE_THR_TIP_TIP (c : Nat) : Fld := fld (0x00101008 + 0x20 * (c % 256)) 0 24 0
/- FE_DSK_c, chapter 03 -/
def FE_DSK_DSK (c : Nat) : Fld := fld (0x0010100C + 0x20 * (c % 256)) 0 10 0
def FE_DSK_PEND (c : Nat) : Fld := fld (0x0010100C + 0x20 * (c % 256)) 15 1 0
def FE_DSK_CAL (c : Nat) : Fld := fld (0x0010100C + 0x20 * (c % 256)) 16 7 0
/- FE_CH_STAT_c, chapter 03 -/
def FE_CH_STAT_LEVEL (c : Nat) : Fld := fld (0x00101010 + 0x20 * (c % 256)) 0 1 0
def FE_CH_STAT_ACT (c : Nat) : Fld := fld (0x00101010 + 0x20 * (c % 256)) 1 1 0

end Machine
end Sys2Proof
end

