-- ==== Sys2Proof/Machine/RegsMem.lean ====
section
/-!
DEFINITION. The register fields of the MEM block, one name per field row of the spec's register tables
(R479 gives the block base, R485 the index). The arguments are the index variables of the owning chapter;
an index beyond the count of its row is reduced into it.
-/
namespace Sys2Proof
open Sys2Proof

namespace Machine

/- MEM_FAB_RSV_p, chapter 01 -/
def MEM_FAB_RSV_RSV_REQ (p : Nat) : Fld := fld (0x00900100 + 4 * (p % 6)) 0 11 0
def MEM_FAB_RSV_MAX_REQ (p : Nat) : Fld := fld (0x00900100 + 4 * (p % 6)) 16 11 0
/- MEM_FAB_OUT_p, chapter 01 -/
def MEM_FAB_OUT_CUR (p : Nat) : Fld := fld (0x00900120 + 4 * (p % 6)) 0 11 0
def MEM_FAB_OUT_PEAK (p : Nat) : Fld := fld (0x00900120 + 4 * (p % 6)) 16 11 0
/- MEM_FAB_STAT, chapter 01 -/
def MEM_FAB_STAT_SHARED_FREE : Fld := fld (0x00900140) 0 11 0
def MEM_FAB_STAT_CFG_ERR : Fld := fld (0x00900140) 16 1 0
/- MEM_CONS_CFG, chapter 11 -/
def MEM_CONS_CFG_PATROL_EN : Fld := fld (0x00901000) 0 1 1
def MEM_CONS_CFG_WB_ALL : Fld := fld (0x00901000) 1 1 0
def MEM_CONS_CFG_PASS_MIN : Fld := fld (0x00901000) 4 12 15
def MEM_CONS_CFG_MIG_RATE : Fld := fld (0x00901000) 16 12 448
/- MEM_CONS_POS, chapter 11 -/
def MEM_CONS_POS_LINE : Fld := fld (0x00901004) 0 29 0
/- MEM_CONS_PASS, chapter 11 -/
def MEM_CONS_PASS_CNT : Fld := fld (0x00901008) 0 32 0
/- MEM_CONS_LAST, chapter 11 -/
def MEM_CONS_LAST_SEC : Fld := fld (0x0090100C) 0 32 0
/- MEM_RET_CFG, chapter 11 -/
def MEM_RET_CFG_RET_THR : Fld := fld (0x00901010) 0 16 256
def MEM_RET_CFG_HALF_H : Fld := fld (0x00901010) 16 8 24
def MEM_RET_CFG_HARD_THR : Fld := fld (0x00901010) 24 4 2
def MEM_RET_CFG_AUTO_PPR : Fld := fld (0x00901010) 28 1 1
def MEM_RET_CFG_AUTO_RET : Fld := fld (0x00901010) 29 1 1
/- MEM_INV_CFG, chapter 11 -/
def MEM_INV_CFG_AGE_H : Fld := fld (0x00901014) 0 8 72
def MEM_INV_CFG_RETEST_S : Fld := fld (0x00901014) 8 16 60
/- MEM_INT_CMD, chapter 11 -/
def MEM_INT_CMD_RETIRE : Fld := fld (0x00901018) 0 1 0
def MEM_INT_CMD_STK : Fld := fld (0x00901018) 4 2 0
def MEM_INT_CMD_POS : Fld := fld (0x00901018) 8 4 0
/- MEM_INV_STAT, chapter 11 -/
def MEM_INV_STAT_USED : Fld := fld (0x0090101C) 0 9 0
def MEM_INV_STAT_UNREP : Fld := fld (0x0090101C) 16 8 0
def MEM_INV_STAT_OVF : Fld := fld (0x0090101C) 24 8 0
/- MEM_ERR_EVT, chapter 11 -/
def MEM_ERR_EVT_CE : Fld := fld (0x00901020) 0 1 0
def MEM_ERR_EVT_UE : Fld := fld (0x00901020) 1 1 0
def MEM_ERR_EVT_POISON_RD : Fld := fld (0x00901020) 2 1 0
def MEM_ERR_EVT_RETIRE : Fld := fld (0x00901020) 3 1 0
def MEM_ERR_EVT_NO_SPARE : Fld := fld (0x00901020) 4 1 0
def MEM_ERR_EVT_MARGIN0 : Fld := fld (0x00901020) 5 1 0
def MEM_ERR_EVT_HARD : Fld := fld (0x00901020) 6 1 0
def MEM_ERR_EVT_PPR_DONE : Fld := fld (0x00901020) 7 1 0
def MEM_ERR_EVT_PPR_FAIL : Fld := fld (0x00901020) 8 1 0
def MEM_ERR_EVT_INV_OVF : Fld := fld (0x00901020) 9 1 0
def MEM_ERR_EVT_SWEEP_DONE : Fld := fld (0x00901020) 10 1 0
/- MEM_ERR_EVT_EN, chapter 11 -/
def MEM_ERR_EVT_EN_EN : Fld := fld (0x00901024) 0 11 2047
/- MEM_ERR_CE_CNT, chapter 11 -/
def MEM_ERR_CE_CNT_CNT : Fld := fld (0x00901028) 0 32 0
/- MEM_ERR_UE_CNT, chapter 11 -/
def MEM_ERR_UE_CNT_CNT : Fld := fld (0x0090102C) 0 32 0
/- MEM_ERR_PRD_CNT, chapter 11 -/
def MEM_ERR_PRD_CNT_CNT : Fld := fld (0x00901030) 0 32 0
/- MEM_ERR_CFG, chapter 11 -/
def MEM_ERR_CFG_CE_DIV : Fld := fld (0x00901034) 0 5 10
/- MEM_ERR_LGSKIP, chapter 11 -/
def MEM_ERR_LGSKIP_CNT : Fld := fld (0x00901038) 0 32 0
/- MEM_UE_LINE, chapter 11 -/
def MEM_UE_LINE_LINE : Fld := fld (0x00901040) 0 29 0
def MEM_UE_LINE_PORT : Fld := fld (0x00901040) 29 3 0
/- MEM_UE_CW, chapter 11 -/
def MEM_UE_CW_CW : Fld := fld (0x00901044) 0 32 0
/- MEM_UE_INFO, chapter 11 -/
def MEM_UE_INFO_POS : Fld := fld (0x00901048) 0 10 0
def MEM_UE_INFO_SRC : Fld := fld (0x00901048) 16 1 0
/- MEM_INJ, chapter 11 -/
def MEM_INJ_LINE : Fld := fld (0x00901050) 0 29 0
def MEM_INJ_ARM : Fld := fld (0x00901050) 29 1 0
def MEM_INJ_REJ : Fld := fld (0x00901050) 30 1 0
/- MEM_INJ_CFG, chapter 11 -/
def MEM_INJ_CFG_POS : Fld := fld (0x00901054) 0 4 0
def MEM_INJ_CFG_KIND : Fld := fld (0x00901054) 4 2 0
/- MEM_CE_LOG_IDX, chapter 11 -/
def MEM_CE_LOG_IDX_WIDX : Fld := fld (0x00901080) 0 32 0
/- MEM_CE_LOG_e_A, chapter 11 -/
def MEM_CE_LOG_A_LINE (e : Nat) : Fld := fld (0x00901100 + 8 * (e % 16)) 0 29 0
def MEM_CE_LOG_A_PORT (e : Nat) : Fld := fld (0x00901100 + 8 * (e % 16)) 29 3 0
/- MEM_CE_LOG_e_B, chapter 11 -/
def MEM_CE_LOG_B_POS (e : Nat) : Fld := fld (0x00901104 + 8 * (e % 16)) 0 4 0
def MEM_CE_LOG_B_KIND (e : Nat) : Fld := fld (0x00901104 + 8 * (e % 16)) 4 2 0
def MEM_CE_LOG_B_SEQ (e : Nat) : Fld := fld (0x00901104 + 8 * (e % 16)) 16 16 0
/- MEM_STK_s_MAP_LO, chapter 11 -/
def MEM_STK_MAP_LO_RANK (s : Nat) : Fld := fld (0x00902000 + 0x100 * (s % 4)) 0 32 0
/- MEM_STK_s_MAP_HI, chapter 11 -/
def MEM_STK_MAP_HI_RANK (s : Nat) : Fld := fld (0x00902004 + 0x100 * (s % 4)) 0 8 0
/- MEM_STK_s_PSTATE, chapter 11 -/
def MEM_STK_PSTATE_STATE (s : Nat) : Fld := fld (0x00902008 + 0x100 * (s % 4)) 0 30 0
/- MEM_STK_s_SWEEP, chapter 11 -/
def MEM_STK_SWEEP_POS (s : Nat) : Fld := fld (0x0090200C + 0x100 * (s % 4)) 0 4 0
def MEM_STK_SWEEP_PTR (s : Nat) : Fld := fld (0x0090200C + 0x100 * (s % 4)) 4 27 0
def MEM_STK_SWEEP_ACT (s : Nat) : Fld := fld (0x0090200C + 0x100 * (s % 4)) 31 1 0
/- MEM_RANK_s_r_STAT, chapter 11 -/
def MEM_RANK_STAT_ROLE (s : Nat) (r : Nat) : Fld := fld (0x00903000 + 0x400 * (s % 4) + 0x20 * (r % 12)) 0 3 0
def MEM_RANK_STAT_POS (s : Nat) (r : Nat) : Fld := fld (0x00903000 + 0x400 * (s % 4) + 0x20 * (r % 12)) 4 4 0
def MEM_RANK_STAT_PPR_LEFT (s : Nat) (r : Nat) : Fld := fld (0x00903000 + 0x400 * (s % 4) + 0x20 * (r % 12)) 8 8 0
def MEM_RANK_STAT_SCORE (s : Nat) (r : Nat) : Fld := fld (0x00903000 + 0x400 * (s % 4) + 0x20 * (r % 12)) 16 16 0
/- MEM_RANK_s_r_CEI, chapter 11 -/
def MEM_RANK_CEI_CNT (s : Nat) (r : Nat) : Fld := fld (0x00903004 + 0x400 * (s % 4) + 0x20 * (r % 12)) 0 32 0
/- MEM_RANK_s_r_OUT, chapter 11 -/
def MEM_RANK_OUT_CNT (s : Nat) (r : Nat) : Fld := fld (0x00903008 + 0x400 * (s % 4) + 0x20 * (r % 12)) 0 32 0
/- MEM_RANK_s_r_FLG, chapter 11 -/
def MEM_RANK_FLG_CNT (s : Nat) (r : Nat) : Fld := fld (0x0090300C + 0x400 * (s % 4) + 0x20 * (r % 12)) 0 32 0
/- MEM_RANK_s_r_UE, chapter 11 -/
def MEM_RANK_UE_CNT (s : Nat) (r : Nat) : Fld := fld (0x00903010 + 0x400 * (s % 4) + 0x20 * (r % 12)) 0 32 0
/- MEM_QOS_p, chapter 12 -/
def MEM_QOS_TARGET_NS (p : Nat) : Fld := fld (0x00904000 + 4 * (p % 6)) 0 16 0
/- MEM_QOS_LATE_p, chapter 12 -/
def MEM_QOS_LATE_CNT (p : Nat) : Fld := fld (0x00904040 + 4 * (p % 6)) 0 32 0
/- MEM_QOS_MAX_p, chapter 12 -/
def MEM_QOS_MAX_NS (p : Nat) : Fld := fld (0x00904060 + 4 * (p % 6)) 0 24 0
/- MEM_REF_CFG, chapter 12 -/
def MEM_REF_CFG_POSTPONE : Fld := fld (0x00905000) 0 4 4
def MEM_REF_CFG_PULLIN : Fld := fld (0x00905000) 4 4 4
def MEM_REF_CFG_HYST : Fld := fld (0x00905000) 8 4 3
/- MEM_REF_STAT_s, chapter 12 -/
def MEM_REF_STAT_MULT (s : Nat) : Fld := fld (0x00905010 + 4 * (s % 4)) 0 2 0
def MEM_REF_STAT_OVER (s : Nat) : Fld := fld (0x00905010 + 4 * (s % 4)) 2 1 0
def MEM_REF_STAT_DEBT (s : Nat) : Fld := fld (0x00905010 + 4 * (s % 4)) 8 8 0
def MEM_REF_STAT_TEMP (s : Nat) : Fld := fld (0x00905010 + 4 * (s % 4)) 16 8 0
def MEM_REF_STAT_PWR (s : Nat) : Fld := fld (0x00905010 + 4 * (s % 4)) 24 2 0
/- MEM_REF_FORCED_s, chapter 12 -/
def MEM_REF_FORCED_CNT (s : Nat) : Fld := fld (0x00905020 + 4 * (s % 4)) 0 32 0
/- MEM_OP_EVT, chapter 12 -/
def MEM_OP_EVT_MULT_CHG : Fld := fld (0x00905030) 0 1 0
def MEM_OP_EVT_FORCED : Fld := fld (0x00905030) 1 1 0
def MEM_OP_EVT_OVERTEMP : Fld := fld (0x00905030) 2 1 0
def MEM_OP_EVT_RD_QFULL : Fld := fld (0x00905030) 3 1 0
def MEM_OP_EVT_TRN_DONE : Fld := fld (0x00905030) 4 1 0
def MEM_OP_EVT_TRN_ABANDON : Fld := fld (0x00905030) 5 1 0
def MEM_OP_EVT_NARROW : Fld := fld (0x00905030) 6 1 0
def MEM_OP_EVT_LANE_FAIL : Fld := fld (0x00905030) 7 1 0
def MEM_OP_EVT_BIN_DONE : Fld := fld (0x00905030) 8 1 0
/- MEM_OP_EVT_EN, chapter 12 -/
def MEM_OP_EVT_EN_EN : Fld := fld (0x00905034) 0 9 204
/- MEM_RD_CFG, chapter 12 -/
def MEM_RD_CFG_THR : Fld := fld (0x00906000) 0 16 4096
def MEM_RD_CFG_PLOG2 : Fld := fld (0x00906000) 16 5 10
def MEM_RD_CFG_EN_CNT : Fld := fld (0x00906000) 24 1 1
def MEM_RD_CFG_EN_PROB : Fld := fld (0x00906000) 25 1 1
/- MEM_RD_TRR_s, chapter 12 -/
def MEM_RD_TRR_CNT (s : Nat) : Fld := fld (0x00906010 + 4 * (s % 4)) 0 32 0
/- MEM_RD_PRB_s, chapter 12 -/
def MEM_RD_PRB_CNT (s : Nat) : Fld := fld (0x00906020 + 4 * (s % 4)) 0 32 0
/- MEM_RD_QFULL_s, chapter 12 -/
def MEM_RD_QFULL_CNT (s : Nat) : Fld := fld (0x00906030 + 4 * (s % 4)) 0 32 0
/- MEM_PD_CFG, chapter 12 -/
def MEM_PD_CFG_PD_NS : Fld := fld (0x00907000) 0 8 20
def MEM_PD_CFG_SR_US : Fld := fld (0x00907000) 8 16 0
/- MEM_BIN_CTRL, chapter 12 -/
def MEM_BIN_CTRL_BIN : Fld := fld (0x00908000) 0 2 0
def MEM_BIN_CTRL_REQ : Fld := fld (0x00908000) 2 1 0
def MEM_BIN_CTRL_TRN_POL : Fld := fld (0x00908000) 3 1 0
/- MEM_BIN_STAT, chapter 12 -/
def MEM_BIN_STAT_CUR : Fld := fld (0x00908004) 0 2 0
def MEM_BIN_STAT_BUSY : Fld := fld (0x00908004) 2 1 0
def MEM_BIN_STAT_REJ : Fld := fld (0x00908004) 3 1 0
def MEM_BIN_STAT_REJ_CODE : Fld := fld (0x00908004) 4 3 0
def MEM_BIN_STAT_GEN : Fld := fld (0x00908004) 16 16 0
/- MEM_TIM_b_A, chapter 12 -/
def MEM_TIM_A_TRCD (b : Nat) : Fld := fld (0x00908100 + 0x10 * (b % 4)) 0 8 0
def MEM_TIM_A_TRP (b : Nat) : Fld := fld (0x00908100 + 0x10 * (b % 4)) 8 8 0
def MEM_TIM_A_TRAS (b : Nat) : Fld := fld (0x00908100 + 0x10 * (b % 4)) 16 8 0
def MEM_TIM_A_TRRD (b : Nat) : Fld := fld (0x00908100 + 0x10 * (b % 4)) 24 8 0
/- MEM_TIM_b_B, chapter 12 -/
def MEM_TIM_B_RL (b : Nat) : Fld := fld (0x00908104 + 0x10 * (b % 4)) 0 8 0
def MEM_TIM_B_WL (b : Nat) : Fld := fld (0x00908104 + 0x10 * (b % 4)) 8 8 0
def MEM_TIM_B_TFAW (b : Nat) : Fld := fld (0x00908104 + 0x10 * (b % 4)) 16 8 0
def MEM_TIM_B_TWR (b : Nat) : Fld := fld (0x00908104 + 0x10 * (b % 4)) 24 8 0
/- MEM_TIM_b_C, chapter 12 -/
def MEM_TIM_C_TRFC (b : Nat) : Fld := fld (0x00908108 + 0x10 * (b % 4)) 0 12 0
def MEM_TIM_C_TXS (b : Nat) : Fld := fld (0x00908108 + 0x10 * (b % 4)) 12 12 0
def MEM_TIM_C_VALID (b : Nat) : Fld := fld (0x00908108 + 0x10 * (b % 4)) 31 1 0
/- MEM_TRN_CFG, chapter 12 -/
def MEM_TRN_CFG_PERIOD_MS : Fld := fld (0x00908200) 0 8 100
def MEM_TRN_CFG_PAUSE_NS : Fld := fld (0x00908200) 8 8 30
def MEM_TRN_CFG_MIN_EYE : Fld := fld (0x00908200) 16 8 16
/- MEM_TRN_STAT, chapter 12 -/
def MEM_TRN_STAT_INIT_DONE : Fld := fld (0x00908204) 0 1 0
def MEM_TRN_STAT_INIT_FAIL : Fld := fld (0x00908204) 1 1 0
def MEM_TRN_STAT_GATHER : Fld := fld (0x00908204) 2 1 0
/- MEM_TRN_PASS, chapter 12 -/
def MEM_TRN_PASS_CNT : Fld := fld (0x00908208) 0 32 0
/- MEM_TRN_DLY_s_r_l, chapter 12 -/
def MEM_TRN_DLY_RD (s : Nat) (r : Nat) (l : Nat) : Fld := fld (0x00909000 + 0x400 * (s % 4) + 0x40 * (r % 12) + 4 * (l % 16)) 0 7 0
def MEM_TRN_DLY_WR (s : Nat) (r : Nat) (l : Nat) : Fld := fld (0x00909000 + 0x400 * (s % 4) + 0x40 * (r % 12) + 4 * (l % 16)) 8 7 0
def MEM_TRN_DLY_EYE (s : Nat) (r : Nat) (l : Nat) : Fld := fld (0x00909000 + 0x400 * (s % 4) + 0x40 * (r % 12) + 4 * (l % 16)) 16 8 0
/- MEM_GCTRL, chapter 21 -/
def MEM_GCTRL_LOCK : Fld := fld (0x00900000) 0 1 0
/-- MEM_STK_MAP_LO and _HI taken together. -/
def MEM_STK_MAP (s : Nat) : Fld2 := ⟨MEM_STK_MAP_LO_RANK s, MEM_STK_MAP_HI_RANK s⟩

end Machine
end Sys2Proof
end

