-- ==== Sys2Proof/Machine/RegsPod.lean ====
section
/-!
DEFINITION. The register fields of the POD block, one name per field row of the spec's register tables
(R479 gives the block base, R485 the index). The arguments are the index variables of the owning chapter;
an index beyond the count of its row is reduced into it.
-/
namespace Sys2Proof
open Sys2Proof

namespace Machine

/- POD_CTRL_p, chapter 04 -/
def POD_CTRL_POLICY (p : Nat) : Fld := fld (0x00200000 + 0x1000 * (p % 8)) 0 2 0
def POD_CTRL_PWR_REQ (p : Nat) : Fld := fld (0x00200000 + 0x1000 * (p % 8)) 2 1 0
def POD_CTRL_CAL_ON_INS (p : Nat) : Fld := fld (0x00200000 + 0x1000 * (p % 8)) 3 1 0
def POD_CTRL_IND (p : Nat) : Fld := fld (0x00200000 + 0x1000 * (p % 8)) 4 2 0
def POD_CTRL_IND_AUTO (p : Nat) : Fld := fld (0x00200000 + 0x1000 * (p % 8)) 6 1 1
def POD_CTRL_ATTN_REM (p : Nat) : Fld := fld (0x00200000 + 0x1000 * (p % 8)) 7 1 0
def POD_CTRL_FAST (p : Nat) : Fld := fld (0x00200000 + 0x1000 * (p % 8)) 8 1 1
def POD_CTRL_REREAD (p : Nat) : Fld := fld (0x00200000 + 0x1000 * (p % 8)) 9 1 0
/- POD_STAT_p, chapter 04 -/
def POD_STAT_STATE (p : Nat) : Fld := fld (0x00200004 + 0x1000 * (p % 8)) 0 3 0
def POD_STAT_PRSNT (p : Nat) : Fld := fld (0x00200004 + 0x1000 * (p % 8)) 3 1 0
def POD_STAT_ID_VALID (p : Nat) : Fld := fld (0x00200004 + 0x1000 * (p % 8)) 4 1 0
def POD_STAT_ID_ERR (p : Nat) : Fld := fld (0x00200004 + 0x1000 * (p % 8)) 5 3 0
/- POD_EVT_p, chapter 04 -/
def POD_EVT_INS (p : Nat) : Fld := fld (0x00200008 + 0x1000 * (p % 8)) 0 1 0
def POD_EVT_REM (p : Nat) : Fld := fld (0x00200008 + 0x1000 * (p % 8)) 1 1 0
def POD_EVT_ATTN (p : Nat) : Fld := fld (0x00200008 + 0x1000 * (p % 8)) 2 1 0
def POD_EVT_FAULT (p : Nat) : Fld := fld (0x00200008 + 0x1000 * (p % 8)) 3 1 0
def POD_EVT_ID_DONE (p : Nat) : Fld := fld (0x00200008 + 0x1000 * (p % 8)) 4 1 0
def POD_EVT_READY (p : Nat) : Fld := fld (0x00200008 + 0x1000 * (p % 8)) 5 1 0
def POD_EVT_SB_DONE (p : Nat) : Fld := fld (0x00200008 + 0x1000 * (p % 8)) 6 1 0
/- POD_EVT_EN_p, chapter 04 -/
def POD_EVT_EN_EN (p : Nat) : Fld := fld (0x0020000C + 0x1000 * (p % 8)) 0 7 63
/- POD_PWR_CFG_p, chapter 04 -/
def POD_PWR_CFG_LIMIT (p : Nat) : Fld := fld (0x00200010 + 0x1000 * (p % 8)) 0 8 0
def POD_PWR_CFG_SS (p : Nat) : Fld := fld (0x00200010 + 0x1000 * (p % 8)) 8 4 0
/- POD_PWR_STAT_p, chapter 04 -/
def POD_PWR_STAT_CUR_MA (p : Nat) : Fld := fld (0x00200014 + 0x1000 * (p % 8)) 0 12 0
def POD_PWR_STAT_PEAK_MA (p : Nat) : Fld := fld (0x00200014 + 0x1000 * (p % 8)) 16 12 0
/- POD_SB_CMD_p, chapter 04 -/
def POD_SB_CMD_ADDR (p : Nat) : Fld := fld (0x00200020 + 0x1000 * (p % 8)) 0 7 0
def POD_SB_CMD_RD (p : Nat) : Fld := fld (0x00200020 + 0x1000 * (p % 8)) 7 1 0
def POD_SB_CMD_LEN (p : Nat) : Fld := fld (0x00200020 + 0x1000 * (p % 8)) 8 3 1
def POD_SB_CMD_GO (p : Nat) : Fld := fld (0x00200020 + 0x1000 * (p % 8)) 15 1 0
def POD_SB_CMD_BUSY (p : Nat) : Fld := fld (0x00200020 + 0x1000 * (p % 8)) 16 1 0
def POD_SB_CMD_NACK (p : Nat) : Fld := fld (0x00200020 + 0x1000 * (p % 8)) 17 1 0
/- POD_SB_DATA_p, chapter 04 -/
def POD_SB_DATA_DATA (p : Nat) : Fld := fld (0x00200024 + 0x1000 * (p % 8)) 0 32 0
/- POD_ID_p_w, chapter 04 -/
def POD_ID_BYTES (p : Nat) (w : Nat) : Fld := fld (0x00200800 + 0x1000 * (p % 8) + 4 * (w % 64)) 0 32 0

end Machine
end Sys2Proof
end

