-- ==== Sys2Proof/Machine/RegsScr.lean ====
section
/-!
DEFINITION. The register fields of the SCR block, one name per field row of the spec's register tables
(R479 gives the block base, R485 the index). The arguments are the index variables of the owning chapter;
an index beyond the count of its row is reduced into it.
-/
namespace Sys2Proof
open Sys2Proof

namespace Machine

/- SCR_GCTRL, chapter 13 -/
def SCR_GCTRL_LOCK : Fld := fld (0x00A00000) 0 1 0
/- SCR_STAT, chapter 13 -/
def SCR_STAT_WIPING : Fld := fld (0x00A00004) 0 1 0
/- SCR_EVT, chapter 13 -/
def SCR_EVT_CE : Fld := fld (0x00A00010) 0 1 0
def SCR_EVT_UE : Fld := fld (0x00A00010) 1 1 0
def SCR_EVT_POISON_RD : Fld := fld (0x00A00010) 2 1 0
def SCR_EVT_PART_ERR : Fld := fld (0x00A00010) 3 1 0
def SCR_EVT_PRIV_ERR : Fld := fld (0x00A00010) 4 1 0
def SCR_EVT_HARD : Fld := fld (0x00A00010) 5 1 0
def SCR_EVT_REPAIRED : Fld := fld (0x00A00010) 6 1 0
def SCR_EVT_REP_FAIL : Fld := fld (0x00A00010) 7 1 0
def SCR_EVT_MT_END : Fld := fld (0x00A00010) 8 1 0
def SCR_EVT_WIPED : Fld := fld (0x00A00010) 9 1 0
/- SCR_EVT_EN, chapter 13 -/
def SCR_EVT_EN_EN : Fld := fld (0x00A00014) 0 10 1023
/- SCR_ERR_CE_CNT, chapter 13 -/
def SCR_ERR_CE_CNT_CNT : Fld := fld (0x00A00020) 0 32 0
/- SCR_ERR_UE_CNT, chapter 13 -/
def SCR_ERR_UE_CNT_CNT : Fld := fld (0x00A00024) 0 32 0
/- SCR_ERR_PRD_CNT, chapter 13 -/
def SCR_ERR_PRD_CNT_CNT : Fld := fld (0x00A00028) 0 32 0
/- SCR_CE_LOG, chapter 13 -/
def SCR_CE_LOG_ADDR : Fld := fld (0x00A0002C) 0 25 0
def SCR_CE_LOG_BIT : Fld := fld (0x00A0002C) 25 7 0
/- SCR_UE_LOG, chapter 13 -/
def SCR_UE_LOG_ADDR : Fld := fld (0x00A00030) 0 25 0
/- SCR_PART_CNT, chapter 13 -/
def SCR_PART_CNT_CNT : Fld := fld (0x00A00034) 0 32 0
/- SCR_PART_LOG, chapter 13 -/
def SCR_PART_LOG_ADDR : Fld := fld (0x00A00038) 0 25 0
def SCR_PART_LOG_UNIT : Fld := fld (0x00A00038) 25 3 0
/- SCR_PRIV_CNT, chapter 13 -/
def SCR_PRIV_CNT_CNT : Fld := fld (0x00A0003C) 0 32 0
/- SCR_PRIV_LOG, chapter 13 -/
def SCR_PRIV_LOG_ADDR : Fld := fld (0x00A00040) 0 25 0
def SCR_PRIV_LOG_MASTER : Fld := fld (0x00A00040) 25 2 0
/- SCR_DP_COLL, chapter 13 -/
def SCR_DP_COLL_CNT : Fld := fld (0x00A00044) 0 32 0
/- SCR_PATROL_CFG, chapter 13 -/
def SCR_PATROL_CFG_EN : Fld := fld (0x00A00050) 0 1 1
def SCR_PATROL_CFG_PASS_MS : Fld := fld (0x00A00050) 16 10 1000
/- SCR_PATROL_PASS, chapter 13 -/
def SCR_PATROL_PASS_CNT : Fld := fld (0x00A00054) 0 32 0
/- SCR_REP_CFG, chapter 13 -/
def SCR_REP_CFG_HARD_THR : Fld := fld (0x00A00058) 0 4 2
def SCR_REP_CFG_AUTO_REP : Fld := fld (0x00A00058) 4 1 1
/- SCR_INV_STAT, chapter 13 -/
def SCR_INV_STAT_USED : Fld := fld (0x00A0005C) 0 6 0
def SCR_INV_STAT_UNREP : Fld := fld (0x00A0005C) 16 8 0
def SCR_INV_STAT_OVF : Fld := fld (0x00A0005C) 24 8 0
/- SCR_HWIN, chapter 13 -/
def SCR_HWIN_BASE : Fld := fld (0x00A00060) 19 6 0
/- SCR_MT_CTRL, chapter 13 -/
def SCR_MT_CTRL_START : Fld := fld (0x00A00070) 0 1 0
def SCR_MT_CTRL_ABORT : Fld := fld (0x00A00070) 1 1 0
def SCR_MT_CTRL_MODE : Fld := fld (0x00A00070) 2 1 0
/- SCR_MT_BANKS, chapter 13 -/
def SCR_MT_BANKS_BANKS : Fld := fld (0x00A00074) 0 32 0
/- SCR_MT_STAT, chapter 13 -/
def SCR_MT_STAT_BUSY : Fld := fld (0x00A00078) 0 1 0
def SCR_MT_STAT_VALID : Fld := fld (0x00A00078) 1 1 0
def SCR_MT_STAT_REJ : Fld := fld (0x00A00078) 2 1 0
def SCR_MT_STAT_ERR : Fld := fld (0x00A00078) 3 1 0
def SCR_MT_STAT_GEN : Fld := fld (0x00A00078) 16 16 0
/- SCR_MT_FAIL, chapter 13 -/
def SCR_MT_FAIL_BANKS : Fld := fld (0x00A0007C) 0 32 0
/- SCR_BANK_b_OWN, chapter 13 -/
def SCR_BANK_OWN_OWN (b : Nat) : Fld := fld (0x00A00100 + 4 * (b % 32)) 0 3 0
/- SCR_REP_b, chapter 13 -/
def SCR_REP_ROWS_LEFT (b : Nat) : Fld := fld (0x00A00200 + 4 * (b % 32)) 0 4 0
def SCR_REP_COLS_LEFT (b : Nat) : Fld := fld (0x00A00200 + 4 * (b % 32)) 4 4 0
/- SCR_RGN_m_j_BASE, chapter 13 -/
def SCR_RGN_BASE_BASE (m : Nat) (j : Nat) : Fld := fld (0x00A01000 + 0x100 * (m % 3) + 0x10 * (j % 8)) 12 13 0
/- SCR_RGN_m_j_LIMIT, chapter 13 -/
def SCR_RGN_LIMIT_LIMIT (m : Nat) (j : Nat) : Fld := fld (0x00A01004 + 0x100 * (m % 3) + 0x10 * (j % 8)) 12 13 0
/- SCR_RGN_m_j_PERM, chapter 13 -/
def SCR_RGN_PERM_EN (m : Nat) (j : Nat) : Fld := fld (0x00A01008 + 0x100 * (m % 3) + 0x10 * (j % 8)) 0 1 0
def SCR_RGN_PERM_R (m : Nat) (j : Nat) : Fld := fld (0x00A01008 + 0x100 * (m % 3) + 0x10 * (j % 8)) 1 1 0
def SCR_RGN_PERM_W (m : Nat) (j : Nat) : Fld := fld (0x00A01008 + 0x100 * (m % 3) + 0x10 * (j % 8)) 2 1 0
/- SCR_ATOM_m_ADDR, chapter 13 -/
def SCR_ATOM_ADDR_ADDR (m : Nat) : Fld := fld (0x00A02000 + 0x40 * (m % 3)) 0 25 0
/- SCR_ATOM_m_OPND_LO, chapter 13 -/
def SCR_ATOM_OPND_LO_OPND (m : Nat) : Fld := fld (0x00A02004 + 0x40 * (m % 3)) 0 32 0
/- SCR_ATOM_m_OPND_HI, chapter 13 -/
def SCR_ATOM_OPND_HI_OPND (m : Nat) : Fld := fld (0x00A02008 + 0x40 * (m % 3)) 0 32 0
/- SCR_ATOM_m_CMD, chapter 13 -/
def SCR_ATOM_CMD_GO (m : Nat) : Fld := fld (0x00A0200C + 0x40 * (m % 3)) 0 1 0
def SCR_ATOM_CMD_OP (m : Nat) : Fld := fld (0x00A0200C + 0x40 * (m % 3)) 1 1 0
def SCR_ATOM_CMD_SIZE (m : Nat) : Fld := fld (0x00A0200C + 0x40 * (m % 3)) 2 1 0
/- SCR_ATOM_m_RES_LO, chapter 13 -/
def SCR_ATOM_RES_LO_RES (m : Nat) : Fld := fld (0x00A02010 + 0x40 * (m % 3)) 0 32 0
/- SCR_ATOM_m_RES_HI, chapter 13 -/
def SCR_ATOM_RES_HI_RES (m : Nat) : Fld := fld (0x00A02014 + 0x40 * (m % 3)) 0 32 0
/- SCR_ATOM_m_STAT, chapter 13 -/
def SCR_ATOM_STAT_BUSY (m : Nat) : Fld := fld (0x00A02018 + 0x40 * (m % 3)) 0 1 0
def SCR_ATOM_STAT_VALID (m : Nat) : Fld := fld (0x00A02018 + 0x40 * (m % 3)) 1 1 0
def SCR_ATOM_STAT_ERR (m : Nat) : Fld := fld (0x00A02018 + 0x40 * (m % 3)) 2 3 0
def SCR_ATOM_STAT_GEN (m : Nat) : Fld := fld (0x00A02018 + 0x40 * (m % 3)) 16 16 0
/-- SCR_ATOM_OPND_LO and _HI taken together. -/
def SCR_ATOM_OPND (m : Nat) : Fld2 := ⟨SCR_ATOM_OPND_LO_OPND m, SCR_ATOM_OPND_HI_OPND m⟩
/-- SCR_ATOM_RES_LO and _HI taken together. -/
def SCR_ATOM_RES (m : Nat) : Fld2 := ⟨SCR_ATOM_RES_LO_RES m, SCR_ATOM_RES_HI_RES m⟩

end Machine
end Sys2Proof
end

