-- ==== Sys2Proof/Machine/Tiles.lean ====
section
/-!
DEFINITION. What every part of the record path asks of the engine's state: the mode in force (R37), the spans and boundaries of
words (R14), which tiles sample and write words (R24, R78, R117), which regions receive them (R220), whether capture memory
runs (R117).
-/
namespace Sys2Proof
namespace Machine

/-! ### Modes (R37) -/

/-- The operating modes. -/
inductive OpMode where
  | service | timing | state | chronicle | archive | review | reserved
  deriving DecidableEq, Repr

/-- The mode a code stands for. -/
def OpMode.ofCode : Nat → OpMode
  | 0 => .service
  | 1 => .timing
  | 2 => .state
  | 3 => .chronicle
  | 4 => .archive
  | 5 => .review
  | _ => .reserved

/-- Is it an acquisition mode? -/
def OpMode.acq : OpMode → Bool
  | .timing | .state | .chronicle | .archive => true
  | _ => false

/-- The mode in force. -/
def Eng.mode (e : Eng) : OpMode := .ofCode (e.rd GLB_MODE_STAT_CUR)

/-- The engine is in an acquisition mode. -/
def Eng.inAcq (e : Eng) : Bool := e.mode.acq

/-- Timing-double is in force. -/
def Eng.double (e : Eng) : Bool := e.on GLB_MODE_STAT_DOUBLE_ACT

/-- A tile is in tile service. -/
def Eng.inService (e : Eng) (k : Nat) : Bool := e.bit GLB_TILE_SVC_STAT_ACT k

/-- The spacing of instants in ticks outside STATE (R154), and the PITCH of containers (R232). -/
def Eng.pitch (e : Eng) : Nat :=
  match e.mode with
  | .archive => e.md.div
  | _ => if e.double then 1 else 2

/-- The span of a sample word (R14): fixed by the mode, or as the word says in STATE. -/
def wordSpan (e : Eng) (w : SampleWord) : Nat :=
  match e.mode with
  | .archive => 64 * e.md.div
  | .state => w.span
  | _ => 128

/-- The first word boundary at or after a tick of the run, outside STATE: a whole number of word spans after T0 (R43
step 4). -/
def boundaryAt (e : Eng) (t : Nat) : Nat :=
  let p := match e.mode with
    | .archive => 64 * e.md.div
    | _ => 128
  let t0 := e.rdq GLB_MODE_START
  if p = 0 then t else (t0 + cdiv (ticksFrom t0 t) p * p) % 2 ^ 64

/-- Replace the state of a region. -/
def Eng.setRg (e : Eng) (n : Nat) (r : RegionSt) : Eng := { e with rg := putAt e.rg (n % 16) r {} }

/-- The state of a region. -/
def Eng.getRg (e : Eng) (n : Nat) : RegionSt := e.rg.getD (n % 16) {}

/-- Change the state of a region. -/
def Eng.modRg (e : Eng) (n : Nat) (f : RegionSt → RegionSt) : Eng := e.setRg n (f (e.getRg n))

/-- The state of a trigger context. -/
def Eng.getCx (e : Eng) (n : Nat) : CtxSt := e.cx.getD (n % 4) {}

/-- Change the state of a trigger context. -/
def Eng.modCx (e : Eng) (n : Nat) (f : CtxSt → CtxSt) : Eng := { e with cx := putAt e.cx (n % 4) (f (e.getCx n)) {} }

/-- The stream of a tile in a region. -/
def RegionSt.stream (r : RegionSt) (t : Nat) : StreamSt := r.streams.getD (t % 8) {}

/-- Change the stream of a tile. -/
def RegionSt.modStream (r : RegionSt) (t : Nat) (f : StreamSt → StreamSt) : RegionSt :=
  { r with streams := putAt r.streams (t % 8) (f (r.stream t)) {} }

/-- The channels of tile `t` in a region's CHMASK, as 32 bits. -/
def regionMask (e : Eng) (n t : Nat) : Nat := e.rd (ACC_CREG_CHMASK_CH n t)

/-- Kinds of region (R220). -/
def regionKind (e : Eng) (n : Nat) : Nat := e.rd (ACC_CREG_CFG_KIND n)

/-- FORM of a region (R220). -/
def regionForm (e : Eng) (n : Nat) : Nat := e.rd (ACC_CREG_CFG_FORM n)

/-- Does a mode permit a storage form (R39)? -/
def formPermitted (m : OpMode) (form : Nat) : Bool :=
  match m with
  | .timing => form ≤ 2
  | .state => form ≤ 1
  | .chronicle | .archive => form == 2
  | _ => false

/-- A region that receives streams in the present mode (R220). -/
def receives (e : Eng) (n : Nat) : Bool :=
  e.ona (ACC_CREG_CFG_EN n) && (regionKind e n == 1 || regionKind e n == 2) && formPermitted e.mode (regionForm e n)

/-- A region that receives the stream of tile `t`. -/
def receivesTile (e : Eng) (n t : Nat) : Bool := receives e n && regionMask e n t != 0

/-- The regions that receive the stream of tile `t`. -/
def receivers (e : Eng) (t : Nat) : List Nat := indicesWhere 16 fun n => receivesTile e n t

/-! ### Tiles -/

/-- The state of a tile's elastic buffer. -/
def Eng.getEla (e : Eng) (t : Nat) : ElaTile := e.ela.getD (t % 8) {}

/-- Change the state of a tile's elastic buffer. -/
def Eng.modEla (e : Eng) (t : Nat) (f : ElaTile → ElaTile) : Eng := { e with ela := putAt e.ela (t % 8) (f (e.getEla t)) {} }

/-- A tile samples (R78): acquisition mode, not in tile service, pod port READY. -/
def tileSamples (e : Eng) (t : Nat) : Bool := e.inAcq && !e.inService t && e.rd (POD_STAT_STATE t) == 5

/-- A loop is LOCKED and its output in use (R107). -/
def loopLocked (e : Eng) (n : Nat) : Bool := e.rd (CLK_LOOP_STAT_STATE n) == 2

/-- The tile's clocks run: SPLL and BPLL, and in STATE the TPLL of its DUT clock, are not in bypass (R117), and in STATE
the DUT clock is tracked (R75). -/
def tileClocked (e : Eng) (t : Nat) : Bool :=
  loopLocked e 0 && loopLocked e 7 &&
    (e.mode != .state || (loopLocked e (1 + e.rda (FE_TILE_CFG_CLKSEL t)) && e.ona (FE_STCLK_EN (e.rda (FE_TILE_CFG_CLKSEL t)))))

/-- A tile writes words (R24, R53, R86, R99): it samples, no rejoin is outstanding, it is not calibrating, and no stop of
R99 or R51 has been declared. -/
def tileOpen (e : Eng) (t : Nat) : Bool :=
  tileSamples e t && !natBit e.pod.rejoin t && !e.bit FE_CAL_STAT_BUSY t && (e.getEla t).upTo.isNone

/-- May the tile write a word that begins at `stamp`? A tile told to stop at U still writes the words that begin below U
(R90, R99); none is written at or after the stop tick of a run (R44). -/
def mayWrite (e : Eng) (t stamp : Nat) : Bool :=
  tileClocked e t && e.inAcq &&
  (match (e.getEla t).upTo with
   | some u => tsBefore stamp u
   | none => tileOpen e t) &&
  (match e.md.trans.bind (·.stop) with
   | some s => tsBefore stamp s
   | none => true)

/-- The tile has words still to write: it writes, or a word that begins below its stop is outstanding. -/
def tileWrites (e : Eng) (t : Nat) : Bool := mayWrite e t (e.getEla t).wPos

/-- The channels of a tile whose samplers deliver bits: enabled ones (R62); in timing-double the even channel of a pair
governs both bits (R69, R211). -/
def enabledMask (e : Eng) (t : Nat) : Nat :=
  maskOf 32 fun c => e.ona (FE_CH_CFG_EN (32 * t + (if e.double then c / 2 * 2 else c)))

/-- The channels of a tile that the trigger fabric sees other than as 0: the enabled ones, in timing-double the even ones
(R62, R69, R155). -/
def seenMask (e : Eng) (t : Nat) : Nat :=
  maskOf 32 fun c => e.ona (FE_CH_CFG_EN (32 * t + c)) && !(e.double && c % 2 == 1)

/-! ### Scratch partitions (R307, R308) -/

/-- The words that `n` bytes from offset `a` touch. -/
def scrWords (a n : Nat) : List Nat := if n = 0 then [] else (List.range ((a + n - 1) / 8 - a / 8 + 1)).map (a / 8 + ·)

/-- The bank of a word; its row in the bank; its column. -/
def scrBank (word : Nat) : Nat := word / 2 ^ 17
def scrRow (word : Nat) : Nat := word / 64 % 2048
def scrCol (word : Nat) : Nat := word % 64

/-- The owner of a bank: banks 28 to 31 always have owner 7. -/
def bankOwner (e : Eng) (b : Nat) : Nat := if 28 ≤ b then 7 else e.rd (SCR_BANK_OWN_OWN b)

/-- A bank that a DESTRUCTIVE march test is testing (R318). -/
def bankTested (e : Eng) (b : Nat) : Bool :=
  match e.sc.march with
  | some t => t.mode == 0 && natBit t.banks b
  | none => false

/-- Does a unit reach the bytes (R308)? -/
def unitReaches (e : Eng) (u a n : Nat) : Bool :=
  a + n ≤ 2 ^ 25 && u != 0 && (scrWords a n).all fun x => bankOwner e (scrBank x) == u && !bankTested e (scrBank x)

/-- PARTITION_REFUSAL (R308). -/
def partRefuse (u a : Nat) (e : Eng) : Eng :=
  (((e.addSat SCR_PART_CNT_CNT 1).wr SCR_PART_LOG_ADDR a).wr SCR_PART_LOG_UNIT u).raise SCR_EVT_PART_ERR

/-! ### Capture memory -/

/-- The controller issues commands: MPLL is LOCKED, no bin change stalls the ports, no pass holds traffic back (R117, R301). -/
def memRuns (e : Eng) : Bool :=
  loopLocked e 5 && !e.mc.resume && !(match e.mc.bin with
    | some b => b.stall
    | none => false)

/-- The sum of all RSV_REQ. -/
def rsvSum (e : Eng) : Nat := ((List.range 6).map fun p => e.rd (MEM_FAB_RSV_RSV_REQ p)).sum

/-- Shared-pool requests free: the pool less what ports hold beyond their reservations (R32). -/
def sharedFree (e : Eng) : Nat :=
  1024 - rsvSum e - ((List.range 6).map fun p => e.rd (MEM_FAB_OUT_CUR p) - e.rd (MEM_FAB_RSV_RSV_REQ p)).sum

/-- A port may have one more request outstanding (R32, R33): it is below MAX_REQ, within its reservation or with the shared pool not
exhausted, and the fabric holds fewer than 1,024. -/
def portFree (e : Eng) (p : Nat) : Bool :=
  let out := e.rd (MEM_FAB_OUT_CUR p)
  out < e.rd (MEM_FAB_RSV_MAX_REQ p) && (out < e.rd (MEM_FAB_RSV_RSV_REQ p) || 0 < sharedFree e) &&
    ((List.range 6).map fun q => e.rd (MEM_FAB_OUT_CUR q)).sum < 1024

/-- Port CAP is not stalled: Accession writes lines (R32, R117). -/
def capFlows (e : Eng) : Bool := memRuns e && portFree e 0

/-- Port CMP is not stalled: containers are written and read (R32, R117). -/
def cmpFlows (e : Eng) : Bool := memRuns e && portFree e 1

/-- Vitrine reads and writes capture memory: it runs, and the limits of port VIT let a request out. -/
def vitFlows (e : Eng) : Bool := memRuns e && portFree e 3

end Machine
end Sys2Proof
end

