-- ==== Sys2Proof/Machine/ClkOut.lean ====
section
/-!
DEFINITION. The outputs CLKOUT_k (R125 to R127): the frequency of their sources, what the pins show, and the status that reports it.
-/
namespace Sys2Proof
namespace Machine

/-- The frequency of the source of a CLKOUT in kHz. -/
def outSrcKhz (e : Eng) (src tsel : Nat) : Nat :=
  match src with
  | 0 => 12800000
  | 1 => 100000
  | 2 => e.rd (CLK_LOOP_ACT_FOUT_KHZ 0)
  | 3 => e.rd (CLK_LOOP_ACT_FOUT_KHZ 5)
  | 4 => e.rd (CLK_LOOP_ACT_FOUT_KHZ 6)
  | 5 => e.rd CLK_XREF_FREQ_KHZ
  | _ => e.rd (CLK_LOOP_ACT_FOUT_KHZ (1 + tsel))

/-- The source loop of a CLKOUT; none for XREF. -/
def outLoop (src tsel : Nat) : Option Nat :=
  match src with
  | 0 => some 7
  | 1 => some 7
  | 2 => some 0
  | 3 => some 5
  | 4 => some 6
  | 5 => none
  | _ => some (1 + tsel)

/-- Is the source of a CLKOUT good: its loop LOCKED; XREF not failed (R127)? -/
def outSrcGood (e : Eng) (src tsel : Nat) : Bool :=
  match outLoop src tsel with
  | some n => loopLocked e n
  | none => e.on CLK_MON_STAT_XREF_OK

/-- What the pins of a CLKOUT do. -/
inductive OutPin where
  /-- both pins in high impedance -/
  | highZ
  /-- the idle level: low on P, high on N in differential formats -/
  | idle
  /-- the source clock divided by DIV + 1 -/
  | clock
  /-- the bypass clock of the source loop divided by DIV + 1 -/
  | bypass
  deriving DecidableEq, Repr

/-- Formats with a signal on N (R125): LVDS, HCSL and CML. In the others N is in high impedance. -/
def outDiff (fmt : Nat) : Bool := fmt < 3

/-- The tick (of `now`) until which a CLKOUT drives the idle level after a change of FMT or LEVEL (R126). -/
def outIdle (e : Eng) (k : Nat) : Nat := e.clk.outIdle.getD (k % 4) 0

/-- The pins of CLKOUT `k` (R126, R127): high impedance while EN is 0, as it is before an image is applied. -/
def outPin (e : Eng) (k : Nat) : OutPin :=
  if !e.on (CLK_OUT_CFG_EN k) then .highZ
  else if e.now < outIdle e k then .idle
  else if outSrcGood e (e.rd (CLK_OUT_CFG_SRC k)) (e.rd (CLK_OUT_CFG_TSEL k)) then .clock
  else match e.rd (CLK_OUT_CFG_ONLOSS k) with
    | 1 => .bypass
    | 2 => .highZ
    | _ => .idle

/-- The divider of the bypass clock of a source (R110): 2^BYP_DIV of its loop. DESIGN CHOICE (log entry 142): 1 for XREF, which has no
loop. -/
def outBypDiv (e : Eng) (src tsel : Nat) : Nat :=
  match outLoop src tsel with
  | some n => 2 ^ e.rd (CLK_LOOP_CFG_BYP_DIV n)
  | none => 1

/-- Show a CLKOUT: the source clock driven, or its ONLOSS behaviour (R127). The bypass clock is BKO divided, whose frequency R110 gives
as a range: a free value within it. -/
def clkOutShow (e : Eng) (k : Nat) : Eng :=
  let src := e.rd (CLK_OUT_CFG_SRC k)
  let tsel := e.rd (CLK_OUT_CFG_TSEL k)
  let p := outPin e k
  let e1 := (e.wrb (CLK_OUT_STAT_ACTIVE k) (p == .clock)).wrb (CLK_OUT_STAT_SRCLOSS k)
    (e.on (CLK_OUT_CFG_EN k) && !outSrcGood e src tsel)
  match p with
  | .clock => e1.wr (CLK_OUT_STAT_FOUT_KHZ k) (outSrcKhz e src tsel / (e.rd (CLK_OUT_CFG_DIV k) + 1))
  | .bypass =>
    (e1.wr (CLK_OUT_STAT_FOUT_KHZ k)
      ((920000 + e1.freeVal 18 % 160001) / (outBypDiv e src tsel * (e.rd (CLK_OUT_CFG_DIV k) + 1)))).drawn
  | _ => e1.wr (CLK_OUT_STAT_FOUT_KHZ k) 0

/-- The new format is driven once the idle level has lasted 1 µs (R126). -/
def outsDue (e : Eng) : Eng :=
  (List.range 4).foldl (fun a k =>
    if outIdle a k = 0 ∨ a.now < outIdle a k then a
    else clkOutShow { a with clk := { a.clk with outIdle := putAt a.clk.outIdle (k % 4) 0 0 } } k) e

end Machine
end Sys2Proof
end

