-- ==== Sys2Proof/Machine/RegsCmp.lean ====
section
/-!
DEFINITION. The register fields of the CMP block, one name per field row of the spec's register tables
(R479 gives the block base, R485 the index). The arguments are the index variables of the owning chapter;
an index beyond the count of its row is reduced into it.
-/
namespace Sys2Proof
open Sys2Proof

namespace Machine

/- CMP_EVT, chapter 10 -/
def CMP_EVT_VFAIL : Fld := fld (0x00800000) 0 8 0
def CMP_EVT_JOB_END : Fld := fld (0x00800000) 8 4 0
def CMP_EVT_JOB_BAD : Fld := fld (0x00800000) 12 4 0
def CMP_EVT_DEC_BAD : Fld := fld (0x00800000) 16 1 0
/- CMP_EVT_EN, chapter 10 -/
def CMP_EVT_EN_EN : Fld := fld (0x00800004) 0 17 131071
/- CMP_DEC_BAD, chapter 10 -/
def CMP_DEC_BAD_CNT : Fld := fld (0x00800008) 0 32 0
/- CMP_DEC_LAST, chapter 10 -/
def CMP_DEC_LAST_WHY : Fld := fld (0x0080000C) 0 3 0
def CMP_DEC_LAST_USER : Fld := fld (0x0080000C) 4 2 0
def CMP_DEC_LAST_SLOT : Fld := fld (0x0080000C) 6 2 0
/- CMP_GRP_t, chapter 10 -/
def CMP_GRP_GRPSTART (t : Nat) : Fld := fld (0x00800100 + 4 * (t % 8)) 0 32 0
/- CMP_REG_n_CFG, chapter 10 -/
def CMP_REG_CFG_TBL (n : Nat) : Fld := fld (0x00800200 + 4 * (n % 16)) 0 2 0
def CMP_REG_CFG_CLASS (n : Nat) : Fld := fld (0x00800200 + 4 * (n % 16)) 2 2 0
def CMP_REG_CFG_NBR (n : Nat) : Fld := fld (0x00800200 + 4 * (n % 16)) 4 1 0
/- CMP_MAP_n, chapter 10 -/
def CMP_MAP_LANE (n : Nat) : Fld := fld (0x00800240 + 4 * (n % 16)) 0 32 0
/- CMP_LANE_l_BLK, chapter 10 -/
def CMP_LANE_BLK_CNT (l : Nat) : Fld := fld (0x00800400 + 0x20 * (l % 8)) 0 32 0
/- CMP_LANE_l_VFAIL, chapter 10 -/
def CMP_LANE_VFAIL_CNT (l : Nat) : Fld := fld (0x00800404 + 0x20 * (l % 8)) 0 32 0
/- CMP_LANE_l_BMAP, chapter 10 -/
def CMP_LANE_BMAP_CNT (l : Nat) : Fld := fld (0x00800408 + 0x20 * (l % 8)) 0 32 0
/- CMP_LANE_l_IN_LO, chapter 10 -/
def CMP_LANE_IN_LO_BYTES (l : Nat) : Fld := fld (0x0080040C + 0x20 * (l % 8)) 0 32 0
/- CMP_LANE_l_IN_HI, chapter 10 -/
def CMP_LANE_IN_HI_BYTES (l : Nat) : Fld := fld (0x00800410 + 0x20 * (l % 8)) 0 32 0
/- CMP_LANE_l_OUT_LO, chapter 10 -/
def CMP_LANE_OUT_LO_BYTES (l : Nat) : Fld := fld (0x00800414 + 0x20 * (l % 8)) 0 32 0
/- CMP_LANE_l_OUT_HI, chapter 10 -/
def CMP_LANE_OUT_HI_BYTES (l : Nat) : Fld := fld (0x00800418 + 0x20 * (l % 8)) 0 32 0
/- CMP_JOB_q_CTRL, chapter 10 -/
def CMP_JOB_CTRL_OP (q : Nat) : Fld := fld (0x00801000 + 0x100 * (q % 4)) 0 2 0
def CMP_JOB_CTRL_GO (q : Nat) : Fld := fld (0x00801000 + 0x100 * (q % 4)) 2 1 0
def CMP_JOB_CTRL_RESUME (q : Nat) : Fld := fld (0x00801000 + 0x100 * (q % 4)) 3 1 0
def CMP_JOB_CTRL_ABORT (q : Nat) : Fld := fld (0x00801000 + 0x100 * (q % 4)) 4 1 0
def CMP_JOB_CTRL_SRCKIND (q : Nat) : Fld := fld (0x00801000 + 0x100 * (q % 4)) 5 1 0
def CMP_JOB_CTRL_CONT_ON_ERR (q : Nat) : Fld := fld (0x00801000 + 0x100 * (q % 4)) 6 1 0
def CMP_JOB_CTRL_LEVELS (q : Nat) : Fld := fld (0x00801000 + 0x100 * (q % 4)) 7 1 0
def CMP_JOB_CTRL_TBL (q : Nat) : Fld := fld (0x00801000 + 0x100 * (q % 4)) 8 2 0
def CMP_JOB_CTRL_CLASS (q : Nat) : Fld := fld (0x00801000 + 0x100 * (q % 4)) 10 2 0
def CMP_JOB_CTRL_NBR (q : Nat) : Fld := fld (0x00801000 + 0x100 * (q % 4)) 12 1 0
def CMP_JOB_CTRL_TILE (q : Nat) : Fld := fld (0x00801000 + 0x100 * (q % 4)) 13 3 0
/- CMP_JOB_q_PITCH, chapter 10 -/
def CMP_JOB_PITCH_PITCH (q : Nat) : Fld := fld (0x00801004 + 0x100 * (q % 4)) 0 16 1
/- CMP_JOB_q_SRC_LO, chapter 10 -/
def CMP_JOB_SRC_LO_ADDR (q : Nat) : Fld := fld (0x00801008 + 0x100 * (q % 4)) 0 32 0
/- CMP_JOB_q_SRC_HI, chapter 10 -/
def CMP_JOB_SRC_HI_ADDR (q : Nat) : Fld := fld (0x0080100C + 0x100 * (q % 4)) 0 5 0
/- CMP_JOB_q_SRCLEN, chapter 10 -/
def CMP_JOB_SRCLEN_LEN (q : Nat) : Fld := fld (0x00801010 + 0x100 * (q % 4)) 0 32 0
/- CMP_JOB_q_DST_LO, chapter 10 -/
def CMP_JOB_DST_LO_ADDR (q : Nat) : Fld := fld (0x00801014 + 0x100 * (q % 4)) 0 32 0
/- CMP_JOB_q_DST_HI, chapter 10 -/
def CMP_JOB_DST_HI_ADDR (q : Nat) : Fld := fld (0x00801018 + 0x100 * (q % 4)) 0 5 0
/- CMP_JOB_q_DSTLEN, chapter 10 -/
def CMP_JOB_DSTLEN_LEN (q : Nat) : Fld := fld (0x0080101C + 0x100 * (q % 4)) 0 32 0
/- CMP_JOB_q_BASE_LO, chapter 10 -/
def CMP_JOB_BASE_LO_TS (q : Nat) : Fld := fld (0x00801020 + 0x100 * (q % 4)) 0 32 0
/- CMP_JOB_q_BASE_HI, chapter 10 -/
def CMP_JOB_BASE_HI_TS (q : Nat) : Fld := fld (0x00801024 + 0x100 * (q % 4)) 0 32 0
/- CMP_JOB_q_END_LO, chapter 10 -/
def CMP_JOB_END_LO_TS (q : Nat) : Fld := fld (0x00801028 + 0x100 * (q % 4)) 0 32 0
/- CMP_JOB_q_END_HI, chapter 10 -/
def CMP_JOB_END_HI_TS (q : Nat) : Fld := fld (0x0080102C + 0x100 * (q % 4)) 0 32 0
/- CMP_JOB_q_MASK, chapter 10 -/
def CMP_JOB_MASK_CHMASK (q : Nat) : Fld := fld (0x00801030 + 0x100 * (q % 4)) 0 32 0
/- CMP_JOB_q_INIT, chapter 10 -/
def CMP_JOB_INIT_INIT (q : Nat) : Fld := fld (0x00801034 + 0x100 * (q % 4)) 0 32 0
/- CMP_JOB_q_GRP, chapter 10 -/
def CMP_JOB_GRP_GRPSTART (q : Nat) : Fld := fld (0x00801038 + 0x100 * (q % 4)) 0 32 0
/- CMP_JOB_q_STAT, chapter 10 -/
def CMP_JOB_STAT_STATE (q : Nat) : Fld := fld (0x00801040 + 0x100 * (q % 4)) 0 3 0
def CMP_JOB_STAT_VALID (q : Nat) : Fld := fld (0x00801040 + 0x100 * (q % 4)) 3 1 0
def CMP_JOB_STAT_ERR (q : Nat) : Fld := fld (0x00801040 + 0x100 * (q % 4)) 4 3 0
def CMP_JOB_STAT_STOP_WHY (q : Nat) : Fld := fld (0x00801040 + 0x100 * (q % 4)) 7 1 0
def CMP_JOB_STAT_GEN (q : Nat) : Fld := fld (0x00801040 + 0x100 * (q % 4)) 16 16 0
/- CMP_JOB_q_DONE_IN, chapter 10 -/
def CMP_JOB_DONE_IN_CNT (q : Nat) : Fld := fld (0x00801044 + 0x100 * (q % 4)) 0 32 0
/- CMP_JOB_q_DONE_OUT, chapter 10 -/
def CMP_JOB_DONE_OUT_CNT (q : Nat) : Fld := fld (0x00801048 + 0x100 * (q % 4)) 0 32 0
/- CMP_JOB_q_NEED, chapter 10 -/
def CMP_JOB_NEED_BYTES (q : Nat) : Fld := fld (0x0080104C + 0x100 * (q % 4)) 0 32 0
/- CMP_JOB_q_NBLK, chapter 10 -/
def CMP_JOB_NBLK_CNT (q : Nat) : Fld := fld (0x00801050 + 0x100 * (q % 4)) 0 32 0
/- CMP_JOB_q_NBAD, chapter 10 -/
def CMP_JOB_NBAD_CNT (q : Nat) : Fld := fld (0x00801054 + 0x100 * (q % 4)) 0 32 0
/-- CMP_LANE_IN_LO and _HI taken together. -/
def CMP_LANE_IN (l : Nat) : Fld2 := ⟨CMP_LANE_IN_LO_BYTES l, CMP_LANE_IN_HI_BYTES l⟩
/-- CMP_LANE_OUT_LO and _HI taken together. -/
def CMP_LANE_OUT (l : Nat) : Fld2 := ⟨CMP_LANE_OUT_LO_BYTES l, CMP_LANE_OUT_HI_BYTES l⟩
/-- CMP_JOB_SRC_LO and _HI taken together. -/
def CMP_JOB_SRC (q : Nat) : Fld2 := ⟨CMP_JOB_SRC_LO_ADDR q, CMP_JOB_SRC_HI_ADDR q⟩
/-- CMP_JOB_DST_LO and _HI taken together. -/
def CMP_JOB_DST (q : Nat) : Fld2 := ⟨CMP_JOB_DST_LO_ADDR q, CMP_JOB_DST_HI_ADDR q⟩
/-- CMP_JOB_BASE_LO and _HI taken together. -/
def CMP_JOB_BASE (q : Nat) : Fld2 := ⟨CMP_JOB_BASE_LO_TS q, CMP_JOB_BASE_HI_TS q⟩
/-- CMP_JOB_END_LO and _HI taken together. -/
def CMP_JOB_END (q : Nat) : Fld2 := ⟨CMP_JOB_END_LO_TS q, CMP_JOB_END_HI_TS q⟩

end Machine
end Sys2Proof
end

