-- ==== Sys2Proof/Machine/RegsTrig.lean ====
section
/-!
DEFINITION. The register fields of the TRIG block, one name per field row of the spec's register tables
(R479 gives the block base, R485 the index). The arguments are the index variables of the owning chapter;
an index beyond the count of its row is reduced into it.
-/
namespace Sys2Proof
open Sys2Proof

namespace Machine

/- TRIG_CTX_INFO, chapter 07 -/
def TRIG_CTX_INFO_EXISTS (n : Nat) : Fld := fld (0x00500000 + 0x80000 * (n % 4)) 0 1 0
def TRIG_CTX_INFO_CLKDOM (n : Nat) : Fld := fld (0x00500000 + 0x80000 * (n % 4)) 1 2 0
/- TRIG_RES_CMT, chapter 07 -/
def TRIG_RES_CMT_ID (n : Nat) : Fld := fld (0x00500004 + 0x80000 * (n % 4)) 0 8 0
def TRIG_RES_CMT_ALL (n : Nat) : Fld := fld (0x00500004 + 0x80000 * (n % 4)) 8 1 0
/- TRIG_RES_STAT, chapter 07 -/
def TRIG_RES_STAT_PEND (n : Nat) : Fld := fld (0x00500008 + 0x80000 * (n % 4)) 0 1 0
def TRIG_RES_STAT_OWN_ERR (n : Nat) : Fld := fld (0x00500008 + 0x80000 * (n % 4)) 1 1 0
def TRIG_RES_STAT_CMT_REJ (n : Nat) : Fld := fld (0x00500008 + 0x80000 * (n % 4)) 2 1 0
def TRIG_RES_STAT_LAST_EMPTY (n : Nat) : Fld := fld (0x00500008 + 0x80000 * (n % 4)) 3 1 0
def TRIG_RES_STAT_REJ_ID (n : Nat) : Fld := fld (0x00500008 + 0x80000 * (n % 4)) 8 8 0
def TRIG_RES_STAT_REJ_WHY (n : Nat) : Fld := fld (0x00500008 + 0x80000 * (n % 4)) 16 3 0
/- TRIG_RES_CMT_TS_LO, chapter 07 -/
def TRIG_RES_CMT_TS_LO_TS (n : Nat) : Fld := fld (0x00500010 + 0x80000 * (n % 4)) 0 32 0
/- TRIG_RES_CMT_TS_HI, chapter 07 -/
def TRIG_RES_CMT_TS_HI_TS (n : Nat) : Fld := fld (0x00500014 + 0x80000 * (n % 4)) 0 32 0
/- TRIG_EMPTY_x, chapter 07 -/
def TRIG_EMPTY_EMPTY (x : Nat) : Fld := fld (0x00500200 + 4 * (x % 6)) 0 32 4294967295
/- TRIG_EMPTY_6, chapter 07 -/
def TRIG_EMPTY6_EMPTY : Fld := fld (0x00500218) 0 16 65535
/- TRIG_OWN_i, chapter 07 -/
def TRIG_OWN_CTX (i : Nat) : Fld := fld (0x00501000 + 4 * (i % 208)) 0 3 0
/- TRIG_GRP_g_INFO, chapter 07 -/
def TRIG_GRP_INFO_WIDTH (g : Nat) : Fld := fld (0x00502000 + 0x80 * (g % 32)) 0 7 0
/- TRIG_GRP_g_CH_b, chapter 07 -/
def TRIG_GRP_CH_CH (g : Nat) (b : Nat) : Fld := fld (0x00502040 + 0x80 * (g % 32) + 4 * (b % 16)) 0 32 0
/- TRIG_WR_w_CFG, chapter 07 -/
def TRIG_WR_CFG_GRP (w : Nat) : Fld := fld (0x00510000 + 0x20 * (w % 64)) 0 5 0
def TRIG_WR_CFG_NEG (w : Nat) : Fld := fld (0x00510000 + 0x20 * (w % 64)) 5 1 0
def TRIG_WR_CFG_EVT (w : Nat) : Fld := fld (0x00510000 + 0x20 * (w % 64)) 6 1 0
/- TRIG_WR_w_VAL_LO, chapter 07 -/
def TRIG_WR_VAL_LO_VAL (w : Nat) : Fld := fld (0x00510004 + 0x20 * (w % 64)) 0 32 0
/- TRIG_WR_w_VAL_HI, chapter 07 -/
def TRIG_WR_VAL_HI_VAL (w : Nat) : Fld := fld (0x00510008 + 0x20 * (w % 64)) 0 32 0
/- TRIG_WR_w_MASK_LO, chapter 07 -/
def TRIG_WR_MASK_LO_MASK (w : Nat) : Fld := fld (0x0051000C + 0x20 * (w % 64)) 0 32 0
/- TRIG_WR_w_MASK_HI, chapter 07 -/
def TRIG_WR_MASK_HI_MASK (w : Nat) : Fld := fld (0x00510010 + 0x20 * (w % 64)) 0 32 0
/- TRIG_WR_w_LAST_LO, chapter 07 -/
def TRIG_WR_LAST_LO_TS (w : Nat) : Fld := fld (0x00510014 + 0x20 * (w % 64)) 0 32 0
/- TRIG_WR_w_LAST_HI, chapter 07 -/
def TRIG_WR_LAST_HI_TS (w : Nat) : Fld := fld (0x00510018 + 0x20 * (w % 64)) 0 32 0
/- TRIG_ED_e_CFG, chapter 07 -/
def TRIG_ED_CFG_CH (e : Nat) : Fld := fld (0x00511000 + 0x20 * (e % 64)) 0 8 0
def TRIG_ED_CFG_KIND (e : Nat) : Fld := fld (0x00511000 + 0x20 * (e % 64)) 8 3 0
def TRIG_ED_CFG_POL (e : Nat) : Fld := fld (0x00511000 + 0x20 * (e % 64)) 11 1 0
/- TRIG_ED_e_WMIN_LO, chapter 07 -/
def TRIG_ED_WMIN_LO_WMIN (e : Nat) : Fld := fld (0x00511004 + 0x20 * (e % 64)) 0 32 0
/- TRIG_ED_e_WMIN_HI, chapter 07 -/
def TRIG_ED_WMIN_HI_WMIN (e : Nat) : Fld := fld (0x00511008 + 0x20 * (e % 64)) 0 16 0
/- TRIG_ED_e_WMAX_LO, chapter 07 -/
def TRIG_ED_WMAX_LO_WMAX (e : Nat) : Fld := fld (0x0051100C + 0x20 * (e % 64)) 0 32 0
/- TRIG_ED_e_WMAX_HI, chapter 07 -/
def TRIG_ED_WMAX_HI_WMAX (e : Nat) : Fld := fld (0x00511010 + 0x20 * (e % 64)) 0 16 0
/- TRIG_ED_e_LAST_LO, chapter 07 -/
def TRIG_ED_LAST_LO_TS (e : Nat) : Fld := fld (0x00511014 + 0x20 * (e % 64)) 0 32 0
/- TRIG_ED_e_LAST_HI, chapter 07 -/
def TRIG_ED_LAST_HI_TS (e : Nat) : Fld := fld (0x00511018 + 0x20 * (e % 64)) 0 32 0
/- TRIG_ED_e_STAT, chapter 07 -/
def TRIG_ED_STAT_HELD (e : Nat) : Fld := fld (0x0051101C + 0x20 * (e % 64)) 0 1 0
def TRIG_ED_STAT_CAUGHT (e : Nat) : Fld := fld (0x0051101C + 0x20 * (e % 64)) 1 1 0
/- TRIG_RC_r_CFG, chapter 07 -/
def TRIG_RC_CFG_GRP (r : Nat) : Fld := fld (0x00512000 + 0x20 * (r % 16)) 0 5 0
def TRIG_RC_CFG_SIGNED (r : Nat) : Fld := fld (0x00512000 + 0x20 * (r % 16)) 5 1 0
def TRIG_RC_CFG_OP (r : Nat) : Fld := fld (0x00512000 + 0x20 * (r % 16)) 6 2 0
def TRIG_RC_CFG_EVT (r : Nat) : Fld := fld (0x00512000 + 0x20 * (r % 16)) 8 1 0
/- TRIG_RC_r_LOW_LO, chapter 07 -/
def TRIG_RC_LOW_LO_LOW (r : Nat) : Fld := fld (0x00512004 + 0x20 * (r % 16)) 0 32 0
/- TRIG_RC_r_LOW_HI, chapter 07 -/
def TRIG_RC_LOW_HI_LOW (r : Nat) : Fld := fld (0x00512008 + 0x20 * (r % 16)) 0 32 0
/- TRIG_RC_r_HIGH_LO, chapter 07 -/
def TRIG_RC_HIGH_LO_HIGH (r : Nat) : Fld := fld (0x0051200C + 0x20 * (r % 16)) 0 32 0
/- TRIG_RC_r_HIGH_HI, chapter 07 -/
def TRIG_RC_HIGH_HI_HIGH (r : Nat) : Fld := fld (0x00512010 + 0x20 * (r % 16)) 0 32 0
/- TRIG_RC_r_LAST_LO, chapter 07 -/
def TRIG_RC_LAST_LO_TS (r : Nat) : Fld := fld (0x00512014 + 0x20 * (r % 16)) 0 32 0
/- TRIG_RC_r_LAST_HI, chapter 07 -/
def TRIG_RC_LAST_HI_TS (r : Nat) : Fld := fld (0x00512018 + 0x20 * (r % 16)) 0 32 0
/- TRIG_CNT_c_CFG, chapter 07 -/
def TRIG_CNT_CFG_SRC (c : Nat) : Fld := fld (0x00513000 + 0x40 * (c % 32)) 0 8 0
def TRIG_CNT_CFG_OUT (c : Nat) : Fld := fld (0x00513000 + 0x40 * (c % 32)) 8 1 0
def TRIG_CNT_CFG_ON_TC (c : Nat) : Fld := fld (0x00513000 + 0x40 * (c % 32)) 9 2 0
def TRIG_CNT_CFG_RUN0 (c : Nat) : Fld := fld (0x00513000 + 0x40 * (c % 32)) 11 1 0
/- TRIG_CNT_c_TC_LO, chapter 07 -/
def TRIG_CNT_TC_LO_TC (c : Nat) : Fld := fld (0x00513004 + 0x40 * (c % 32)) 0 32 0
/- TRIG_CNT_c_TC_HI, chapter 07 -/
def TRIG_CNT_TC_HI_TC (c : Nat) : Fld := fld (0x00513008 + 0x40 * (c % 32)) 0 16 0
/- TRIG_CNT_c_INIT_LO, chapter 07 -/
def TRIG_CNT_INIT_LO_INIT (c : Nat) : Fld := fld (0x0051300C + 0x40 * (c % 32)) 0 32 0
/- TRIG_CNT_c_INIT_HI, chapter 07 -/
def TRIG_CNT_INIT_HI_INIT (c : Nat) : Fld := fld (0x00513010 + 0x40 * (c % 32)) 0 16 0
/- TRIG_CNT_c_VAL_LO, chapter 07 -/
def TRIG_CNT_VAL_LO_C (c : Nat) : Fld := fld (0x00513014 + 0x40 * (c % 32)) 0 32 0
/- TRIG_CNT_c_VAL_HI, chapter 07 -/
def TRIG_CNT_VAL_HI_C (c : Nat) : Fld := fld (0x00513018 + 0x40 * (c % 32)) 0 16 0
/- TRIG_CNT_c_LAST_LO, chapter 07 -/
def TRIG_CNT_LAST_LO_TS (c : Nat) : Fld := fld (0x0051301C + 0x40 * (c % 32)) 0 32 0
/- TRIG_CNT_c_LAST_HI, chapter 07 -/
def TRIG_CNT_LAST_HI_TS (c : Nat) : Fld := fld (0x00513020 + 0x40 * (c % 32)) 0 32 0
/- TRIG_CNT_c_STAT, chapter 07 -/
def TRIG_CNT_STAT_RUN (c : Nat) : Fld := fld (0x00513024 + 0x40 * (c % 32)) 0 1 0
def TRIG_CNT_STAT_SAT (c : Nat) : Fld := fld (0x00513024 + 0x40 * (c % 32)) 1 1 0
def TRIG_CNT_STAT_TCHIT (c : Nat) : Fld := fld (0x00513024 + 0x40 * (c % 32)) 2 1 0
/- TRIG_TMR_m_CFG, chapter 07 -/
def TRIG_TMR_CFG_OUT (m : Nat) : Fld := fld (0x00514000 + 0x40 * (m % 16)) 0 1 0
def TRIG_TMR_CFG_ON_LIM (m : Nat) : Fld := fld (0x00514000 + 0x40 * (m % 16)) 1 2 0
def TRIG_TMR_CFG_RUN0 (m : Nat) : Fld := fld (0x00514000 + 0x40 * (m % 16)) 3 1 0
/- TRIG_TMR_m_LIM_LO, chapter 07 -/
def TRIG_TMR_LIM_LO_LIM (m : Nat) : Fld := fld (0x00514004 + 0x40 * (m % 16)) 0 32 0
/- TRIG_TMR_m_LIM_HI, chapter 07 -/
def TRIG_TMR_LIM_HI_LIM (m : Nat) : Fld := fld (0x00514008 + 0x40 * (m % 16)) 0 16 0
/- TRIG_TMR_m_INIT_LO, chapter 07 -/
def TRIG_TMR_INIT_LO_INIT (m : Nat) : Fld := fld (0x0051400C + 0x40 * (m % 16)) 0 32 0
/- TRIG_TMR_m_INIT_HI, chapter 07 -/
def TRIG_TMR_INIT_HI_INIT (m : Nat) : Fld := fld (0x00514010 + 0x40 * (m % 16)) 0 16 0
/- TRIG_TMR_m_VAL_LO, chapter 07 -/
def TRIG_TMR_VAL_LO_E (m : Nat) : Fld := fld (0x00514014 + 0x40 * (m % 16)) 0 32 0
/- TRIG_TMR_m_VAL_HI, chapter 07 -/
def TRIG_TMR_VAL_HI_E (m : Nat) : Fld := fld (0x00514018 + 0x40 * (m % 16)) 0 16 0
/- TRIG_TMR_m_LAST_LO, chapter 07 -/
def TRIG_TMR_LAST_LO_TS (m : Nat) : Fld := fld (0x0051401C + 0x40 * (m % 16)) 0 32 0
/- TRIG_TMR_m_LAST_HI, chapter 07 -/
def TRIG_TMR_LAST_HI_TS (m : Nat) : Fld := fld (0x00514020 + 0x40 * (m % 16)) 0 32 0
/- TRIG_TMR_m_STAT, chapter 07 -/
def TRIG_TMR_STAT_RUN (m : Nat) : Fld := fld (0x00514024 + 0x40 * (m % 16)) 0 1 0
def TRIG_TMR_STAT_SAT (m : Nat) : Fld := fld (0x00514024 + 0x40 * (m % 16)) 1 1 0
def TRIG_TMR_STAT_LIMHIT (m : Nat) : Fld := fld (0x00514024 + 0x40 * (m % 16)) 2 1 0
/- TRIG_FLG_VAL, chapter 07 -/
def TRIG_FLG_VAL_F : Fld := fld (0x00515000) 0 16 0
/- TRIG_FLG_INIT, chapter 07 -/
def TRIG_FLG_INIT_INIT : Fld := fld (0x00515004) 0 16 0
/- TRIG_FLG_f_LAST_LO, chapter 07 -/
def TRIG_FLG_LAST_LO_TS (f : Nat) : Fld := fld (0x00515100 + 8 * (f % 16)) 0 32 0
/- TRIG_FLG_f_LAST_HI, chapter 07 -/
def TRIG_FLG_LAST_HI_TS (f : Nat) : Fld := fld (0x00515104 + 8 * (f % 16)) 0 32 0
/- TRIG_RT_k_CFG, chapter 07 -/
def TRIG_RT_CFG_RES (n : Nat) (k : Nat) : Fld := fld (0x00516000 + 0x80000 * (n % 4) + 0x10 * (k % 16)) 0 8 0
def TRIG_RT_CFG_INCL (n : Nat) (k : Nat) : Fld := fld (0x00516000 + 0x80000 * (n % 4) + 0x10 * (k % 16)) 8 1 0
def TRIG_RT_CFG_EN (n : Nat) (k : Nat) : Fld := fld (0x00516000 + 0x80000 * (n % 4) + 0x10 * (k % 16)) 9 1 0
/- TRIG_RT_k_WIN_LO, chapter 07 -/
def TRIG_RT_WIN_LO_WIN (n : Nat) (k : Nat) : Fld := fld (0x00516004 + 0x80000 * (n % 4) + 0x10 * (k % 16)) 0 32 0
/- TRIG_RT_k_WIN_HI, chapter 07 -/
def TRIG_RT_WIN_HI_WIN (n : Nat) (k : Nat) : Fld := fld (0x00516008 + 0x80000 * (n % 4) + 0x10 * (k % 16)) 0 16 0
/- TRIG_SEQ_CFG, chapter 08 -/
def TRIG_SEQ_CFG_MODE (n : Nat) : Fld := fld (0x00540000 + 0x80000 * (n % 4)) 0 1 0
def TRIG_SEQ_CFG_AUTOARM (n : Nat) : Fld := fld (0x00540000 + 0x80000 * (n % 4)) 1 1 0
def TRIG_SEQ_CFG_FREEZE (n : Nat) : Fld := fld (0x00540000 + 0x80000 * (n % 4)) 2 1 0
def TRIG_SEQ_CFG_TGT (n : Nat) : Fld := fld (0x00540000 + 0x80000 * (n % 4)) 16 16 0
/- TRIG_SEQ_CMD, chapter 08 -/
def TRIG_SEQ_CMD_ARM (n : Nat) : Fld := fld (0x00540004 + 0x80000 * (n % 4)) 0 1 0
def TRIG_SEQ_CMD_DISARM (n : Nat) : Fld := fld (0x00540004 + 0x80000 * (n % 4)) 1 1 0
def TRIG_SEQ_CMD_COMMIT (n : Nat) : Fld := fld (0x00540004 + 0x80000 * (n % 4)) 2 1 0
/- TRIG_SEQ_STAT, chapter 08 -/
def TRIG_SEQ_STAT_STATE (n : Nat) : Fld := fld (0x00540008 + 0x80000 * (n % 4)) 0 3 0
def TRIG_SEQ_STAT_EVAL (n : Nat) : Fld := fld (0x00540008 + 0x80000 * (n % 4)) 3 1 0
def TRIG_SEQ_STAT_LEVEL (n : Nat) : Fld := fld (0x00540008 + 0x80000 * (n % 4)) 4 4 0
def TRIG_SEQ_STAT_CFG_PEND (n : Nat) : Fld := fld (0x00540008 + 0x80000 * (n % 4)) 8 1 0
def TRIG_SEQ_STAT_CMT_PEND (n : Nat) : Fld := fld (0x00540008 + 0x80000 * (n % 4)) 9 1 0
def TRIG_SEQ_STAT_MARK_SET (n : Nat) : Fld := fld (0x00540008 + 0x80000 * (n % 4)) 10 1 0
def TRIG_SEQ_STAT_MARK_VALID (n : Nat) : Fld := fld (0x00540008 + 0x80000 * (n % 4)) 11 1 0
/- TRIG_SEQ_EVT, chapter 08 -/
def TRIG_SEQ_EVT_TRIG (n : Nat) : Fld := fld (0x0054000C + 0x80000 * (n % 4)) 0 1 0
def TRIG_SEQ_EVT_IRQ (n : Nat) : Fld := fld (0x0054000C + 0x80000 * (n % 4)) 1 1 0
def TRIG_SEQ_EVT_RESULT (n : Nat) : Fld := fld (0x0054000C + 0x80000 * (n % 4)) 2 1 0
def TRIG_SEQ_EVT_MARK_LOST (n : Nat) : Fld := fld (0x0054000C + 0x80000 * (n % 4)) 3 1 0
def TRIG_SEQ_EVT_CAT_OVF (n : Nat) : Fld := fld (0x0054000C + 0x80000 * (n % 4)) 4 1 0
def TRIG_SEQ_EVT_CMT_REJ (n : Nat) : Fld := fld (0x0054000C + 0x80000 * (n % 4)) 5 1 0
def TRIG_SEQ_EVT_CASC_LATE (n : Nat) : Fld := fld (0x0054000C + 0x80000 * (n % 4)) 6 1 0
def TRIG_SEQ_EVT_ARM_IGN (n : Nat) : Fld := fld (0x0054000C + 0x80000 * (n % 4)) 7 1 0
def TRIG_SEQ_EVT_RR_END (n : Nat) : Fld := fld (0x0054000C + 0x80000 * (n % 4)) 8 1 0
/- TRIG_SEQ_EVT_EN, chapter 08 -/
def TRIG_SEQ_EVT_EN_EN (n : Nat) : Fld := fld (0x00540010 + 0x80000 * (n % 4)) 0 9 511
/- TRIG_SEQ_REJ, chapter 08 -/
def TRIG_SEQ_REJ_LVL (n : Nat) : Fld := fld (0x00540014 + 0x80000 * (n % 4)) 0 4 0
def TRIG_SEQ_REJ_BR (n : Nat) : Fld := fld (0x00540014 + 0x80000 * (n % 4)) 4 2 0
def TRIG_SEQ_REJ_WHY (n : Nat) : Fld := fld (0x00540014 + 0x80000 * (n % 4)) 8 3 0
/- TRIG_SEQ_PRE_LO, chapter 08 -/
def TRIG_SEQ_PRE_LO_PRE (n : Nat) : Fld := fld (0x00540020 + 0x80000 * (n % 4)) 0 32 0
/- TRIG_SEQ_PRE_HI, chapter 08 -/
def TRIG_SEQ_PRE_HI_PRE (n : Nat) : Fld := fld (0x00540024 + 0x80000 * (n % 4)) 0 16 0
/- TRIG_SEQ_POST_LO, chapter 08 -/
def TRIG_SEQ_POST_LO_POST (n : Nat) : Fld := fld (0x00540028 + 0x80000 * (n % 4)) 0 32 0
/- TRIG_SEQ_POST_HI, chapter 08 -/
def TRIG_SEQ_POST_HI_POST (n : Nat) : Fld := fld (0x0054002C + 0x80000 * (n % 4)) 0 16 0
/- TRIG_SEQ_REW_LO, chapter 08 -/
def TRIG_SEQ_REW_LO_REW (n : Nat) : Fld := fld (0x00540030 + 0x80000 * (n % 4)) 0 32 0
/- TRIG_SEQ_REW_HI, chapter 08 -/
def TRIG_SEQ_REW_HI_REW (n : Nat) : Fld := fld (0x00540034 + 0x80000 * (n % 4)) 0 16 0
/- TRIG_SEQ_CASC, chapter 08 -/
def TRIG_SEQ_CASC_DLY (n : Nat) : Fld := fld (0x00540038 + 0x80000 * (n % 4)) 0 24 102400
/- TRIG_SEQ_ARM_TS_LO, chapter 08 -/
def TRIG_SEQ_ARM_TS_LO_TS (n : Nat) : Fld := fld (0x00540040 + 0x80000 * (n % 4)) 0 32 0
/- TRIG_SEQ_ARM_TS_HI, chapter 08 -/
def TRIG_SEQ_ARM_TS_HI_TS (n : Nat) : Fld := fld (0x00540044 + 0x80000 * (n % 4)) 0 32 0
/- TRIG_SEQ_TRIGCNT, chapter 08 -/
def TRIG_SEQ_TRIGCNT_CNT (n : Nat) : Fld := fld (0x00540048 + 0x80000 * (n % 4)) 0 32 0
/- TRIG_SEQ_IGN, chapter 08 -/
def TRIG_SEQ_IGN_CNT (n : Nat) : Fld := fld (0x0054004C + 0x80000 * (n % 4)) 0 32 0
/- TRIG_SEQ_REPLAY, chapter 08 -/
def TRIG_SEQ_REPLAY_CNT (n : Nat) : Fld := fld (0x00540050 + 0x80000 * (n % 4)) 0 32 0
/- TRIG_SEQ_LATE, chapter 08 -/
def TRIG_SEQ_LATE_CNT (n : Nat) : Fld := fld (0x00540054 + 0x80000 * (n % 4)) 0 32 0
/- TRIG_SEQ_MARK_LO, chapter 08 -/
def TRIG_SEQ_MARK_LO_TS (n : Nat) : Fld := fld (0x00540058 + 0x80000 * (n % 4)) 0 32 0
/- TRIG_SEQ_MARK_HI, chapter 08 -/
def TRIG_SEQ_MARK_HI_TS (n : Nat) : Fld := fld (0x0054005C + 0x80000 * (n % 4)) 0 32 0
/- TRIG_SEQ_RES_STAT, chapter 08 -/
def TRIG_SEQ_RES_STAT_VALID (n : Nat) : Fld := fld (0x00540100 + 0x80000 * (n % 4)) 0 1 0
def TRIG_SEQ_RES_STAT_RETRIG (n : Nat) : Fld := fld (0x00540100 + 0x80000 * (n % 4)) 1 1 0
def TRIG_SEQ_RES_STAT_PRE_SHORT (n : Nat) : Fld := fld (0x00540100 + 0x80000 * (n % 4)) 2 1 0
def TRIG_SEQ_RES_STAT_POST_SHORT (n : Nat) : Fld := fld (0x00540100 + 0x80000 * (n % 4)) 3 1 0
def TRIG_SEQ_RES_STAT_MARK_LOST (n : Nat) : Fld := fld (0x00540100 + 0x80000 * (n % 4)) 4 1 0
def TRIG_SEQ_RES_STAT_STOPPED (n : Nat) : Fld := fld (0x00540100 + 0x80000 * (n % 4)) 5 1 0
def TRIG_SEQ_RES_STAT_LEVEL (n : Nat) : Fld := fld (0x00540100 + 0x80000 * (n % 4)) 8 4 0
def TRIG_SEQ_RES_STAT_BRANCH (n : Nat) : Fld := fld (0x00540100 + 0x80000 * (n % 4)) 12 2 0
def TRIG_SEQ_RES_STAT_GEN (n : Nat) : Fld := fld (0x00540100 + 0x80000 * (n % 4)) 16 16 0
/- TRIG_SEQ_RES_T_LO, chapter 08 -/
def TRIG_SEQ_RES_T_LO_TS (n : Nat) : Fld := fld (0x00540104 + 0x80000 * (n % 4)) 0 32 0
/- TRIG_SEQ_RES_T_HI, chapter 08 -/
def TRIG_SEQ_RES_T_HI_TS (n : Nat) : Fld := fld (0x00540108 + 0x80000 * (n % 4)) 0 32 0
/- TRIG_SEQ_RES_PRE_LO, chapter 08 -/
def TRIG_SEQ_RES_PRE_LO_PRE (n : Nat) : Fld := fld (0x0054010C + 0x80000 * (n % 4)) 0 32 0
/- TRIG_SEQ_RES_PRE_HI, chapter 08 -/
def TRIG_SEQ_RES_PRE_HI_PRE (n : Nat) : Fld := fld (0x00540110 + 0x80000 * (n % 4)) 0 32 0
/- TRIG_SEQ_RES_POST_LO, chapter 08 -/
def TRIG_SEQ_RES_POST_LO_POST (n : Nat) : Fld := fld (0x00540114 + 0x80000 * (n % 4)) 0 32 0
/- TRIG_SEQ_RES_POST_HI, chapter 08 -/
def TRIG_SEQ_RES_POST_HI_POST (n : Nat) : Fld := fld (0x00540118 + 0x80000 * (n % 4)) 0 32 0
/- TRIG_CAT_BASE, chapter 08 -/
def TRIG_CAT_BASE_LINE (n : Nat) : Fld := fld (0x00540200 + 0x80000 * (n % 4)) 0 29 0
/- TRIG_CAT_SIZE, chapter 08 -/
def TRIG_CAT_SIZE_LOG2 (n : Nat) : Fld := fld (0x00540204 + 0x80000 * (n % 4)) 0 5 0
/- TRIG_CAT_WIDX, chapter 08 -/
def TRIG_CAT_WIDX_IDX (n : Nat) : Fld := fld (0x00540208 + 0x80000 * (n % 4)) 0 32 0
/- TRIG_CAT_RIDX, chapter 08 -/
def TRIG_CAT_RIDX_IDX (n : Nat) : Fld := fld (0x0054020C + 0x80000 * (n % 4)) 0 32 0
/- TRIG_CAT_CFG, chapter 08 -/
def TRIG_CAT_CFG_OVW (n : Nat) : Fld := fld (0x00540210 + 0x80000 * (n % 4)) 0 1 0
/- TRIG_CAT_LOST, chapter 08 -/
def TRIG_CAT_LOST_CNT (n : Nat) : Fld := fld (0x00540214 + 0x80000 * (n % 4)) 0 32 0
/- TRIG_LVL_l_BR_b_TERM, chapter 08 -/
def TRIG_LVL_BR_TERM_T0 (n : Nat) (l : Nat) (b : Nat) : Fld := fld (0x00541000 + 0x80000 * (n % 4) + 0x100 * (l % 16) + 0x20 * (b % 4)) 0 8 0
def TRIG_LVL_BR_TERM_T1 (n : Nat) (l : Nat) (b : Nat) : Fld := fld (0x00541000 + 0x80000 * (n % 4) + 0x100 * (l % 16) + 0x20 * (b % 4)) 8 8 0
def TRIG_LVL_BR_TERM_T2 (n : Nat) (l : Nat) (b : Nat) : Fld := fld (0x00541000 + 0x80000 * (n % 4) + 0x100 * (l % 16) + 0x20 * (b % 4)) 16 8 0
def TRIG_LVL_BR_TERM_T3 (n : Nat) (l : Nat) (b : Nat) : Fld := fld (0x00541000 + 0x80000 * (n % 4) + 0x100 * (l % 16) + 0x20 * (b % 4)) 24 8 0
/- TRIG_LVL_l_BR_b_CTL, chapter 08 -/
def TRIG_LVL_BR_CTL_TRUTH (n : Nat) (l : Nat) (b : Nat) : Fld := fld (0x00541004 + 0x80000 * (n % 4) + 0x100 * (l % 16) + 0x20 * (b % 4)) 0 16 0
def TRIG_LVL_BR_CTL_NEXT (n : Nat) (l : Nat) (b : Nat) : Fld := fld (0x00541004 + 0x80000 * (n % 4) + 0x100 * (l % 16) + 0x20 * (b % 4)) 16 4 0
/- TRIG_LVL_l_BR_b_ACT, chapter 08 -/
def TRIG_LVL_BR_ACT_TRIGGER (n : Nat) (l : Nat) (b : Nat) : Fld := fld (0x00541008 + 0x80000 * (n % 4) + 0x100 * (l % 16) + 0x20 * (b % 4)) 0 1 0
def TRIG_LVL_BR_ACT_REWIND (n : Nat) (l : Nat) (b : Nat) : Fld := fld (0x00541008 + 0x80000 * (n % 4) + 0x100 * (l % 16) + 0x20 * (b % 4)) 1 1 0
def TRIG_LVL_BR_ACT_MARK (n : Nat) (l : Nat) (b : Nat) : Fld := fld (0x00541008 + 0x80000 * (n % 4) + 0x100 * (l % 16) + 0x20 * (b % 4)) 2 1 0
def TRIG_LVL_BR_ACT_CAT (n : Nat) (l : Nat) (b : Nat) : Fld := fld (0x00541008 + 0x80000 * (n % 4) + 0x100 * (l % 16) + 0x20 * (b % 4)) 3 1 0
def TRIG_LVL_BR_ACT_IRQ (n : Nat) (l : Nat) (b : Nat) : Fld := fld (0x00541008 + 0x80000 * (n % 4) + 0x100 * (l % 16) + 0x20 * (b % 4)) 4 1 0
def TRIG_LVL_BR_ACT_CASC (n : Nat) (l : Nat) (b : Nat) : Fld := fld (0x00541008 + 0x80000 * (n % 4) + 0x100 * (l % 16) + 0x20 * (b % 4)) 5 1 0
def TRIG_LVL_BR_ACT_HALT (n : Nat) (l : Nat) (b : Nat) : Fld := fld (0x00541008 + 0x80000 * (n % 4) + 0x100 * (l % 16) + 0x20 * (b % 4)) 6 1 0
def TRIG_LVL_BR_ACT_CASC_LINE (n : Nat) (l : Nat) (b : Nat) : Fld := fld (0x00541008 + 0x80000 * (n % 4) + 0x100 * (l % 16) + 0x20 * (b % 4)) 8 3 0
def TRIG_LVL_BR_ACT_CODE (n : Nat) (l : Nat) (b : Nat) : Fld := fld (0x00541008 + 0x80000 * (n % 4) + 0x100 * (l % 16) + 0x20 * (b % 4)) 16 16 0
/- TRIG_LVL_l_BR_b_OPS, chapter 08 -/
def TRIG_LVL_BR_OPS_OPA_ID (n : Nat) (l : Nat) (b : Nat) : Fld := fld (0x0054100C + 0x80000 * (n % 4) + 0x100 * (l % 16) + 0x20 * (b % 4)) 0 8 0
def TRIG_LVL_BR_OPS_OPA_OP (n : Nat) (l : Nat) (b : Nat) : Fld := fld (0x0054100C + 0x80000 * (n % 4) + 0x100 * (l % 16) + 0x20 * (b % 4)) 8 3 0
def TRIG_LVL_BR_OPS_OPB_ID (n : Nat) (l : Nat) (b : Nat) : Fld := fld (0x0054100C + 0x80000 * (n % 4) + 0x100 * (l % 16) + 0x20 * (b % 4)) 16 8 0
def TRIG_LVL_BR_OPS_OPB_OP (n : Nat) (l : Nat) (b : Nat) : Fld := fld (0x0054100C + 0x80000 * (n % 4) + 0x100 * (l % 16) + 0x20 * (b % 4)) 24 3 0
/- TRIG_LVL_l_BR_b_HIT, chapter 08 -/
def TRIG_LVL_BR_HIT_CNT (n : Nat) (l : Nat) (b : Nat) : Fld := fld (0x00541010 + 0x80000 * (n % 4) + 0x100 * (l % 16) + 0x20 * (b % 4)) 0 32 0
/- TRIG_RR_CTRL, chapter 08 -/
def TRIG_RR_CTRL_START : Fld := fld (0x00560000) 0 1 0
def TRIG_RR_CTRL_STOP : Fld := fld (0x00560000) 1 1 0
def TRIG_RR_CTRL_CTX : Fld := fld (0x00560000) 4 4 0
def TRIG_RR_CTRL_REG : Fld := fld (0x00560000) 8 4 0
def TRIG_RR_CTRL_ARM : Fld := fld (0x00560000) 12 1 0
/- TRIG_RR_STAT, chapter 08 -/
def TRIG_RR_STAT_BUSY : Fld := fld (0x00560004) 0 1 0
def TRIG_RR_STAT_VALID : Fld := fld (0x00560004) 1 1 0
def TRIG_RR_STAT_END : Fld := fld (0x00560004) 2 3 0
def TRIG_RR_STAT_GEN : Fld := fld (0x00560004) 16 16 0
/- TRIG_RR_FROM_LO, chapter 08 -/
def TRIG_RR_FROM_LO_TS : Fld := fld (0x00560008) 0 32 0
/- TRIG_RR_FROM_HI, chapter 08 -/
def TRIG_RR_FROM_HI_TS : Fld := fld (0x0056000C) 0 32 0
/- TRIG_RR_TO_LO, chapter 08 -/
def TRIG_RR_TO_LO_TS : Fld := fld (0x00560010) 0 32 0
/- TRIG_RR_TO_HI, chapter 08 -/
def TRIG_RR_TO_HI_TS : Fld := fld (0x00560014) 0 32 0
/- TRIG_RR_POS_LO, chapter 08 -/
def TRIG_RR_POS_LO_TS : Fld := fld (0x00560018) 0 32 0
/- TRIG_RR_POS_HI, chapter 08 -/
def TRIG_RR_POS_HI_TS : Fld := fld (0x0056001C) 0 32 0
/- TRIG_RR_HOLES, chapter 08 -/
def TRIG_RR_HOLES_CNT : Fld := fld (0x00560020) 0 32 0
/- TRIG_RR_OUT, chapter 08 -/
def TRIG_RR_OUT_OFFS : Fld := fld (0x00560024) 0 32 0
/- TRIG_RR_OUTLEN, chapter 08 -/
def TRIG_RR_OUTLEN_LEN : Fld := fld (0x00560028) 0 16 0
/- TRIG_RR_NENT, chapter 08 -/
def TRIG_RR_NENT_CNT : Fld := fld (0x0056002C) 0 32 0
/- TRIG_RR_DROP, chapter 08 -/
def TRIG_RR_DROP_CNT : Fld := fld (0x00560030) 0 32 0
/-- TRIG_RES_CMT_TS_LO and _HI taken together. -/
def TRIG_RES_CMT_TS (n : Nat) : Fld2 := ⟨TRIG_RES_CMT_TS_LO_TS n, TRIG_RES_CMT_TS_HI_TS n⟩
/-- TRIG_WR_VAL_LO and _HI taken together. -/
def TRIG_WR_VAL (w : Nat) : Fld2 := ⟨TRIG_WR_VAL_LO_VAL w, TRIG_WR_VAL_HI_VAL w⟩
/-- TRIG_WR_MASK_LO and _HI taken together. -/
def TRIG_WR_MASK (w : Nat) : Fld2 := ⟨TRIG_WR_MASK_LO_MASK w, TRIG_WR_MASK_HI_MASK w⟩
/-- TRIG_WR_LAST_LO and _HI taken together. -/
def TRIG_WR_LAST (w : Nat) : Fld2 := ⟨TRIG_WR_LAST_LO_TS w, TRIG_WR_LAST_HI_TS w⟩
/-- TRIG_ED_WMIN_LO and _HI taken together. -/
def TRIG_ED_WMIN (e : Nat) : Fld2 := ⟨TRIG_ED_WMIN_LO_WMIN e, TRIG_ED_WMIN_HI_WMIN e⟩
/-- TRIG_ED_WMAX_LO and _HI taken together. -/
def TRIG_ED_WMAX (e : Nat) : Fld2 := ⟨TRIG_ED_WMAX_LO_WMAX e, TRIG_ED_WMAX_HI_WMAX e⟩
/-- TRIG_ED_LAST_LO and _HI taken together. -/
def TRIG_ED_LAST (e : Nat) : Fld2 := ⟨TRIG_ED_LAST_LO_TS e, TRIG_ED_LAST_HI_TS e⟩
/-- TRIG_RC_LOW_LO and _HI taken together. -/
def TRIG_RC_LOW (r : Nat) : Fld2 := ⟨TRIG_RC_LOW_LO_LOW r, TRIG_RC_LOW_HI_LOW r⟩
/-- TRIG_RC_HIGH_LO and _HI taken together. -/
def TRIG_RC_HIGH (r : Nat) : Fld2 := ⟨TRIG_RC_HIGH_LO_HIGH r, TRIG_RC_HIGH_HI_HIGH r⟩
/-- TRIG_RC_LAST_LO and _HI taken together. -/
def TRIG_RC_LAST (r : Nat) : Fld2 := ⟨TRIG_RC_LAST_LO_TS r, TRIG_RC_LAST_HI_TS r⟩
/-- TRIG_CNT_TC_LO and _HI taken together. -/
def TRIG_CNT_TC (c : Nat) : Fld2 := ⟨TRIG_CNT_TC_LO_TC c, TRIG_CNT_TC_HI_TC c⟩
/-- TRIG_CNT_INIT_LO and _HI taken together. -/
def TRIG_CNT_INIT (c : Nat) : Fld2 := ⟨TRIG_CNT_INIT_LO_INIT c, TRIG_CNT_INIT_HI_INIT c⟩
/-- TRIG_CNT_VAL_LO and _HI taken together. -/
def TRIG_CNT_VAL (c : Nat) : Fld2 := ⟨TRIG_CNT_VAL_LO_C c, TRIG_CNT_VAL_HI_C c⟩
/-- TRIG_CNT_LAST_LO and _HI taken together. -/
def TRIG_CNT_LAST (c : Nat) : Fld2 := ⟨TRIG_CNT_LAST_LO_TS c, TRIG_CNT_LAST_HI_TS c⟩
/-- TRIG_TMR_LIM_LO and _HI taken together. -/
def TRIG_TMR_LIM (m : Nat) : Fld2 := ⟨TRIG_TMR_LIM_LO_LIM m, TRIG_TMR_LIM_HI_LIM m⟩
/-- TRIG_TMR_INIT_LO and _HI taken together. -/
def TRIG_TMR_INIT (m : Nat) : Fld2 := ⟨TRIG_TMR_INIT_LO_INIT m, TRIG_TMR_INIT_HI_INIT m⟩
/-- TRIG_TMR_VAL_LO and _HI taken together. -/
def TRIG_TMR_VAL (m : Nat) : Fld2 := ⟨TRIG_TMR_VAL_LO_E m, TRIG_TMR_VAL_HI_E m⟩
/-- TRIG_TMR_LAST_LO and _HI taken together. -/
def TRIG_TMR_LAST (m : Nat) : Fld2 := ⟨TRIG_TMR_LAST_LO_TS m, TRIG_TMR_LAST_HI_TS m⟩
/-- TRIG_FLG_LAST_LO and _HI taken together. -/
def TRIG_FLG_LAST (f : Nat) : Fld2 := ⟨TRIG_FLG_LAST_LO_TS f, TRIG_FLG_LAST_HI_TS f⟩
/-- TRIG_RT_WIN_LO and _HI taken together. -/
def TRIG_RT_WIN (n : Nat) (k : Nat) : Fld2 := ⟨TRIG_RT_WIN_LO_WIN n k, TRIG_RT_WIN_HI_WIN n k⟩
/-- TRIG_SEQ_PRE_LO and _HI taken together. -/
def TRIG_SEQ_PRE (n : Nat) : Fld2 := ⟨TRIG_SEQ_PRE_LO_PRE n, TRIG_SEQ_PRE_HI_PRE n⟩
/-- TRIG_SEQ_POST_LO and _HI taken together. -/
def TRIG_SEQ_POST (n : Nat) : Fld2 := ⟨TRIG_SEQ_POST_LO_POST n, TRIG_SEQ_POST_HI_POST n⟩
/-- TRIG_SEQ_REW_LO and _HI taken together. -/
def TRIG_SEQ_REW (n : Nat) : Fld2 := ⟨TRIG_SEQ_REW_LO_REW n, TRIG_SEQ_REW_HI_REW n⟩
/-- TRIG_SEQ_ARM_TS_LO and _HI taken together. -/
def TRIG_SEQ_ARM_TS (n : Nat) : Fld2 := ⟨TRIG_SEQ_ARM_TS_LO_TS n, TRIG_SEQ_ARM_TS_HI_TS n⟩
/-- TRIG_SEQ_MARK_LO and _HI taken together. -/
def TRIG_SEQ_MARK (n : Nat) : Fld2 := ⟨TRIG_SEQ_MARK_LO_TS n, TRIG_SEQ_MARK_HI_TS n⟩
/-- TRIG_SEQ_RES_T_LO and _HI taken together. -/
def TRIG_SEQ_RES_T (n : Nat) : Fld2 := ⟨TRIG_SEQ_RES_T_LO_TS n, TRIG_SEQ_RES_T_HI_TS n⟩
/-- TRIG_SEQ_RES_PRE_LO and _HI taken together. -/
def TRIG_SEQ_RES_PRE (n : Nat) : Fld2 := ⟨TRIG_SEQ_RES_PRE_LO_PRE n, TRIG_SEQ_RES_PRE_HI_PRE n⟩
/-- TRIG_SEQ_RES_POST_LO and _HI taken together. -/
def TRIG_SEQ_RES_POST (n : Nat) : Fld2 := ⟨TRIG_SEQ_RES_POST_LO_POST n, TRIG_SEQ_RES_POST_HI_POST n⟩
/-- TRIG_RR_FROM_LO and _HI taken together. -/
def TRIG_RR_FROM : Fld2 := ⟨TRIG_RR_FROM_LO_TS, TRIG_RR_FROM_HI_TS⟩
/-- TRIG_RR_TO_LO and _HI taken together. -/
def TRIG_RR_TO : Fld2 := ⟨TRIG_RR_TO_LO_TS, TRIG_RR_TO_HI_TS⟩
/-- TRIG_RR_POS_LO and _HI taken together. -/
def TRIG_RR_POS : Fld2 := ⟨TRIG_RR_POS_LO_TS, TRIG_RR_POS_HI_TS⟩

end Machine
end Sys2Proof
end

