-- ==== Sys2Proof/Machine/Lines.lean ====
section
/-!
DEFINITION. Accession's lines: forming a line (R205 to R207), placing it in a region (R221), the horizon and the marks
that follow it (R222, R191), full and frozen regions (R225, R193), TIME records (R216), event records (R217, R218) and
the streams of a region (R208 to R215, R232). Shared by every command that makes Accession write.
-/
namespace Sys2Proof
namespace Machine

/-! ### The bytes of a line (R205, R206) -/

/-- TIME_EPOCH.GEN of a stamp: the GEN in force, one less for a stamp from before the last wrap of TS64, one more for a
stamp past the next (R130, R206, R198). -/
def egenOf (e : Eng) (ts : Nat) : Nat :=
  let g := e.rd TIME_EPOCH_GEN
  if tsBefore ts e.ts && e.ts < ts then (g + 2 ^ 16 - 1) % 2 ^ 16
  else if tsBefore e.ts ts && ts < e.ts then (g + 1) % 2 ^ 16
  else g

/-- FLAGS of a line (R206). -/
def lineFlags (e : Eng) (l : LineRec) : Nat :=
  l.tile + (if e.double then 8 else 0) + e.rd GLB_MODE_STAT_CUR % 8 * 16 + egenOf e l.base % 4 * 128 +
  (if l.cont then 512 else 0) + l.units * 1024

/-- The 256 bytes of a line of region `n` (R205). -/
def lineBytes (e : Eng) (n : Nat) (l : LineRec) : List Byte :=
  leBytes 1 l.ty ++ leBytes 1 n ++ leBytes 1 (e.rd (ACC_CREG_GS_GEN n)) ++ leBytes 3 (e.rd (ACC_CREG_GS_SEQ n)) ++
  leBytes 8 l.base ++ leBytes 2 (lineFlags e l) ++
  (l.payload ++ List.replicate 240 0).take 240

/-- The byte address of offset `o` of region `n`. -/
def lineAddr (e : Eng) (n o : Nat) : Nat := (e.rd (ACC_CREG_BASE_LINE n) + o) * 256

/-- The stack of a line holds a request now: its ranks wake (R295). -/
def stackHeld (line : Nat) (e : Eng) : Eng :=
  if !memRuns e then e
  else
    let k := e.mc.stks.getD (line % 4) {}
    { e.wr (MEM_REF_STAT_PWR (line % 4)) 0 with mc := { e.mc with stks := putAt e.mc.stks (line % 4) { k with heldAt := e.now } {} } }

/-- All 256 bytes of a line have been stored: what damaged its sectors is overwritten, and an armed injection stores its
fault (R264, R279). -/
def lineStored (line : Nat) (e : Eng) : Eng :=
  let hit := e.on MEM_INJ_ARM && e.rd MEM_INJ_LINE == line
  let keep := if e.mc.dmg.isEmpty then [] else e.mc.dmg.filter fun d => d.line != line
  let e1 := { e with mc := { e.mc with
    dmg := keep ++ if hit then [⟨line, e.rd MEM_INJ_CFG_POS, e.rd MEM_INJ_CFG_KIND⟩] else [] } }
  stackHeld line (if hit then e1.wr MEM_INJ_ARM 0 else e1)

/-- Write a full line of capture memory: the bytes, and its eight sectors clean (R261). -/
def emitLine (e : Eng) (addr : Nat) (bytes : List Byte) : Eng :=
  lineStored (addr / 256)
    ((List.range 8).foldl (fun a i => a.emit (.capPoison (addr / 32 + i) false)) (e.emit (.cap addr bytes)))

/-! ### Marks and the horizon (R191, R222) -/

/-- A Catalogue entry of 32 bytes (R198). -/
def catBytes (e : Eng) (ts seq kind ctx pos code line region : Nat) : List Byte :=
  let b := leBytes 8 ts ++ leBytes 4 seq ++ leBytes 1 kind ++ leBytes 1 ctx ++ leBytes 1 pos ++ leBytes 1 0 ++
    leBytes 2 code ++ leBytes 2 (egenOf e ts) ++ leBytes 4 line ++ leBytes 1 region ++ leBytes 3 0
  b ++ leBytes 4 (crc32c b)

/-- Write a Catalogue entry into the ring of context `n` (R199). The ring stays full while entries are overwritten, and
each entry lost counts; the distance is that of R152. -/
def catWrite (n ts kind pos code line region : Nat) (e : Eng) : Eng :=
  let lg := e.rd (TRIG_CAT_SIZE_LOG2 n)
  let w := e.rd (TRIG_CAT_WIDX_IDX n)
  if lg = 0 then e.addSat (TRIG_CAT_LOST_CNT n) 1
  else
    let ahead := (w + 2 ^ 32 - e.rd (TRIG_CAT_RIDX_IDX n)) % 2 ^ 32
    let full := 2 ^ lg ≤ ahead && ahead < 2 ^ 31
    let e1 := if full then (e.addSat (TRIG_CAT_LOST_CNT n) 1).raise (TRIG_SEQ_EVT_CAT_OVF n) else e
    if full && !e.on (TRIG_CAT_CFG_OVW n) then e1
    else
      (e1.emit (.cap (e.rd (TRIG_CAT_BASE_LINE n) * 256 + w % 2 ^ lg * 32) (catBytes e ts w kind n pos code line region))).addWrap
        (TRIG_CAT_WIDX_IDX n) 1

/-- Write an entry to the output of a retriggering run (R202), in the trigger partition only (R308): outside it the write is
refused. -/
def rrWrite (ctx ts kind pos code line region : Nat) (e : Eng) : Eng :=
  let k := e.rd TRIG_RR_NENT_CNT
  let a := e.rr.out + 32 * k
  if e.rr.outLen ≤ k then e.addSat TRIG_RR_DROP_CNT 1
  else if !unitReaches e 2 a 32 then partRefuse 2 a e
  else (e.emit (.scr a (catBytes e ts k kind (ctx + 128) pos code line region))).wr TRIG_RR_NENT_CNT (k + 1)

/-- Write the Catalogue entries of context `n` that have their line, oldest first, while capture memory runs (R117). -/
def catFlush (n : Nat) : Nat → Eng → Eng
  | 0, e => e
  | fuel + 1, e =>
    match (e.getCx n).cats with
    | c :: rest =>
      if c.wait || !memRuns e then e
      else catFlush n fuel (catWrite n c.ts c.kind c.pos c.code c.line c.region (e.modCx n fun x => { x with cats := rest }))
    | [] => e

/-- Write what can be written of the Catalogue of context `n`. -/
def catGo (n : Nat) (e : Eng) : Eng := catFlush n (e.getCx n).cats.length e

/-- A Catalogue entry of context `n` takes its place behind those that wait: `wait` while the line of its record is not known. -/
def catAdd (n ts kind pos code : Nat) (wait : Bool) (e : Eng) : Eng :=
  catGo n (e.modCx n fun c =>
    { c with cats := c.cats ++ [⟨c.catNext, ts, kind, pos, code, wait, 0xFFFFFFFF, 0xFF⟩], catNext := c.catNext + 1 })

/-- The record that a Catalogue entry waits for has its line, or has none (R198). -/
def catSettle (cat : Option (Nat × Nat)) (place : Option (Nat × Nat)) (e : Eng) : Eng :=
  match cat with
  | none => e
  | some (n, i) =>
    let p := place.getD (0xFFFFFFFF, 0xFF)
    catGo n (e.modCx n fun c =>
      { c with cats := c.cats.map fun x => if x.id = i then { x with wait := false, line := p.1, region := p.2 } else x })

/-- The mark of context `n` becomes invalid for a target region (R191): MARK_VALID clears, MARK_LOST is set and its entry
is written, before the line that held the mark is overwritten (R225). -/
def markLose (n r : Nat) (e : Eng) : Eng :=
  let m := e.rdq (TRIG_SEQ_MARK n)
  let e1 := (e.modCx n fun c => { c with markBad := setNatBit c.markBad r }).wr (TRIG_SEQ_STAT_MARK_VALID n) 0
  let e2 := e1.raise (TRIG_SEQ_EVT_MARK_LOST n)
  if e.on TRIG_RR_STAT_BUSY then rrWrite n m 2 0 0 0xFFFFFFFF 0xFF e2
  else if memRuns e then catWrite n m 2 0 0 0xFFFFFFFF 0xFF e2
  else catAdd n m 2 0 0 false e2

/-- The target regions of context `n`. -/
def isTarget (e : Eng) (n r : Nat) : Bool := natBit (e.rda (TRIG_SEQ_CFG_TGT n)) r

/-- The horizon of region `r` moves to `h` (or there is none left): marks older than it are lost. -/
def loseMarks (r : Nat) (h : Option Nat) (e : Eng) : Eng :=
  (List.range 4).foldl (fun a n =>
    if a.on (TRIG_SEQ_STAT_MARK_SET n) && isTarget a n r && !natBit (a.getCx n).markBad r &&
       (match h with
        | none => true
        | some x => tsBefore (a.rdq (TRIG_SEQ_MARK n)) x)
    then markLose n r a else a) e

/-- Set the horizon registers from the TIME records held (R222). -/
def horizonOut (n : Nat) (e : Eng) : Eng :=
  match (e.getRg n).times with
  | [] => e.wr (ACC_CREG_STAT_HVALID n) 0
  | (_, ts) :: _ => (e.wr (ACC_CREG_STAT_HVALID n) 1).wrq (ACC_CREG_HOR n) ts

/-- Before line number `k` is written over line `k - SIZE`: the TIME record there leaves the region and the horizon moves
(R222), after the marks it held are lost (R225). -/
def horizonAdvance (n k size : Nat) (e : Eng) : Eng :=
  match (e.getRg n).times with
  | (i, _) :: rest =>
    if size ≤ k ∧ i + size ≤ k then
      horizonOut n ((loseMarks n (rest.head?.map (·.2)) e).modRg n fun r => { r with times := rest })
    else e
  | [] => e

/-! ### Placing a line -/

/-- A line that cannot be written is discarded and counted (R225). -/
def lineLost (n : Nat) (e : Eng) : Eng := (e.addSat (ACC_CREG_LOST_CNT n) 1).raise (ACC_CREG_STAT_DROP n)

/-- A line holds data: SAMPLE, TRANSITION, CBLOCK. -/
def LineRec.data (l : LineRec) : Bool := l.ty == 1 || l.ty == 2 || l.ty == 10

/-- The lowest first tick among the data for a region that Accession holds and has not written. -/
def firstHeld (r : RegionSt) (fallback : Nat) : Nat :=
  let ts := r.streams.filterMap (fun s => match s.cont with
      | some c => some c.base
      | none => s.ticks.head?) ++
    r.outQ.filterMap fun o => match o with
      | .cont s _ => some s.base
      | .line l _ => if l.data then some l.base else none
  ts.foldl (fun a t => if tsBefore t a then t else a) fallback

/-- Store the bytes of a line at the write pointer and advance the pointers (R221). -/
def placeLine (n : Nat) (l : LineRec) (e : Eng) : Eng :=
  let w := e.rd (ACC_CREG_POS_WPTR n)
  let size := e.rd (ACC_CREG_SIZE_LINES n)
  let k := (e.getRg n).lines
  let e0 := horizonAdvance n k size e
  let e1 := emitLine e0 (lineAddr e n w) (lineBytes e n l)
  let e2 := e1.addWrap (ACC_CREG_GS_SEQ n) 1
  let e3 := if w + 1 = size ∧ regionKind e n = 1 then
      ((e2.wr (ACC_CREG_POS_WPTR n) 0).addWrap (ACC_CREG_GS_GEN n) 1).raise (ACC_CREG_STAT_WRAP n)
    else e2.wr (ACC_CREG_POS_WPTR n) (w + 1)
  let e4 := e3.modRg n fun r => { r with lines := k + 1, timeLines := r.timeLines + 1 }
  let e5 := if l.ty = 4 then
      horizonOut n (e4.modRg n fun r => { r with times := r.times ++ [(k, l.base)], timeTs := l.base, timeLines := 0 })
    else e4
  if l.data then
    e5.modRg n fun r =>
      { r.modStream l.tile fun s => { s with written := some l.last } with lastTick := tsMax r.lastTick l.last, lineTick := l.last }
  else e5

/-- A GAP record (R217). -/
def gapLine (start fin cause tiles words : Nat) : LineRec :=
  ⟨7, 0, start, 6, false, leBytes 8 start ++ leBytes 8 fin ++ leBytes 1 cause ++ leBytes 1 tiles ++ leBytes 2 0 ++ leBytes 4 words, 0⟩

/-- The tiles a region receives, as a mask. -/
def regionTiles (e : Eng) (n : Nat) : Nat := maskOf 8 fun t => regionMask e n t != 0

/-- The last line of a LINEAR region: the closing GAP record of cause REGION, then FULL (R225). -/
def regionFull (n : Nat) (start : Nat) (e : Eng) : Eng :=
  let e1 := placeLine n (gapLine start (2 ^ 64 - 1) 5 (regionTiles e n) 0) e
  (e1.wr (ACC_CREG_STAT_FULL_NOW n) 1).raisePost (ACC_CREG_STAT_FULL n) 0 (leBytes 8 start)

/-- Region `n` becomes frozen by contexts, the frozen interval beginning at `start` (R193). -/
def freezeNow (n start : Nat) (ctxs : List Nat) (e : Eng) : Eng :=
  ((e.modRg n fun r =>
      { r with
        willFreeze := r.willFreeze.filter fun f => !ctxs.contains f.1
        protect := r.protect.filter fun p => !ctxs.contains p.1
        frozenBy := r.frozenBy ++ ctxs
        frozenFrom := if r.frozenBy.isEmpty then start else r.frozenFrom }).wr
    (ACC_CREG_STAT_FROZEN_NOW n) 1).raise (ACC_CREG_STAT_FROZEN n)

/-- Line number `k` would take the line that some contexts protect (R193): their retentions end at the last tick of the last
line written, and the region is frozen at once. -/
def protectHit (n k size : Nat) (e : Eng) : Eng × Bool :=
  let hits := ((e.getRg n).protect.filter fun p => p.2 + size == k).map (·.1)
  let fin := (e.getRg n).lineTick
  let limit (a : Eng) (c : Nat) : Eng := a.modCx c fun x => { x with rets := x.rets.map fun y => { y with limit := some fin } }
  if hits.isEmpty then (e, false) else (freezeNow n ((fin + 1) % 2 ^ 64) hits (hits.foldl limit e), true)

/-- Is every tick up to `t` that region `n` receives in a line that has been written? -/
def reached (e : Eng) (n t : Nat) : Bool :=
  (List.range 8).all fun k => !receivesTile e n k ||
    (let s := (e.getRg n).stream k
     let b := e.getEla k
     (s.ticks.all fun x => tsBefore t x) && (s.cont.all fun c => tsBefore t c.base) &&
     ((e.getRg n).outQ.all fun o => match o with
       | .cont c _ => c.tile != k || tsBefore t c.base
       | .line l _ => !l.data || l.tile != k || tsBefore t l.base) &&
     ((b.items.drop b.aRead).all fun i => match i with
       | .word w => tsBefore t w.stamp
       | _ => true) &&
     (!tileWrites e k || tsBefore t b.wPos))

/-- A region becomes frozen once the line holding E has been written (R193). -/
def freezeCheck (n : Nat) (e : Eng) : Eng :=
  let done := ((e.getRg n).willFreeze.filter fun f => reached e n f.2).map (·.1)
  if done.isEmpty then e else freezeNow n (((e.getRg n).lastTick + 1) % 2 ^ 64) done e

/-- Write one line into a region, or discard it where the region is full, frozen, or released and not restarted yet (R221,
R225, R193); the Catalogue entry that names its record learns the line. -/
def writeRec (n : Nat) (l : LineRec) (cat : Option (Nat × Nat)) (e : Eng) : Eng :=
  let size := e.rd (ACC_CREG_SIZE_LINES n)
  let lost (a : Eng) : Eng := catSettle cat none (lineLost n a)
  if e.on (ACC_CREG_STAT_FULL_NOW n) || e.on (ACC_CREG_STAT_FROZEN_NOW n) || (e.getRg n).release.isSome || size == 0 then lost e
  else if regionKind e n = 2 ∧ e.rd (ACC_CREG_POS_WPTR n) + 1 = size then
    lost (regionFull n (firstHeld (e.getRg n) l.base) e)
  else
    let p := protectHit n (e.getRg n).lines size e
    if p.2 = true then lost p.1
    else freezeCheck n (catSettle cat (some (e.rd (ACC_CREG_GS_SEQ n) + e.rd (ACC_CREG_GS_GEN n) * 2 ^ 24, n)) (placeLine n l e))

/-- Write one line that no Catalogue entry names. -/
def writeLine (n : Nat) (l : LineRec) (e : Eng) : Eng := writeRec n l none e

/-- Put a line in its region's order: at once, or after the closed containers that wait before it (R209, R210, R219). -/
def putRec (n : Nat) (l : LineRec) (cat : Option (Nat × Nat)) (e : Eng) : Eng :=
  if (e.getRg n).outQ.isEmpty then writeRec n l cat e
  else e.modRg n fun r => { r with outQ := r.outQ ++ [.line l cat] }

/-- Put a line that no Catalogue entry names. -/
def putLine (n : Nat) (l : LineRec) (e : Eng) : Eng := putRec n l none e

/-- Write the lines at the head of a region's order, up to the next closed container. -/
def drainLines (n : Nat) : Nat → Eng → Eng
  | 0, e => e
  | fuel + 1, e =>
    match (e.getRg n).outQ with
    | .line l cat :: rest => drainLines n fuel (writeRec n l cat (e.modRg n fun r => { r with outQ := rest }))
    | _ => e

/-! ### Streams -/

/-- Is unit `k` the first unit of a LONGGAP item, reading the items from unit `i` on? -/
def longGapAt (us : List Nat) (k : Nat) : Nat → Nat → Bool
  | 0, _ => false
  | fuel + 1, i =>
    let isGap := bitsOf (us.getD i 0) 24 2 == 1
    if i == k then isGap else if k < i then false else longGapAt us k fuel (if isGap then i + 2 else i + 1)

/-- The first `k` open units of a TRANSITION stream as a line: a LONGGAP that ends the line reaches no item of it. -/
def transLine (t k : Nat) (s : StreamSt) : LineRec :=
  let us := s.units.take k
  let i := if 2 < us.length ∧ longGapAt us (us.length - 2) 60 0 then us.length - 3 else us.length - 1
  ⟨2, t, s.ticks.headD 0, us.length, false, unitBytes us, s.ticks.getD i 0⟩

/-- The open units of a stream as one line of `k` units; the rest stays open. -/
def streamLine (e : Eng) (n t k : Nat) : LineRec :=
  let s := (e.getRg n).stream t
  let us := s.units.take k
  let nextT := if s.units.length ≤ k then s.next else s.ticks.getD k 0
  if regionForm e n = 0 then
    let pay := unitBytes us
    ⟨1, t, s.ticks.headD 0, us.length, false,
      if e.mode = .state then (pay ++ List.replicate 224 0).take 224 ++ leBytes 8 nextT else pay, prevTick nextT⟩
  else transLine t k s

/-- Drop the first `k` open units of a stream. -/
def StreamSt.dropUnits (s : StreamSt) (k : Nat) : StreamSt := { s with units := s.units.drop k, ticks := s.ticks.drop k }

/-- The units of a full TRANSITION line: 59 where a LONGGAP would straddle two lines (R213). -/
def transCap (us : List Nat) : Nat := if longGapAt us 59 60 0 then 59 else 60

/-- The units a full line of the stream takes: 56 for SAMPLE in STATE, otherwise 60, or 59 where a LONGGAP would
straddle two lines (R207, R212, R213). -/
def lineCap (e : Eng) (n t : Nat) : Nat :=
  if regionForm e n = 0 then (if e.mode = .state then 56 else 60)
  else transCap ((e.getRg n).stream t).units

/-- The first DELTA of a line is 0, because BASE is its time (R214): an item that begins a line loses its gap. -/
def rebaseFirst (s : StreamSt) : StreamSt :=
  match s.units, s.ticks with
  | u :: v :: r, _ :: _ :: ts =>
    if bitsOf u 24 2 = 1 then { s with units := r, ticks := ts }
    else { s with units := (u - u % 65536) :: v :: r }
  | [u], _ => { s with units := [u - u % 65536] }
  | _, _ => s

/-- Write one line of `k` units of a stream. -/
def flushUnits (n t k : Nat) (e : Eng) : Eng :=
  let l := streamLine e n t k
  let e1 := e.modRg n fun r => r.modStream t fun s =>
    if regionForm e n = 0 then s.dropUnits k else rebaseFirst (s.dropUnits k)
  putLine n l e1

/-- The span of the open container of a stream that ends at tick `fin` (R232). -/
def contSpan (e : Eng) (n t fin : Nat) (c : OpenCont) : Span :=
  let mask := regionMask e n t
  let m := if e.double then maskOf 32 fun i => natBit mask i && i % 2 == 0 else mask
  ⟨c.base, ticksFrom c.base fin + 1, e.pitch, m, c.init, e.rd (CMP_GRP_GRPSTART t), c.levels, t⟩

/-- Close the open container of a stream at tick `fin` (R232): it waits in the region's order for its lane. -/
def closeCont (n t fin : Nat) (e : Eng) : Eng :=
  match ((e.getRg n).stream t).cont with
  | none => e
  | some c =>
    let shut (r : RegionSt) : RegionSt := r.modStream t fun s => { s with cont := none }
    if tsBefore fin c.base then e.modRg n shut
    else e.modRg n fun r => { shut r with outQ := r.outQ ++ [.cont (contSpan e n t fin c) c.edges] }

/-- Write everything a stream holds as lines: full ones, then a partial one; a container is closed at `fin`. -/
def flushStream (n t fin : Nat) : Nat → Eng → Eng
  | 0, e => closeCont n t fin e
  | fuel + 1, e =>
    let s := (e.getRg n).stream t
    if s.units.isEmpty then closeCont n t fin e
    else flushStream n t fin fuel (flushUnits n t (min (lineCap e n t) s.units.length) e)

/-- Write what a stream holds below tick `t0`. In STATE the word last taken in may reach beyond it: its later instants are kept
aside, and NEXT is the first of them. -/
def cutStream (n t t0 : Nat) (e : Eng) : Eng :=
  let s := (e.getRg n).stream t
  let tail := s.tail.filter fun p => !tsBefore p.1 t0
  let k := (s.ticks.takeWhile fun x => tsBefore x t0).length
  let e1 := match tail.head? with
    | none => e
    | some p => e.modRg n fun r => r.modStream t fun s =>
      { s with units := s.units.take k, ticks := s.ticks.take k, next := p.1 }
  (flushStream n t (prevTick t0) (s.units.length + 1) e1).modRg n fun r => r.modStream t fun s => { s with tail := tail }

/-- Write what every stream of a region holds below tick `t0` (R209). -/
def cutRegion (n t0 : Nat) (e : Eng) : Eng := (List.range 8).foldl (fun a t => cutStream n t t0 a) e

/-- The streams restart: LEVEL items or a container with LEVELS at the next instant (R215, R232). -/
def restartStream (n t : Nat) (e : Eng) : Eng := e.modRg n fun r => r.modStream t fun s => { s with prev := none }

/-! ### TIME records (R216) -/

/-- Ticks in a second. -/
def tps : Nat := 12800000000

/-- TOD at a tick in units of 2^-32 tick: the anchor, and from it 1 + RATE × 2^-32 ticks per tick (R132). -/
def todQ (e : Eng) (ts : Nat) : Nat :=
  (((((e.tod.anchorSec * tps + e.tod.anchorTick) * 2 ^ 32 + e.tod.anchorFrac : Nat) : Int) +
    tsDiff ts e.tod.anchorTs * (2 ^ 32 + signed 22 (e.rd TIME_RATE_RATE))) % ((2 ^ 48 * tps * 2 ^ 32 : Nat) : Int)).toNat

/-- TOD seconds and tick-of-second at a tick `ts` (R132, R133). -/
def todAt (e : Eng) (ts : Nat) : Nat × Nat := (todQ e ts / 2 ^ 32 / tps, todQ e ts / 2 ^ 32 % tps)

/-- The TIME record of time `ts` with a cause. -/
def timeLine (e : Eng) (ts cause : Nat) : LineRec :=
  let tod := todAt e ts
  ⟨4, 0, ts, 8, false,
    leBytes 8 ts ++ leBytes 2 (egenOf e ts) ++ leBytes 6 tod.1 ++ leBytes 5 tod.2 ++
    leBytes 3 (toField 24 (signed 22 (e.rd TIME_RATE_RATE))) ++ leBytes 1 (e.rd TIME_STEER_STAT_QUAL) ++
    leBytes 1 (e.rd GLB_MODE_STAT_CUR + (if e.double then 8 else 0) + cause * 16) ++
    leBytes 2 (if e.mode = .archive then e.md.div else 0) ++
    leBytes 2 (if e.mode = .state then (List.range 8).foldl (fun a t => a + e.rda (FE_TILE_CFG_CLKSEL t) * 4 ^ t) 0 else 0), 0⟩

/-! ### Instants become units (R211 to R215) -/

/-- A region's mask for the bits of a SAMPLE unit (R211). -/
def sampleMask (e : Eng) (n t : Nat) : Nat :=
  let m := regionMask e n t
  if e.double then maskOf 32 fun c => natBit m (c / 2 * 2) else m

/-- The channels a TRANSITION or CBLOCK stream carries (R215, R232). -/
def itemMask (e : Eng) (n t : Nat) : Nat :=
  let m := regionMask e n t
  if e.double then maskOf 32 fun c => c % 2 == 0 && natBit m c else m

/-- Add units of a SAMPLE stream with their ticks; `next` is the time of the unit after them (R211, R212). -/
def addUnits (n t next : Nat) (ps : List (Nat × Nat)) (e : Eng) : Eng :=
  let m := sampleMask e n t
  e.modRg n fun r => r.modStream t fun s =>
    { s with units := s.units ++ ps.map (fun p => p.2 &&& m), ticks := s.ticks ++ ps.map (·.1), next := next, prev := some 0 }

/-- The items at one instant: a LEVEL item for every channel where the stream starts, otherwise an EDGE item for every
channel whose value changed, in ascending channel order (R215). -/
def instantItems (t mask : Nat) (prev : Option Nat) (tick v : Nat) : List Item :=
  match prev with
  | none => (maskChannels mask).map fun c => ⟨tick, 32 * t + c, natBit v c, true⟩
  | some p => ((maskChannels mask).filter fun c => natBit v c != natBit p c).map fun c => ⟨tick, 32 * t + c, natBit v c, false⟩

/-- Add items to a TRANSITION stream (R213, R214). -/
def addItem (s : StreamSt) (i : Item) : StreamSt :=
  let us := match s.ticks.getLast? with
    | none => itemUnits 0 i
    | some p => itemUnits (ticksFrom p i.t) i
  { s with units := s.units ++ us, ticks := s.ticks ++ us.map fun _ => i.t }

/-- Add one instant to a TRANSITION stream. -/
def addTransition (n t : Nat) (p : Nat × Nat) (e : Eng) : Eng :=
  let m := itemMask e n t
  e.modRg n fun r => r.modStream t fun s =>
    let s2 := (instantItems t m s.prev p.1 p.2).foldl addItem s
    { s2 with prev := some p.2, next := (p.1 + 1) % 2 ^ 64 }

/-- After a cut in STATE the instants that were kept aside begin the new line of their stream. -/
def resumeTail (n next : Nat) (e : Eng) (t : Nat) : Eng :=
  let ps := ((e.getRg n).stream t).tail
  if ps.isEmpty then e
  else if regionForm e n = 0 then addUnits n t next ps e
  else ps.foldl (fun a p => addTransition n t p a) e

/-! ### MARK and TRIGGER records (R192, R208, R209) -/

/-- The horizon of a region, if it holds a TIME record (R222). -/
def regionHorizon (e : Eng) (r : Nat) : Option Nat :=
  if e.on (ACC_CREG_STAT_HVALID r) then some (e.rdq (ACC_CREG_HOR r)) else none

/-- The lines that a container of region `n` takes (R219, R244). -/
def contLineCount (e : Eng) (n : Nat) (s : Span) (edges : List Item) : Nat :=
  let enc := encodeSpan (e.rda (CMP_REG_CFG_TBL n)) (e.rda (CMP_REG_CFG_CLASS n)) (e.ona (CMP_REG_CFG_NBR n)) false
    ((e.getRg n).stream s.tile).counts s edges
  cdiv (cdiv enc.bytes.length 4) 60

/-- The lines that wait in a region's order. -/
def waitingLines (e : Eng) (n : Nat) : Nat :=
  ((e.getRg n).outQ.map fun o => match o with
    | .cont s edges => contLineCount e n s edges
    | .line _ _ => 1).sum

/-- The lines that hold data before `t` and are still to be written: those that wait, and what the streams hold open. -/
def linesBefore (e : Eng) (n t : Nat) : Nat :=
  waitingLines e n + ((List.range 8).map fun k =>
    let s := (e.getRg n).stream k
    (if s.ticks.any fun x => tsBefore x t then cdiv s.units.length (lineCap e n k) else 0) +
    (match s.cont with
     | some c => if tsBefore c.base t then contLineCount e n (contSpan e n k (prevTick t) c) c.edges else 0
     | none => 0)).sum

/-- F_r (R192): the horizon of region `n` once every line that holds data before `t` is written, if it holds a TIME record. -/
def horizonAfter (e : Eng) (n t : Nat) : Option Nat :=
  if e.on (ACC_CREG_STAT_HVALID n) then
    let last := (e.getRg n).lines + linesBefore e n t
    let size := e.rd (ACC_CREG_SIZE_LINES n)
    (((e.getRg n).times.find? fun x => regionKind e n != 1 || last < x.1 + size + 1)).map (·.2)
  else none

/-- P_r and PRE_SHORT from F_r (R192). -/
def preFrom (h : Option Nat) (p : PreRef) (t : Nat) : Nat × Bool :=
  let f := h.getD t
  match p.mark with
  | 0 => if tsBefore p.want f then (f, true) else (p.want, false)
  | 1 => (p.want, false)
  | _ => (f, true)

/-- A held MARK or TRIGGER record takes its place: PSTART is determined, and the retention of the trigger learns it. -/
def putHeld (n : Nat) (h : HeldRec) (e : Eng) : Eng :=
  match h.pre with
  | none => putRec n h.line h.cat e
  | some p =>
    let s := preFrom (horizonAfter e n h.t) p h.t
    let told (x : Retention) : Retention :=
      if x.t = h.t then { x with targets := x.targets.map fun y => if y.region = n then { y with start := some s } else y } else x
    putRec n { h.line with payload := h.line.payload.take 16 ++ leBytes 8 s.1 ++ h.line.payload.drop 24 } h.cat
      (e.modCx h.ctx fun c => { c with rets := c.rets.map told })

/-- The place of a held record: by instant, TRIGGER before MARK, otherwise as they come (R182, R208). -/
def heldInsert (h : HeldRec) : List HeldRec → List HeldRec
  | [] => [h]
  | x :: r => if tsBefore h.t x.t || (h.t == x.t && h.trig && !x.trig) then h :: x :: r else x :: heldInsert h r

/-- A region that takes a MARK or TRIGGER record now: it receives streams, and is neither full nor frozen (R193, R220, R225). -/
def takesRecords (e : Eng) (n : Nat) : Bool :=
  receives e n && !e.on (ACC_CREG_STAT_FULL_NOW n) && !e.on (ACC_CREG_STAT_FROZEN_NOW n) && (e.getRg n).release.isNone

/-- A decision writes a MARK or TRIGGER record into region `n`; it waits there for its place. A region that receives nothing
in the mode takes none, and this is not an error (R220). -/
def putDecision (n : Nat) (h : HeldRec) (e : Eng) : Eng :=
  if receives e n then e.modRg n fun r => { r with held := heldInsert h r.held } else e

/-- Put the held records of region `n` that satisfy `p`, in their order, up to the first that does not. -/
def releaseWhile (n : Nat) (p : Eng → HeldRec → Bool) : Nat → Eng → Eng
  | 0, e => e
  | fuel + 1, e =>
    match (e.getRg n).held with
    | h :: rest => if p e h then releaseWhile n p fuel (putHeld n h (e.modRg n fun r => { r with held := rest })) else e
    | [] => e

/-- Put the held records of region `n` whose instants lie before `t`. -/
def releaseBefore (n t : Nat) (e : Eng) : Eng := releaseWhile n (fun _ h => tsBefore h.t t) (e.getRg n).held.length e

/-- Put every held record of region `n`. -/
def releaseAll (n : Nat) (e : Eng) : Eng := releaseWhile n (fun _ _ => true) (e.getRg n).held.length e

/-! ### Writing a TIME record (R209, R216) -/

/-- Write a TIME record of time `ts`: it cuts the streams of its region, and stands between the decisions before it and those
at or after it. The streams restart, in STATE with the instants of words that it cut; `next` is where such a word ends. -/
def writeTime (n ts cause : Nat) (e : Eng) : Eng :=
  let ends := (List.range 8).map fun t => ((e.getRg n).stream t).next
  let e1 := releaseBefore n ts (cutRegion n ts e)
  let e2 := (putLine n (timeLine e ts cause) e1).modRg n fun r =>
    { r with
      causes := r.causes.filter fun c => tsBefore ts c.2
      timeTs := ts, timeRate := e.rd TIME_RATE_RATE, timeLines := 0, started := true }
  (List.range 8).foldl (fun a t => resumeTail n (ends.getD t 0) (restartStream n t a) t) e2

/-- Note a TIME cause of tick `ts` in every region that receives streams (R216). -/
def timeCause (cause ts : Nat) (e : Eng) : Eng :=
  (List.range 16).foldl (fun a n =>
    if a.inAcq && receives a n then a.modRg n fun r => { r with causes := r.causes ++ [(cause, ts)] } else a) e

/-! ### Event records (R217) -/

/-- A record that names a tile stands after the tile's data before its interval: the stream is written out first, and
restarts after it (R210, R215). -/
def putTileRecord (n t start : Nat) (l : LineRec) (e : Eng) : Eng :=
  restartStream n t (putLine n l (cutStream n t start e))

/-- A GAP record of one tile in every region that receives it. -/
def gapRecord (t start fin cause words : Nat) (e : Eng) : Eng :=
  (receivers e t).foldl (fun a n => putTileRecord n t start (gapLine start fin cause (2 ^ t) words) a) e

/-- An UNLOCK record. -/
def unlockLine (t start fin suspect loop : Nat) : LineRec :=
  ⟨8, t, start, 7, false, leBytes 8 start ++ leBytes 8 fin ++ leBytes 8 suspect ++ leBytes 1 loop ++ leBytes 1 t, 0⟩

/-- A PORT_ABSENT record: `fin` none while open. -/
def absentLine (t start : Nat) (fin : Option Nat) (cause : Nat) : LineRec :=
  ⟨9, t, start, 5, false, leBytes 8 start ++ leBytes 8 (fin.getD (2 ^ 64 - 1)) ++ leBytes 1 cause ++ leBytes 1 t ++
    leBytes 1 (if fin.isSome then 1 else 0), 0⟩

/-- A PORT_ABSENT record of a tile in every region that receives it. -/
def absentRecord (t start : Nat) (fin : Option Nat) (cause : Nat) (e : Eng) : Eng :=
  (receivers e t).foldl (fun a n => putTileRecord n t start (absentLine t start fin cause) a) e

/-- A MARK record. -/
def markLine (ts ctx pos code : Nat) : LineRec :=
  ⟨5, 0, ts, 3, false, leBytes 8 ts ++ leBytes 1 ctx ++ leBytes 1 pos ++ leBytes 2 code, 0⟩

/-- A TRIGGER record. -/
def triggerLine (t ctx pos flags cnt pstart post : Nat) : LineRec :=
  ⟨6, 0, t, 8, false, leBytes 8 t ++ leBytes 1 ctx ++ leBytes 1 pos ++ leBytes 1 flags ++ leBytes 1 0 ++ leBytes 4 cnt ++
    leBytes 8 pstart ++ leBytes 6 post, 0⟩

end Machine
end Sys2Proof
end

