-- ==== Sys2Proof/Machine/TimeBase.lean ====
section
/-!
DEFINITION. TS64 and TOD (R128 to R134): the passing of time, the anchor and its rate, the quality of TOD, changes of TS64
with all that moves along (R130), the work of a TOD second boundary (R139 to R143).
-/
namespace Sys2Proof
namespace Machine

/-! ### TOD -/

/-- Move the anchor to a tick without changing TOD there. -/
def todAnchor (ts : Nat) (e : Eng) : Eng :=
  let q := todQ e ts
  { e with tod := { e.tod with
      anchorTs := ts
      anchorSec := q / 2 ^ 32 / tps
      anchorTick := q / 2 ^ 32 % tps
      anchorFrac := q % 2 ^ 32 } }

/-- RATE takes a value, limited to ±200 ppm, from tick `ts` (R132). -/
def setRate (ts : Nat) (r : Int) (e : Eng) : Eng :=
  (todAnchor ts e).wr TIME_RATE_RATE (toField 22 (clampInt (-858993) 858993 r))

/-- The holdover estimate in ns (R138): |e_last| × 0.078125 + STAB_PPB × ELAPSED_S, saturating. -/
def hoErr (e : Eng) (elapsed : Nat) : Nat :=
  min (e.steer.eLast.natAbs * 5 / 64 + e.rd TIME_HO_CFG_STAB_PPB * elapsed) (2 ^ 32 - 1)

/-- Has the holdover limit been passed? -/
def hoPassed (e : Eng) : Bool := e.rd TIME_HO_CFG_LIMIT_US * 1000 < e.rd TIME_HO_ERR_ERR_NS

/-- The quality of the engine's own TOD without a BPLL bypass (R134). -/
def ownQual (e : Eng) : Nat :=
  if !e.tod.isSet then 5
  else if e.rd TIME_STEER_STAT_STATE = 2 then 0
  else if e.rd TIME_STEER_STAT_STATE = 3 ∧ !hoPassed e then 1
  else 2

/-- The engine follows an Aqurn master: a member with its upstream port UP (R150). -/
def aqFollows (e : Eng) : Bool := e.rd TIME_AQL_CTRL_ROLE == 2 && e.rd TIME_AQL_STAT_UP_STATE == 2

/-- What TS64 advances from (R120, R128): BPLL, the edges of XREF while BPLL is in bypass, those of BKO while XREF is lost too. DESIGN
CHOICE (log entry 139): XREF counts as lost while no image gives its frequency. -/
def tbSource (e : Eng) : Nat :=
  if !e.on (CLK_LOOP_STAT_BYPASS 7) then 0 else if natBit e.clk.refBad 0 || e.rd CLK_XREF_FREQ_KHZ == 0 then 2 else 1

/-- QUAL (R134): the master's or the own quality; with BPLL in bypass the worse of it and 3, or 4 where XREF is lost. -/
def timeQual (e : Eng) : Nat :=
  let q := if aqFollows e && e.on TIME_AQL_STAT_OFS_VALID then e.rd TIME_AQL_STAT_QUAL_M else ownQual e
  if tbSource e = 0 then q else max q (2 + tbSource e)

/-- Show QUAL and, in HOLDOVER, the elapsed seconds and the estimate. -/
def timeShow (e : Eng) : Eng :=
  let e1 := if e.rd TIME_STEER_STAT_STATE = 3 then
      let n := min ((e.now - e.steer.hoAt) / tps) (2 ^ 32 - 1)
      (e.wr TIME_HO_STAT_ELAPSED_S n).wr TIME_HO_ERR_ERR_NS (hoErr e n)
    else e
  e1.wr TIME_STEER_STAT_QUAL (timeQual e1)

/-! ### TS64 -/

/-- The source of the timebase follows the state of the loops: the place in the period of a new source is open, and so is the frequency
of BKO within 920 to 1,080 MHz (R110): free values. -/
def tbSwitch (e : Eng) : Eng :=
  let s := tbSource e
  if e.clk.tb.src = s then e
  else if s = 0 then { e with clk := { e.clk with tb := {} } }
  else
    let e1 := e.drawn
    let tb : TbSt := ⟨s, e.freeVal 24 % 12800000, 0, 920000 + e1.freeVal 18 % 160001⟩
    { e1.drawn with clk := { e.clk with tb := tb } }

/-- The frequency of the source of the timebase in kHz. -/
def tbFreq (e : Eng) : Nat := if e.clk.tb.src = 2 then e.clk.tb.bko else e.rd CLK_XREF_FREQ_KHZ

/-- The frequency that the engine takes it for: R120 gives it for XREF; DESIGN CHOICE (log entry 139): 1 GHz for BKO. -/
def tbNominal (e : Eng) : Nat := if e.clk.tb.src = 2 then 1000000 else e.rd CLK_XREF_FREQ_KHZ

/-- What `k` ticks make of the source, and the ticks that TS64 advances (R120): 12,800,000,000 ÷ f at each edge, the fraction kept. -/
def tbStep (k : Nat) (e : Eng) : TbSt × Nat :=
  if e.clk.tb.src = 0 then (e.clk.tb, k)
  else
    let x := e.clk.tb.ph + k * tbFreq e
    let y := x / 12800000 * 12800000 + e.clk.tb.frac
    ({ e.clk.tb with ph := x % 12800000, frac := y % tbNominal e }, y / tbNominal e)

/-- The ticks after which TS64 has advanced by `n` or more. -/
def tbTicks (n : Nat) (e : Eng) : Nat :=
  if e.clk.tb.src = 0 then n
  else cdiv (cdiv (n * tbNominal e - e.clk.tb.frac) 12800000 * 12800000 - e.clk.tb.ph) (tbFreq e)

/-- The anchor follows TS64 before it lies so far back that stamps could not be compared any more: TOD keeps its line. -/
def anchorFollow (d : Nat) (e : Eng) : Eng :=
  if ticksFrom e.tod.anchorTs e.ts + d < 2 ^ 62 then e
  else
    let q := ((todQ e e.ts + (d : Int) * (2 ^ 32 + signed 22 (e.rd TIME_RATE_RATE))) % ((2 ^ 48 * tps * 2 ^ 32 : Nat) : Int)).toNat
    { e with tod := { e.tod with
        anchorTs := (e.ts + d) % 2 ^ 64
        anchorSec := q / 2 ^ 32 / tps
        anchorTick := q / 2 ^ 32 % tps
        anchorFrac := q % 2 ^ 32 } }

/-- `k` ticks pass (R128): TS64 counts them, or what R120 gives for them; at a wrap EPOCH.GEN increments, TS_WRAP is set with a
Ledger entry, and a TIME record becomes due in every region that receives streams (R216). -/
def advance (k : Nat) (e : Eng) : Eng :=
  let e0 := tbSwitch e
  let r := tbStep k e0
  let t := e0.ts + r.2
  let e1 := anchorFollow r.2 e0
  let e2 := outsDue { e1 with now := e1.now + k, ts := t % 2 ^ 64, clk := { e1.clk with tb := r.1 } }
  timeShow (if t < 2 ^ 64 then e2
    else timeCause 3 0 (((e2.addWrap TIME_EPOCH_GEN 1).raisePost TIME_EVT_TS_WRAP 0
      (leBytes 2 ((e.rd TIME_EPOCH_GEN + 1) % 2 ^ 16)))))

/-- Add `d` to a 64-bit register of stamps. -/
def shiftq (d : Nat) (e : Eng) (q : Fld2) : Eng := e.wrq q ((e.rdq q + d) % 2 ^ 64)

/-- TS64 steps by `d` (R130): the anchor, GLB_MODE_START and STOP, every LASTGOOD and TIME_PPSIN move along; EPOCH.GEN
increments, CMD_DONE is set, and the Ledger entry carries the old value, the new value and GEN. -/
def stepTs (d : Nat) (e : Eng) : Eng :=
  let old := e.ts
  let new := (e.ts + d) % 2 ^ 64
  let mv (o : Option Nat) : Option Nat := o.map fun x => (x + d) % 2 ^ 64
  let e1 := { e with
    ts := new
    tod := { e.tod with anchorTs := (e.tod.anchorTs + d) % 2 ^ 64 }
    steer := { e.steer with prev := mv e.steer.prev, cand := mv e.steer.cand }
    ldg := { e.ldg with cut := true } }
  let e2 := ([GLB_MODE_START, GLB_MODE_STOP, TIME_PPSIN] ++ (List.range 8).map CLK_LOOP_LASTGOOD).foldl (shiftq d) e1
  let e3 := e2.addWrap TIME_EPOCH_GEN 1
  timeCause 2 new (e3.raisePost TIME_EVT_CMD_DONE 0 (leBytes 8 old ++ leBytes 8 new ++ leBytes 2 (e3.rd TIME_EPOCH_GEN)))

/-! ### TREF_OUT (R141) -/

/-- TREF_OUT of the waveform alone: rising edges at multiples of 1,280 of the tick-of-second, a duty cycle of 50 %. -/
def trefWave (e : Eng) : Bool := (todAt e e.ts).2 % 1280 < 640

/-- The level of TREF_OUT: low while it is gated off. -/
def trefLevel (e : Eng) : Bool :=
  e.tout.trefOn && (match e.tout.tref with
    | some h => if e.now < h.t1 then h.level else if e.now < h.t2 then !h.level else trefWave e
    | none => trefWave e)

/-- The tick (of `now`) at which the phase of TREF_OUT in progress began. -/
def trefSince (e : Eng) : Nat :=
  let s := e.now - (todAt e e.ts).2 % 640
  match e.tout.tref with
  | some h => if e.now < h.t1 then h.since else if e.now < h.t2 then h.t1 else s
  | none => s

/-- A TOD step shifts TREF_OUT in one move; phases shorter than 20 ns, which is 256 ticks, are stretched (R141). -/
def trefShift (before e : Eng) : Eng :=
  if !e.tout.trefOn then e
  else
    let s := trefSince before
    let l := trefLevel before
    let edge := e.now + (640 - (todAt e e.ts).2 % 640)
    let t1 := max (s + 256) (if trefWave e = l then edge else e.now)
    let t2 := if trefWave e = l then t1 else max edge (t1 + 256)
    { e with tout := { e.tout with tref := some ⟨s, l, t1, t2⟩ } }

/-! ### Changes of TOD -/

/-- After a change of TOD: the TIME record of R133; TREF_OUT shifts (R141); the IRIG frame ends and the output stays low (R142); edges
within this second are not used for steering (R135). -/
def todChanged (before e : Eng) : Eng :=
  let e1 := trefShift before e
  timeCause 2 e.ts { e1 with
    steer := { e1.steer with stepSec := some (todAt e e.ts).1 }
    tout := { e1.tout with irig := none } }

/-- TOD takes a value at tick `ts` (TOD_SET, R133). -/
def todLoad (ts sec tick : Nat) (e : Eng) : Eng :=
  timeShow (todChanged e { e with tod :=
    { e.tod with anchorTs := ts, anchorSec := sec, anchorTick := tick, anchorFrac := 0, isSet := true } })

/-- TOD steps by a signed number of ticks (TOD_STEP, R133, R137). -/
def todStep (d : Int) (e : Eng) : Eng :=
  let e1 := todAnchor e.ts e
  let t := (((e1.tod.anchorSec * tps + e1.tod.anchorTick : Nat) : Int) + d) % ((2 ^ 48 * tps : Nat) : Int)
  todChanged e { e1 with tod := { e1.tod with anchorSec := t.toNat / tps, anchorTick := t.toNat % tps } }

/-! ### The TOD second boundary -/

/-- An output is gated on: enabled, and QUAL not above GATE; GATE 7 never gates (R139). -/
def gateOn (e : Eng) (en gate : Fld) : Bool := e.on en && (e.rd gate == 7 || e.rd TIME_STEER_STAT_QUAL ≤ e.rd gate)

/-- Year, day of year (from 1) and second of day of a count of seconds since 1970-01-01 (R142). -/
def civil (sec : Int) : Int × Nat × Nat :=
  let z := sec / 86400 + 719468
  let era := z / 146097
  let doe := (z % 146097).toNat
  let yoe := (doe - doe / 1460 + doe / 36524 - doe / 146096) / 365
  let doy := doe - (365 * yoe + yoe / 4 - yoe / 100)
  let y0 := (yoe : Int) + era * 400
  let leap (y : Int) : Bool := y % 4 == 0 && (y % 100 != 0 || y % 400 == 0)
  if doy < 306 then (y0, doy + 60 + (if leap y0 then 1 else 0), (sec % 86400).toNat)
  else (y0 + 1, doy - 305, (sec % 86400).toNat)

/-- BCD of a number: units from bit `lo`, tens from bit `lo + 5`. -/
def bcdAt (lo x : Nat) : Nat := (x % 10) * 2 ^ lo + (x / 10 % 10) * 2 ^ (lo + 5)

/-- The positions of an IRIG-B frame that carry a 1 (R142): BCD time of year and year; for B004 also the control functions
of the table and straight binary seconds of day. -/
def irigFrame (e : Eng) (tod : Nat) : Nat :=
  let c := civil ((tod : Int) + signed 32 (e.rd TIME_IRIG_OFS_OFS))
  let sod := c.2.2
  let doy := c.2.1
  let base := bcdAt 1 (sod % 60) + bcdAt 10 (sod / 60 % 60) + bcdAt 20 (sod / 3600) +
    bcdAt 30 (doy % 100) + (doy / 100) * 2 ^ 40 + bcdAt 50 ((c.1 % 100).toNat)
  if e.on TIME_IRIG_CFG_CODE then base
  else
    let left := (e.rd TIME_LEAP_AT_SEC + 2 ^ 32 - tod % 2 ^ 32) % 2 ^ 32
    let leap := e.on TIME_LEAP_CTRL_ARM && left ≤ 59
    base + e.rd TIME_STEER_STAT_QUAL * 2 ^ 60 + (if leap then 2 ^ 64 else 0) +
      (if leap && e.on TIME_LEAP_CTRL_DIR then 2 ^ 65 else 0) + (sod % 2 ^ 9) * 2 ^ 80 + (sod / 2 ^ 9) * 2 ^ 90

/-- An armed leap applies at the boundary after the second LEAP_AT (R143). -/
def leapApply (tod : Nat) (e : Eng) : Eng :=
  if e.on TIME_LEAP_CTRL_ARM && tod % 2 ^ 32 == (e.rd TIME_LEAP_AT_SEC + 1) % 2 ^ 32 then
    let d : Int := if e.on TIME_LEAP_CTRL_DIR then 1 else -1
    ((e.wr TIME_IRIG_OFS_OFS (toField 32 (signed 32 (e.rd TIME_IRIG_OFS_OFS) + d))).wr TIME_LEAP_CTRL_ARM 0).raise TIME_EVT_LEAP_DONE
  else e

/-- The level of IRIG_OUT (R142): 100 pulses a second; a marker, at positions 0, 9, 19 and so on, is 8 ms high, a 1 is 5 ms, a 0 is 2 ms;
low where no frame is in progress. -/
def irigLevel (e : Eng) : Bool :=
  match e.tout.irig with
  | none => false
  | some frame =>
    let k := (todAt e e.ts).2
    let i := k / 128000000
    k % 128000000 < (if i = 0 ∨ i % 10 = 9 then 8 else if natBit frame i then 5 else 2) * 12800000

/-- The level of PPS_OUT (R139, R140): the pulse at the polarity POL; low while it is gated off. -/
def ppsLevel (e : Eng) : Bool :=
  if e.tout.pulse then !e.on TIME_PPSOUT_CFG_POL else e.tout.ppsOn && e.on TIME_PPSOUT_CFG_POL

/-- PPS_OUT begins its pulse at the boundary plus OFS (R140), unless the previous leading edge lies less than 500 ms back. -/
def ppsBegin (e : Eng) : Eng :=
  if !e.tout.ppsOn then e
  else if e.tout.lead.any fun l => e.now < l + 6400000000 then e.raise TIME_EVT_PPS_SKIP
  else { e with tout := { e.tout with pulse := true, lead := some e.now } }

/-- The tick (of `now`) at which the pulse ends (R140). -/
def ppsEnd (e : Eng) : Nat := e.tout.lead.getD 0 + e.rd TIME_PPSOUT_CFG_WIDTH_MS * 12800000

/-- A pulse whose end has come is over: also where gating or a new second came first, since there are no runt pulses (R139). -/
def pulseOver (e : Eng) : Eng :=
  if e.tout.pulse && ppsEnd e ≤ e.now then { e with tout := { e.tout with pulse := false } } else e

/-- The work of a TOD second boundary: gating, leap, IRIG frame (R139 to R143). -/
def secondEffects (e : Eng) : Eng :=
  let tod := (todAt e e.ts).1
  let e1 := leapApply tod { e with tout := { e.tout with
    ppsOn := gateOn e TIME_PPSOUT_CFG_EN TIME_PPSOUT_CFG_GATE
    trefOn := gateOn e TIME_TREFOUT_CFG_EN TIME_TREFOUT_CFG_GATE
    irigOn := gateOn e TIME_IRIG_CFG_EN TIME_IRIG_CFG_GATE } }
  { e1 with tout := { e1.tout with irig := if e1.tout.irigOn then some (irigFrame e1 tod) else none } }

/-- Ticks of TS64 to the next instant at which TOD stands `ofs` ticks after a second boundary. -/
def toNextAt (ofs : Int) (e : Eng) : Nat :=
  let sec : Int := ((tps * 2 ^ 32 : Nat) : Int)
  cdiv (sec - ((todQ e e.ts : Int) - ofs * 2 ^ 32) % sec).toNat (2 ^ 32 + signed 22 (e.rd TIME_RATE_RATE)).toNat

/-- Ticks of TS64 to the next TOD second boundary. -/
def toNextSecond (e : Eng) : Nat := toNextAt 0 e

/-- `k` ticks pass; each TOD second boundary among them does its work, and each instant of PPS_OUT. -/
def passTicks : Nat → Nat → Eng → Eng
  | 0, k, e => pulseOver (advance k e)
  | fuel + 1, k, e =>
    let a := tbTicks (toNextSecond e) (tbSwitch e)
    let b := tbTicks (toNextAt (signed 32 (e.rd TIME_PPSOUT_OFS_OFS)) e) (tbSwitch e)
    let n := min a b
    if k < n ∨ n = 0 then pulseOver (advance k e)
    else
      let e1 := pulseOver (advance n e)
      let e2 := if a = n then secondEffects e1 else e1
      passTicks fuel (k - n) (if b = n then ppsBegin e2 else e2)

/-- A long time passes: only the work of the last three seconds leaves a trace. -/
def passLong (k : Nat) (e : Eng) : Eng :=
  if k ≤ 3 * tps then passTicks 8 k e else passTicks 8 (3 * tps) (pulseOver (advance (k - 3 * tps) e))

/-- Ticks of TS64 to the boundary at which an armed leap applies (R143). -/
def toLeap (e : Eng) : Nat :=
  let whole : Int := ((2 ^ 32 * tps * 2 ^ 32 : Nat) : Int)
  let at_ : Int := (((e.rd TIME_LEAP_AT_SEC + 1) * tps * 2 ^ 32 : Nat) : Int)
  cdiv ((at_ - (todQ e e.ts : Int) - 1) % whole + 1).toNat (2 ^ 32 + signed 22 (e.rd TIME_RATE_RATE)).toNat

/-- Time passes by `k` ticks: each TOD second boundary does its work, an armed leap among it. -/
def passTime (k : Nat) (e : Eng) : Eng :=
  let n := tbTicks (toLeap e) (tbSwitch e)
  if e.on TIME_LEAP_CTRL_ARM ∧ 3 * tps < k ∧ n ≤ k then passLong (k - n) (secondEffects (pulseOver (advance n e)))
  else passLong k e

/-- Time passes up to `t` of `now`, if that lies ahead. -/
def advanceTo (t : Nat) (e : Eng) : Eng := if e.now < t then passTime (t - e.now) e else e

/-- Time passes by the ticks after which TS64 has advanced by `n` or more. -/
def passBy (n : Nat) (e : Eng) : Eng := passTime (tbTicks n (tbSwitch e)) e

/-- Time passes up to TS64 = `t`, if that lies ahead. -/
def passTo (t : Nat) (e : Eng) : Eng := if tsBefore e.ts t then passBy (ticksFrom e.ts t) e else e

/-- One tick with nothing commanded: time passes, and a TOD second boundary does its work. -/
def tick (e : Eng) : Eng := passTime 1 e

end Machine
end Sys2Proof
end

