-- ==== Sys2Proof/Machine/Elastic.lean ====
section
/-!
DEFINITION. The elastic boundary (R19 to R24), the comparator (R63), the slack gauge (R27 to R31) and the fabric reservations
(R32, R33): the commands SAMPLE_WORD, ELASTIC_GAP, ACCESSION_LINE, SLACK_WINDOW_END, CLR_MIN, EB_CLR, FAB_RSV_WRITE and
FAB_OUT_READ, and Accession's taking in of words (R208 to R216, R231, R232).
-/
namespace Sys2Proof
namespace Machine

/-! ### Words -/

/-- Where the next word of a tile begins (R15, R16, R119): outside STATE at the first word boundary at or after the end of
its previous word, or at or after the tick from which it may write again; in STATE at the end of its previous word, where it
has not been interrupted since, or anywhere after the tick from which it may write. -/
def wordFits (e : Eng) (t : Nat) (w : SampleWord) : Bool :=
  let el := e.getEla t
  if e.mode == .state then
    (if el.inSeq then w.stamp == el.wPos else !tsBefore w.stamp (tsMax el.wPos el.resume)) &&
      (match el.upTo with
       | some u => decide (w.span ≤ ticksFrom w.stamp u)
       | none => true)
  else w.stamp == boundaryAt e (tsMax el.wPos el.resume)

/-! ### The comparator (R63, R77) -/

/-- The comparator output after its input reaches `vd` µV: it rises above V_T + H ÷ 2 and falls below V_T − H ÷ 2, with V_T =
`code` × 0.5 mV and H = `hyst` × 2 mV. -/
def comparator (code hyst : Nat) (prev : Bool) (vd : Int) : Bool :=
  let vt : Int := signed 12 code * 500
  let half : Int := hyst * 1000
  if prev then !decide (vd < vt - half) else decide (vt + half < vd)

/-- CODE or HYST in force for channel `c`: while its tile samples, the value of the word in progress (R77). -/
def thrNow (e : Eng) (f : Fld) (c : Nat) : Nat := if tileSamples e (c / 32) then e.rda f else e.rd f

/-- A channel's comparator with the values in force. -/
def chanComp (e : Eng) (c : Nat) (prev : Bool) (vd : Int) : Bool :=
  comparator (thrNow e (FE_THR_CODE c) c) (thrNow e (FE_CH_CFG_HYST c) c) prev vd

/-- CODE or HYST of channel `c` has been written: while its tile samples, the value waits for the first word that starts after
the write (R77). -/
def thrWritten (hyst : Bool) (c : Nat) (e : Eng) : Eng :=
  if tileSamples e (c / 32) then
    { e with fe := { e.fe with late := e.fe.late ++ [(c, hyst, e.rd (if hyst then FE_CH_CFG_HYST c else FE_THR_CODE c), e.ts)] } }
  else e

/-- A word of tile `t` that begins at `stamp` takes the values written before it (R77). -/
def thrTake (t stamp : Nat) (e : Eng) : Eng :=
  let due (x : Nat × Bool × Nat × Nat) : Bool := x.1 / 32 == t && !tsBefore stamp x.2.2.2
  (e.fe.late.filter due).foldl (fun a x => a.wra (if x.2.1 then FE_CH_CFG_HYST x.1 else FE_THR_CODE x.1) x.2.2.1)
    { e with fe := { e.fe with late := e.fe.late.filter fun x => !due x } }

/-- The tile begins to sample: CODE and HYST in force are those of the registers. -/
def thrLoad (t : Nat) (e : Eng) : Eng :=
  (List.range 32).foldl (fun a k => (a.load (FE_THR_CODE (32 * t + k))).load (FE_CH_CFG_HYST (32 * t + k)))
    { e with fe := { e.fe with late := e.fe.late.filter fun x => x.1 / 32 != t } }

/-- The comparator outputs at successive samples of an input in µV, from an output `prev`. -/
def compRun (e : Eng) (c : Nat) : Bool → List Int → List Bool
  | _, [] => []
  | p, v :: vs => chanComp e c p v :: compRun e c (chanComp e c p v) vs

/-- The bit number and sample list of a listed channel: one sample per unit, or, in timing-double, two per unit, the second
in the bit of the odd channel (R69, R211). -/
def voltBits (e : Eng) (t : Nat) (v : Nat × List Int) : List (Nat × List Bool) :=
  let out := compRun e (32 * t + v.1) (natBit e.fe.comp (32 * t + v.1)) v.2
  if e.double then
    [(v.1, (List.range 64).map fun k => out.getD (2 * k) false), (v.1 + 1, (List.range 64).map fun k => out.getD (2 * k + 1) false)]
  else [(v.1, out)]

/-- The units of a word with the comparator's bits in place of the listed channels', enabled channels only (R62, R63). -/
def wordUnits (e : Eng) (t : Nat) (w : SampleWord) : List Nat :=
  let cols := (w.volts.filter fun v => !(e.double && v.1 % 2 == 1)).flatMap (voltBits e t)
  ((List.range w.units.length).zip w.units).map fun p =>
    (cols.foldl (fun u c => putNatBit u c.1 (c.2.getD p.1 false)) p.2) &&& enabledMask e t

/-- The comparator outputs of a tile after a word: those of its last sample. -/
def compAfter (e : Eng) (t : Nat) (units : List Nat) : Nat :=
  let u := units.getLast?.getD 0
  let v := if e.double then maskOf 32 fun c => natBit u (c / 2 * 2 + 1) else u
  natAndNot e.fe.comp ((2 ^ 32 - 1) * 2 ^ (32 * t)) + v * 2 ^ (32 * t)

/-! ### The elastic buffers -/

/-- Is it a drop descriptor? -/
def EbItem.isDrop : EbItem → Bool
  | .drop _ _ _ => true
  | _ => false

/-- Words held in a buffer. -/
def wordsHeld (el : ElaTile) : Nat := el.items.countP fun i => match i with
  | .word _ => true
  | _ => false

/-- The drop descriptor of a buffer is in use (R19: it has one). -/
def dropHeld (el : ElaTile) : Bool := el.items.any EbItem.isDrop

/-- An interval of dropped words is open. -/
def dropOpen (el : ElaTile) : Bool := el.dropping.any fun d => d.2.2 != 0

/-- Show FILL, PEAK and DROPPING of a tile. -/
def ebShow (t : Nat) (e : Eng) : Eng :=
  let f := wordsHeld (e.getEla t)
  ((e.wr (GLB_EB_STAT_FILL t) f).wr (GLB_EB_STAT_PEAK t) (max f (e.rd (GLB_EB_STAT_PEAK t)))).wrb (GLB_EB_STAT_DROPPING t)
    (e.getEla t).dropping.isSome

/-- Free the items that both readers have read (R19). -/
def ebFree (t : Nat) (e : Eng) : Eng :=
  ebShow t (e.modEla t fun el =>
    let k := min el.tRead el.aRead
    { el with items := el.items.drop k, tRead := el.tRead - k, aRead := el.aRead - k })

/-- Some context is evaluating. -/
def anyEval (e : Eng) : Bool := (List.range 4).any fun n => e.on (TRIG_SEQ_STAT_EVAL n)

/-- The drop interval that is open ends: its descriptor takes its place (R21). The buffer has yet to drain. -/
def closeDrop (el : ElaTile) : ElaTile :=
  match el.dropping with
  | some (a, b, n) => if n = 0 then el else { el with items := el.items ++ [.drop a b n], dropping := some (b, b, 0) }
  | none => el

/-- An open unlock interval of a buffer ends before a word that begins at `v`: its descriptor takes its place (R118). -/
def closeUnlock (el : ElaTile) (v : Nat) : ElaTile :=
  match el.unlock with
  | some (a, q, l) => { el with unlock := none, items := if tsBefore a v then el.items ++ [.unlock a (prevTick v) q l] else el.items }
  | none => el

/-- A word meets its tile's buffer: it is accepted, dropped, or accepted behind the drop descriptor (R19 to R21). Dropping
goes on until the buffer has drained to 3,072 words and its one drop descriptor is free. -/
def ebTake (el0 : ElaTile) (w : SampleWord) (fin : Nat) : ElaTile :=
  let el := closeUnlock el0 w.stamp
  match el.dropping with
  | some (a, _, n) =>
    if 3072 < wordsHeld el ∨ (n ≠ 0 ∧ dropHeld el = true) then
      { el with dropping := some (if n = 0 then w.stamp else a, fin, n + 1) }
    else { el with dropping := none, items := (closeDrop el).items ++ [.word w] }
  | none =>
    if 4096 ≤ wordsHeld el then { el with dropping := some (w.stamp, fin, 1) }
    else { el with items := el.items ++ [.word w] }

/-- The last tick of a word. -/
def wordEnd (e : Eng) (w : SampleWord) : Nat := (w.stamp + wordSpan e w + (2 ^ 64 - 1)) % 2 ^ 64

/-- A tile's word enters its buffer; the last word before a stop of the tile ends an open drop interval. -/
def ebPut (t : Nat) (w : SampleWord) (e : Eng) : Eng :=
  let next := (w.stamp + wordSpan e w) % 2 ^ 64
  ebShow t (e.modEla t fun el =>
    let el2 := { ebTake el w (wordEnd e w) with wPos := next, inSeq := true }
    match el2.upTo with
    | some u => if tsBefore next u then el2 else closeDrop el2
    | none => el2)

/-! ### What the trigger fabric holds of a tile -/

/-- The instants of a word with the tile's values: in timing-double two instants of even channels per unit.
DESIGN CHOICE (log entry 149): an interpolated time of a STATE word is rounded down to a whole tick (R16 gives no rounding). -/
def wordInstants (e : Eng) (w : SampleWord) : List (Nat × Nat) :=
  let us := (List.range w.units.length).zip w.units
  let at_ (d : Nat) : Nat := (w.stamp + d) % 2 ^ 64
  match e.mode with
  | .state => us.map fun p => (at_ (p.1 * w.span / 64), p.2)
  | .archive => us.map fun p => (at_ (p.1 * e.md.div), p.2)
  | _ =>
    if e.double then
      us.flatMap fun p =>
        [(at_ (2 * p.1), maskOf 32 fun c => c % 2 == 0 && natBit p.2 c),
         (at_ (2 * p.1 + 1), maskOf 32 fun c => c % 2 == 0 && natBit p.2 (c + 1))]
    else us.map fun p => (at_ (2 * p.1), p.2)

/-- The tick after the last tick that an item covers. -/
def itemNext (e : Eng) : EbItem → Nat
  | .word w => (w.stamp + wordSpan e w) % 2 ^ 64
  | .drop _ b _ => (b + 1) % 2 ^ 64
  | .unlock _ b _ _ => (b + 1) % 2 ^ 64

/-- The latest sample of a word, if the item is one. -/
def itemLast (e : Eng) : EbItem → Option Nat
  | .word w => (wordInstants e w).getLast?.map (·.2)
  | _ => none

/-- The value of tile `t` at its latest sample that lies behind the fabric becomes `v`. -/
def setLast (t : Nat) (v : Option Nat) (e : Eng) : Eng :=
  match v with
  | some x => { e with fe := { e.fe with lastVal := natAndNot e.fe.lastVal ((2 ^ 32 - 1) * 2 ^ (32 * t)) + x * 2 ^ (32 * t) } }
  | none => e

/-- Every context that evaluates has put the ticks below `x` behind it. -/
def allPast (e : Eng) (x : Nat) : Bool :=
  (List.range 4).all fun n => !e.on (TRIG_SEQ_STAT_EVAL n) || (match (e.getCx n).last with
    | some l => !tsBefore (l + 1) x
    | none => !tsBefore (e.getCx n).start x)

/-- The items that no context needs any more leave the fabric; the value of the latest sample among them is kept (R23). -/
def pruneView (t : Nat) (e : Eng) : Eng :=
  let gone := (e.getEla t).view.takeWhile fun i => allPast e (itemNext e i)
  setLast t ((gone.filterMap (itemLast e)).getLast?) (e.modEla t fun el => { el with view := el.view.drop gone.length })

/-- The trigger fabric reads every item of a tile it has not read; they join the ones it works on. -/
def trigRead (t : Nat) (e : Eng) : Eng :=
  pruneView t (ebFree t (e.modEla t fun el =>
    { el with view := el.view ++ el.items.drop el.tRead, tRead := el.items.length }))

/-- A tile that no region receives: Accession passes its items, counting the drop intervals (R22). -/
def skipItems (t : Nat) (e : Eng) : Eng :=
  let el := e.getEla t
  let e1 := (el.items.drop el.aRead).foldl (fun a i => match i with
    | .drop _ _ n => (a.addSat (GLB_EB_OVF_CNT t) 1).addSat (GLB_EB_DROP_WORDS t) n
    | _ => a) e
  ebFree t (e1.modEla t fun x => { x with aRead := x.items.length, aPos := x.wPos })

/-- SAMPLE_WORD (R14 to R16, R19 to R21, R62, R63): tile `t` writes its next word; time has passed to the end of it. A tile
that does not sample (R24) or whose loop is in bypass (R117) writes none, no word at or after the stop tick is written (R44),
and a word that does not lie where the tile's next word does is none of its. -/
def sampleWord (t : Nat) (w : SampleWord) (e : Eng) : Eng :=
  if !mayWrite e t w.stamp || !wordFits e t w then e
  else
    let e0 := thrTake t w.stamp (passTo ((w.stamp + wordSpan e w) % 2 ^ 64) e)
    let us := wordUnits e0 t w
    let e1 := ebPut t { w with units := us, volts := [] } { e0 with fe := { e0.fe with comp := compAfter e0 t us } }
    let e2 := if anyEval e then e1 else trigRead t e1
    if (receivers e t).isEmpty then skipItems t e2 else e2

/-- The word boundary at which a tile stops that is told so now: outside STATE the next one of its grid, in STATE the end `u` of
the transfer window it is in, never before its last word's end. -/
def stopBoundary (e : Eng) (t u : Nat) : Nat :=
  let now := tsMax e.ts (e.getEla t).wPos
  if e.mode == .state then tsMax u now else boundaryAt e now

/-- A tile is told to stop at boundary `u` (R51, R99): a word in progress is still written; without one, what is open in its
buffer ends. -/
def tileStopAt (t u : Nat) (e : Eng) : Eng :=
  if !e.inAcq then e
  else
    let busy := tileWrites e t && tsBefore (e.getEla t).wPos u
    e.modEla t fun el => { (if busy then el else closeUnlock (closeDrop el) u) with upTo := some u }

/-- SAMPLE_WORD. -/
def execSampleWord (t : Nat) (w : SampleWord) (s : State) : Result := onEng s (sampleWord t w)

/-! ### The instants of a context (R154) -/

/-- The tiles that sample on the DUT clock of context `n` in STATE. -/
def domainTiles (e : Eng) (n : Nat) : List Nat := indicesWhere 8 fun k => e.rda (FE_TILE_CFG_CLKSEL k) == e.rd (TRIG_CTX_INFO_CLKDOM n)

/-- A word of tile `k` that the fabric works on covers tick `t`. -/
def viewCovers (e : Eng) (k t : Nat) : Bool := (e.getEla k).view.any fun i => match i with
  | .word w => !tsBefore t w.stamp && tsBefore t (itemNext e i)
  | _ => false

/-- The instants of the words of tile `k` that the fabric works on, with the tile's values. -/
def viewInstants (e : Eng) (k : Nat) : List (Nat × Nat) := (e.getEla k).view.flatMap fun i => match i with
  | .word w => wordInstants e w
  | _ => []

/-- The transfer times of the DUT clock of context `n` among the words at hand: those of the lowest tile on it that has a word
there. -/
def transfers (e : Eng) (n : Nat) : List Nat :=
  let ks := domainTiles e n
  ks.flatMap fun k => ((viewInstants e k).map (·.1)).filter fun x => !ks.any fun j => j < k && viewCovers e j x

/-- The earliest stamp of a list. -/
def tsLeast : List Nat → Option Nat
  | [] => none
  | a :: r => some (r.foldl (fun b x => if tsBefore x b then x else b) a)

/-- The next instant of context `n` in acquisition as far as it is known (R154): outside STATE one spacing after its latest,
or the first tick that it judges; in STATE the next transfer of its clock at hand. -/
def ctxNext (e : Eng) (n : Nat) : Option Nat :=
  let c := e.getCx n
  if e.mode == .state then
    tsLeast ((transfers e n).filter fun x => match c.last with
      | some l => tsBefore l x
      | none => !tsBefore x c.start)
  else some (match c.last with
    | some l => (l + e.pitch) % 2 ^ 64
    | none => c.start)

/-- Every tile that writes words has written those that reach tick `t`. -/
def allCovered (e : Eng) (t : Nat) : Bool := (List.range 8).all fun k => !tileWrites e k || tsBefore t (e.getEla k).wPos

/-- Context `n` has no instant at or before `t` left to judge. -/
def ctxClear (e : Eng) (n t : Nat) : Bool :=
  !e.on (TRIG_SEQ_STAT_EVAL n) ||
    (match ctxNext e n with
     | some x => tsBefore t x
     | none => (domainTiles e n).all fun k => !tileWrites e k || tsBefore t (e.getEla k).wPos)

/-! ### Accession takes in words -/

/-- The next item of a tile that Accession has not read. -/
def nextItem (e : Eng) (t : Nat) : Option EbItem := (e.getEla t).items[(e.getEla t).aRead]?

/-- The first tick of an item. -/
def itemStart : EbItem → Nat
  | .word w => w.stamp
  | .drop a _ _ => a
  | .unlock a _ _ _ => a

/-- Accession has read every item of tile `k` that begins at or before `t`, and none is still to come. -/
def readPast (e : Eng) (k t : Nat) : Bool :=
  match nextItem e k with
  | some i => tsBefore t (itemStart i)
  | none => !tileWrites e k || tsBefore t (e.getEla k).wPos

/-- The held records of region `n` take their places as soon as no decision with an earlier instant and no TIME record at or
below theirs can come any more (R208, R209). -/
def releaseHeld (n : Nat) (e : Eng) : Eng :=
  if !capFlows e then e
  else releaseWhile n (fun a h =>
    ((List.range 4).all fun c => !isTarget a c n || ctxClear a c h.t) &&
    ((List.range 8).all fun k => !receivesTile a n k || readPast a k h.t)) (e.getRg n).held.length e

/-- The held records of every region. -/
def releaseReady (e : Eng) : Eng := (List.range 16).foldl (fun a n => releaseHeld n a) e

/-- The units of items after a previous time. -/
def unitsOf (prev : Nat) (is : List Item) : Nat := (itemStream prev is).length

/-- Add one instant to a compressed stream: the container closes before an instant whose items do not fit (R231, R232). -/
def addCompressed (n t : Nat) (p : Nat × Nat) (e : Eng) : Eng :=
  let m := itemMask e n t
  let s := (e.getRg n).stream t
  let edges := match s.prev with
    | none => []
    | some q => instantItems t m (some q) p.1 p.2
  let openAt (base : Nat) : OpenCont := match s.prev with
    | none => ⟨base, true, p.2 &&& m, [], popCount 32 m⟩
    | some q => ⟨base, false, q &&& m, [], 0⟩
  let extend (c : OpenCont) : OpenCont :=
    let last := (c.edges.getLast?.map (·.t)).getD c.base
    { c with edges := c.edges ++ edges, units := c.units + unitsOf last edges }
  let put (c : OpenCont) (a : Eng) : Eng := a.modRg n fun r => r.modStream t fun s =>
    { s with cont := some c, prev := some p.2, next := (p.1 + e.pitch) % 2 ^ 64 }
  match s.cont with
  | none => put (extend (openAt p.1)) e
  | some c =>
    if (extend c).units ≤ 16384 then put (extend c) e
    else put (extend (openAt p.1)) (closeCont n t (prevTick p.1) e)

/-- The ticks of a word's units (R211, R212). -/
def unitTicks (e : Eng) (w : SampleWord) : List Nat :=
  (List.range w.units.length).map fun k => (w.stamp + (if e.mode = .state then k * w.span / 64 else 2 * k)) % 2 ^ 64

/-- Give one word of tile `t` to region `n` by its storage form; in STATE its instants stay at hand for a cut. -/
def addWord (n t : Nat) (w : SampleWord) (e : Eng) : Eng :=
  let e1 := match regionForm e n with
    | 0 => addUnits n t (itemNext e (.word w)) ((unitTicks e w).zip w.units) e
    | 1 => (wordInstants e w).foldl (fun a p => addTransition n t p a) e
    | _ => (wordInstants e w).foldl (fun a p => addCompressed n t p a) e
  if e.mode = .state then e1.modRg n fun r => r.modStream t fun s => { s with tail := wordInstants e w } else e1

/-! ### When a TIME record is due (R216) -/

/-- L, the line interval between TIME records. -/
def timeLimit (e : Eng) (n : Nat) : Nat := min (2 ^ 20) (2 ^ Nat.log2 (e.rd (ACC_CREG_SIZE_LINES n) / 16))

/-- The units that a word can add to a stream at most: 64 samples, or its level changes with a LONGGAP before each instant. -/
def wordLoad (e : Eng) (n t : Nat) (w : SampleWord) : Nat :=
  if regionForm e n = 0 then 64
  else
    let m := itemMask e n t
    ((wordInstants e w).foldl (fun acc p =>
      (acc.1 + 2 + (match acc.2 with
        | some q => popCount 32 ((p.2 ^^^ q) &&& m)
        | none => popCount 32 m), some p.2)) (0, ((e.getRg n).stream t).prev)).1

/-- The units that the next word of a tile adds at most; those of a word that is not there yet at their largest. -/
def nextLoad (e : Eng) (n t : Nat) : Nat :=
  match nextItem e t with
  | some (.word w) => wordLoad e n t w
  | _ => if regionForm e n = 0 then 64 else 64 * (popCount 32 (regionMask e n t) + 2)

/-- The lines between the latest TIME record of region `n` and the end of the words that come next, at most: those written,
those that wait, and those that the streams then hold. -/
def linesAhead (e : Eng) (n : Nat) : Nat :=
  (e.getRg n).timeLines + (waitingLines e n) + ((List.range 8).map fun k =>
    if receivesTile e n k then
      let s := (e.getRg n).stream k
      let u := s.units.length + (match s.cont with
        | some c => c.units
        | none => 0) + nextLoad e n k
      u / 56 + (if s.cont.isSome then 4 else 1)
    else 0).sum

/-- RATE differs by more than 2^10 from that of the region's latest TIME record (R133). -/
def rateMoved (e : Eng) (n : Nat) : Bool := 1024 < (signed 22 (e.rd TIME_RATE_RATE) - signed 22 (e.getRg n).timeRate).natAbs

/-- The cause of a TIME record due in region `n` at a word boundary `ts`, if one is (R216). A boundary is looked at once, at
its first word. -/
def timeDue (e : Eng) (n ts span : Nat) : Option Nat :=
  let r := e.getRg n
  if r.wordTs = some ts then none
  else if !r.started then some 0
  else match r.causes.find? fun c => !tsBefore ts c.2 with
    | some c => some c.1
    | none =>
      if r.timeTs = ts then none
      else if rateMoved e n then some 2
      else if timeLimit e n < linesAhead e n ∨ 2 ^ 36 < ticksFrom r.timeTs ts + span then some 1
      else none

/-- What waits in a region and what its streams hold open is discarded and counted (R225). -/
def loseOpen (n : Nat) (e : Eng) : Eng :=
  let e1 := (List.range 8).foldl (fun a t =>
    let s := (a.getRg n).stream t
    closeCont n t (prevTick s.next) ((cdiv s.units.length (lineCap a n t)).repeat (lineLost n) a)) e
  let e2 := (waitingLines e1 n).repeat (lineLost n) e1
  ((e1.getRg n).outQ.foldl (fun a o => match o with
    | .line _ cat => catSettle cat none a
    | .cont _ _ => a) e2).modRg n fun r =>
      { r with outQ := [], streams := r.streams.map fun s => { s with units := [], ticks := [], cont := none, prev := none, tail := [] } }

/-- The release of a frozen region meets its first word (R225): what was open in the freeze is discarded, the GAP of cause
FROZEN is the first line, and a TIME record of this boundary is due. -/
def releaseFrozen (n ts : Nat) (e : Eng) : Eng :=
  match (e.getRg n).release with
  | none => e
  | some (first, _) =>
    let why := match (e.getRg n).causes with
      | c :: _ => c.1
      | [] => if rateMoved e n then 2 else 1
    putLine n (gapLine first (prevTick ts) 4 (regionTiles e n) 0)
      ((loseOpen n e).modRg n fun r => { r with release := none, causes := (why, ts) :: r.causes })

/-- Region `n` takes a word of tile `t`: the release of a freeze, a TIME record that is due, then the data. In a freeze, and
until the first boundary after its release, no TIME record is written and every line is lost (R225). -/
def regionTakes (n t : Nat) (w : SampleWord) (e : Eng) : Eng :=
  let shut := e.on (ACC_CREG_STAT_FROZEN_NOW n) || (match (e.getRg n).release with
    | some (_, rel) => tsBefore w.stamp rel
    | none => false)
  let e1 := if shut then e else
    let a := releaseFrozen n w.stamp e
    match timeDue a n w.stamp (wordSpan a w) with
    | some k => writeTime n w.stamp k a
    | none => a
  (addWord n t w e1).modRg n fun r => { r with wordTs := some w.stamp }

/-- The tile whose next word has the lowest stamp. -/
def nextTile (e : Eng) : Option (Nat × SampleWord) :=
  (List.range 8).foldl (fun acc t =>
    match nextItem e t with
    | some (.word w) => (match acc with
      | none => some (t, w)
      | some (_, b) => if tsBefore w.stamp b.stamp then some (t, w) else acc)
    | _ => acc) none

/-- A TIME record at `ts` must wait: some tile may still deliver items below it, or a context that names the region has
instants below it to judge (R209). -/
def cutWaits (e : Eng) (n ts : Nat) : Bool :=
  ((List.range 8).any fun t => receivesTile e n t && !readPast e t (prevTick ts)) ||
  ((List.range 4).any fun c => isTarget e c n && !ctxClear e c (prevTick ts))

/-- Accession reads the next word in time order and gives it to every receiving region; none: it must wait. -/
def takeWord (e : Eng) : Option Eng :=
  match nextTile e with
  | none => none
  | some (t, w) =>
    let ns := receivers e t
    if ns.any fun n => (e.getRg n).started && !e.on (ACC_CREG_STAT_FROZEN_NOW n) &&
        ((e.getRg n).release.isSome || (timeDue e n w.stamp (wordSpan e w)).isSome) && cutWaits e n w.stamp then none
    else
      some (ebFree t ((ns.foldl (fun a n => regionTakes n t w a) e).modEla t fun el =>
        { el with aRead := el.aRead + 1, aPos := itemNext e (.word w) }))

/-- A full line of the stream may be written: in STATE no word that is still to come begins before its last tick, where a
TIME record would have to cut it (R209). -/
def lineSettled (e : Eng) (n t : Nat) : Bool :=
  let fin := (streamLine e n t (lineCap e n t)).last
  e.mode != .state || (List.range 8).all fun k => k == t || !receivesTile e n k || readPast e k fin

/-- A stream holds a full line. -/
def lineReady (e : Eng) (n t : Nat) : Bool :=
  lineCap e n t ≤ ((e.getRg n).stream t).units.length && lineSettled e n t

/-- Read words until `stop` holds or none can be read. -/
def takeWords (stop : Eng → Bool) : Nat → Eng → Eng
  | 0, e => e
  | fuel + 1, e =>
    if stop e then e
    else match takeWord e with
      | none => e
      | some e2 => takeWords stop fuel e2

/-- Unread items of all tiles. -/
def unread (e : Eng) : Nat := ((List.range 8).map fun t => (e.getEla t).items.length).sum

/-- ACCESSION_LINE (R208): Accession reads words in time order until the stream of tile `t` in region `n` fills a line,
and writes that line. While capture memory does not run it writes nothing (R117). -/
def accessionLine (n t : Nat) (e : Eng) : Eng :=
  if !capFlows e then e
  else
    let e1 := takeWords (fun a => lineReady a n t) (unread e) e
    releaseReady (if lineReady e1 n t then flushUnits n t (lineCap e1 n t) e1 else e1)

/-- ACCESSION_LINE. -/
def execAccessionLine (n t : Nat) (s : State) : Result := onMem s fun e _ => accessionLine n t e

/-- Accession has read the descriptor at the head of tile `t`. -/
def passItem (t fin : Nat) (e : Eng) : Eng :=
  ebFree t (e.modEla t fun el => { el with aRead := el.aRead + 1, aPos := (fin + 1) % 2 ^ 64 })

/-- ELASTIC_GAP (R21, R22): Accession meets the drop descriptor of tile `t`, writes the GAP record into every region that
receives the tile and counts the interval and its words. -/
def elasticGap (t : Nat) (e : Eng) : Eng :=
  if !capFlows e then e
  else match nextItem e t with
  | some (.drop a b k) =>
    releaseReady (passItem t b (((gapRecord t a b 0 k e).addSat (GLB_EB_OVF_CNT t) 1).addSat (GLB_EB_DROP_WORDS t) k))
  | _ => e

/-- ELASTIC_GAP. -/
def execElasticGap (t : Nat) (s : State) : Result := onMem s fun e _ => elasticGap t e

/-- UNLOCK_RECORD (R118): Accession meets the unlock descriptor of tile `t` and writes the record into every region that
receives the tile. -/
def unlockRecord (t : Nat) (e : Eng) : Eng :=
  if !capFlows e then e
  else match nextItem e t with
  | some (.unlock a b q l) =>
    releaseReady (passItem t b ((receivers e t).foldl (fun x n => putTileRecord n t a (unlockLine t a b q l) x) e))
  | _ => e

/-- UNLOCK_RECORD. -/
def execUnlockRecord (t : Nat) (s : State) : Result := onMem s fun e _ => unlockRecord t e

/-! ### Draining -/

/-- The descriptors at the head of the tiles' unread items are recorded. -/
def takeHeads (e : Eng) : Eng :=
  (List.range 8).foldl (fun a t => match nextItem a t with
    | some (.drop _ _ _) => elasticGap t a
    | some (.unlock _ _ _ _) => unlockRecord t a
    | _ => a) e

/-- Accession takes in what the buffers hold, as far as it can. -/
def drainAll : Nat → Eng → Eng
  | 0, e => e
  | fuel + 1, e =>
    if !capFlows e || (List.range 8).all (fun t => (nextItem e t).isNone) then e
    else drainAll fuel (takeHeads (takeWords (fun _ => false) (unread e) e))

/-- Accession takes in every item at hand. -/
def drainNow (e : Eng) : Eng := releaseReady (drainAll (unread e + 1) e)

/-- Accession has read every item of tile `t`. -/
def drained (e : Eng) (t : Nat) : Bool := (nextItem e t).isNone

/-! ### The slack gauge -/

/-- What the gauge measured of one unit of a stage in a window: the ticks it was busy, and the items it received. -/
def unitHeadroom (window busy : Nat) : Nat := (window - busy) * 100 / window

/-- The headroom of a stage in a window of `window` ticks (R27, R28): the lowest among its units, rounded down; 100 where it
received no items. -/
def stageHeadroom (window : Nat) (units : List SlackUnit) : Nat :=
  if units.all (·.items == 0) then 100
  else units.foldl (fun a u => min a (unitHeadroom window u.busy)) 100

/-- The ticks of a slack window (R28). -/
def slackWindow (e : Eng) : Nat := 2 ^ (20 + e.rd GLB_SLK_CTRL_WIN)

/-- The stage with the lowest headroom, the lowest index on a tie (R28). -/
def worstStage (cur : Nat → Nat) : Nat := (List.range 16).foldl (fun b n => if cur n < cur b then n else b) 0

/-- The Ledger entry of a pace alarm is due: none was written for the stage in the last second (R29). -/
def paceDue (n : Nat) (e : Eng) : Bool :=
  match e.paceAt.getD n none with
  | none => true
  | some t => t + 12800000000 ≤ e.now

/-- The pace alarm of one stage (R29): the alarm bit, vector 2 and the Ledger entry naming the stage and CUR, at most
one entry per stage and second while the condition persists. -/
def paceAlarm (n cur : Nat) (e : Eng) : Eng :=
  if e.on GLB_SLK_CTRL_EN && cur < e.rd GLB_SLK_CTRL_FLOOR then
    let held := e.bit GLB_SLK_ALARM_STAGE n
    let data := leBytes 1 n ++ leBytes 1 cur
    if paceDue n e then
      let e1 := { e with paceAt := putAt e.paceAt n (some e.now) none }
      if held then irqMessage 2 (e1.postEv GLB_SLK_ALARM_STAGE n data) else e1.raiseWith GLB_SLK_ALARM_STAGE n data
    else if held then irqMessage 2 e else e.raiseQuiet GLB_SLK_ALARM_STAGE n
  else { e with paceAt := putAt e.paceAt n none none }

/-- SLACK_WINDOW_END (R28, R29): `units n` is what the gauge measured of the units of stage `n` in the window that ends. -/
def slackWindowEnd (units : List (List SlackUnit)) (e : Eng) : Eng :=
  let cur (n : Nat) : Nat := stageHeadroom (slackWindow e) (units.getD n [])
  let e1 := (List.range 16).foldl (fun a n =>
    (a.wr (GLB_SLK_MARGIN_CUR n) (cur n)).wr (GLB_SLK_MARGIN_MIN n) (min (cur n) (a.rd (GLB_SLK_MARGIN_MIN n)))) e
  let w := worstStage cur
  let e2 := (e1.wr GLB_SLK_WORST_MARGIN (cur w)).wr GLB_SLK_WORST_STAGE w
  (List.range 16).foldl (fun a n => paceAlarm n (cur n) a) e2

/-- SLACK_WINDOW_END. -/
def execSlackWindowEnd (units : List (List SlackUnit)) (s : State) : Result := onEng s (slackWindowEnd units)

/-- CLR_MIN: every MIN becomes 100. -/
def execClrMin (s : State) : Result :=
  onEng s fun e => (List.range 16).foldl (fun a n => a.wr (GLB_SLK_MARGIN_MIN n) 100) e

/-- EB_CLR (R459): PEAK, CNT and WORDS of the selected tiles are cleared. -/
def execEbClr (tiles : Nat) (s : State) : Result :=
  onEng s fun e => (List.range 8).foldl (fun a t =>
    if natBit tiles t then ((a.wr (GLB_EB_STAT_PEAK t) 0).wr (GLB_EB_OVF_CNT t) 0).wr (GLB_EB_DROP_WORDS t) 0 else a) e

/-! ### Fabric reservations -/

/-- Show the shared pool. -/
def showShared (e : Eng) : Eng := e.wr MEM_FAB_STAT_SHARED_FREE (sharedFree e)

/-- FAB_RSV_WRITE (R33, R10): checked, then stored or rejected with CFG_ERR; a locked block discards it. -/
def fabRsvWrite (p rsv mx : Nat) (e : Eng) : Eng :=
  if e.on MEM_GCTRL_LOCK then e
  else if 1024 < rsvSum e - e.rd (MEM_FAB_RSV_RSV_REQ p) + rsv ∨ mx < rsv ∨ 1024 < mx ∨ ((p = 4 ∨ p = 5) ∧ rsv < 8) then
    e.raise MEM_FAB_STAT_CFG_ERR
  else showShared ((e.wr (MEM_FAB_RSV_RSV_REQ p) rsv).wr (MEM_FAB_RSV_MAX_REQ p) mx)

/-- FAB_RSV_WRITE. -/
def execFabRsvWrite (p rsv mx : Nat) (s : State) : Result := onEng s (fabRsvWrite p rsv mx)

/-- FAB_OUT_READ (R354): the read resets PEAK to CUR. -/
def fabOutRead (p : Nat) (e : Eng) : Eng := e.wr (MEM_FAB_OUT_PEAK p) (e.rd (MEM_FAB_OUT_CUR p))

/-- FAB_OUT_READ. -/
def execFabOutRead (p : Nat) (s : State) : Result := onEng s (fabOutRead p)

end Machine
end Sys2Proof
end

