-- ==== Sys2Proof/Machine/RegsCfg.lean ====
section
/-!
DEFINITION. The register fields of the CFG block, one name per field row of the spec's register tables
(R479 gives the block base, R485 the index). The arguments are the index variables of the owning chapter;
an index beyond the count of its row is reduced into it.
-/
namespace Sys2Proof
open Sys2Proof

namespace Machine

/- CFG_GCTRL, chapter 17 -/
def CFG_GCTRL_LOCK : Fld := fld (0x00E00000) 0 1 0
/- CFG_STATUS, chapter 17 -/
def CFG_STATUS_STATE : Fld := fld (0x00E00004) 0 2 0
def CFG_STATUS_DEFAULTED : Fld := fld (0x00E00004) 2 1 0
def CFG_STATUS_MODIFIED : Fld := fld (0x00E00004) 3 1 0
def CFG_STATUS_ACT_SLOT : Fld := fld (0x00E00004) 4 2 3
def CFG_STATUS_FAIL_WHY : Fld := fld (0x00E00004) 8 4 0
def CFG_STATUS_FAIL_SECT : Fld := fld (0x00E00004) 12 6 0
/- CFG_CMD, chapter 17 -/
def CFG_CMD_LOAD : Fld := fld (0x00E00008) 0 1 0
def CFG_CMD_TILE_LOAD : Fld := fld (0x00E00008) 1 1 0
def CFG_CMD_SRC : Fld := fld (0x00E00008) 2 1 0
def CFG_CMD_TILE : Fld := fld (0x00E00008) 8 4 0
/- CFG_PKG_ADDR_LO, chapter 17 -/
def CFG_PKG_ADDR_LO_ADDR : Fld := fld (0x00E0000C) 0 32 0
/- CFG_PKG_ADDR_HI, chapter 17 -/
def CFG_PKG_ADDR_HI_ADDR : Fld := fld (0x00E00010) 0 5 0
/- CFG_PKG_LEN, chapter 17 -/
def CFG_PKG_LEN_LEN : Fld := fld (0x00E00014) 0 21 0
/- CFG_TILE_STAT, chapter 17 -/
def CFG_TILE_STAT_BUSY : Fld := fld (0x00E00018) 0 1 0
def CFG_TILE_STAT_VALID : Fld := fld (0x00E00018) 1 1 0
def CFG_TILE_STAT_ERR : Fld := fld (0x00E00018) 2 4 0
def CFG_TILE_STAT_SECT : Fld := fld (0x00E00018) 6 6 0
def CFG_TILE_STAT_GEN : Fld := fld (0x00E00018) 16 16 0
/- CFG_EVT, chapter 17 -/
def CFG_EVT_LOADED : Fld := fld (0x00E0001C) 0 1 0
def CFG_EVT_DEFAULTED : Fld := fld (0x00E0001C) 1 1 0
def CFG_EVT_TILE_END : Fld := fld (0x00E0001C) 2 1 0
def CFG_EVT_SCAN : Fld := fld (0x00E0001C) 3 1 0
/- CFG_EVT_EN, chapter 17 -/
def CFG_EVT_EN_EN : Fld := fld (0x00E00020) 0 4 15
/- CFG_SCAN_CNT, chapter 17 -/
def CFG_SCAN_CNT_CNT : Fld := fld (0x00E00024) 0 32 0
/- CFG_SCAN_LAST, chapter 17 -/
def CFG_SCAN_LAST_UNIT : Fld := fld (0x00E00028) 0 4 0
/- CFG_IMG_VER, chapter 17 -/
def CFG_IMG_VER_VER : Fld := fld (0x00E00030) 0 32 0
/- CFG_IMG_SECVER, chapter 17 -/
def CFG_IMG_SECVER_VER : Fld := fld (0x00E00034) 0 32 0
/- CFG_IMG_ID_LO, chapter 17 -/
def CFG_IMG_ID_LO_ID : Fld := fld (0x00E00038) 0 32 0
/- CFG_IMG_ID_HI, chapter 17 -/
def CFG_IMG_ID_HI_ID : Fld := fld (0x00E0003C) 0 32 0
/- CFG_TILE_k_INFO, chapter 17 -/
def CFG_TILE_INFO_CONF (k : Nat) : Fld := fld (0x00E00100 + 8 * (k % 15)) 0 1 0
def CFG_TILE_INFO_SRC (k : Nat) : Fld := fld (0x00E00100 + 8 * (k % 15)) 1 1 0
def CFG_TILE_INFO_GEN (k : Nat) : Fld := fld (0x00E00100 + 8 * (k % 15)) 16 16 0
/- CFG_TILE_k_CHK, chapter 17 -/
def CFG_TILE_CHK_CHK (k : Nat) : Fld := fld (0x00E00104 + 8 * (k % 15)) 0 32 0
/- CFG_DEMAND_n, chapter 17 -/
def CFG_DEMAND_SUM (n : Nat) : Fld := fld (0x00E00200 + 4 * (n % 16)) 0 11 0
/-- CFG_PKG_ADDR_LO and _HI taken together. -/
def CFG_PKG_ADDR : Fld2 := ⟨CFG_PKG_ADDR_LO_ADDR, CFG_PKG_ADDR_HI_ADDR⟩
/-- CFG_IMG_ID_LO and _HI taken together. -/
def CFG_IMG_ID : Fld2 := ⟨CFG_IMG_ID_LO_ID, CFG_IMG_ID_HI_ID⟩

end Machine
end Sys2Proof
end

