-- ==== Sys2Proof/Machine/RegsSec.lean ====
section
/-!
DEFINITION. The register fields of the SEC block, one name per field row of the spec's register tables
(R479 gives the block base, R485 the index). The arguments are the index variables of the owning chapter;
an index beyond the count of its row is reduced into it.
-/
namespace Sys2Proof
open Sys2Proof

namespace Machine

/- SEC_GCTRL, chapter 18 -/
def SEC_GCTRL_LOCK : Fld := fld (0x00F00000) 0 1 0
/- SEC_LC_STAT, chapter 18 -/
def SEC_LC_STAT_STATE : Fld := fld (0x00F00004) 0 3 0
def SEC_LC_STAT_BUSY : Fld := fld (0x00F00004) 3 1 0
def SEC_LC_STAT_INCOMPLETE : Fld := fld (0x00F00004) 4 1 0
/- SEC_CMD, chapter 18 -/
def SEC_CMD_OP : Fld := fld (0x00F00008) 0 4 0
def SEC_CMD_GO : Fld := fld (0x00F00008) 4 1 0
def SEC_CMD_SLOT : Fld := fld (0x00F00008) 8 3 0
/- SEC_CMD_STAT, chapter 18 -/
def SEC_CMD_STAT_BUSY : Fld := fld (0x00F0000C) 0 1 0
def SEC_CMD_STAT_VALID : Fld := fld (0x00F0000C) 1 1 0
def SEC_CMD_STAT_ERR : Fld := fld (0x00F0000C) 2 4 0
def SEC_CMD_STAT_GEN : Fld := fld (0x00F0000C) 16 16 0
/- SEC_EVT, chapter 18 -/
def SEC_EVT_TAMPER : Fld := fld (0x00F00010) 0 1 0
def SEC_EVT_LC_DONE : Fld := fld (0x00F00010) 1 1 0
def SEC_EVT_CMD_DONE : Fld := fld (0x00F00010) 2 1 0
def SEC_EVT_RNG_FAIL : Fld := fld (0x00F00010) 3 1 0
def SEC_EVT_KEY_BAD : Fld := fld (0x00F00010) 4 1 0
def SEC_EVT_DBG_AUTH : Fld := fld (0x00F00010) 5 1 0
def SEC_EVT_DBG_FAIL : Fld := fld (0x00F00010) 6 1 0
def SEC_EVT_DBG_END : Fld := fld (0x00F00010) 7 1 0
/- SEC_EVT_EN, chapter 18 -/
def SEC_EVT_EN_EN : Fld := fld (0x00F00014) 0 8 255
/- SEC_TAMPER_CFG, chapter 18 -/
def SEC_TAMPER_CFG_ACT : Fld := fld (0x00F00020) 0 10 598
/- SEC_TAMPER_STAT, chapter 18 -/
def SEC_TAMPER_STAT_SEEN : Fld := fld (0x00F00024) 0 5 0
def SEC_TAMPER_STAT_LATCH : Fld := fld (0x00F00024) 8 1 0
/- SEC_TAMPER_CNT, chapter 18 -/
def SEC_TAMPER_CNT_CNT : Fld := fld (0x00F00028) 0 32 0
/- SEC_MINVER, chapter 18 -/
def SEC_MINVER_VER : Fld := fld (0x00F00030) 0 32 0
/- SEC_KEY_STAT, chapter 18 -/
def SEC_KEY_STAT_LOADED : Fld := fld (0x00F00034) 1 7 0
def SEC_KEY_STAT_SEAL_ACT : Fld := fld (0x00F00034) 8 3 0
/- SEC_DBG_STAT, chapter 18 -/
def SEC_DBG_STAT_STATE : Fld := fld (0x00F00038) 0 2 0
def SEC_DBG_STAT_CUR_HALT : Fld := fld (0x00F00038) 2 1 0
def SEC_DBG_STAT_SCOPE : Fld := fld (0x00F00038) 4 4 0
def SEC_DBG_STAT_FAIL : Fld := fld (0x00F00038) 8 5 0
/- SEC_DBG_REMAIN, chapter 18 -/
def SEC_DBG_REMAIN_SEC : Fld := fld (0x00F0003C) 0 17 0
/- SEC_RNG_STAT, chapter 18 -/
def SEC_RNG_STAT_OK : Fld := fld (0x00F00040) 0 1 0
def SEC_RNG_STAT_FAILS : Fld := fld (0x00F00040) 16 16 0
/- SEC_NONCE_k, chapter 18 -/
def SEC_NONCE_BYTES (k : Nat) : Fld := fld (0x00F00060 + 4 * (k % 8)) 0 32 0
/- SEC_PUB_SEL, chapter 18 -/
def SEC_PUB_SEL_SLOT : Fld := fld (0x00F00080) 0 3 0
/- SEC_PUB_k, chapter 18 -/
def SEC_PUB_BYTES (k : Nat) : Fld := fld (0x00F00100 + 4 * (k % 24)) 0 32 0
/- SEC_BUF_w, chapter 18 -/
def SEC_BUF_BYTES (w : Nat) : Fld := fld (0x00F00200 + 4 * (w % 64)) 0 32 0

end Machine
end Sys2Proof
end

