-- ==== Sys2Proof/Machine/Guarantee.lean ====
section
/-!
DEFINITION. The conditions of the single-fault guarantee and what their change reports (R451), the summary of errors
(R460), and a bit of the mission profile that fails (R461). Shared by every command that changes a condition.
-/
namespace Sys2Proof
namespace Machine

/-- The signed reading of a temperature point in 0.25 °C. -/
def tempOf (e : Eng) (i : Nat) : Int := signed 12 (e.rd (CUR_TEMP_VAL i))

/-- ENV: no temperature point at or above its CRIT, no stack with OVER, no voltage monitor outside LO … HI. -/
def condEnv (e : Eng) : Bool :=
  !((List.range 24).any fun i => e.on (CUR_TEMP_VALID i) && signed 12 (e.rd (CUR_TLIM_CRIT i)) ≤ tempOf e i) &&
  !((List.range 4).any fun s => e.on (MEM_REF_STAT_OVER s)) && e.cu.vout == 0

/-- IMAGE: the image is ACTIVE, and no readback mismatch since the last load of the unit concerned. -/
def condImage (e : Eng) : Bool := e.rd CFG_STATUS_STATE == 2 && e.cf.mism == 0

/-- PATROL: both patrols at default rates or faster. -/
def condPatrol (e : Eng) : Bool := e.on MEM_CONS_CFG_PATROL_EN && e.rd MEM_CONS_CFG_PASS_MIN ≤ 15 && e.on SCR_PATROL_CFG_EN

/-- CURATOR: it runs, and neither a halt nor the debug port holds it. -/
def condCurator (e : Eng) : Bool := e.on CUR_STAT_RUN && !e.on CUR_STAT_HALTED && !e.on SEC_DBG_STAT_CUR_HALT

/-- Curator is restarting, halted, or held by the debug port (R385, R445). -/
def curStopped (e : Eng) : Bool := e.cu.restarting || e.on CUR_STAT_HALTED || e.on SEC_DBG_STAT_CUR_HALT

/-- MARGIN_s: no two positions of the stack are erased for the same line (R276). -/
def condMargin (e : Eng) (s : Nat) : Bool :=
  ((List.range 10).filter fun p => bitsOf (e.rd (MEM_STK_PSTATE_STATE s)) (3 * p) 3 != 0).length < 2

/-- MARGIN of the four stacks. -/
def condMargins (e : Eng) : Nat := maskOf 4 (condMargin e)

/-- GUAR_LOST with its count. -/
def guarLost (e : Eng) : Eng := (e.addSat GLB_FLT_GLOST_CNT_CNT 1).raise GLB_FLT_EVT_GUAR_LOST

/-- Write the conditions. -/
def guarShow (e : Eng) : Eng :=
  let g := condEnv e && condImage e && condPatrol e && condCurator e
  (((((e.wrb GLB_FLT_COND_ENV (condEnv e)).wrb GLB_FLT_COND_IMAGE (condImage e)).wrb GLB_FLT_COND_PATROL (condPatrol e)).wrb
    GLB_FLT_COND_CURATOR (condCurator e)).wr GLB_FLT_COND_MARGIN (condMargins e)).wrb GLB_FLT_COND_GUAR g

/-- The conditions are evaluated: a fall of GUAR or of a MARGIN_s is a loss, a rise of GUAR sets GUAR_BACK; an hour without
patrol, or with bin 3, is noted for the mission profile (R461). -/
def guarCheck (e : Eng) : Eng :=
  let e1 := guarShow e
  let e2 := { e1 with cu := { e1.cu with
    nopat := e1.cu.nopat || !condPatrol e1
    bin3 := e1.cu.bin3 || e1.rd MEM_BIN_STAT_CUR == 3 } }
  let was := e.on GLB_FLT_COND_GUAR
  let is := e2.on GLB_FLT_COND_GUAR
  let lost := (was && !is) || natAndNot (e.rd GLB_FLT_COND_MARGIN) (e2.rd GLB_FLT_COND_MARGIN) != 0
  let e3 := if lost then guarLost e2 else e2
  if !was && is then e3.raise GLB_FLT_EVT_GUAR_BACK else e3

/-- GLB_FLT_SUM (R460): whether any event bit of each block is 1. -/
def fltSum (e : Eng) : Nat :=
  let any (off mask : Nat) : Bool := e.word off &&& mask != 0
  maskOf 12 fun b => match b with
    | 0 => any 0x604 0x7F || any 0x408 0xFFFF
    | 1 => any 0x30000C 0x7FFFFF
    | 2 => any 0x400070 0x3FFF
    | 3 => any 0x901020 0x7FF
    | 4 => any 0x905030 0x1FF
    | 5 => any 0xA00010 0x3FF
    | 6 => any 0xB00010 0x3F
    | 7 => any 0x800000 0x1FFFF
    | 8 => (List.range 16).any fun n => any (0x702000 + 0x10 * n) 0x3F
    | 9 => any 0xD00008 0x1FFF
    | 10 => any 0xE0001C 0xF
    | _ => any 0xF00010 0xFF

/-- A bit of GLB_FLT_PROF becomes 1 (R461). -/
def profileFail (b : Nat) (e : Eng) : Eng :=
  if natBit e.nv.srec.life.prof b then e
  else
    let p := setNatBit e.nv.srec.life.prof b
    let e1 := { e with nv := { e.nv with srec := { e.nv.srec with life := { e.nv.srec.life with prof := p } } } }
    let e2 := (((e1.wrb GLB_FLT_PROF_AVG (natBit p 0)).wrb GLB_FLT_PROF_HOT (natBit p 1)).wrb GLB_FLT_PROF_BIN3 (natBit p 2)).wrb
      GLB_FLT_PROF_NOPAT (natBit p 3)
    (if e2.on GLB_FLT_EVT_PROFILE then e2.postEv GLB_FLT_EVT_PROFILE 0 [BitVec.ofNat 8 p] else
      e2.raiseWith GLB_FLT_EVT_PROFILE 0 [BitVec.ofNat 8 p])

end Machine
end Sys2Proof
end

