-- ==== Sys2Proof/Machine/MemClock.lean ====
section
/-!
DEFINITION. What MPLL does to capture memory (R117, R287, R290, R297, R298, R301): self-refresh while it is in bypass, the
training pass on its return, training pauses and delays, the end of a speed-bin change.
-/
namespace Sys2Proof
namespace Machine

def Eng.getStk (e : Eng) (s : Nat) : StackSt := e.mc.stks.getD (s % 4) {}
def Eng.modStk (e : Eng) (s : Nat) (f : StackSt → StackSt) : Eng :=
  { e with mc := { e.mc with stks := putAt e.mc.stks (s % 4) (f (e.getStk s)) {} } }

/-- D of a stack (R287). -/
def debt (e : Eng) (s : Nat) : Int := signed 8 (e.rd (MEM_REF_STAT_DEBT s))
def setDebt (s : Nat) (d : Int) (e : Eng) : Eng := e.wr (MEM_REF_STAT_DEBT s) (toField 8 d)

/-- The rows of a stack are closed: before a refresh round (R281), and in self-refresh, where every bank is precharged. -/
def rowsClose (s : Nat) (e : Eng) : Eng := e.modStk s fun k => { k with rows := [] }

/-- Place every stack in self-refresh, where D is held at 0 (R117, R290). -/
def memSelfRefresh (e : Eng) : Eng := (List.range 4).foldl (fun a s => setDebt s 0 (rowsClose s (a.wr (MEM_REF_STAT_PWR s) 2))) e

/-- Ranks that a training pass pauses for: those in service (R297). -/
def inServiceRanks (e : Eng) (s : Nat) : List Nat := indicesWhere 12 fun r => e.rd (MEM_RANK_STAT_ROLE s r) == 0

/-- A training pass begins to gather in every stack (R297). -/
def passStart (resume : Bool) (e : Eng) : Eng :=
  let e1 := (List.range 4).foldl (fun a s => a.modStk s fun k => { k with pauses := 0, eyes := [], applied := false }) e
  { e1.wr MEM_TRN_STAT_GATHER 1 with mc := { e1.mc with pass := true, resume := resume } }

/-- A pass is abandoned: what was gathered is discarded, the delays in force stay (R302, R304). -/
def passAbandon (e : Eng) : Eng :=
  if e.mc.pass then
    ({ e.wr MEM_TRN_STAT_GATHER 0 with mc := { e.mc with pass := false, resume := false } }).raise MEM_OP_EVT_TRN_ABANDON
  else e

/-- MPLL goes to bypass. -/
def mpllLost (e : Eng) : Eng := memSelfRefresh (passAbandon e)

/-- A delay, in 1/64 UI, at another unit interval (R301 step 6). DESIGN CHOICE (log entry 177): rounded down, at most the largest code. -/
def scaleDelay (num den : Nat) (f : Fld) (e : Eng) : Eng := e.wr f (min 127 (e.rd f * num / den))

/-- The delays of every lane are scaled by the ratio of the unit intervals at a bin change. -/
def scaleDelays (e : Eng) : Eng :=
  match e.mc.bin with
  | some b =>
    if b.stall && !b.restore then
      (List.range (4 * 12 * 16)).foldl (fun a i =>
        let s := i / 192
        let r := i / 16 % 12
        scaleDelay (4 + b.bin) (4 + b.prev) (MEM_TRN_DLY_RD s r (i % 16))
          (scaleDelay (4 + b.bin) (4 + b.prev) (MEM_TRN_DLY_WR s r (i % 16)) a)) e
    else e
  | none => e

/-- MPLL is LOCKED: self-refresh ends, and, once the initial training has been done, one pass runs before traffic resumes. -/
def mpllBack (e : Eng) : Eng :=
  let e1 := (List.range 4).foldl (fun a s => setDebt s 0 (a.wr (MEM_REF_STAT_PWR s) 0)) e
  if e1.on MEM_TRN_STAT_INIT_DONE then passStart true (scaleDelays e1) else e1

/-- Write the delays and the eye of one lane (R298): an eye below MIN_EYE sets NARROW; a lane without an eye keeps its delays
and sets LANE_FAIL with a Ledger entry. -/
def applyLane (s : Nat) (e : Eng) (x : Nat × Nat × Option (Nat × Nat × Nat)) : Eng :=
  match x.2.2 with
  | none => e.raisePost MEM_OP_EVT_LANE_FAIL 0 [BitVec.ofNat 8 s, BitVec.ofNat 8 x.1, BitVec.ofNat 8 x.2.1]
  | some (rd, wr, eye) =>
    let e1 := ((e.wr (MEM_TRN_DLY_RD s x.1 x.2.1) rd).wr (MEM_TRN_DLY_WR s x.1 x.2.1) wr).wr (MEM_TRN_DLY_EYE s x.1 x.2.1) eye
    if eye < e.rd MEM_TRN_CFG_MIN_EYE then e1.raise MEM_OP_EVT_NARROW else e1

/-- A bin change ends (R301 step 7, R303): ports resume, D = 0 in every stack. -/
def binEnd (e : Eng) : Eng :=
  match e.mc.bin with
  | none => e
  | some b =>
    if !b.stall then e
    else
      let code := if b.restore then 6 else 0
      let e1 := (List.range 4).foldl (fun a s => setDebt s 0 a) e
      let e2 := ((e1.wr MEM_BIN_STAT_CUR (if b.restore then b.prev else b.bin)).wr MEM_BIN_STAT_BUSY 0).addWrap MEM_BIN_STAT_GEN 1
      let fast := e2.cu.bin3 || e2.rd MEM_BIN_STAT_CUR == 3
      let e3 := { e2 with mc := { e2.mc with bin := none, passFrom := e2.now }, cu := { e2.cu with bin3 := fast } }.raise MEM_OP_EVT_BIN_DONE
      let e4 := if b.restore then (e3.wr MEM_BIN_STAT_REJ_CODE 6).raise MEM_BIN_STAT_REJ else e3
      e4.postCur 0x22 1 [BitVec.ofNat 8 b.prev, BitVec.ofNat 8 b.bin, BitVec.ofNat 8 code]

/-- When every stack has applied its delays the pass is complete (R297). -/
def passDone (e : Eng) : Eng :=
  if e.mc.pass && (List.range 4).all fun s => (e.getStk s).applied then
    binEnd ((({ e.wr MEM_TRN_STAT_GATHER 0 with mc := { e.mc with pass := false, resume := false } }).addWrap MEM_TRN_PASS_CNT 1).raise
      MEM_OP_EVT_TRN_DONE)
  else e

/-- A refresh round of a stack meets the training pass: it is followed by a pause, in which the eyes of a rank's lanes are
measured (each rank has two pauses, and the second completes its measurement), or, after the last pause, the new delays
are applied. `eyes` is what is measured: per lane the read centre, write centre and eye width, none where no eye is
found. -/
def trainRound (s : Nat) (eyes : List (Option (Nat × Nat × Nat))) (e : Eng) : Eng :=
  let k := e.getStk s
  if !e.mc.pass ∨ k.applied then e
  else
    let ranks := inServiceRanks e s
    if k.pauses < 2 * ranks.length then
      let r := ranks.getD (k.pauses / 2) 0
      let got := if k.pauses % 2 = 1 then (List.range 16).map fun l => (r, l, (eyes.getD l none)) else []
      e.modStk s fun k => { k with pauses := k.pauses + 1, eyes := k.eyes ++ got }
    else
      passDone ((k.eyes.foldl (applyLane s) e).modStk s fun k => { k with applied := true, eyes := [] })

/-- Above 135 °C (R291): OVERTEMP, and a Ledger entry per minute while that lasts. -/
def overTemp (s : Nat) (e : Eng) : Eng :=
  let due := match (e.getStk s).overAt with
    | none => true
    | some t => t + 60 * tps ≤ e.now
  if due then (e.raisePost MEM_OP_EVT_OVERTEMP 0 []).modStk s fun k => { k with overAt := some e.now }
  else e.raise MEM_OP_EVT_OVERTEMP

/-- A die temperature of a stack in 0.25 °C (R286, R291): MULT rises at 85 and 105, and falls below those less HYST; while
Curator does not run it is held at 2 (R385); above 135 OVER is set. TEMP shows whole degrees. -/
def stackTemp (s : Nat) (reading : Int) (e : Eng) : Eng :=
  let old := e.rd (MEM_REF_STAT_MULT s)
  let temp := reading / 4
  let h : Int := e.rd MEM_REF_CFG_HYST
  let up := if 105 ≤ temp then 2 else if 85 ≤ temp then 1 else 0
  let keep := if old = 2 ∧ 105 - h ≤ temp then 2 else if 1 ≤ old ∧ 85 - h ≤ temp then 1 else 0
  let new := if curStopped e then 2 else max up (min old keep)
  let hot := 540 < reading
  let e1 := ((e.wr (MEM_REF_STAT_MULT s) new).wr (MEM_REF_STAT_TEMP s) (toField 8 temp)).wrb (MEM_REF_STAT_OVER s) hot
  let e2 := if new = old then e1 else e1.raise MEM_OP_EVT_MULT_CHG
  if hot then overTemp s e2 else e2.modStk s fun k => { k with overAt := none }

end Machine
end Sys2Proof
end

