-- ==== Sys2Proof/Machine/CurBase.lean ====
section
/-!
DEFINITION. Curator, the parts that several commands share: the state record (R402), slot states (R403), writing Ledger
entries (R392 to R395), restart and halt (R384 to R386), answering the mailbox (R397).
-/
namespace Sys2Proof
namespace Machine

/-! ### The state record (R402) -/

/-- Offsets of the Vault areas (R400). -/
def vltSlot (x : Nat) : Nat := x * 2 ^ 24
def vltLedger : Nat := 0x3000000
def vltRecord : Nat := 0x3C00000
def vltKeys : Nat := 0x3E00000

/-- Curator writes a change into the older copy, which then is the newer. -/
def recWrite (f : Rec → Rec) (e : Eng) : Eng :=
  { e with nv := { e.nv with old := e.nv.srec, srec := f e.nv.srec, seq := (e.nv.seq + 1) % 2 ^ 32 } }.emit
    (.vltClear (vltRecord + (e.nv.seq + 1) % 2 * 2 ^ 20) (2 ^ 20))

/-- Curator executes: it runs, neither halted nor held by the debug port. -/
def curRuns (e : Eng) : Bool := e.on CUR_STAT_RUN && !curStopped e

/-- The state of a slot: 0 EMPTY, 1 WRITING, 2 CHECKED, 3 TRIAL, 4 CONFIRMED, 5 BAD. -/
def slotState (e : Eng) (x : Nat) : Nat := e.nv.srec.slots.getD x 0

/-- The LENGTH in the header of a slot's image. -/
def slotLength (m : Mems) (x : Nat) : Nat := leNat (memRead m.vlt (vltSlot x + 8) 4)

/-- Show a slot: its state, and the pages of an image that has been checked. -/
def slotShow (m : Mems) (e : Eng) (x : Nat) : Eng :=
  let st := slotState e x
  (e.wr (CUR_SLOT_STATE x) st).wr (CUR_SLOT_PAGES x) (if st ≤ 1 then 0 else (slotLength m x + 4095) / 4096)

/-- A slot changes state: the record, the register, UPD, and the SLOT entry. -/
def setSlot (x st : Nat) (m : Mems) (e : Eng) : Eng :=
  let old := slotState e x
  if old = st then slotShow m e x
  else
    let e1 := slotShow m (recWrite (fun r => { r with slots := putAt r.slots x st 0 }) e) x
    (e1.raise CUR_EVT_UPD).postCur 0x10 1 [BitVec.ofNat 8 x, BitVec.ofNat 8 old, BitVec.ofNat 8 st]

/-- BOOT_SLOT takes a slot. -/
def setBoot (x : Nat) (e : Eng) : Eng := (recWrite (fun r => { r with bootSlot := x }) e).wr CUR_STAT_BOOT_SLOT x

/-- A trial ends without confirmation: BOOT_SLOT returns to the previous slot, the slot takes a state, and with `note`
Curator writes a REVERT entry (R404, R420). -/
def revert (x st : Nat) (note : Bool) (m : Mems) (e : Eng) : Eng :=
  let p := e.nv.srec.prev
  let e1 := setSlot x st m (setBoot p e)
  let e2 := { e1 with cu := { e1.cu with trialEnd := none } }.wr CUR_STAT_TRIAL 0
  if note then e2.postCur 0x11 2 [BitVec.ofNat 8 x, BitVec.ofNat 8 p] else e2

/-- Show the life counters and the mission profile (R391, R461). -/
def lifeShow (e : Eng) : Eng :=
  let l := e.nv.srec.life
  let avg := if l.hours = 0 then 0 else l.tsum / (l.hours : Int)
  let e1 := (e.wr CUR_LIFE_HOURS_H l.hours).wr CUR_LIFE_AVG_T (toField 16 avg)
  let e2 := (List.range 16).foldl (fun a b => a.wr (CUR_LIFE_BAND_H b) (l.bands.getD b 0)) e1
  let e3 := (e2.wr GLB_FLT_BIN3_H_H l.bin3).wr GLB_FLT_NOPAT_H_H l.nopat
  (((e3.wrb GLB_FLT_PROF_AVG (natBit l.prof 0)).wrb GLB_FLT_PROF_HOT (natBit l.prof 1)).wrb GLB_FLT_PROF_BIN3 (natBit l.prof 2)).wrb
    GLB_FLT_PROF_NOPAT (natBit l.prof 3)

/-! ### Ledger entries (R392 to R395) -/

/-- A Ledger entry. -/
def ldgEntry (seq ts egen boot cause part parts sev : Nat) (data : List Byte) : List Byte :=
  let body := leBytes 4 seq ++ leBytes 8 ts ++ leBytes 2 egen ++ leBytes 2 boot ++ leBytes 4 cause ++
    leBytes 1 (part + 16 * (parts - 1)) ++ leBytes 1 sev ++ (data ++ List.replicate 6 0).take 6
  body ++ leBytes 4 (crc32c body)

/-- The number of parts of a payload (R393). -/
def ldgParts (data : List Byte) : Nat := max 1 ((data.length + 5) / 6)

/-- Write one entry into the ring: NEXT advances, OLDEST follows when the ring is full, LDG for a severity not below
IRQ_SEV (R395, R396). -/
def ldgPut (c : Cause) (e : Eng) (part : Nat) : Eng :=
  let seq := e.rd CUR_LDG_NEXT_SEQ
  let next := (seq + 1) % 2 ^ 32
  let bytes := ldgEntry seq c.ts c.egen (e.nv.srec.boot % 2 ^ 16) c.cause part (ldgParts c.data) c.sev (c.data.drop (6 * part))
  let e1 := (e.emit (.vlt (vltLedger + seq % 2 ^ 18 * 32) bytes)).wr CUR_LDG_NEXT_SEQ next
  let e2 := if 2 ^ 18 < (next + 2 ^ 32 - e1.rd CUR_LDG_OLDEST_SEQ) % 2 ^ 32 then
      e1.wr CUR_LDG_OLDEST_SEQ ((next + 2 ^ 32 - 2 ^ 18) % 2 ^ 32) else e1
  if e.rd CUR_LDG_CFG_IRQ_SEV ≤ c.sev then e2.raise CUR_EVT_LDG else e2

/-- Write the entries of a cause. -/
def ldgPutAll (c : Cause) (e : Eng) : Eng := (List.range (ldgParts c.data)).foldl (ldgPut c) e

/-- Write a SUPPRESS entry (R394). -/
def ldgSuppress (n : Nat) (e : Eng) : Eng :=
  ldgPutAll ⟨6 * 2 ^ 29 + 2, 1, leBytes 4 (min n (2 ^ 32 - 1)), e.ts, e.rd TIME_EPOCH_GEN⟩ e

/-- The Ledger second of R394 changes: a SUPPRESS entry for a nonzero count, and the count of entries starts again. -/
def ldgNewSecond (e : Eng) : Eng :=
  let e1 := if e.ldg.suppressed = 0 then e else ldgSuppress e.ldg.suppressed e
  { e1 with ldg := { e1.ldg with used := 0, suppressed := 0, sec := e1.ts / tps, cut := false } }

/-- A new second has begun, or a step of TS64 has ended the current one. -/
def ldgSecondCheck (e : Eng) : Eng := if e.ldg.cut ∨ e.ldg.sec ≠ e.ts / tps then ldgNewSecond e else e

/-- Curator takes the oldest cause: discarded causes are reported first; a cause of severity 0 or 1 whose parts do not fit
in the entries left in the second is suppressed whole (R394). -/
def ldgService (e : Eng) : Eng :=
  match e.ldg.queue with
  | [] => e
  | c :: rest =>
    let e1 := ldgSecondCheck ({ e with ldg := { e.ldg with queue := rest } }.wr CUR_LDG_QFILL_FILL rest.length)
    let e2 := if e1.ldg.dropped = 0 then e1 else
      let a := ldgSuppress (e1.ldg.dropped + e1.ldg.suppressed) e1
      { a with ldg := { a.ldg with dropped := 0, suppressed := 0 } }
    let n := ldgParts c.data
    if 2 ≤ c.sev then ldgPutAll c e2
    else if e2.ldg.used + n ≤ max 1 (e2.rd CUR_LDG_CFG_RATE) then
      let a := ldgPutAll c e2
      { a with ldg := { a.ldg with used := a.ldg.used + n } }
    else { e2 with ldg := { e2.ldg with suppressed := e2.ldg.suppressed + n } }

/-- Curator takes every cause that waits. -/
def ldgDrain : Nat → Eng → Eng
  | 0, e => e
  | n + 1, e => if e.ldg.queue.isEmpty then e else ldgDrain n (ldgService e)

/-! ### The mailbox (R397, R399) -/

/-- The response: words, STATUS, the echo of SEQ, GEN, VALID, BUSY, and MBX. -/
def mbxAnswer (seq status : Nat) (words : List Nat) (e : Eng) : Eng :=
  let e1 := (List.range 16).foldl (fun a k => if k < words.length then a.wr (CUR_MBX_RSP_VAL k) (words.getD k 0) else a) e
  let e2 := ((((e1.wr CUR_MBX_STAT_STATUS status).wr CUR_MBX_STAT_SEQ seq).addWrap CUR_MBX_STAT_GEN 1).wr CUR_MBX_STAT_VALID 1).wr
    CUR_MBX_STAT_BUSY 0
  { e2 with cu := { e2.cu with mbx := none } }.raise CUR_EVT_MBX

/-! ### Restart and halt (R384 to R386) -/

/-- While Curator does not run, every stack is held at MULT = 2 (R385). -/
def multHold (e : Eng) : Eng :=
  (List.range 4).foldl (fun a s =>
    if a.rd (MEM_REF_STAT_MULT s) = 2 then a else (a.wr (MEM_REF_STAT_MULT s) 2).raise MEM_OP_EVT_MULT_CHG) e

/-- Curator halts (R386): a request that waits is answered with HALTED. -/
def curHalt (e : Eng) : Eng :=
  let e1 := (({ e with cu := { e.cu with restarting := false } }.wr CUR_STAT_HALTED 1).raise CUR_EVT_HALT).raise GLB_FLT_EVT_CUR_HALT
  match e1.cu.mbx with
  | some r => mbxAnswer r.seq 12 [] e1
  | none => e1

/-- Curator restarts for cause `why` (R384): counted, RAM cleared, a waiting request is interrupted (R405); a fourth restart
within 3,600 s of the first of four halts it (R386). -/
def curRestart (why : Nat) (e : Eng) : Eng :=
  if e.on CUR_STAT_HALTED then e
  else
    let recent := e.cu.restarts.filter (fun x => e.now ≤ x + 3600 * tps) ++ [e.now]
    let cut (r : MbxReq) : MbxReq := { r with cut := true }
    let e1 := { e with cu := { e.cu with restarts := recent, restarting := true, mbx := e.cu.mbx.map cut } }
    let e2 := (((((e1.addSat CUR_STAT_RESTARTS 1).wr CUR_STAT_WHY why).wr CUR_STAT_RUN 0).raise CUR_EVT_RESTART).emit .ramClear)
    guarCheck (multHold (if 4 ≤ recent.length then curHalt e2 else e2))

end Machine
end Sys2Proof
end

