-- ==== Sys2Proof/Machine/RegsVit.lean ====
section
/-!
DEFINITION. The register fields of the VIT block, one name per field row of the spec's register tables
(R479 gives the block base, R485 the index). The arguments are the index variables of the owning chapter;
an index beyond the count of its row is reduced into it.
-/
namespace Sys2Proof
open Sys2Proof

namespace Machine

/- VIT_GCTRL, chapter 15 -/
def VIT_GCTRL_LOCK : Fld := fld (0x00C00000) 0 1 0
/- VIT_CTRL, chapter 15 -/
def VIT_CTRL_EN : Fld := fld (0x00C00004) 0 1 0
def VIT_CTRL_BPC : Fld := fld (0x00C00004) 1 1 0
def VIT_CTRL_PSR_EN : Fld := fld (0x00C00004) 2 1 0
def VIT_CTRL_PSR_OFF : Fld := fld (0x00C00004) 3 1 0
def VIT_CTRL_RR_EN : Fld := fld (0x00C00004) 4 1 0
/- VIT_STAT, chapter 15 -/
def VIT_STAT_LINK_UP : Fld := fld (0x00C00008) 0 1 0
def VIT_STAT_PSR_ACT : Fld := fld (0x00C00008) 1 1 0
def VIT_STAT_RR_ACT : Fld := fld (0x00C00008) 2 1 0
def VIT_STAT_TIM_PEND : Fld := fld (0x00C00008) 3 1 0
def VIT_STAT_TIM_WHY : Fld := fld (0x00C00008) 4 3 0
/- VIT_EVT, chapter 15 -/
def VIT_EVT_VBLANK : Fld := fld (0x00C0000C) 0 1 0
def VIT_EVT_TIM_DONE : Fld := fld (0x00C0000C) 1 1 0
def VIT_EVT_FLIP : Fld := fld (0x00C0000C) 2 1 0
def VIT_EVT_RENDER : Fld := fld (0x00C0000C) 3 1 0
def VIT_EVT_HPD_IRQ : Fld := fld (0x00C0000C) 4 1 0
def VIT_EVT_HPD_PLUG : Fld := fld (0x00C0000C) 5 1 0
def VIT_EVT_LINK_FAIL : Fld := fld (0x00C0000C) 6 1 0
def VIT_EVT_AUX_DONE : Fld := fld (0x00C0000C) 7 1 0
def VIT_EVT_PSR_ENTRY : Fld := fld (0x00C0000C) 8 1 0
def VIT_EVT_PSR_EXIT : Fld := fld (0x00C0000C) 9 1 0
def VIT_EVT_UNDER : Fld := fld (0x00C0000C) 10 1 0
def VIT_EVT_POISON : Fld := fld (0x00C0000C) 11 1 0
def VIT_EVT_TIM_REJ : Fld := fld (0x00C0000C) 12 1 0
/- VIT_EVT_EN, chapter 15 -/
def VIT_EVT_EN_EN : Fld := fld (0x00C00010) 0 13 8190
/- VIT_FRAME, chapter 15 -/
def VIT_FRAME_CNT : Fld := fld (0x00C00014) 0 32 0
/- VIT_CMD, chapter 15 -/
def VIT_CMD_COMMIT : Fld := fld (0x00C00018) 0 1 0
def VIT_CMD_WHEN : Fld := fld (0x00C00018) 1 1 0
def VIT_CMD_TRAIN : Fld := fld (0x00C00018) 2 1 0
def VIT_CMD_DIRTY : Fld := fld (0x00C00018) 3 1 0
/- VIT_LINK_CFG, chapter 15 -/
def VIT_LINK_CFG_LANES : Fld := fld (0x00C00100) 0 2 0
def VIT_LINK_CFG_RATE : Fld := fld (0x00C00100) 2 2 0
def VIT_LINK_CFG_AUTO : Fld := fld (0x00C00100) 4 1 0
/- VIT_LINK_STAT, chapter 15 -/
def VIT_LINK_STAT_FAIL : Fld := fld (0x00C00104) 0 3 0
def VIT_LINK_STAT_BUSY : Fld := fld (0x00C00104) 3 1 0
def VIT_LINK_STAT_SWING : Fld := fld (0x00C00104) 4 2 0
def VIT_LINK_STAT_PREEMPH : Fld := fld (0x00C00104) 6 2 0
/- VIT_HPD_STAT, chapter 15 -/
def VIT_HPD_STAT_PRESENT : Fld := fld (0x00C00108) 0 1 0
def VIT_HPD_STAT_LEVEL : Fld := fld (0x00C00108) 1 1 0
/- VIT_AUX_CMD, chapter 15 -/
def VIT_AUX_CMD_ADDR : Fld := fld (0x00C00200) 0 20 0
def VIT_AUX_CMD_LEN : Fld := fld (0x00C00200) 20 4 0
def VIT_AUX_CMD_OP : Fld := fld (0x00C00200) 24 2 0
def VIT_AUX_CMD_MOT : Fld := fld (0x00C00200) 26 1 0
def VIT_AUX_CMD_GO : Fld := fld (0x00C00200) 31 1 0
/- VIT_AUX_STAT, chapter 15 -/
def VIT_AUX_STAT_BUSY : Fld := fld (0x00C00204) 0 1 0
def VIT_AUX_STAT_VALID : Fld := fld (0x00C00204) 1 1 0
def VIT_AUX_STAT_RESULT : Fld := fld (0x00C00204) 2 2 0
def VIT_AUX_STAT_GEN : Fld := fld (0x00C00204) 16 16 0
/- VIT_AUX_DATA_j, chapter 15 -/
def VIT_AUX_DATA_DATA (j : Nat) : Fld := fld (0x00C00210 + 4 * (j % 4)) 0 32 0
/- VIT_TIM_H0, chapter 15 -/
def VIT_TIM_H0_ACT : Fld := fld (0x00C00300) 0 13 0
def VIT_TIM_H0_FP : Fld := fld (0x00C00300) 16 12 0
/- VIT_TIM_H1, chapter 15 -/
def VIT_TIM_H1_SYNC : Fld := fld (0x00C00304) 0 12 0
def VIT_TIM_H1_BP : Fld := fld (0x00C00304) 16 12 0
def VIT_TIM_H1_POL : Fld := fld (0x00C00304) 31 1 0
/- VIT_TIM_V0, chapter 15 -/
def VIT_TIM_V0_ACT : Fld := fld (0x00C00308) 0 13 0
def VIT_TIM_V0_FP : Fld := fld (0x00C00308) 16 12 0
/- VIT_TIM_V1, chapter 15 -/
def VIT_TIM_V1_SYNC : Fld := fld (0x00C0030C) 0 12 0
def VIT_TIM_V1_BP : Fld := fld (0x00C0030C) 16 12 0
def VIT_TIM_V1_POL : Fld := fld (0x00C0030C) 31 1 0
/- VIT_TIM_PCLK, chapter 15 -/
def VIT_TIM_PCLK_KHZ : Fld := fld (0x00C00310) 0 20 0
/- VIT_TIM_SLOW, chapter 15 -/
def VIT_TIM_SLOW_VFP_EXT : Fld := fld (0x00C00314) 0 16 0
def VIT_TIM_SLOW_STATIC_N : Fld := fld (0x00C00314) 16 8 0
/- VIT_BG, chapter 15 -/
def VIT_BG_RGB : Fld := fld (0x00C00400) 0 24 0
/- VIT_PAL_i, chapter 15 -/
def VIT_PAL_RGB (i : Nat) : Fld := fld (0x00C00404 + 4 * ((i - 1) % 15)) 0 24 0
/- VIT_TRL_CFG, chapter 15 -/
def VIT_TRL_CFG_EN : Fld := fld (0x00C00500) 0 1 0
def VIT_TRL_CFG_SEL : Fld := fld (0x00C00500) 1 1 0
def VIT_TRL_CFG_STRIDE : Fld := fld (0x00C00500) 16 16 0
/- VIT_TRL_ADDR_b_LO, chapter 15 -/
def VIT_TRL_ADDR_LO_ADDR (b : Nat) : Fld := fld (0x00C00504 + 8 * (b % 2)) 0 32 0
/- VIT_TRL_ADDR_b_HI, chapter 15 -/
def VIT_TRL_ADDR_HI_ADDR (b : Nat) : Fld := fld (0x00C00508 + 8 * (b % 2)) 0 5 0
/- VIT_OVL_CFG, chapter 15 -/
def VIT_OVL_CFG_EN : Fld := fld (0x00C00600) 0 1 0
def VIT_OVL_CFG_GA : Fld := fld (0x00C00600) 8 8 255
def VIT_OVL_CFG_STRIDE : Fld := fld (0x00C00600) 16 16 0
/- VIT_OVL_ADDR_LO, chapter 15 -/
def VIT_OVL_ADDR_LO_ADDR : Fld := fld (0x00C00604) 0 32 0
/- VIT_OVL_ADDR_HI, chapter 15 -/
def VIT_OVL_ADDR_HI_ADDR : Fld := fld (0x00C00608) 0 5 0
/- VIT_CUR_CFG, chapter 15 -/
def VIT_CUR_CFG_EN : Fld := fld (0x00C00700) 0 1 0
/- VIT_CUR_IMG, chapter 15 -/
def VIT_CUR_IMG_OFFS : Fld := fld (0x00C00704) 14 11 0
/- VIT_CUR_POS, chapter 15 -/
def VIT_CUR_POS_X : Fld := fld (0x00C00708) 0 14 0
def VIT_CUR_POS_Y : Fld := fld (0x00C00708) 16 14 0
/- VIT_FLIP, chapter 15 -/
def VIT_FLIP_LAYER : Fld := fld (0x00C00780) 0 3 0
/- VIT_GEN_k, chapter 15 -/
def VIT_GEN_REQ (k : Nat) : Fld := fld (0x00C00784 + 4 * (k % 3)) 0 16 0
def VIT_GEN_RETIRE (k : Nat) : Fld := fld (0x00C00784 + 4 * (k % 3)) 16 16 0
/- VIT_FLIP_SKIP, chapter 15 -/
def VIT_FLIP_SKIP_CNT : Fld := fld (0x00C00790) 0 32 0
/- VIT_TR_CFG, chapter 15 -/
def VIT_TR_CFG_REG : Fld := fld (0x00C00800) 0 4 0
def VIT_TR_CFG_FOLLOW : Fld := fld (0x00C00800) 4 1 0
def VIT_TR_CFG_TARGET : Fld := fld (0x00C00800) 5 1 0
def VIT_TR_CFG_HOLE : Fld := fld (0x00C00800) 8 4 0
/- VIT_TR_CMD, chapter 15 -/
def VIT_TR_CMD_RENDER : Fld := fld (0x00C00804) 0 1 0
def VIT_TR_CMD_STOP : Fld := fld (0x00C00804) 1 1 0
/- VIT_TR_LEFT_LO, chapter 15 -/
def VIT_TR_LEFT_LO_TS : Fld := fld (0x00C00808) 0 32 0
/- VIT_TR_LEFT_HI, chapter 15 -/
def VIT_TR_LEFT_HI_TS : Fld := fld (0x00C0080C) 0 32 0
/- VIT_TR_TPP, chapter 15 -/
def VIT_TR_TPP_TICKS : Fld := fld (0x00C00810) 0 32 0
/- VIT_TR_STAT, chapter 15 -/
def VIT_TR_STAT_BUSY : Fld := fld (0x00C00820) 0 1 0
def VIT_TR_STAT_VALID : Fld := fld (0x00C00820) 1 1 0
def VIT_TR_STAT_ERR : Fld := fld (0x00C00820) 2 3 0
def VIT_TR_STAT_BUF : Fld := fld (0x00C00820) 5 1 0
def VIT_TR_STAT_GEN : Fld := fld (0x00C00820) 16 16 0
/- VIT_TR_RLEFT_LO, chapter 15 -/
def VIT_TR_RLEFT_LO_TS : Fld := fld (0x00C00824) 0 32 0
/- VIT_TR_RLEFT_HI, chapter 15 -/
def VIT_TR_RLEFT_HI_TS : Fld := fld (0x00C00828) 0 32 0
/- VIT_TR_HOLES, chapter 15 -/
def VIT_TR_HOLES_COLS : Fld := fld (0x00C0082C) 0 13 0
/- VIT_TR_k_A, chapter 15 -/
def VIT_TR_A_EN (k : Nat) : Fld := fld (0x00C00900 + 8 * (k % 32)) 0 1 0
def VIT_TR_A_CH (k : Nat) : Fld := fld (0x00C00900 + 8 * (k % 32)) 8 8 0
def VIT_TR_A_COL (k : Nat) : Fld := fld (0x00C00900 + 8 * (k % 32)) 16 4 0
/- VIT_TR_k_B, chapter 15 -/
def VIT_TR_B_Y (k : Nat) : Fld := fld (0x00C00904 + 8 * (k % 32)) 0 13 0
def VIT_TR_B_H (k : Nat) : Fld := fld (0x00C00904 + 8 * (k % 32)) 16 8 0
/- VIT_LB_CFG, chapter 15 -/
def VIT_LB_CFG_WM : Fld := fld (0x00C00A00) 0 8 32
/- VIT_LB_STAT, chapter 15 -/
def VIT_LB_STAT_FILL : Fld := fld (0x00C00A04) 0 8 0
/- VIT_UNDER_CNT, chapter 15 -/
def VIT_UNDER_CNT_CNT : Fld := fld (0x00C00A08) 0 32 0
/- VIT_POISON_CNT, chapter 15 -/
def VIT_POISON_CNT_CNT : Fld := fld (0x00C00A0C) 0 32 0
/-- VIT_TRL_ADDR_LO and _HI taken together. -/
def VIT_TRL_ADDR (b : Nat) : Fld2 := ⟨VIT_TRL_ADDR_LO_ADDR b, VIT_TRL_ADDR_HI_ADDR b⟩
/-- VIT_OVL_ADDR_LO and _HI taken together. -/
def VIT_OVL_ADDR : Fld2 := ⟨VIT_OVL_ADDR_LO_ADDR, VIT_OVL_ADDR_HI_ADDR⟩
/-- VIT_TR_LEFT_LO and _HI taken together. -/
def VIT_TR_LEFT : Fld2 := ⟨VIT_TR_LEFT_LO_TS, VIT_TR_LEFT_HI_TS⟩
/-- VIT_TR_RLEFT_LO and _HI taken together. -/
def VIT_TR_RLEFT : Fld2 := ⟨VIT_TR_RLEFT_LO_TS, VIT_TR_RLEFT_HI_TS⟩

end Machine
end Sys2Proof
end

