-- ==== Sys2Proof/Machine/VitLink.lean ====
section
/-!
DEFINITION. Training of the display link (R358, R359, R362) and the end of a render (R372): shared by the display commands and by everything that moves
VPLL in and out of LOCKED.
-/
namespace Sys2Proof
namespace Machine

/-- Change Vitrine's state. -/
def Eng.modVt (e : Eng) (f : VitSt → VitSt) : Eng := { e with vt := f e.vt }

/-- Half the link rate in kHz (R358). -/
def halfRate (rate : Nat) : Nat := if rate = 0 then 810000 else if rate = 1 then 1350000 else 2700000

/-- VPLL is LOCKED at half the link rate within 300 ppm (R359). -/
def rateOk (e : Eng) : Bool :=
  let h := halfRate (e.rd VIT_LINK_CFG_RATE)
  let f := e.rd (CLK_LOOP_ACT_FOUT_KHZ 6)
  loopLocked e 6 && (f - h) * 1000000 ≤ 300 * h && (h - f) * 1000000 ≤ 300 * h

/-- A software transaction that waited behind the training goes out (R361). -/
def auxRelease (e : Eng) : Eng :=
  match e.vt.auxWait with
  | some x => (e.modVt fun v => { v with auxWait := none }).send x
  | none => e

/-- Training ends without success: FAIL, LINK_FAIL, electrical idle (R359). -/
def trainFail (code : Nat) (e : Eng) : Eng :=
  ((((auxRelease e).wr VIT_LINK_STAT_BUSY 0).wr VIT_LINK_STAT_FAIL code).wr VIT_STAT_LINK_UP 0).raise VIT_EVT_LINK_FAIL

/-- The DPCD write that clears the panel's downspread control (R357); its address is log entry 148. -/
def downspreadOff : OutMsg := .aux 0 false 0x107 1 [0]

/-- Training begins, with the downspread control written 0 (R357), or ends at once with RATE (R359). -/
def trainStart (e : Eng) : Eng :=
  if e.on VIT_LINK_STAT_BUSY then e
  else if rateOk e then ((e.wr VIT_LINK_STAT_BUSY 1).wr VIT_STAT_LINK_UP 0).send downspreadOff
  else trainFail 1 e

/-- VPLL leaves LOCKED (R362). -/
def vpllLost (e : Eng) : Eng :=
  let e1 := (e.wr VIT_STAT_LINK_UP 0).wr VIT_STAT_PSR_ACT 0
  if e.on VIT_LINK_STAT_BUSY then trainFail 1 e1 else e1

/-- VPLL returns to LOCKED: with AUTO the engine trains again (R359, R362). -/
def vpllBack (e : Eng) : Eng := if e.on VIT_LINK_CFG_AUTO then trainStart e else e

/-- A render ends: ERR, LEFT, HOLE columns, GEN, VALID (R372). -/
def renderEnd (r : RenderSt) (err holes : Nat) (e : Eng) : Eng :=
  let e1 := ((e.modVt fun v => { v with render := none }).wr VIT_TR_STAT_ERR err).wr VIT_TR_STAT_BUF r.buf
  (((((e1.wrq VIT_TR_RLEFT r.left).wr VIT_TR_HOLES_COLS holes).addWrap VIT_TR_STAT_GEN 1).wr VIT_TR_STAT_VALID 1).wr
    VIT_TR_STAT_BUSY 0).raise VIT_EVT_RENDER

/-- A render in progress ends with a code. -/
def renderStop (code : Nat) (e : Eng) : Eng :=
  match e.vt.render with
  | some r => renderEnd r code 0 e
  | none => e

end Machine
end Sys2Proof
end

