-- ==== Sys2Proof/Machine/Loops.lean ====
section
/-!
DEFINITION. The clock loops (R102 to R121, R127): frequencies and limits, the relock sequence of a commit, lock and loss,
what a loss does to the tiles. Shared by the clock commands, by mode entry, by tiles that stop sampling and by the
speed-bin change.
-/
namespace Sys2Proof
namespace Machine

def Eng.getLoop (e : Eng) (n : Nat) : LoopSt := e.clk.loops.getD (n % 8) {}
def Eng.modLoop (e : Eng) (n : Nat) (f : LoopSt → LoopSt) : Eng :=
  { e with clk := { e.clk with loops := putAt e.clk.loops (n % 8) (f (e.getLoop n)) {} } }

/-- STATE of a loop: 0 OFF, 1 RELOCK, 2 LOCKED, 3 BYPASS, 4 ALIGN, 5 HELD. -/
def loopState (e : Eng) (n : Nat) : Nat := e.rd (CLK_LOOP_STAT_STATE n)

/-- A loop of the XREF row of R102. -/
def onXref (n : Nat) : Bool := n == 0 || n == 5 || n == 6 || n == 7

/-- The shadow values (R106). -/
def loopShadow (e : Eng) (n : Nat) : LoopVals :=
  ⟨e.rd (CLK_LOOP_CFG_REFMUL n), e.rd (CLK_LOOP_CFG_RDIV n), e.rd (CLK_LOOP_CFG_NINT n), e.rd (CLK_LOOP_CFG_ODIV n),
    e.rd (CLK_LOOP_FRAC_NFRAC n)⟩

/-- The active values. -/
def loopActive (e : Eng) (n : Nat) : LoopVals :=
  ⟨e.rda (CLK_LOOP_CFG_REFMUL n), e.rda (CLK_LOOP_CFG_RDIV n), e.rda (CLK_LOOP_CFG_NINT n), e.rda (CLK_LOOP_CFG_ODIV n),
    e.rda (CLK_LOOP_FRAC_NFRAC n)⟩

/-- Make values active. -/
def setLoopActive (n : Nat) (v : LoopVals) (e : Eng) : Eng :=
  ((((e.wra (CLK_LOOP_CFG_REFMUL n) v.refmul).wra (CLK_LOOP_CFG_RDIV n) v.rdiv).wra (CLK_LOOP_CFG_NINT n) v.nint).wra
    (CLK_LOOP_CFG_ODIV n) v.odiv).wra (CLK_LOOP_FRAC_NFRAC n) v.nfrac

/-- The nominal reference frequency in kHz (R105). -/
def loopRef (e : Eng) (n : Nat) : Nat := if onXref n then e.rd CLK_XREF_FREQ_KHZ else e.rd (CLK_LOOP_TREF_TPLL_REF_KHZ n)

/-- Twice f_ref × mul in kHz (R104). -/
def refTwice (e : Eng) (n : Nat) (v : LoopVals) : Nat :=
  loopRef e n * (if v.refmul = 1 then 4 else if v.refmul = 2 then 1 else 2)

/-- The numerator of f_vco in kHz over `2 × rdiv × 2^24` (R103). -/
def vcoNum (e : Eng) (n : Nat) (v : LoopVals) : Nat := refTwice e n v * (v.nint * 2 ^ 24 + v.nfrac)

/-- The VCO range in kHz (R102). -/
def vcoRange (n : Nat) : Nat × Nat :=
  if n = 0 ∨ n = 7 then (12800000, 12800000)
  else if n = 5 then (3200000, 5600000)
  else if n = 6 then (6000000, 11000000)
  else (6400000, 12800000)

/-- The ODIV values of R102. -/
def odivOk (n o : Nat) : Bool :=
  if n = 0 then o ≤ 1 else if n = 5 then o == 2 else if n = 7 then o == 0 else o ≤ 7

/-- f_out exceeds the loop's ceiling. -/
def overCeil (e : Eng) (n : Nat) (v : LoopVals) : Bool :=
  e.rd (CLK_LOOP_CEIL_FREQ_CEIL n) * 1000 * (2 * v.rdiv * 2 ^ 24 * 2 ^ v.odiv) < vcoNum e n v

/-- The values keep every limit of R103, R102 and the ceiling (R105). -/
def loopLegal (e : Eng) (n : Nat) (v : LoopVals) : Bool :=
  let d := 2 * v.rdiv
  v.refmul ≤ 2 && 1 ≤ v.rdiv && v.rdiv ≤ 31 && 16 ≤ v.nint && v.nint ≤ 4095 &&
  (v.nfrac == 0 || (1 ≤ n && n ≤ 4) || n == 6) && odivOk n v.odiv &&
  5000 * d ≤ refTwice e n v && refTwice e n v ≤ 500000 * d &&
  (vcoRange n).1 * d * 2 ^ 24 ≤ vcoNum e n v && vcoNum e n v ≤ (vcoRange n).2 * d * 2 ^ 24 && !overCeil e n v

/-- f_out in kHz, to the nearest. -/
def foutKhz (e : Eng) (n : Nat) (v : LoopVals) : Nat :=
  let d := 2 * v.rdiv * 2 ^ 24 * 2 ^ v.odiv
  if d = 0 then 0 else (2 * vcoNum e n v + d) / (2 * d)

/-! ### Ramps and outputs -/

/-- A ramp starts at segment 0 when EN is set (R123). -/
def rampFollow (e : Eng) : Eng :=
  (List.range 4).foldl (fun a m =>
    let r := a.clk.ramp.getD m {}
    let en := a.on (CLK_RAMP_CTRL_EN m)
    if r.on = en then a
    else { a with clk := { a.clk with ramp := putAt a.clk.ramp m ⟨en, a.now, 0, 0⟩ {} } }) e

/-- After any change of a loop or of the registers of the block: the outputs, the ramps, the quality of TOD. -/
def loopsShow (e : Eng) : Eng := timeShow (rampFollow ((List.range 4).foldl clkOutShow e))

/-! ### States -/

/-- Put a loop in a state; LOCKED and BYPASS follow (R107, R116), its output monitor passes only in LOCKED (R115), and the
display link follows VPLL (R362). -/
def setLoop (n st : Nat) (e : Eng) : Eng :=
  let e1 := (((e.wr (CLK_LOOP_STAT_STATE n) st).wrb (CLK_LOOP_STAT_LOCKED n) (st == 2)).wrb (CLK_LOOP_STAT_BYPASS n) (st != 2)).wrBit
    CLK_MON_STAT_LOOP_OK n (st == 2)
  if n = 6 ∧ loopLocked e 6 = true ∧ st ≠ 2 then vpllLost e1
  else if n = 6 ∧ loopLocked e 6 = false ∧ st = 2 then vpllBack e1
  else e1

/-- Does a held write of CLK_LD_AN wait for this loop (R114)? -/
def ldWaits (e : Eng) (n : Nat) : Bool := natBit e.clk.ldFor n

/-- CMT_PEND of the loops that wait for a held write of CLK_LD_AN and for nothing else clears. -/
def ldRelease (e : Eng) : Eng :=
  let e1 := (List.range 8).foldl (fun a n =>
    if ldWaits e n && !(a.getLoop n).held then a.wr (CLK_LOOP_STAT_CMT_PEND n) 0 else a) e
  { e1 with clk := { e1.clk with ldFor := 0 } }

/-- Is a loop under the analogue method (R112)? -/
def analogueOn (e : Eng) (n : Nat) : Bool := e.ona CLK_LD_AN_EN && e.rda CLK_LD_AN_LOOP == n

/-- The analogue lock of loop `n` is no longer declared: DECL and the LOCK pin go low (R112). -/
def ldDrop (n : Nat) (e : Eng) : Eng := if analogueOn e n then e.wr CLK_LD_AN_DECL 0 else e

/-- Apply a held write of CLK_LD_AN; an analogue lock stays declared where neither the loop nor the method changes. -/
def ldApply (e : Eng) : Eng :=
  let e1 := ((e.load CLK_LD_AN_EN).load CLK_LD_AN_LOOP).load CLK_LD_AN_WIN
  let same := e1.rda CLK_LD_AN_EN = e.rda CLK_LD_AN_EN ∧ e1.rda CLK_LD_AN_LOOP = e.rda CLK_LD_AN_LOOP
  ldRelease (if same then e1 else e1.wr CLK_LD_AN_DECL 0)

/-- Steps 1 and 2 of R107 with the given values: the output goes to bypass, the values load, the lock detector starts
afresh (R111). A loop in BYPASS or HELD after a loss loads the values at once and goes on reacquiring (R121). -/
def startLoop (n : Nat) (v : LoopVals) (e : Eng) : Eng :=
  let after := loopState e n == 3 || loopState e n == 5
  let e0 := ldDrop n (if ldWaits e n then ldApply e else e)
  let e1 := setLoop n (if after then 3 else 1) (setLoopActive n v e0)
  let e2 := (e1.wr (CLK_LOOP_ACT_FOUT_KHZ n) (foutKhz e1 n v)).wr (CLK_LOOP_STAT_CMT_PEND n) 0
  loopsShow (e2.modLoop n fun l => { commit := !after || l.commit })

/-- A TPLL commit that was held starts when the tiles on its clock have stopped sampling (R106, R78); the limits of R105
are checked on the values then in the registers. -/
def heldCommit (n : Nat) (e : Eng) : Eng :=
  if (e.getLoop n).held && !((List.range 8).any fun t => tileSamples e t && e.rda (FE_TILE_CFG_CLKSEL t) == n - 1) then
    let v := loopShadow e n
    if loopLegal e n v then startLoop n v (e.modLoop n fun l => { l with held := false })
    else ((e.modLoop n fun l => { l with held := false }).wrb (CLK_LOOP_STAT_CMT_PEND n) (ldWaits e n)).raise CLK_EVT_CMT_REJ
  else e

/-- Held commits of the four TPLLs. -/
def heldCommits (e : Eng) : Eng := [1, 2, 3, 4].foldl (fun a n => heldCommit n a) e

/-- The tiles that stop when a loop goes to bypass (R117): all for SPLL and BPLL; in STATE those on its clock for a TPLL. -/
def loopTiles (e : Eng) (n : Nat) : List Nat :=
  if n = 0 ∨ n = 7 then List.range 8
  else if 1 ≤ n ∧ n ≤ 4 ∧ e.mode = .state then indicesWhere 8 fun t => e.rda (FE_TILE_CFG_CLKSEL t) == n - 1
  else []

/-- Step 5 of R107: the loop drives its output. -/
def lockLoop (n : Nat) (e : Eng) : Eng :=
  let e1 := ((setLoop n 2 e).modLoop n fun l => { l with commit := false }).raise CLK_EVT_RELOCK n
  let e2 := (loopTiles e n).foldl (fun a t => a.modEla t fun el => { el with resume := tsMax el.resume e.ts }) e1
  loopsShow (if n = 5 then mpllBack e2 else e2)

/-- Steps 4 and 5 of R107: SPLL aligns first. -/
def alignOrLock (n : Nat) (e : Eng) : Eng := if n = 0 then setLoop 0 4 e else lockLoop n e

/-- Lock is declared: after a loss with AUTO_RET = 0 the loop is HELD (R119), otherwise it goes on to step 4. -/
def declareLock (n : Nat) (e : Eng) : Eng :=
  let e1 := e.modLoop n fun l => { l with decl := true, fails := 0 }
  if loopState e n = 3 ∧ !(e.getLoop n).commit ∧ !e.on (CLK_LOOP_CFG_AUTO_RET n) then setLoop n 5 e1
  else if loopState e n = 1 ∨ loopState e n = 3 then alignOrLock n e1
  else e1

/-- The unlock interval of a tile opens (R118): START is the end of the last word written, SUSPECT_FROM never later. -/
def openUnlock (n suspect t : Nat) (e : Eng) : Eng :=
  if tileOpen e t ∧ (e.getEla t).unlock.isNone then
    e.modEla t fun el =>
      { closeDrop el with unlock := some (el.wPos, if tsBefore el.wPos suspect then el.wPos else suspect, n), inSeq := false }
  else e

/-- A second mechanism declares the loss of loop `n` at the same tick: the earlier SUSPECT_FROM counts (R118). -/
def earlierSuspect (n suspect t : Nat) (e : Eng) : Eng :=
  let better (x : Nat × Nat × Nat) : Nat × Nat × Nat := if x.2.2 = n ∧ tsBefore suspect x.2.1 then (x.1, suspect, n) else x
  e.modEla t fun el => { el with unlock := el.unlock.map better }

/-- A tile may write words again from `v`; while one of its loops is in bypass an unlock interval opens there. -/
def tileBack (t v : Nat) (e : Eng) : Eng :=
  let e1 := thrLoad t (e.modEla t fun el => { el with wPos := v, resume := v, inSeq := false, upTo := none })
  match ([0, 7] ++ (if e.mode = OpMode.state then [1 + e.rda (FE_TILE_CFG_CLKSEL t)] else [])).find? fun n => !loopLocked e n with
  | some n => openUnlock n v v e1
  | none => e1

/-- SUSPECT_FROM by the mechanism that declared the loss at tick `t` (R118): 0 counter, 1 analogue, 2 monitor. -/
def suspectFrom (e : Eng) (n cause t : Nat) : Nat :=
  (match cause with
    | 0 => e.rdq (CLK_LOOP_LASTGOOD n) + 1
    | 1 => t + 2 ^ 64 - 2560000
    | _ => t + 2 ^ 64 - 64000) % 2 ^ 64

/-- A loss declared at tick `t` (R116): counted, LOSS set with a Ledger entry of loop, cause and tick; the output goes to
bypass. In a commit the sequence goes on from step 2 (R121): RELOCK stays, ALIGN returns to BYPASS (R119). A loop that is
OFF or in BYPASS declares no further loss. -/
def loopLoss (n cause t : Nat) (e : Eng) : Eng :=
  let st := loopState e n
  let e1 := (ldDrop n e).modLoop n fun l =>
    { l with decl := false, passes := 0, fails := 0, lossAt := if st = 0 ∨ st = 3 then l.lossAt else some t }
  if st = 0 then e1
  else if st = 3 then
    (if (e.getLoop n).lossAt = some t then (loopTiles e n).foldl (fun a t2 => earlierSuspect n (suspectFrom e n cause t) t2 a) e1 else e1)
  else
    let e2 := (e1.addSat (CLK_LOOP_STAT_LOSS_CNT n) 1).raisePost CLK_EVT_LOSS n ([BitVec.ofNat 8 n, BitVec.ofNat 8 cause] ++ leBytes 8 t)
    if st = 1 then e2
    else if n = 5 then loopsShow (mpllLost (setLoop 5 3 e2))
    else loopsShow ((loopTiles e n).foldl (fun a t2 => openUnlock n (suspectFrom e n cause t) t2 a) (setLoop n 3 e2))

/-- The reference of a loop has failed its monitor. -/
def refFailed (e : Eng) (n : Nat) : Bool := natBit e.clk.refBad (if onXref n then 0 else n)

end Machine
end Sys2Proof
end

