-- ==== Sys2Proof/Machine/MemCode.lean ====
section
/-!
DEFINITION. The outer code of capture memory (R254 to R260): encoding, decoding of codewords and lines, and how a line is
read from its ranks.
-/
namespace Sys2Proof
namespace Machine

/-! ### GF(2^8) with x^8 + x^4 + x^3 + x^2 + 1 (R257) -/

/-- Multiply by α. -/
def gfX (a : Nat) : Nat := if 128 ≤ a then (2 * a) ^^^ 0x11D else 2 * a

/-- α^k times `a`. -/
def gfXn (a k : Nat) : Nat := (List.range k).foldl (fun x _ => gfX x) a

/-- The product of two field elements. -/
def gfMul (a b : Nat) : Nat := (List.range 8).foldl (fun s k => if natBit b k then s ^^^ gfXn a k else s) 0

/-- The inverse, a^254. -/
def gfInv (a : Nat) : Nat :=
  let sq (x : Nat) : Nat := gfMul x x
  let a2 := sq a
  let a4 := sq a2
  let a8 := sq a4
  let a16 := sq a8
  let a32 := sq a16
  let a64 := sq a32
  let a128 := sq a64
  gfMul a128 (gfMul a64 (gfMul a32 (gfMul a16 (gfMul a8 (gfMul a4 a2)))))

/-! ### Codewords -/

/-- The check symbols C0 and C1 of eight data symbols: the remainder of (Σ d_k x^(7 − k)) × x² by x² + 3x + 2 (R257). -/
def rsCheck (ds : List Nat) : Nat × Nat :=
  ds.foldl (fun (r : Nat × Nat) d =>
    let t := r.1 ^^^ d
    (gfMul t 3 ^^^ r.2, gfMul t 2)) (0, 0)

/-- The result of a codeword (R258). -/
inductive CwRes where
  | clean
  | located (p : Nat)
  | erasedFix
  | fail
  deriving DecidableEq, Repr

/-- Decode one codeword of ten symbols, erased ones read as 0 (R258): the result and the symbols. -/
def decodeWord (sym : List Nat) (erased pois : List Nat) : CwRes × List Nat :=
  let s0 := sym.foldl (· ^^^ ·) 0
  let s1 := (List.range 10).foldl (fun a p => a ^^^ gfXn (sym.getD p 0) (9 - p)) 0
  match erased with
  | [] =>
    if s0 = 0 ∧ s1 = 0 then (.clean, sym)
    else if s0 = 0 ∨ s1 = 0 then (.fail, sym)
    else match (List.range 10).find? fun q => gfXn s0 q == s1 with
      | some q => (.located (9 - q), if pois.contains (9 - q) then sym else sym.set (9 - q) (sym.getD (9 - q) 0 ^^^ s0))
      | none => (.fail, sym)
  | [i] => if s1 = gfXn s0 (9 - i) then (.erasedFix, sym.set i s0) else (.fail, sym)
  | [i, j] =>
    let xi := gfXn 1 (9 - i)
    let xj := gfXn 1 (9 - j)
    let a := gfMul (s1 ^^^ gfXn s0 (9 - j)) (gfInv (xi ^^^ xj))
    (.erasedFix, (sym.set i a).set j (s0 ^^^ a))
  | _ => (.fail, sym)

/-! ### Where a line lives (R254, R255, R274) -/

def stackOf (line : Nat) : Nat := line % 4
def localOf (line : Nat) : Nat := line / 4 % 2 ^ 27

/-- The physical rank of a position. -/
def rankOf (e : Eng) (s p : Nat) : Nat := bitsOf (e.rdq (MEM_STK_MAP s)) (4 * p) 4

/-- The state of a position (R274). -/
def posState (e : Eng) (s p : Nat) : Nat := bitsOf (e.rd (MEM_STK_PSTATE_STATE s)) (3 * p) 3

/-- Put a position in a state. -/
def setPos (s p st : Nat) (e : Eng) : Eng :=
  let v := e.rd (MEM_STK_PSTATE_STATE s)
  e.wr (MEM_STK_PSTATE_STATE s) (v - bitsOf v (3 * p) 3 * 2 ^ (3 * p) + st * 2 ^ (3 * p))

/-- The running sweep's pointer where it is at this position, otherwise 0. -/
def sweepPtr (e : Eng) (s p : Nat) : Nat :=
  if e.on (MEM_STK_SWEEP_ACT s) && e.rd (MEM_STK_SWEEP_POS s) == p then e.rd (MEM_STK_SWEEP_PTR s) else 0

/-- Is a position erased for local index `i` (R274)? -/
def posErased (e : Eng) (s p i : Nat) : Bool :=
  match posState e s p with
  | 0 => false
  | 2 => decide (sweepPtr e s p ≤ i)
  | 3 => decide (sweepPtr e s p ≤ i)
  | _ => true

/-! ### Reading a line -/

/-- A line as the controller reads it (R258, R259): result 0 CLEAN, 1 CORRECTED, 2 FAIL; the bytes decoded; poisoned data
sectors; failing codewords; positions erased or located; positions flagged, located, corrected in the rank; a codeword was
restored from an erasure. -/
structure LineRead where
  result : Nat
  data : List Byte
  pois : Nat
  cw : Nat
  pos : Nat
  flagged : List Nat
  located : List Nat
  corr : List Nat
  fix : Bool
  deriving DecidableEq, Repr

/-- Is a data sector of a line poisoned in memory? -/
def sectorPois (m : Mems) (line k : Nat) : Bool := idxMem m.capPois (line * 8 + k)

/-- Byte `j` of codeword position `k` of the line's data: zero where the sector is poisoned (R263). -/
def dataSym (m : Mems) (line k j : Nat) : Nat :=
  if sectorPois m line k then 0 else (memGet m.cap (line * 256 + 32 * k + j)).toNat

/-- Is the fault of a kind stored in a sector (R279)? -/
def hasDmg (e : Eng) (line p kind : Nat) : Bool := e.mc.dmg.contains ⟨line, p, kind⟩

/-- What disturbs byte `j` of a sector that is not flagged. -/
def symError (e : Eng) (line p j : Nat) (r : SecResp) : Nat :=
  (match r with
    | .corrupt xs => xs.foldl (fun a x => if x.1 = j then a ^^^ (x.2 % 256) else a) 0
    | _ => 0) ^^^ (if j = 0 && hasDmg e line p 2 then 0xFF else 0)

/-- Read a line from its ranks (R256 to R259). `resp` is what the ranks return of their own, by position. -/
def lineRead (e : Eng) (m : Mems) (line : Nat) (resp : List SecResp) : LineRead :=
  let s := stackOf line
  let r (p : Nat) : SecResp := resp.getD p .clean
  let gone := indicesWhere 10 fun p => posErased e s p (localOf line)
  let flagged := indicesWhere 10 fun p => !gone.contains p && (r p == .flagged || hasDmg e line p 1)
  let erased := indicesWhere 10 fun p => gone.contains p || flagged.contains p
  let pois := indicesWhere 8 fun k => sectorPois m line k && !erased.contains k
  let corr := indicesWhere 10 fun p => !erased.contains p && !pois.contains p && (r p == .corrected || hasDmg e line p 0)
  let words := (List.range 32).map fun j =>
    let ds := (List.range 8).map fun k => dataSym m line k j
    let c := rsCheck ds
    let sym := (List.range 10).map fun p =>
      if erased.contains p || pois.contains p then 0
      else (if p = 8 then c.1 else if p = 9 then c.2 else ds.getD p 0) ^^^ symError e line p j (r p)
    decodeWord sym erased pois
  let located := indicesWhere 10 fun p => words.any fun w => w.1 == .located p
  let multi := 1 < located.length
  let cw := maskOf 32 fun j => match (words.getD j (.clean, [])).1 with
    | .fail => true
    | .located _ => multi
    | _ => false
  let fail := cw != 0
  let clean := (words.all fun w => w.1 == .clean) && corr.isEmpty
  let data := (List.range 8).flatMap fun k => (List.range 32).map fun j =>
    BitVec.ofNat 8 ((words.getD j (.clean, [])).2.getD k 0)
  { result := if fail then 2 else if clean then 0 else 1
    data := data
    pois := maskOf 8 fun k => pois.contains k
    cw := cw
    pos := maskOf 10 fun p => erased.contains p || located.contains p
    flagged := flagged
    located := located
    corr := corr
    fix := words.any fun w => w.1 == .erasedFix }

/-! ### Storing a line -/

/-- Store a line rewritten by the controller: its bytes and the poison of its sectors (R263); what damaged it is
overwritten. -/
def storeLine (line : Nat) (data : List Byte) (pois : Nat) (e : Eng) : Eng :=
  let bytes := (List.range 8).flatMap fun k =>
    if natBit pois k then List.replicate 32 (0 : Byte) else (data.drop (32 * k)).take 32
  let e0 := stackHeld line (e.emit (.cap (line * 256) bytes))
  let e1 := (List.range 8).foldl (fun a k => a.emit (.capPoison (line * 8 + k) (natBit pois k))) e0
  if e1.mc.dmg.isEmpty then e1 else { e1 with mc := { e1.mc with dmg := e1.mc.dmg.filter fun d => d.line != line } }

end Machine
end Sys2Proof
end

