-- ==== Sys2Proof/Machine/RegsPwr.lean ====
section
/-!
DEFINITION. The register fields of the PWR block, one name per field row of the spec's register tables
(R479 gives the block base, R485 the index). The arguments are the index variables of the owning chapter;
an index beyond the count of its row is reduced into it.
-/
namespace Sys2Proof
open Sys2Proof

namespace Machine

/- PWR_GCTRL, chapter 20 -/
def PWR_GCTRL_LOCK : Fld := fld (0x01000000) 0 1 0
/- PWR_CTRL, chapter 20 -/
def PWR_CTRL_FE_IDLE : Fld := fld (0x01000004) 0 1 0
def PWR_CTRL_TRICKLE_EN : Fld := fld (0x01000004) 1 1 0
/- PWR_STAT, chapter 20 -/
def PWR_STAT_STATE : Fld := fld (0x01000008) 0 2 0
def PWR_STAT_TRK_BLOCK : Fld := fld (0x01000008) 4 5 0
/- PWR_STRT, chapter 20 -/
def PWR_STRT_STEP : Fld := fld (0x0100000C) 0 4 1
def PWR_STRT_DONE : Fld := fld (0x0100000C) 4 1 0
def PWR_STRT_FILL_DONE : Fld := fld (0x0100000C) 5 1 0
def PWR_STRT_PFAIL : Fld := fld (0x0100000C) 6 1 0
def PWR_STRT_MS : Fld := fld (0x0100000C) 16 16 0
/- PWR_FILL, chapter 20 -/
def PWR_FILL_LINE : Fld := fld (0x01000010) 0 30 0
/- PWR_RST_CAUSE, chapter 20 -/
def PWR_RST_CAUSE_CAUSE : Fld := fld (0x01000014) 0 3 0
/- PWR_CMD, chapter 20 -/
def PWR_CMD_OFF : Fld := fld (0x01000018) 0 1 0
def PWR_CMD_SWRST : Fld := fld (0x01000018) 1 1 0
def PWR_CMD_KEY : Fld := fld (0x01000018) 8 8 0
/- PWR_EVT, chapter 20 -/
def PWR_EVT_STARTED : Fld := fld (0x01000020) 0 1 0
def PWR_EVT_FILL_DONE : Fld := fld (0x01000020) 1 1 0
def PWR_EVT_STATE_CHG : Fld := fld (0x01000020) 2 1 0
def PWR_EVT_CMD_REJ : Fld := fld (0x01000020) 3 1 0
/- PWR_EVT_EN, chapter 20 -/
def PWR_EVT_EN_EN : Fld := fld (0x01000024) 0 4 15

end Machine
end Sys2Proof
end

