-- ==== Sys2Proof/Machine/Integrity.lean ====
section
/-!
DEFINITION. Capture memory integrity (chapter 11): requests of the fabric ports, poison, Conservator, the inventory,
post-package repair, scores, retirement, sweeps and injection; the commands MEMORY_REQUEST, CONSERVATOR_REREAD,
PATROL_READ, INVENTORY_WRITEBACK, INVENTORY_RETEST, INVENTORY_AGE, PPR_START, PPR_DONE, SCORE_HALVE, RETIRE, SWEEP_LINE,
INJECT_ARM and CE_DIV_WRITE.
-/
namespace Sys2Proof
namespace Machine

/-- An hour in ticks. -/
def hourTicks : Nat := 3600 * tps

/-! ### The rank map and its copy in the state record (R255, R277, R402) -/

/-- The lower-numbered spare with ROLE SPARE that no migration of the stack has taken. -/
def freeSpare (e : Eng) (s : Nat) : Option Nat :=
  ((indicesWhere 12 fun r => e.rd (MEM_RANK_STAT_ROLE s r) == 1).filter fun r => (e.getStk s).target != some r).head?

/-- The fields of a stack's rank map that the state record holds. -/
def mapFields : List Fld :=
  (List.range 4).flatMap fun s => [MEM_STK_MAP_LO_RANK s, MEM_STK_MAP_HI_RANK s, MEM_STK_PSTATE_STATE s] ++
    (List.range 12).flatMap fun r => [MEM_RANK_STAT_ROLE s r, MEM_RANK_STAT_POS s r, MEM_RANK_STAT_PPR_LEFT s r]

/-- A position takes another rank; the old one is RETIRED. -/
def takeRank (s p r : Nat) (e : Eng) : Eng :=
  let old := rankOf e s p
  let e1 := e.wrq (MEM_STK_MAP s) (e.rdq (MEM_STK_MAP s) - old * 2 ^ (4 * p) + r * 2 ^ (4 * p))
  ((e1.wr (MEM_RANK_STAT_ROLE s old) 2).wr (MEM_RANK_STAT_ROLE s r) 0).wr (MEM_RANK_STAT_POS s r) p

/-- One position at a start-up (R277): MIGRATE takes its spare, REPAIR and REBUILD their repaired rank, ERASED stays. -/
def settlePos (s : Nat) (e : Eng) (p : Nat) : Eng :=
  let k := e.getStk s
  let mine := e.on (MEM_STK_SWEEP_ACT s) && e.rd (MEM_STK_SWEEP_POS s) == p
  match posState e s p with
  | 3 =>
    match (if mine then k.target else freeSpare e s) with
    | some r => setPos s p 0 (takeRank s p r e)
    | none => (setPos s p 4 e).wr (MEM_RANK_STAT_ROLE s (rankOf e s p)) 2
  | 2 =>
    let r := rankOf e s p
    (setPos s p 0 e).wr (MEM_RANK_STAT_PPR_LEFT s r) (e.rd (MEM_RANK_STAT_PPR_LEFT s r) - 1)
  | 1 => setPos s p 0 e
  | _ => e

/-- The repairs that the state record holds at a start-up; before the first start-up the record stands. -/
def repairsKept (e : Eng) : Repairs :=
  if e.rdq (MEM_STK_MAP 0) = 0 then e.nv.srec.rep
  else
    let a := (List.range 4).foldl (fun a s => (List.range 10).foldl (settlePos s) a) e
    { e.nv.srec.rep with
      map := mapFields.foldl (fun r f => rfSet r f (a.rd f)) []
      used := a.mc.stks.map (·.used) }

/-- The rank map or the repairs have changed: Curator writes them into the state record (R255, R269), at once where it executes,
otherwise when it does. -/
def mapSave (e : Eng) : Eng :=
  if curRuns e then recWrite (fun r => { r with rep := repairsKept e }) { e with cu := { e.cu with mapDue := false } }
  else { e with cu := { e.cu with mapDue := true } }

/-! ### Positions and retirement (R271 to R278) -/

/-- Is a position erased for some line (R274)? -/
def posOut (e : Eng) (s p : Nat) : Bool := posState e s p != 0

/-- MARGIN0 each time the count of stacks with two erased positions rises (R276); the guarantee's margins follow (R451). -/
def marginCheck (e : Eng) : Eng :=
  let n := ((List.range 4).filter fun s => 2 ≤ ((List.range 10).filter fun p => posOut e s p).length).length
  let e1 := { e with mc := { e.mc with margin0 := n } }
  guarCheck (if e.mc.margin0 < n then
    (if e.on MEM_ERR_EVT_MARGIN0 then irqMessage 3 e1 else e1.raise MEM_ERR_EVT_MARGIN0)
  else e1)

/-- Show the inventory (MEM_INV_STAT). -/
def showInv (e : Eng) : Eng :=
  (e.wr MEM_INV_STAT_USED e.mc.inv.length).wr MEM_INV_STAT_UNREP (e.mc.inv.countP fun x => x.unrep)

/-- Remove inventory entries. -/
def dropInv (f : InvEntry → Bool) (e : Eng) : Eng := showInv { e with mc := { e.mc with inv := e.mc.inv.filter fun x => !f x } }

/-- Start a sweep of a position (R275): into a spare, or over its own rank. -/
def sweepStart (s p : Nat) (target : Option Nat) (e : Eng) : Eng :=
  (((e.wr (MEM_STK_SWEEP_POS s) p).wr (MEM_STK_SWEEP_PTR s) 0).wr (MEM_STK_SWEEP_ACT s) 1).modStk s fun k =>
    { k with target := target, trained := false }

/-- A position migrates into the free spare, or becomes ERASED with none left (R273). -/
def migrate (s p : Nat) (e : Eng) : Eng :=
  match freeSpare e s with
  | some r => sweepStart s p (some r) (setPos s p 3 e)
  | none =>
    mapSave ((((setPos s p 4 e).wr (MEM_RANK_STAT_ROLE s (rankOf e s p)) 2).modStk s fun k => { k with target := none }).raise
      MEM_ERR_EVT_NO_SPARE)

/-- Retire the rank at a position (R273, R278): a repair or rebuild of it ends; while a sweep of another position runs it
waits in MIGRATE, or becomes ERASED at once when no spare remains. The hard faults of the rank leave the inventory. -/
def retire (s p : Nat) (e : Eng) : Eng :=
  let st := posState e s p
  if st = 3 ∨ st = 4 ∨ 10 ≤ p then e
  else
    let k := e.getStk s
    let ownSweep := e.on (MEM_STK_SWEEP_ACT s) && e.rd (MEM_STK_SWEEP_POS s) == p
    let e1 := if ownSweep then e.wr (MEM_STK_SWEEP_ACT s) 0 else e
    let e2 := e1.modStk s fun k =>
      { k with
        ppr := if (k.ppr.map (·.1)) = some p then none else k.ppr
        rebuild := if (k.rebuild.map (·.1)) = some p then none else k.rebuild }
    let e3 := dropInv (fun x => stackOf x.line == s && x.pos == p && x.hard) e2
    let e4 :=
      if e3.on (MEM_STK_SWEEP_ACT s) then
        (if (freeSpare e3 s).isSome then (setPos s p 3 e3).modStk s fun q => { q with waiting := q.waiting ++ [p] }
         else migrate s p e3)
      else migrate s p e3
    marginCheck (e4.raisePost MEM_ERR_EVT_RETIRE 0 [BitVec.ofNat 8 s, BitVec.ofNat 8 p, BitVec.ofNat 8 (rankOf e s p),
      BitVec.ofNat 8 (k.waiting.length)])

/-- Insert a position by descending score, the lower position first on a tie. -/
def byScore (e : Eng) (s p : Nat) : List Nat → List Nat
  | [] => [p]
  | q :: l =>
    if e.rd (MEM_RANK_STAT_SCORE s (rankOf e s q)) < e.rd (MEM_RANK_STAT_SCORE s (rankOf e s p)) then p :: q :: l
    else q :: byScore e s p l

/-- Automatic retirement (R271): positions whose score reaches RET_THR, and those given. -/
def autoRetire (s : Nat) (also : List Nat) (e : Eng) : Eng :=
  if !e.on MEM_RET_CFG_AUTO_RET then e
  else
    let ps := indicesWhere 10 fun p => (posState e s p == 0 || posState e s p == 1 || posState e s p == 2) &&
      (also.contains p || e.rd MEM_RET_CFG_RET_THR ≤ e.rd (MEM_RANK_STAT_SCORE s (rankOf e s p)))
    let order := ps.foldl (fun l p => byScore e s p l) []
    order.foldl (fun a p => retire s p a) e

/-! ### Reports of a read (R261, R262, R268, R270, R272) -/

/-- One event on a position (R270): its counter and SCORE. -/
def charge (s : Nat) (cnt : Nat → Nat → Fld) (e : Eng) (p : Nat) : Eng :=
  let r := rankOf e s p
  (e.addSat (cnt s r) 1).addSat (MEM_RANK_STAT_SCORE s r) 1

/-- Create or refresh an inventory entry (R268). -/
def invNote (line : Nat) (e : Eng) (p : Nat) : Eng :=
  let same (x : InvEntry) : Bool := x.line == line && x.pos == p
  let new : InvEntry := { line := line, pos := p, seen := e.now }
  if e.mc.inv.any same then
    { e with mc := { e.mc with inv := e.mc.inv.map fun x => if same x then { x with seen := e.now, due := true } else x } }
  else if e.mc.inv.length < 256 then showInv { e with mc := { e.mc with inv := e.mc.inv ++ [new] } }
  else match e.mc.inv.find? fun x => x.count == 0 with
    | some old => showInv { e with mc := { e.mc with inv := (e.mc.inv.erase old) ++ [new] } }
    | none => (e.addSat MEM_INV_STAT_OVF 1).raise MEM_ERR_EVT_INV_OVF

/-- An entry of the CE log, and its copy to the Ledger, at most 16 in a second (R272). -/
def ceLog (line port pos kind : Nat) (e : Eng) : Eng :=
  let w := e.rd MEM_CE_LOG_IDX_WIDX
  let x := w % 16
  let e1 := (((((e.wr (MEM_CE_LOG_A_LINE x) line).wr (MEM_CE_LOG_A_PORT x) port).wr (MEM_CE_LOG_B_POS x) pos).wr
    (MEM_CE_LOG_B_KIND x) kind).wr (MEM_CE_LOG_B_SEQ x) (w % 2 ^ 16)).wr MEM_CE_LOG_IDX_WIDX (w + 1)
  let sec := e.now / tps
  let used := if e.mc.ceSec = sec then e.mc.ceUsed else 0
  if used < 16 then
    ({ e1 with mc := { e1.mc with ceSec := sec, ceUsed := used + 1 } }).postCur 0x40 1
      (leBytes 4 (line + port * 2 ^ 29) ++ [BitVec.ofNat 8 (pos + 16 * kind)])
  else e1.addSat MEM_ERR_LGSKIP_CNT 1

/-- A CORRECTED line (R272). -/
def ceNote (line port : Nat) (lr : LineRead) (e : Eng) : Eng :=
  let d := e.mc.ceDiv + 1
  let e1 := e.addSat MEM_ERR_CE_CNT_CNT 1
  let e2 := if 2 ^ e.rd MEM_ERR_CFG_CE_DIV ≤ d then ({ e1 with mc := { e1.mc with ceDiv := 0 } }).raise MEM_ERR_EVT_CE
    else { e1 with mc := { e1.mc with ceDiv := d } }
  match lr.located with
  | p :: _ => ceLog line port p 1 e2
  | [] => if lr.fix then ceLog line port ((indicesWhere 10 fun p => natBit lr.pos p).headD 0) 2 e2 else e2

/-- What a line read counts: CEI, FLG, OUT, UE and the scores, the CE log, the inventory, retirement. A FAIL is queued for
Conservator where `queue` says so. -/
def readNote (line port src : Nat) (queue : Bool) (lr : LineRead) (e : Eng) : Eng :=
  let s := stackOf line
  let e1 := lr.corr.foldl (fun a p => a.addSat (MEM_RANK_CEI_CNT s (rankOf a s p)) 1) e
  let e2 := lr.flagged.foldl (charge s MEM_RANK_FLG_CNT) e1
  let e3 := lr.located.foldl (charge s MEM_RANK_OUT_CNT) e2
  let e4 := if lr.result = 2 then lr.flagged.foldl (charge s MEM_RANK_UE_CNT) e3 else e3
  let e5 := if lr.result = 1 then ceNote line port lr e4 else e4
  let e6 := (lr.corr ++ (if lr.result = 2 then [] else lr.located)).foldl (invNote line) e5
  let e7 := if lr.result = 2 && queue then { e6 with mc := { e6.mc with cons := e6.mc.cons ++ [⟨line, src, port, lr.cw, lr.pos⟩] } } else e6
  autoRetire s (if lr.result = 2 then lr.flagged else []) e7

/-- A line is written back poisoned (R262): counted, shown, with a Ledger entry of line, port and positions. -/
def ueNote (x : ConsItem) (e : Eng) : Eng :=
  let e1 := ((((e.addSat MEM_ERR_UE_CNT_CNT 1).wr MEM_UE_LINE_LINE x.line).wr MEM_UE_LINE_PORT x.port).wr MEM_UE_CW_CW x.cw)
  ((e1.wr MEM_UE_INFO_POS x.pos).wr MEM_UE_INFO_SRC x.src).raisePost MEM_ERR_EVT_UE 0
    (leBytes 4 x.line ++ [BitVec.ofNat 8 x.port] ++ leBytes 2 x.pos)

/-- A reader is told of poison (R261). -/
def poisonRead (pois : Nat) (e : Eng) : Eng := if pois = 0 then e else (e.addSat MEM_ERR_PRD_CNT_CNT 1).raise MEM_ERR_EVT_POISON_RD

/-- The reader on a port is told of poison (R261): for Curator, whose load takes the sectors of `want`, the load error writes a
Ledger entry. DESIGN CHOICE (log entry 180): of severity by R393, with an empty payload. -/
def poisonTold (port want pois : Nat) (e : Eng) : Eng :=
  if port = 4 ∧ pois &&& want ≠ 0 then (e.addSat MEM_ERR_PRD_CNT_CNT 1).raisePost MEM_ERR_EVT_POISON_RD 0 [] else poisonRead pois e

/-- Conservator is a reader as the ports are: what it receives poisoned counts (R261). -/
def scbNote (lr : LineRead) (e : Eng) : Eng := poisonRead (if lr.result = 2 then 255 else lr.pois) e

/-! ### Row-disturb protection (R292 to R294) -/

/-- Bank (with pseudo-channel) and row of a line (R280). -/
def bankOf (line : Nat) : Nat := localOf line % 64
def rowOf (line : Nat) : Nat := localOf line / 4096

/-- Queue a targeted refresh; a filling of the queue of 16 is counted once (R294). -/
def trqPush (s bank row : Nat) (counted : Bool) (e : Eng) : Eng :=
  let k := e.getStk s
  if 16 ≤ k.trq.length then e
  else
    let e1 := e.modStk s fun k => { k with trq := k.trq ++ [(bank, row, counted)] }
    if 16 ≤ (e1.getStk s).trq.length then
      ((e1.modStk s fun k => { k with full := true }).addSat (MEM_RD_QFULL_CNT s) 1).raise MEM_OP_EVT_RD_QFULL
    else e1

/-- The lowest count of a bank's table and the row that has it. -/
def lowestOf (tab : List (Nat × Nat × Nat)) : Option (Nat × Nat × Nat) :=
  tab.foldl (fun a x => match a with
    | none => some x
    | some y => if x.2.2 < y.2.2 then some x else some y) none

/-- An activate for HST or CUR counts its row (R292). -/
def rowCount (s bank row : Nat) (e : Eng) : Eng :=
  let tab := (e.getStk s).table
  let mine := tab.filter fun x => x.1 == bank
  let old := mine.find? fun x => x.2.1 == row
  let (gone, c) : Option (Nat × Nat × Nat) × Nat := match old with
    | some x => (some x, x.2.2 + 1)
    | none => if mine.length < 32 then (none, 1) else match lowestOf mine with
      | some y => (some y, y.2.2 + 1)
      | none => (none, 1)
  let rest := match gone with
    | some x => tab.erase x
    | none => tab
  if e.rd MEM_RD_CFG_THR ≤ c then trqPush s bank row true (e.modStk s fun k => { k with table := rest })
  else e.modStk s fun k => { k with table := rest ++ [(bank, row, c)] }

/-- An activate for CAP, CMP, VIT or SCB draws (R293): with probability 2^-PLOG2 the row is refreshed. -/
def rowDraw (s bank row : Nat) (e : Eng) : Eng :=
  let e1 := e.drawn
  if e.freeVal (e.rd MEM_RD_CFG_PLOG2) = 0 then trqPush s bank row false (e1.addSat (MEM_RD_PRB_CNT s) 1) else e1

/-- An activate of a port's request. -/
def activate (port line : Nat) (e : Eng) : Eng :=
  let s := stackOf line
  if port = 2 ∨ port = 4 then (if e.on MEM_RD_CFG_EN_CNT then rowCount s (bankOf line) (rowOf line) e else e)
  else if e.on MEM_RD_CFG_EN_PROB then rowDraw s (bankOf line) (rowOf line) e
  else e

/-! ### Requests -/

/-- Must a request wait in the fabric: commands are not issued, the line is not filled yet (R468), the memory plan tile is
in service (R49), or a full targeted-refresh queue holds back an activate for HST or CUR (R294)? -/
def memWaits (port line : Nat) (act : Bool) (e : Eng) : Bool :=
  !memRuns e || (!e.on PWR_STRT_FILL_DONE && e.rd PWR_FILL_LINE ≤ line) || (e.inService 14 && port != 5) ||
  (act && (port == 2 || port == 4) && 16 ≤ (e.getStk (stackOf line)).trq.length)

/-- The latency of a request (R283). -/
def latencyNote (port lat : Nat) (e : Eng) : Eng :=
  let e1 := e.wr (MEM_QOS_MAX_NS port) (max (e.rd (MEM_QOS_MAX_NS port)) (min lat (2 ^ 24 - 1)))
  if e.rd (MEM_QOS_TARGET_NS port) ≤ lat then e1.addSat (MEM_QOS_LATE_CNT port) 1 else e1

/-- A read delivers the decoded line; a FAIL is delivered fully poisoned (R261, R262); `want`: the sectors that the reader takes. -/
def portRead (port line want : Nat) (resp : List SecResp) (e : Eng) (m : Mems) : Eng :=
  let lr := lineRead e m line resp
  let pois := if lr.result = 2 then 255 else lr.pois
  let bytes := if lr.result = 2 then List.replicate 256 (0 : Byte) else lr.data
  (poisonTold port want pois (readNote line port 0 true lr e)).send (.line port line bytes pois)

/-- A partial write (R264, R265): sectors with an unwritten byte of a failing codeword become poisoned; a poisoned sector
becomes valid only where the write covers all of it. -/
def partialWrite (port line mask : Nat) (data : List Byte) (resp : List SecResp) (e : Eng) (m : Mems) : Eng :=
  let lr := lineRead e m line resp
  let merged := (List.range 256).map fun b => if natBit mask b then data.getD b 0 else lr.data.getD b 0
  let covered (k : Nat) : Bool := (List.range 32).all fun j => natBit mask (32 * k + j)
  let hurt (k : Nat) : Bool := (List.range 32).any fun j => natBit lr.cw j && !natBit mask (32 * k + j)
  let pois := maskOf 8 fun k => hurt k || (natBit lr.pois k && !covered k)
  let e1 := readNote line port 0 false lr e
  let bad := lr.result = 2 ∧ pois ≠ 0
  let e2 := if bad then ueNote ⟨line, 0, port, lr.cw, lr.pos⟩ e1 else e1
  storeLine line merged pois e2

/-- A full-line write (R264). -/
def fullWrite (line : Nat) (data : List Byte) (e : Eng) : Eng :=
  emitLine e (line * 256) ((List.range 256).map fun b => data.getD b 0)

/-! ### Conservator -/

/-- CONSERVATOR_REREAD (R262, R263): the oldest queued line is read again; a second failure stores it fully poisoned. -/
def conservatorReread (resp : List SecResp) (e : Eng) (m : Mems) : Eng :=
  match e.mc.cons with
  | [] => e
  | x :: rest =>
    if !memRuns e then e
    else
      let e1 := { e with mc := { e.mc with cons := rest } }
      let lr := lineRead e1 m x.line resp
      let e2 := scbNote lr (readNote x.line 5 1 false lr e1)
      if lr.result = 2 then storeLine x.line lr.data 255 (ueNote { x with cw := lr.cw, pos := lr.pos } e2)
      else storeLine x.line lr.data lr.pois e2

/-- CONSERVATOR_REREAD. -/
def execConservatorReread (resp : List SecResp) (s : State) : Result := onMem s (conservatorReread resp)

/-- PATROL_READ (R266): the next line in ascending order. -/
def patrolRead (resp : List SecResp) (e : Eng) (m : Mems) : Eng :=
  if !e.on MEM_CONS_CFG_PATROL_EN ∨ !memRuns e then e
  else
    let line := e.rd MEM_CONS_POS_LINE
    let lr := lineRead e m line resp
    let e1 := scbNote lr (readNote line 5 1 true lr (stackHeld line e))
    let e2 := if lr.result = 1 ∨ (lr.result = 0 ∧ e.on MEM_CONS_CFG_WB_ALL) then storeLine line lr.data lr.pois e1 else e1
    if line + 1 < 2 ^ 29 then e2.wr MEM_CONS_POS_LINE (line + 1)
    else
      let e3 := ((e2.wr MEM_CONS_POS_LINE 0).addWrap MEM_CONS_PASS_CNT 1).wr MEM_CONS_LAST_SEC
        (min ((e2.now - e2.mc.passAt) / tps) (2 ^ 32 - 1))
      { e3 with mc := { e3.mc with passAt := e3.now } }

/-- PATROL_READ. -/
def execPatrolRead (resp : List SecResp) (s : State) : Result := onMem s (patrolRead resp)

/-! ### The inventory (R268) -/

/-- A count that reaches HARD_THR declares a hard fault (R268); on a rank that is migrating the entry is removed (R278). -/
def hardCheck (e : Eng) (x : InvEntry) : Eng :=
  if !x.hard ∧ e.rd MEM_RET_CFG_HARD_THR ≤ x.count then
    let e1 := ({ e with mc := { e.mc with inv := e.mc.inv.map fun y => if y = x then { y with hard := true } else y } }).raisePost
      MEM_ERR_EVT_HARD 0 (leBytes 4 x.line ++ [BitVec.ofNat 8 x.pos])
    if posState e (stackOf x.line) x.pos = 3 then dropInv (fun y => y.line == x.line && y.pos == x.pos) e1 else e1
  else e

/-- Write an entry's line back and read it again at once: an error shown again at the position increments the count. -/
def retestEntry (x : InvEntry) (resp : List SecResp) (e : Eng) (m : Mems) : Eng :=
  if !(e.mc.inv.contains x) then e
  else
    let lr0 := lineRead e m x.line resp
    let e0 := if lr0.result = 2 then e else storeLine x.line lr0.data lr0.pois e
    let lr := lineRead e0 m x.line resp
    let again := lr.corr.contains x.pos || (lr.result != 2 && lr.located.contains x.pos)
    let y := { x with due := false, count := x.count + (if again then 1 else 0), seen := if again then e.now else x.seen }
    let put (a : Eng) : Eng := { a with mc := { a.mc with inv := a.mc.inv.map fun z => if z.line = x.line ∧ z.pos = x.pos then y else z } }
    hardCheck (put (scbNote lr (readNote x.line 5 1 true lr e0))) y

/-- INVENTORY_WRITEBACK (R268 steps 1 and 2): the oldest entry whose write-back is due. -/
def inventoryWriteback (resp : List SecResp) (e : Eng) (m : Mems) : Eng :=
  if !memRuns e then e
  else match e.mc.inv.find? fun x => x.due with
    | some x => retestEntry x resp e m
    | none => e

/-- INVENTORY_WRITEBACK. -/
def execInventoryWriteback (resp : List SecResp) (s : State) : Result := onMem s (inventoryWriteback resp)

/-- INVENTORY_RETEST (R268 step 3): every entry with a nonzero count, oldest first; `resps` gives what the ranks return for
each. -/
def inventoryRetest (resps : List (List SecResp)) (e : Eng) (m : Mems) : Eng :=
  if !memRuns e then e
  else
    let xs := e.mc.inv.filter fun x => x.count != 0
    ((List.range xs.length).zip xs).foldl (fun a p => retestEntry p.2 (resps.getD p.1 []) a (m.applyAll a.wq)) e

/-- INVENTORY_RETEST. -/
def execInventoryRetest (resps : List (List SecResp)) (s : State) : Result := onMem s (inventoryRetest resps)

/-- INVENTORY_AGE (R268 step 5): time passes until the entry longest without a correction reaches AGE_H hours, and the
entries that have are removed. -/
def inventoryAge (e : Eng) : Eng :=
  match e.mc.inv with
  | [] => e
  | x :: xs =>
    let oldest := xs.foldl (fun a y => min a y.seen) x.seen
    let age := e.rd MEM_INV_CFG_AGE_H * hourTicks
    let e1 := advanceTo (oldest + age) e
    dropInv (fun y => y.seen + age ≤ e1.now) e1

/-- INVENTORY_AGE. -/
def execInventoryAge (s : State) : Result := onEng s inventoryAge

/-! ### Post-package repair (R269) -/

/-- The repair of a hard fault may start: no position of the stack is erased, no sweep runs in it, a repair is left. -/
def pprReady (e : Eng) (x : InvEntry) : Bool :=
  let s := stackOf x.line
  !((List.range 10).any fun p => posOut e s p) && !e.on (MEM_STK_SWEEP_ACT s) && (e.getStk s).ppr.isNone

/-- No repair is left for the bank of a fault. -/
def pprExhausted (e : Eng) (x : InvEntry) : Bool :=
  let s := stackOf x.line
  let r := rankOf e s x.pos
  e.rd (MEM_RANK_STAT_PPR_LEFT s r) == 0 || (e.getStk s).used.contains (r, bankOf x.line)

/-- PPR_START (R269): the oldest hard fault that can be repaired; faults with no repair left are marked UNREPAIRABLE. -/
def pprStart (e : Eng) : Eng :=
  if !(e.on MEM_RET_CFG_AUTO_PPR) || !(memRuns e) then e
  else
    let mark (x : InvEntry) : InvEntry := if x.hard && pprExhausted e x then { x with unrep := true } else x
    let e1 := showInv { e with mc := { e.mc with inv := e.mc.inv.map mark } }
    match e1.mc.inv.find? fun x => x.hard && !x.unrep && pprReady e1 x with
    | none => e1
    | some x =>
      let s := stackOf x.line
      marginCheck ((setPos s x.pos 1 e1).modStk s fun k =>
        { k with ppr := some (x.pos, rankOf e1 s x.pos, bankOf x.line, rowOf x.line) })

/-- PPR_START. -/
def execPprStart (s : State) : Result := onEng s pprStart

/-- PPR_DONE (R269): the slice's repair in stack `s` ends; the position rebuilds, or a failure retires the rank. -/
def pprDone (s : Nat) (ok : Bool) (e : Eng) : Eng :=
  match (e.getStk s).ppr with
  | none => e
  | some x =>
    if ok then
      sweepStart s x.1 none ((setPos s x.1 2 e).modStk s fun k =>
        { k with ppr := none, rebuild := some x, used := k.used ++ [(x.2.1, x.2.2.1)] })
    else
      retire s x.1 ((e.modStk s fun k => { k with ppr := none }).raisePost MEM_ERR_EVT_PPR_FAIL 0
        [BitVec.ofNat 8 s, BitVec.ofNat 8 x.1, BitVec.ofNat 8 x.2.1])

/-- PPR_DONE. -/
def execPprDone (st : Nat) (ok : Bool) (s : State) : Result := onEng s (pprDone st ok)

/-- SCORE_HALVE (R270): every HALF_H hours each SCORE halves. -/
def scoreHalve (e : Eng) : Eng :=
  let e1 := advanceTo (e.mc.scoreAt + e.rd MEM_RET_CFG_HALF_H * hourTicks) e
  let e2 := { e1 with mc := { e1.mc with scoreAt := e1.now } }
  (List.range 48).foldl (fun a i => a.wr (MEM_RANK_STAT_SCORE (i / 12) (i % 12)) (a.rd (MEM_RANK_STAT_SCORE (i / 12) (i % 12)) / 2)) e2

/-- SCORE_HALVE. -/
def execScoreHalve (s : State) : Result := onEng s scoreHalve

/-- RETIRE: software retires a position's rank, whatever AUTO_RET holds (R271). -/
def execRetire (stk pos : Nat) (s : State) : Result :=
  onEng s fun e => retire (stk % 4) pos ((e.wr MEM_INT_CMD_STK stk).wr MEM_INT_CMD_POS pos)

/-! ### Sweeps (R275) -/

/-- The next waiting position of a stack begins its migration. -/
def sweepNext (s : Nat) (e : Eng) : Eng :=
  match (e.getStk s).waiting with
  | [] => e
  | p :: rest => migrate s p (e.modStk s fun k => { k with waiting := rest })

/-- A sweep ends: the map takes the spare and the old rank is RETIRED (R273), or the repair is complete (R269 step 4). -/
def sweepEnd (s p : Nat) (e : Eng) : Eng :=
  let k := e.getStk s
  let e0 := (setPos s p 0 e).wr (MEM_STK_SWEEP_ACT s) 0
  let e1 := match k.target with
    | some r =>
      mapSave ((takeRank s p r e0).modStk s fun k => { k with target := none })
    | none =>
      match k.rebuild with
      | some (_, r, b, row) =>
        let e2 := (e0.wr (MEM_RANK_STAT_PPR_LEFT s r) (e0.rd (MEM_RANK_STAT_PPR_LEFT s r) - 1)).modStk s fun k => { k with rebuild := none }
        mapSave ((dropInv (fun x => stackOf x.line == s && x.pos == p && bankOf x.line == b && rowOf x.line == row) e2).raisePost
          MEM_ERR_EVT_PPR_DONE 0 [BitVec.ofNat 8 s, BitVec.ofNat 8 p, BitVec.ofNat 8 r, BitVec.ofNat 8 b])
      | none => e0
  marginCheck (sweepNext s (e1.raisePost MEM_ERR_EVT_SWEEP_DONE 0 [BitVec.ofNat 8 s, BitVec.ofNat 8 p]))

/-- A spare that becomes the target of a sweep is trained alone before the sweep writes to it (R290, R297, R298); what its lanes show
is a free value. -/
def trainSpare (s r : Nat) (e : Eng) : Eng :=
  let e1 := (List.range 16).foldl (fun a l =>
    let v := a.freeVal 23
    applyLane s a.drawn (r, l, if natBit v 22 then some (bitsOf v 0 7, bitsOf v 7 7, bitsOf v 14 8) else none)) e
  e1.modStk s fun k => { k with trained := true }

/-- The target of the sweep of stack `s` is trained before its first line. -/
def sweepTrain (s : Nat) (e : Eng) : Eng :=
  match (e.getStk s).target with
  | some r => if (e.getStk s).trained then e else trainSpare s r e
  | none => e

/-- SWEEP_LINE (R275, R278): one line of the sweep of stack `s`. `bad` says that the spare returned FLAGGED on the
write-check: it takes ROLE SPARE_BAD and the sweep starts again into the other spare, or the position is ERASED. -/
def sweepLine (s : Nat) (resp : List SecResp) (bad : Bool) (e : Eng) (m : Mems) : Eng :=
  if !e.on (MEM_STK_SWEEP_ACT s) ∨ !memRuns e then e
  else
    let p := e.rd (MEM_STK_SWEEP_POS s)
    let i := e.rd (MEM_STK_SWEEP_PTR s)
    match bad, (e.getStk s).target with
    | true, some r =>
      marginCheck (migrate s p (((e.wr (MEM_RANK_STAT_ROLE s r) 3).wr (MEM_STK_SWEEP_ACT s) 0).modStk s fun k => { k with target := none }))
    | _, _ =>
      let line := 4 * i + s
      let lr := lineRead e m line resp
      let e1 := scbNote lr (readNote line 5 1 false lr (sweepTrain s e))
      let e2 := if lr.result = 2 then storeLine line lr.data 255 (ueNote ⟨line, 1, 5, lr.cw, lr.pos⟩ e1)
        else storeLine line lr.data lr.pois e1
      if !e2.on (MEM_STK_SWEEP_ACT s) ∨ e2.rd (MEM_STK_SWEEP_POS s) ≠ p then e2
      else if i + 1 < 2 ^ 27 then e2.wr (MEM_STK_SWEEP_PTR s) (i + 1)
      else sweepEnd s p e2

/-- SWEEP_LINE. -/
def execSweepLine (st : Nat) (resp : List SecResp) (bad : Bool) (s : State) : Result := onMem s (sweepLine (st % 4) resp bad)

/-! ### Injection and the divider -/

/-- INJECT_ARM (R279): a write of MEM_INJ; ARM = 1 is accepted only in SERVICE or REVIEW, otherwise the write is discarded
and sets REJ. -/
def execInjectArm (line : Nat) (arm : Bool) (s : State) : Result :=
  onEng s fun e =>
    if arm ∧ !(e.mode = .service ∨ e.mode = .review) then e.raise MEM_INJ_REJ
    else (e.wr MEM_INJ_LINE line).wrb MEM_INJ_ARM arm

/-- CE_DIV_WRITE (R272): a write of MEM_ERR_CFG clears the divider. -/
def execCeDivWrite (v : Nat) (s : State) : Result :=
  onEng s fun e => { e.wr MEM_ERR_CFG_CE_DIV (min (v % 32) 24) with mc := { e.mc with ceDiv := 0 } }

end Machine
end Sys2Proof
end

