-- ==== Sys2Proof/Machine/Records.lean ====
section
/-!
DEFINITION. Reading lines back from capture memory: the outcome of the read (R260), the header (R205, R206), the ticks a data
line spans (R211, R212, R214, R219, R227), the items it holds (R201) and the containers of CBLOCK lines (R243). Used by the
copy of kept windows, by retriggering, by Vitrine and by the jobs.
-/
namespace Sys2Proof
namespace Machine

/-- A line as a reader sees it. -/
structure RLine where
  ty : Nat
  region : Nat
  gen : Nat
  seq : Nat
  base : Nat
  tile : Nat
  double : Bool
  mode : Nat
  cont : Bool
  units : Nat
  payload : List Byte
  deriving DecidableEq, Repr

/-- Read a line's header and payload (R205, R206). -/
def parseLine (b : List Byte) : RLine :=
  let f := bytesAt b 14 2
  ⟨bytesAt b 0 1, bytesAt b 1 1, bytesAt b 2 1, bytesAt b 3 3, bytesAt b 6 8, bitsOf f 0 3, natBit f 3, bitsOf f 4 3,
    natBit f 9, bitsOf f 10 6, b.drop 16⟩

/-- A line whose ranks return what was stored: no position of its stack is erased, and nothing has damaged it. -/
def lineSound (e : Eng) (line : Nat) : Bool :=
  ((List.range 10).all fun p => !posErased e (stackOf line) p (localOf line)) && e.mc.dmg.all fun d => d.line != line

/-- A line as a port reads it (R256 to R261): its bytes, and its poisoned sectors as a mask; a failing line is poisoned
whole. -/
def recRead (e : Eng) (m : Mems) (line : Nat) : List Byte × Nat :=
  if lineSound e line then
    (if (List.range 8).any (sectorPois m line) then
      ((List.range 256).map fun b => if sectorPois m line (b / 32) then 0 else memGet m.cap (line * 256 + b), maskOf 8 (sectorPois m line))
     else (memRead m.cap (line * 256) 256, 0))
  else
    let lr := lineRead e m line []
    if lr.result = 2 then (List.replicate 256 0, 255) else (lr.data, lr.pois)

/-- The bytes of the line at offset `o` of region `n`. -/
def readLineAt (e : Eng) (m : Mems) (n o : Nat) : List Byte := (recRead e m (lineAddr e n o / 256)).1

/-- Is any sector of the line at offset `o` of region `n` read with poison (R261)? -/
def linePoisoned (e : Eng) (m : Mems) (n o : Nat) : Bool := (recRead e m (lineAddr e n o / 256)).2 != 0

/-- The header of the line at offset `o` of region `n` can be read: its first sector is free of poison. -/
def headReadable (e : Eng) (m : Mems) (n o : Nat) : Bool := !natBit (recRead e m (lineAddr e n o / 256)).2 0

/-- The line number (since the clear) that stands at offset `o` of a region, if one was written there. -/
def lineAtOffset (e : Eng) (n o : Nat) : Option Nat :=
  let size := e.rd (ACC_CREG_SIZE_LINES n)
  let total := (e.getRg n).lines
  let w := e.rd (ACC_CREG_POS_WPTR n)
  if o < w then some (total - (w - o)) else if w + size - o ≤ total then some (total + o - w - size) else none

/-- The offset of line number `k`, if the region still holds it. -/
def offsetOf (e : Eng) (n k : Nat) : Option Nat :=
  let size := e.rd (ACC_CREG_SIZE_LINES n)
  let total := (e.getRg n).lines
  if total ≤ k ∨ k + size < total ∨ size = 0 then none
  else some ((e.rd (ACC_CREG_POS_WPTR n) + size - (total - k) % size) % size)

/-- The used units of a line. -/
def lineUnits (l : RLine) : List Nat := bytesUnits (l.payload.take (4 * l.units))

/-- The time of transfer `k` of a SAMPLE line in STATE (R212). -/
def stateTime (l : RLine) (k : Nat) : Nat :=
  if l.units = 0 then l.base
  else (l.base + k * ticksFrom l.base (bytesAt l.payload 224 8) / l.units) % 2 ^ 64

/-- The items of a TRANSITION line with their times (R214). -/
def lineItems (l : RLine) : List Item :=
  let rec go : Nat → Nat → List Nat → List Item
    | 0, _, _ => []
    | _, _, [] => []
    | fuel + 1, t, u :: us =>
      if bitsOf u 24 2 = 1 then
        go fuel ((t + u % 2 ^ 24 + us.headD 0 % 2 ^ 24 * 2 ^ 24) % 2 ^ 64) (us.drop 1)
      else ⟨(t + u % 65536) % 2 ^ 64, bitsOf u 16 8, natBit u 26, bitsOf u 24 2 == 2⟩ :: go fuel ((t + u % 65536) % 2 ^ 64) us
  go l.units l.base (lineUnits l)

/-- The last tick a data line spans, given its container's last tick when it is a CBLOCK line. -/
def lineEnd (l : RLine) : Nat :=
  match l.ty with
  | 1 =>
    if l.mode = 2 then stateTime l (l.units - 1)
    else (l.base + 2 * (l.units - 1) + (if l.double then 1 else 0)) % 2 ^ 64
  | 2 => ((lineItems l).getLast?.map (·.t)).getD l.base
  | _ => l.base

/-- Is it a data line? -/
def isData (l : RLine) : Bool := l.ty == 1 || l.ty == 2 || l.ty == 10

/-! ### Containers (R219, R243) -/

/-- Where the lines of a container stand: the capture line of its line `i`, and how far its GEN has advanced there (R221);
none beyond the source. -/
abbrev LinePlaces := Nat → Option (Nat × Nat)

/-- The lines of region `n` from line number `k` on. -/
def regionPlaces (e : Eng) (n k : Nat) : LinePlaces := fun i =>
  match offsetOf e n k, offsetOf e n (k + i) with
  | some o, some p => some (e.rd (ACC_CREG_BASE_LINE n) + p, if p < o then 1 else 0)
  | _, _ => none

/-- A container as its lines give it. -/
structure LineCont where
  /-- 0, or what R242 names as the cause that it cannot be read: 1 HEADER, 6 LINE, 7 POISON -/
  why : Nat
  bytes : List Byte
  first : RLine
  lines : Nat
  /-- the capture lines read -/
  read : List Nat
  deriving DecidableEq, Repr

/-- Join the lines of a container (R219, R243): its first line is a CBLOCK line with CONT = 0 and tells its length, every
later one has CONT = 1, the REGION, TILE and BASE of the first, the next SEQ, and the GEN of its place. -/
def joinLines (e : Eng) (m : Mems) (places : LinePlaces) : LineCont :=
  match places 0 with
  | none => ⟨1, [], parseLine [], 1, []⟩
  | some (a, _) =>
    let r := recRead e m a
    let l := parseLine r.1
    let units (x : RLine) : List Byte := x.payload.take (4 * x.units)
    if r.2 ≠ 0 then ⟨7, units l, l, 1, [a]⟩
    else if l.ty ≠ 10 ∨ l.cont then ⟨6, [], l, 1, [a]⟩
    else
      let clen := bytesAt (units l) 32 4
      let k := cdiv (cdiv clen 4) 60
      let at_ := (List.range (k - 1)).map fun i => places (i + 1)
      if clen < 68 ∨ at_.any (·.isNone) then ⟨1, units l, l, 1, [a]⟩
      else
        let rs := at_.filterMap fun p => p.map fun x => (recRead e m x.1, x.2)
        let ls := rs.map fun x => (parseLine x.1.1, x.2)
        let read := a :: at_.filterMap fun p => p.map (·.1)
        if rs.any fun x => x.1.2 != 0 then ⟨7, units l, l, 1, read⟩
        else if (ls.zip (List.range ls.length)).any fun p =>
            p.1.1.ty != 10 || !p.1.1.cont || p.1.1.region != l.region || p.1.1.tile != l.tile || p.1.1.base != l.base ||
            p.1.1.seq != (l.seq + 1 + p.2) % 2 ^ 24 || p.1.1.gen != (l.gen + p.1.2) % 256 then ⟨6, units l, l, 1, read⟩
        else ⟨0, units l ++ (ls.map fun x => units x.1).flatten, l, k, read⟩

/-- What a lane reads: the decoding, the lines or bytes of the source it takes, the container's first bytes as read, the capture
lines read. -/
structure LaneRead where
  dec : Decoded
  used : Nat
  head : List Byte
  read : List Nat
  deriving DecidableEq, Repr

/-- Decode a container from CBLOCK lines (R242, R243). -/
def decodeLines (e : Eng) (m : Mems) (places : LinePlaces) : LaneRead :=
  let c := joinLines e m places
  let head := c.bytes.take 64
  if c.why ≠ 0 then ⟨⟨c.why, readHeader c.bytes, [], []⟩, 1, head, c.read⟩
  else
    let d := decodeContainer c.bytes
    match d.hdr with
    | some h =>
      if h.span.base ≠ c.first.base ∨ h.span.tile ≠ c.first.tile then ⟨⟨6, d.hdr, [], []⟩, 1, head, c.read⟩
      else ⟨d, if d.why = 0 then c.lines else 1, head, c.read⟩
    | none => ⟨d, 1, head, c.read⟩

/-- The last tick covered by a container, from its header (R232). -/
def containerEnd (b : List Byte) : Option Nat := (readHeader b).map fun h => (h.span.base + h.span.len + (2 ^ 64 - 1)) % 2 ^ 64

/-- The first line of the container that line `k` belongs to. -/
def contFirst (e : Eng) (m : Mems) (n : Nat) : Nat → Nat → Nat
  | 0, k => k
  | fuel + 1, k =>
    match offsetOf e n k with
    | none => k
    | some o =>
      let l := parseLine (readLineAt e m n o)
      if l.ty = 10 ∧ l.cont ∧ 0 < k then contFirst e m n fuel (k - 1) else k

/-- The last tick that line number `k` spans (R227). -/
def spanEnd (e : Eng) (m : Mems) (n k : Nat) (l : RLine) : Nat :=
  if l.ty = 10 then (containerEnd (joinLines e m (regionPlaces e n (contFirst e m n k k))).bytes).getD l.base else lineEnd l

end Machine
end Sys2Proof
end

