-- ==== Sys2Proof/Machine/PortRead.lean ====
section
/-!
DEFINITION. A line read through a fabric port: what the reader receives and what the read counts and reports (R256 to R262), as one
operation for the host's reads, the copy of kept windows, the decompressor lanes, the jobs, retriggering and Vitrine.
-/
namespace Sys2Proof
namespace Machine

/-- Read a line through a port: data (poisoned sectors zero) and poisoned sectors (R261). -/
def portLine (port line : Nat) (e : Eng) (m : Mems) : Eng × List Byte × Nat :=
  let lr := lineRead e m line []
  let pois := if lr.result = 2 then 255 else lr.pois
  let bytes := (List.range 256).map fun b => if natBit pois (b / 32) then 0 else lr.data.getD b 0
  (poisonTold port 255 pois (readNote line port 0 true lr e), bytes, pois)

/-- A line whose read reports nothing: it is sound, and no sector of it is poisoned. -/
def lineQuiet (e : Eng) (m : Mems) (line : Nat) : Bool :=
  lineSound e line && (List.range 8).all fun k => !sectorPois m line k

/-- What a read of a line through a port counts and reports. -/
def lineNoted (port : Nat) (m : Mems) (e : Eng) (line : Nat) : Eng :=
  if lineQuiet e m line then e else (portLine port line e m).1

/-- What reads of several lines through a port count and report. -/
def linesNoted (port : Nat) (m : Mems) (lines : List Nat) (e : Eng) : Eng := lines.foldl (lineNoted port m) e

/-- Bytes of capture memory as a port delivers them, and whether a sector among them is read with poison (R261). -/
def capBytes (e : Eng) (m : Mems) (a n : Nat) : List Byte × Bool :=
  let l0 := a / 256
  let ls := (List.range (if n = 0 then 0 else (a + n - 1) / 256 - l0 + 1)).map fun i => recRead e m (l0 + i)
  let bad := (List.range (ls.length * 8)).any fun k =>
    natBit (ls.getD (k / 8) ([], 0)).2 (k % 8) && a < l0 * 256 + 32 * k + 32 && l0 * 256 + 32 * k < a + n
  (((ls.flatMap (·.1)).drop (a % 256)).take n, bad)

/-- The lines that `n` bytes from address `a` touch. -/
def capLines (a n : Nat) : List Nat := if n = 0 then [] else (List.range ((a + n - 1) / 256 - a / 256 + 1)).map (a / 256 + ·)

/-- A byte of capture memory as a port delivers it: zero in a poisoned sector (R261). -/
def recByte (e : Eng) (m : Mems) (a : Nat) : Byte :=
  if lineSound e (a / 256) then (if sectorPois m (a / 256) (a % 256 / 32) then 0 else memGet m.cap a)
  else
    let r := recRead e m (a / 256)
    if natBit r.2 (a % 256 / 32) then 0 else r.1.getD (a % 256) 0

end Machine
end Sys2Proof
end

