-- ==== Sys2Proof/Machine/Keep.lean ====
section
/-!
DEFINITION. ARCHIVE keeping (R55 to R60, R226 to R229): hits and windows, the copy into a KEPT region, the seal chain and
the wake causes; the commands KEPT_LINE_COPY, SEAL, KEEP_CTRL_WRITE and WAKE_ASSERT.
-/
namespace Sys2Proof
namespace Machine

/-- The keeping of ring region `n`. -/
def Eng.getKr (e : Eng) (n : Nat) : KeepRing := e.kr.getD (n % 16) {}

/-- Change the keeping of ring region `n`. -/
def Eng.modKr (e : Eng) (n : Nat) (f : KeepRing → KeepRing) : Eng := { e with kr := putAt e.kr (n % 16) (f (e.getKr n)) {} }

/-- The KEPT region `d`. -/
def Eng.getKp (e : Eng) (d : Nat) : KeptSt := e.kp.getD (d % 16) {}

/-- Change the KEPT region `d`. -/
def Eng.modKp (e : Eng) (d : Nat) (f : KeptSt → KeptSt) : Eng := { e with kp := putAt e.kp (d % 16) (f (e.getKp d)) {} }

/-- Ticks in a millisecond. -/
def msTicks : Nat := 12800000

/-! ### Wake causes (R60) -/

/-- A wake cause occurs: it accumulates when it is enabled. Bits 0 SEAL, 1 FULL, 2 FAULT. -/
def wakeNote (i : Nat) (e : Eng) : Eng :=
  let en := match i with
    | 0 => e.on ACC_ARC_WAKE_SEAL
    | 1 => e.on ACC_ARC_WAKE_FULL
    | _ => e.on ACC_ARC_WAKE_FAULT
  if en then e.raise ACC_ARC_WAKE_STAT_CAUSE i else e

/-- The accumulated causes that are still enabled. -/
def wakeDue (e : Eng) : Nat :=
  e.rd ACC_ARC_WAKE_STAT_CAUSE &&&
    (e.rd ACC_ARC_WAKE_SEAL + 2 * e.rd ACC_ARC_WAKE_FULL + 4 * e.rd ACC_ARC_WAKE_FAULT)

/-- MIN_INT minutes have passed since the previous assertion. -/
def wakeSpaced (e : Eng) : Bool :=
  match e.wakeAt with
  | none => true
  | some t => t + e.rd ACC_ARC_WAKE_MIN_INT * 60 * 12800000000 ≤ e.now

/-- The function is in D3hot or D3cold. -/
def inD3 (e : Eng) : Bool := e.hl.cold || e.rd CS_PM_STATE == 3

/-- WAKE_ASSERT (R60, R333): WAKE_N is asserted for an enabled cause while the function is in D3 with PME enabled, once MIN_INT
has passed; FAULT ignores MIN_INT. In D3hot with the link in L1 a PM_PME message goes out too. -/
def wakeAssert (e : Eng) : Eng :=
  if wakeDue e ≠ 0 ∧ inD3 e ∧ e.on CS_PME_EN ∧ (wakeSpaced e ∨ natBit (wakeDue e) 2) then
    let e1 := { e with wakeAt := some e.now, wakeLow := true }.wr CS_PME_STATUS 1
    if e.hl.up && !e.hl.cold then e1.send .pme else e1
  else e

/-- WAKE_ASSERT. -/
def execWakeAssert (s : State) : Result := onEng s wakeAssert

/-! ### Hits and windows (R55, R58) -/

/-- A hit that is not kept, or a trigger on a ring with EN = 0 (R58). -/
def keepMiss (n : Nat) (e : Eng) : Eng := (e.addSat (ACC_KEEP_MISS_CNT n) 1).raise (ACC_CREG_STAT_MISS n)

/-- Open a window for a hit at `t` (R55). -/
def openWindow (n t : Nat) (e : Eng) : Eng :=
  let pre := e.rd (ACC_KEEP_PRE_PRE_MS n)
  let post := e.rd (ACC_KEEP_POST_POST_MS n)
  let mx := e.rd (ACC_KEEP_MAX_MAX_MS n)
  let ns := (t + 2 ^ 64 - pre * msTicks) % 2 ^ 64
  let c := match (e.getKr n).prevEnd with
    | some p => !tsBefore p ns
    | none => false
  let st := if c then ((e.getKr n).prevEnd.getD 0 + 1) % 2 ^ 64 else ns
  let room := (st + mx * msTicks) % 2 ^ 64
  let want := (t + post * msTicks) % 2 ^ 64
  let fin := if tsBefore room want then (if tsBefore room t then t else room) else want
  e.modKr n fun k =>
    { k with
      wins := k.wins ++ [⟨ns, st, fin, t, 1, pre, post, mx, e.rd (ACC_KEEP_CTRL_DEST n), c, false, false, false, false, none, 0, 0⟩]
      prevEnd := some fin }

/-- A further hit moves the end of a window (R55). DESIGN CHOICE (log entry 151): it never moves it back. -/
def extendWindow (t : Nat) (w : Window) : Window :=
  let cap := (w.start + w.mx * msTicks) % 2 ^ 64
  let want := (t + w.post * msTicks) % 2 ^ 64
  let want2 := if tsBefore want w.fin then w.fin else want
  { w with fin := if tsBefore cap want2 then (if tsBefore cap w.fin then w.fin else cap) else want2, hits := w.hits + 1 }

/-- An accepted trigger of an ARCHIVE run that names region `n` as a target: a hit when EN is 1, counted as a miss when it
is 0 (R55, R58). Only RING regions keep (R59). -/
def keepHit (n t : Nat) (e : Eng) : Eng :=
  if regionKind e n ≠ 1 then e
  else if !e.on (ACC_KEEP_CTRL_EN n) then keepMiss n e
  else
    match (e.getKr n).wins.getLast? with
    | some w =>
      if tsBefore w.fin t then openWindow n t e
      else
        e.modKr n fun k =>
          { k with wins := k.wins.dropLast ++ [extendWindow t w], prevEnd := some (extendWindow t w).fin }
    | none => openWindow n t e

/-- A stop ends the windows that are open at S − 1 and marks them TRUNCATED (R55). -/
def truncateWindows (stop : Nat) (e : Eng) : Eng :=
  (List.range 16).foldl (fun a n => a.modKr n fun k =>
    { k with
      wins := k.wins.map fun w => if tsBefore w.fin stop then w else { w with fin := stop - 1, trunc := true }
      prevEnd := k.prevEnd.map fun p => if tsBefore p stop then p else stop - 1 }) e

/-! ### Lines of a KEPT region (R226, R228, R229) -/

/-- Lines in use beside the KHEAD. -/
def keptUsed (e : Eng) (d : Nat) : Nat :=
  let k := e.getKp d
  (k.held.map (·.1)).sum +
    (match k.busy with
     | some r => (match (e.getKr r).wins.head? with
       | some w => 1 + w.lines
       | none => 0)
     | none => 0)

/-- Free lines of a KEPT region. -/
def keptFree (e : Eng) (d : Nat) : Nat := e.rd (ACC_CREG_SIZE_LINES d) - 1 - keptUsed e d

/-- Show FREE. -/
def showFree (d : Nat) (e : Eng) : Eng := e.wr (ACC_CREG_FREE_LINES d) (keptFree e d)

/-- The KHEAD line (R226): GEN and SEQ zero. -/
def kheadBytes (e : Eng) (d : Nat) : List Byte :=
  let k := e.getKp d
  let f := lineFlags e ⟨13, 0, 0, 21, false, [], 0⟩
  leBytes 1 13 ++ leBytes 1 d ++ leBytes 1 0 ++ leBytes 3 0 ++ leBytes 8 0 ++ leBytes 2 f ++
    (leBytes 8 k.next ++ leBytes 8 k.oldest ++ leBytes 8 k.released ++ k.lastRel ++ leBytes 8 k.genesis ++ leBytes 2 k.egen ++
      List.replicate 240 0).take 240

/-- Rewrite the KHEAD. -/
def writeKhead (d : Nat) (e : Eng) : Eng := showFree d (emitLine e (lineAddr e d 0) (kheadBytes e d))

/-- A KEPT region starts a new chain (R223, R226): GENESIS is the TS64 of the writing. -/
def keptInit (d : Nat) (e : Eng) : Eng :=
  writeKhead d ((e.modKp d fun _ => { genesis := e.ts, egen := e.rd TIME_EPOCH_GEN }).wr (ACC_CREG_POS_WPTR d) 1)

/-- Place a line in lines 1 … SIZE − 1 of a KEPT region, circularly (R226). -/
def placeKept (d : Nat) (bytes : List Byte) (e : Eng) : Eng :=
  let w := max 1 (e.rd (ACC_CREG_POS_WPTR d))
  let e1 := (emitLine e (lineAddr e d w) bytes).addWrap (ACC_CREG_GS_SEQ d) 1
  if w + 1 = e.rd (ACC_CREG_SIZE_LINES d) then (e1.wr (ACC_CREG_POS_WPTR d) 1).addWrap (ACC_CREG_GS_GEN d) 1
  else e1.wr (ACC_CREG_POS_WPTR d) (w + 1)

/-- Release the oldest sealed window (R229). -/
def releaseOldest (d : Nat) (e : Eng) : Eng :=
  match (e.getKp d).held with
  | [] => e
  | (_, h) :: rest =>
    writeKhead d (e.modKp d fun k => { k with held := rest, lastRel := h, released := k.released + 1, oldest := k.oldest + 1 })

/-- Abandon the window of ring `n` that is being copied (R229): its lines are freed and the chain is unchanged. DESIGN
CHOICE (log entry 152): its end still counts as that of the previous window (R58). -/
def abandonWindow (n d : Nat) (e : Eng) : Eng :=
  let e1 := match (e.getKr n).wins.head? with
    | some w => (match w.begun with
      | some (wp, g, q) => ((e.wr (ACC_CREG_POS_WPTR d) wp).wr (ACC_CREG_GS_GEN d) g).wr (ACC_CREG_GS_SEQ d) q
      | none => e)
    | none => e
  let e2 := e1.modKp d fun k => { k with busy := none }
  wakeNote 1 (showFree d (keepMiss n (e2.modKr n fun k => { k with wins := k.wins.drop 1 })))

/-- Make room for one line in KEPT region `d` for ring `n` (R229); false: the window is abandoned. -/
def keptRoom (n d : Nat) (e : Eng) : Eng × Bool :=
  if 0 < keptFree e d then (e, true)
  else if e.on (ACC_KEEP_CTRL_FULL_POL n) && !(e.getKp d).held.isEmpty then (releaseOldest d e, true)
  else (abandonWindow n d e, false)

/-- Change the oldest unsealed window of ring `n`. -/
def modWin (n : Nat) (f : Window → Window) (e : Eng) : Eng :=
  e.modKr n fun k => match k.wins with
    | w :: r => { k with wins := f w :: r }
    | [] => k

/-! ### Copying (R56, R227) -/

/-- WFLAGS of a window (R226). -/
def winFlags (w : Window) : Nat :=
  (if w.cont then 1 else 0) + (if w.trunc then 2 else 0) + (if w.short then 4 else 0) + (if w.overrun then 8 else 0) +
    (if w.poison then 16 else 0)

/-- The WINDOW line (R226). -/
def windowLine (n wseq : Nat) (w : Window) : LineRec :=
  ⟨12, 0, w.start, 12, false,
    leBytes 8 wseq ++ leBytes 8 w.start ++ leBytes 8 w.nstart ++ leBytes 8 w.hit ++ leBytes 4 w.pre ++ leBytes 4 w.post ++
      leBytes 4 w.mx ++ leBytes 1 (if w.cont then 1 else 0) ++ leBytes 1 n, 0⟩

/-- The copy reaches the window: START moves to the horizon where the ring no longer holds the window's start (R56), the
WINDOW line is placed, and the copy begins at the latest TIME record at or before START (R227). -/
def beginCopy (n : Nat) (w : Window) (e : Eng) : Eng :=
  let hor := e.rdq (ACC_CREG_HOR n)
  let late := tsBefore w.start hor
  let w1 := { w with start := if late then hor else w.start, short := late || (w.short && !w.cont) }
  let p := keptRoom n w.dest e
  if p.2 then
    let a := p.1
    let times := (a.getRg n).times
    let c := (times.filter fun t => !tsBefore w1.start t.2).getLast?.map (·.1)
    let g := (max 1 (a.rd (ACC_CREG_POS_WPTR w.dest)), a.rd (ACC_CREG_GS_GEN w.dest), a.rd (ACC_CREG_GS_SEQ w.dest))
    let a1 := placeKept w.dest (lineBytes a w.dest (windowLine n (a.getKp w.dest).next w1)) a
    showFree w.dest ((modWin n (fun _ => { w1 with begun := some g, cursor := c.getD ((times.head?.map (·.1)).getD 0) }) a1).modKp
      w.dest fun k => { k with busy := some n })
  else p.1

/-- What the copy meets next. -/
inductive CopyNext where
  /-- nothing of the window has been written beyond the cursor -/
  | idle
  /-- line `k` goes into the kept region -/
  | take (k : Nat) (bytes : List Byte)
  /-- line `k` is poisoned -/
  | poisoned (k : Nat)
  /-- the lines below `k` were overwritten -/
  | overrun (k : Nat)
  deriving DecidableEq, Repr

/-- Look for the next line of a window from line number `k` on (R227). -/
def copyNext (e : Eng) (m : Mems) (n : Nat) (w : Window) : Nat → Nat → CopyNext
  | 0, _ => .idle
  | fuel + 1, k =>
    let total := (e.getRg n).lines
    let size := e.rd (ACC_CREG_SIZE_LINES n)
    if total ≤ k then .idle
    else if k + size < total then .overrun (total - size)
    else
      match offsetOf e n k with
      | none => .idle
      | some o =>
        if linePoisoned e m n o then .poisoned k
        else
          let b := readLineAt e m n o
          let l := parseLine b
          let inside := !tsBefore l.base w.start && !tsBefore w.fin l.base
          let meets := if isData l then !tsBefore w.fin l.base && !tsBefore (spanEnd e m n k l) w.start else inside
          let first := l.ty == 4 && k == w.cursor && w.lines == 0 && !tsBefore w.start l.base
          if (meets || first) && !(e.getKr n).copied.contains k then .take k b else copyNext e m n w fuel (k + 1)

/-- The next line of the oldest unsealed window of ring `n`. -/
def copyLook (e : Eng) (m : Mems) (n : Nat) : CopyNext :=
  match (e.getKr n).wins.head? with
  | none => .idle
  | some w => if w.begun.isNone then .idle else copyNext e m n w ((e.getRg n).lines - w.cursor) w.cursor

/-- Port CAP has read the lines `k0` to `k` of ring `n` (R261). -/
def copyReads (n k0 k : Nat) (m : Mems) (e : Eng) : Eng :=
  linesNoted 0 m ((List.range (k + 1 - k0)).filterMap fun i => (offsetOf e n (k0 + i)).map fun o => lineAddr e n o / 256) e

/-- Copy or skip one line of the window (R227). -/
def copyOne (n : Nat) (e : Eng) (m : Mems) : Eng :=
  match (e.getKr n).wins.head? with
  | none => e
  | some w =>
    match copyLook e m n with
    | .idle => e
    | .poisoned k => copyReads n w.cursor k m (modWin n (fun x => { x with poison := true, cursor := k + 1 }) e)
    | .overrun k => modWin n (fun x => { x with overrun := true, cursor := k }) e
    | .take k b =>
      let p := keptRoom n w.dest e
      if p.2 then
        copyReads n w.cursor k m (showFree w.dest ((modWin n (fun x => { x with lines := x.lines + 1, cursor := k + 1 }) (placeKept w.dest b p.1)).modKr n
          fun r => { r with copied := r.copied.filter (fun i => (e.getRg n).lines < i + e.rd (ACC_CREG_SIZE_LINES n) + 1) ++ [k] }))
      else p.1

/-- KEPT_LINE_COPY (R56, R226, R227, R229): the WINDOW line first, then one line. -/
def keptLineCopy (n : Nat) (e : Eng) (m : Mems) : Eng :=
  match (e.getKr n).wins.head? with
  | none => e
  | some w =>
    let free := match (e.getKp w.dest).busy with
      | some r => r == n
      | none => true
    if !free || !memRuns e then e
    else if w.begun.isNone then
      (if e.on (ACC_CREG_STAT_HVALID n) then
        let e1 := beginCopy n w e
        copyOne n e1 (m.applyAll e1.wq)
       else e)
    else copyOne n e m

/-! ### Sealing (R57, R228) -/

/-- A window is complete (R57): the contexts have decided every instant up to E and every stream has reached it, or the
run has stopped. -/
def windowComplete (e : Eng) (n : Nat) (w : Window) : Bool :=
  !e.inAcq || w.trunc ||
    ((List.range 4).all (fun c => ctxClear e c w.fin) && reached e n w.fin && (e.getRg n).held.all fun h => tsBefore w.fin h.t)

/-- The first 56 bytes of a SEAL line and the rest, from PREV, HASH and SIG (R226, R228). -/
def sealLine (e : Eng) (n : Nat) (w : Window) (wseq key : Nat) (prev hash sig : List Byte) : List Byte :=
  lineBytes e w.dest ⟨11, 0, w.fin, 60, false,
    leBytes 8 wseq ++ leBytes 8 w.start ++ leBytes 8 w.fin ++ leBytes 6 (if tsBefore w.hit w.start then 0 else (w.hit + 2 ^ 64 - w.start) % 2 ^ 64) ++ leBytes 2 (min w.hits 65535) ++
      leBytes 4 w.lines ++ leBytes 1 (winFlags w) ++ leBytes 1 n ++ leBytes 1 key ++ leBytes 1 0 ++ prev ++ hash ++ sig ++
      leBytes 8 0, 0⟩

/-- The lines of the window as they stand in the kept region: the WINDOW line and the copies, `c` lines from offset `o`. -/
def keptBytes (e : Eng) (m : Mems) (d : Nat) : Nat → Nat → List Byte
  | 0, _ => []
  | c + 1, o =>
    readLineAt e m d o ++ keptBytes e m d c (if o + 1 = e.rd (ACC_CREG_SIZE_LINES d) then 1 else o + 1)

/-- The capture lines of a window as they stand in the kept region. -/
def keptLines (e : Eng) (d : Nat) : Nat → Nat → List Nat
  | 0, _ => []
  | c + 1, o => lineAddr e d o / 256 :: keptLines e d c (if o + 1 = e.rd (ACC_CREG_SIZE_LINES d) then 1 else o + 1)

/-- Seal the oldest window of ring `n`: hash, signature, KHEAD, count, Ledger entry (R57, R228). The random
scalar of the signature is a free value; KEY 0 means none, and SIG is zero. -/
def sealWindow (n : Nat) (w : Window) (e : Eng) (m : Mems) : Eng :=
  let d := w.dest
  let p := keptRoom n d e
  if !p.2 then p.1
  else
    let a := p.1
    let k := a.getKp d
    let key := a.rd SEC_KEY_STAT_SEAL_ACT
    let start := match w.begun with
      | some (o, _, _) => o
      | none => 1
    let head := (sealLine a n w k.next key [] [] []).take 56
    let hash := sha384 (k.prev ++ keptBytes a m d (w.lines + 1) start ++ head)
    let sig := if key = 0 then List.replicate 96 0
      else ecdsaSign (a.nv.keys.getD key {}).priv (scalarOf (a.freeVal 512)) hash
    let a1 := placeKept d (sealLine a n w k.next key k.prev hash sig) (if key = 0 then a else a.drawn)
    let a2 := a1.modKp d fun x =>
      { x with next := x.next + 1, prev := hash, held := x.held ++ [(w.lines + 2, hash)], busy := none }
    let a3 := writeKhead d (a2.modKr n fun r => { r with wins := r.wins.drop 1 })
    let a4 := (a3.addWrap (ACC_KEEP_CNT_CNT n) 1).raisePost (ACC_CREG_STAT_SEALED n) 0
      (leBytes 8 w.start ++ leBytes 8 w.fin ++ leBytes 1 (winFlags w) ++ hash.take 8)
    wakeNote 0 (linesNoted 0 m (keptLines a d (w.lines + 1) start) a4)

/-- SEAL (R57, R228): the oldest window of ring `n` is complete and all its lines have been copied. -/
def sealOp (n : Nat) (e : Eng) (m : Mems) : Eng :=
  match (e.getKr n).wins.head? with
  | none => e
  | some w =>
    if w.begun.isSome && memRuns e && windowComplete e n w && (copyLook e m n == .idle) then sealWindow n w e m else e

/-- Copy and seal until ring `n` has no window left: what a stop does with open windows (R44 step 4, R55). -/
def sealAll (n : Nat) (m : Mems) : Nat → Eng → Eng
  | 0, e => e
  | fuel + 1, e =>
    if (e.getKr n).wins.isEmpty then e
    else
      let e1 := keptLineCopy n e (m.applyAll e.wq)
      sealAll n m fuel (sealOp n e1 (m.applyAll e1.wq))

/-! ### The control register -/

/-- KEEP_CTRL_WRITE (R59): applied, or discarded as a whole with ACC_STAT.REJ. -/
def keepCtrlWrite (n : Nat) (en pol : Bool) (dest : Nat) (e : Eng) : Eng :=
  if en && (regionKind e n != 1 || regionKind e dest != 3) then e.raise ACC_STAT_REJ
  else ((e.wrb (ACC_KEEP_CTRL_EN n) en).wrb (ACC_KEEP_CTRL_FULL_POL n) pol).wr (ACC_KEEP_CTRL_DEST n) dest

/-- KEEP_CTRL_WRITE. -/
def execKeepCtrlWrite (n : Nat) (en pol : Bool) (dest : Nat) (s : State) : Result := onEng s (keepCtrlWrite n en pol dest)

end Machine
end Sys2Proof
end

