-- ==== Sys2Proof/Machine/Accession.lean ====
section
/-!
DEFINITION. The region commands of Accession (R220 to R223): CLEAR, CLEAR_DONE, CREG_POS_READ and CREG_EN_WRITE.
-/
namespace Sys2Proof
namespace Machine

/-- A DMA channel reads region `n`. -/
def dmaReads (e : Eng) (n : Nat) : Bool := e.dma.any fun c => c.region == some n

/-- CLEAR (R223): accepted only in SERVICE or REVIEW, with no transition, no clear and no DMA read of the region. -/
def clearRequest (e : Eng) : Eng :=
  let n := e.rd ACC_CMD_REG
  if (e.mode == .service || e.mode == .review) && !e.on GLB_MODE_STAT_BUSY && !e.on ACC_STAT_BUSY && !dmaReads e n then
    { e with clr := some n }.wr ACC_STAT_BUSY 1
  else e.raise ACC_STAT_REJ

/-- CLEAR. -/
def execClear (s : State) : Result := onEng s clearRequest

/-- A region is cleared (R223, R226): every line is EMPTY, the pointers are reset, a freeze ends without its record, a KEPT
region starts a new chain, and the Ledger entry is posted. -/
def clearRegion (n : Nat) (e : Eng) : Eng :=
  let e2 := e.emit (.capClear (lineAddr e n 0) (e.rd (ACC_CREG_SIZE_LINES n) * 256))
  let e3 := ((e2.wr (ACC_CREG_POS_WPTR n) 0).wr (ACC_CREG_GS_GEN n) 0).wr (ACC_CREG_GS_SEQ n) 0
  let e4 := ((e3.wr (ACC_CREG_STAT_HVALID n) 0).wr (ACC_CREG_STAT_FULL_NOW n) 0).wr (ACC_CREG_STAT_FROZEN_NOW n) 0
  let e5 := (e4.setRg n {}).modKr n fun _ => {}
  let e6 := if regionKind e n = 3 then keptInit n e5 else e5
  e6.postCur 0x0021 1 (leBytes 1 n)

/-- CLEAR_DONE (R223). -/
def clearDone (e : Eng) : Eng :=
  match e.clr with
  | none => e
  | some n => clearRegion n ({ e with clr := none }.wr ACC_STAT_BUSY 0)

/-- CLEAR_DONE. -/
def execClearDone (s : State) : Result := onMem s fun e _ => clearDone e

/-- Latch the value of a field for a master. -/
def latchFld (master : Nat) (f : Fld) (e : Eng) : Eng :=
  { e with latch := rfInsert e.latch (master * 2 ^ 34 + f.key) (e.rd f) }

/-- The value of a field that a master's read latched. -/
def latched (e : Eng) (master : Nat) (f : Fld) : Option Nat := rfFind e.latch (master * 2 ^ 34 + f.key)

/-- CREG_POS_READ: a read of ACC_CREG_n_POS by a master latches GS and HOR. -/
def cregPosRead (master n : Nat) (e : Eng) : Eng :=
  [ACC_CREG_GS_GEN n, ACC_CREG_GS_SEQ n, ACC_CREG_HOR_LO_TS n, ACC_CREG_HOR_HI_TS n].foldl (fun a f => latchFld master f a) e

/-- CREG_POS_READ. -/
def execCregPosRead (master n : Nat) (s : State) : Result := onEng s (cregPosRead master n)

/-- CREG_EN_WRITE (R220): applied, or held until the acquisition mode ends. -/
def cregEnWrite (n : Nat) (en : Bool) (e : Eng) : Eng :=
  let e1 := e.wrb (ACC_CREG_CFG_EN n) en
  if e.inAcq then e1 else e1.load (ACC_CREG_CFG_EN n)

/-- CREG_EN_WRITE. -/
def execCregEnWrite (n : Nat) (en : Bool) (s : State) : Result := onEng s (cregEnWrite n en)

end Machine
end Sys2Proof
end

