-- ==== Sys2Proof/Machine/PowerState.lean ====
section
/-!
DEFINITION. The device power state (R474 to R476): what holds IDLE and TRICKLE, and the change of state when a condition
fails or comes to hold. Shared by the power commands and by everything that changes one of the conditions.
-/
namespace Sys2Proof
namespace Machine

/-- The conditions of R475 that fail, as PWR_STAT.TRK_BLOCK shows them: not ARCHIVE, DIV below 128, Vitrine tile not in
service, a token or key command running, TRICKLE_EN = 0. -/
def trickleBlock (e : Eng) : Nat :=
  (if e.mode = .archive then 0 else 1) + (if 128 ≤ e.rd GLB_ARC_CTRL_DIV then 0 else 2) + (if e.inService 13 then 0 else 4) +
  (if e.on SEC_CMD_STAT_BUSY then 8 else 0) + (if e.on PWR_CTRL_TRICKLE_EN then 0 else 16)

/-- A calibration or an eye scan is running or held. -/
def feActive (e : Eng) : Bool :=
  e.fe.scan.isSome || e.fe.scanHeld || e.rd FE_CAL_STAT_BUSY != 0

/-- IDLE holds (R474), once start-up has ended (R466 step 10). -/
def idleHolds (e : Eng) : Bool :=
  e.mode == .service && e.on PWR_CTRL_FE_IDLE && !feActive e && e.md.trans.isNone && e.pw.start.isNone

/-- Put loops in state OFF. -/
def loopsOff (ns : List Nat) (e : Eng) : Eng :=
  loopsShow (ns.foldl (fun a n => (setLoop n 0 a).modLoop n fun _ => {}) e)

/-- A loop that is OFF starts with its active values, where it has any. -/
def loopWake (n : Nat) (e : Eng) : Eng :=
  if loopState e n = 0 ∧ loopLegal e n (loopActive e n) then startLoop n (loopActive e n) e else e

/-- The internal power domains that are on in a power state (R408, R474, R476). -/
def domainsOn (st : Nat) (e : Eng) : Nat :=
  let used (t : Nat) : Bool := (List.range 32).any fun k => e.ona (FE_CH_CFG_EN (32 * t + k))
  let lanes := (List.range 16).any fun n => e.on (ACC_CREG_CFG_EN n) && regionForm e n == 2
  maskOf 11 fun b =>
    if b < 8 then st != 1 && (st != 2 || used b)
    else if b = 8 then st != 2 || lanes
    else if b = 9 then st != 2
    else true

/-- LEVEL reads 0 while its tile's front end is not powered (chapter 3, FE_CH_STAT). -/
def levelsOff (e : Eng) : Eng :=
  (List.range 256).foldl (fun a c => if e.bit CUR_PWR_DOM_ON (c / 32) then a else a.wr (FE_CH_STAT_LEVEL c) 0) e

/-- The power state changes. -/
def setPower (st : Nat) (e : Eng) : Eng :=
  if e.rd PWR_STAT_STATE = st then e
  else (levelsOff ((e.wr PWR_STAT_STATE st).wr CUR_PWR_DOM_ON (domainsOn st e))).raise PWR_EVT_STATE_CHG

/-- Enter IDLE: the front end powers down, SPLL and the TPLLs go OFF. -/
def enterIdle (e : Eng) : Eng := setPower 1 (loopsOff [0, 1, 2, 3, 4] e)

/-- Enter TRICKLE: VPLL and the TPLLs go OFF (R476). -/
def enterTrickle (e : Eng) : Eng := setPower 2 (loopsOff [1, 2, 3, 4, 6] e)

/-- Leave IDLE or TRICKLE when it no longer holds: SPLL, or VPLL and the TPLLs, are committed again. -/
def powerCheck (e : Eng) : Eng :=
  let e1 := e.wr PWR_STAT_TRK_BLOCK (trickleBlock e)
  let st := e1.rd PWR_STAT_STATE
  if st = 2 ∧ trickleBlock e1 ≠ 0 then [6, 1, 2, 3, 4].foldl (fun a n => loopWake n a) (setPower 0 e1)
  else if st = 1 ∧ !idleHolds e1 then loopWake 0 (setPower 0 e1)
  else e1

/-- The power policy where a mode comes into force or FE_IDLE is written: IDLE is entered where it holds. -/
def powerPolicy (e : Eng) : Eng :=
  let e1 := powerCheck e
  if idleHolds e1 ∧ e1.rd PWR_STAT_STATE = 0 then enterIdle e1 else e1

end Machine
end Sys2Proof
end

