-- ==== Sys2Proof/Machine/FrontEnd.lean ====
section
/-!
DEFINITION. The input front end (chapter 3): thresholds in tip volts (R64 to R66), fields while a tile samples (R77,
R78), the eye scan (R79 to R85) and calibration (R86 to R88).
-/
namespace Sys2Proof
namespace Machine

/-! ### Thresholds -/

/-- `num / den` rounded to the nearest integer, a tie away from zero. -/
def roundDiv (num : Int) (den : Nat) : Int :=
  if 0 ≤ num then (2 * num + den) / (2 * den) else -((2 * (-num) + den) / (2 * den))

/-- ATTEN of the identity held for port `p` (bytes 32 to 35, R97). -/
def podAtten (e : Eng) (p : Nat) : Nat := e.rd (POD_ID_BYTES p 8)

/-- OFF of channel `k` of port `p`, signed µV (R97). -/
def podOff (e : Eng) (p k : Nat) : Int := signed 32 (e.rd (POD_ID_BYTES p (16 + k)))

/-- The identity of the port of channel `c` is valid (R65). -/
def idValid (e : Eng) (c : Nat) : Bool := e.on (POD_STAT_ID_VALID (c / 32))

/-- The ball code of a tip threshold (R64), exact, before limiting. -/
def tipCode (e : Eng) (c : Nat) (tip : Int) : Int :=
  roundDiv (tip * 655360 + podOff e (c / 32) (c % 32) * podAtten e (c / 32)) (500 * podAtten e (c / 32))

/-- R64: compute and store the code of channel `c` from its TIP, set SRC, clear PEND; a code out of range is limited and
sets CLAMP. -/
def applyTip (c : Nat) (e : Eng) : Eng :=
  let code := tipCode e c (signed 24 (e.rd (FE_THR_TIP_TIP c)))
  let lim := clampInt (-2048) 2047 code
  let e1 := thrWritten false c (((e.wr (FE_THR_CODE c) (toField 12 lim)).wr (FE_THR_SRC c) 1).wr (FE_THR_PEND c) 0)
  if lim = code then e1 else e1.raise (FE_THR_CLAMP c)

/-- TIP_WRITE (R64, R65). -/
def tipWrite (c tip : Nat) (e : Eng) : Eng :=
  let e1 := e.wr (FE_THR_TIP_TIP c) tip
  if idValid e c then applyTip c e1 else (e1.wr (FE_THR_SRC c) 1).wr (FE_THR_PEND c) 1

/-- TIP_WRITE. -/
def execTipWrite (c tip : Nat) (s : State) : Result := onEng s (tipWrite c tip)

/-- What a read of FE_THR_TIP_c returns (R66). -/
def tipRead (e : Eng) (c : Nat) : Int :=
  if e.on (FE_THR_SRC c) then signed 24 (e.rd (FE_THR_TIP_TIP c))
  else if idValid e c then
    roundDiv ((signed 12 (e.rd (FE_THR_CODE c)) * 500 - podOff e (c / 32) (c % 32)) * podAtten e (c / 32)) 655360
  else 0

/-- THR_WRITE (R66): a value with the CLAMP bit only clears CLAMP; otherwise CODE is stored with SRC 0 and PEND clear. -/
def thrWrite (c v : Nat) (e : Eng) : Eng :=
  if natBit v 14 then e.wr (FE_THR_CLAMP c) 0
  else thrWritten false c (((e.wr (FE_THR_CODE c) (v % 4096)).wr (FE_THR_SRC c) 0).wr (FE_THR_PEND c) 0)

/-- THR_WRITE. -/
def execThrWrite (c v : Nat) (s : State) : Result := onEng s (thrWrite c v)

/-! ### Fields while a tile samples (R77, R78) -/

/-- The sampling tiles on DUT clock `n`. -/
def clockTiles (e : Eng) (n : Nat) : List Nat := indicesWhere 8 fun t => tileSamples e t && e.rda (FE_TILE_CFG_CLKSEL t) == n

/-- Write a field of DUT clock `n`: at once, or held with PEND of each sampling tile on it. -/
def clockField (n : Nat) (f : Fld) (v : Nat) (e : Eng) : Eng :=
  match clockTiles e n with
  | [] => e.wrBoth f v
  | ts => ts.foldl (fun a t => a.wr (FE_TILE_STAT_PEND t) 1) (e.wr f v)

/-- FE_FIELD_WRITE (R77): HYST and TERM apply from the next word; the other fields are held while the tile samples. -/
def feFieldWrite (m : Nat) (f : FeField) (v : Nat) (e : Eng) : Eng :=
  match f with
  | .hyst c => thrWritten true c (e.wr (FE_CH_CFG_HYST c) v)
  | .term c => e.wrBoth (FE_CH_CFG_TERM c) v
  | .en c =>
    if tileSamples e (c / 32) then (e.wr (FE_CH_CFG_EN c) v).wr (FE_CH_CFG_PEND c) 1 else e.wrBoth (FE_CH_CFG_EN c) v
  | .dsk c =>
    if tileSamples e (c / 32) then (e.wr (FE_DSK_DSK c) (min v 819)).wr (FE_DSK_PEND c) 1
    else e.wrBoth (FE_DSK_DSK c) (min v 819)
  | .clksel t =>
    if tileSamples e t then (e.wr (FE_TILE_CFG_CLKSEL t) v).wr (FE_TILE_STAT_PEND t) 1 else e.wrBoth (FE_TILE_CFG_CLKSEL t) v
  | .stclkCh n => clockField n (FE_STCLK_CH n) v e
  | .stclkEdge n =>
    if v % 4 = 3 then (if e.rd (FE_STCLK_EDGE n) = 3 then e else e.badEnc m (FE_STCLK_EDGE n))
    else clockField n (FE_STCLK_EDGE n) v e
  | .stclkEn n => clockField n (FE_STCLK_EN n) v e
  | .stpt n => clockField n (FE_STPT_PT n) v e

/-- FE_FIELD_WRITE. -/
def execFeFieldWrite (m : Nat) (f : FeField) (v : Nat) (s : State) : Result := onEng s (feFieldWrite m f v)

/-- The held values of tile `t` are applied as it stops sampling (R78); those of a DUT clock when no sampling tile is on
it any more. DESIGN CHOICE (log entry 138): PEND of the tile clears at once, also where a DUT clock it shared stays held. -/
def heldApply (t : Nat) (e : Eng) : Eng :=
  let e1 := (List.range 32).foldl (fun a k =>
    let c := 32 * t + k
    (((a.load (FE_CH_CFG_EN c)).load (FE_DSK_DSK c)).wr (FE_CH_CFG_PEND c) 0).wr (FE_DSK_PEND c) 0) e
  let e2 := (e1.load (FE_TILE_CFG_CLKSEL t)).wr (FE_TILE_STAT_PEND t) 0
  heldCommits ((List.range 4).foldl (fun a n =>
    if (clockTiles a n).isEmpty then
      (((a.load (FE_STCLK_CH n)).load (FE_STCLK_EDGE n)).load (FE_STCLK_EN n)).load (FE_STPT_PT n)
    else a) e2)

/-! ### Eye scan -/

/-- The vector of the tile that owns channel `c`, raised without an event bit (R82). -/
def scanVector (c : Nat) (e : Eng) : Eng := irqMessage (40 + c / 32) e

/-- End the running scan early (R83). -/
def scanEnd (err : Nat) (e : Eng) : Eng :=
  match e.fe.scan with
  | none => e
  | some sc =>
    scanVector sc.ch ((((({ e with fe := { e.fe with scan := none, scanHeld := false } }).wr FE_ES_STAT_BUSY 0).wr FE_ES_STAT_VALID 0).wr
      FE_ES_STAT_ERR err).addWrap FE_ES_STAT_GEN 1)

/-- A tile calibrates. -/
def calBusy (e : Eng) (t : Nat) : Bool := e.bit FE_CAL_STAT_BUSY t

/-- R39 permits scanning channel `c`, R81 names an even channel in timing-double, and its tile is not calibrating (R86). -/
def scanAllowed (e : Eng) (c : Nat) : Bool :=
  (if e.inAcq then e.inService (c / 32) else true) && !(e.double && c % 2 == 1) && !calBusy e (c / 32)

/-- The loop that a scan's REF selects: SPLL, or TPLL_n of DUT clock n. -/
def scanLoop (ref : Nat) : Nat := ref

/-- End a running scan that its mode, tile or clock no longer permits (R83 codes 2 and 3); a scan started in IDLE first
waits for SPLL (R474). -/
def scanRecheck (e : Eng) : Eng :=
  match e.fe.scan with
  | none => e
  | some sc =>
    if e.fe.scanHeld then e
    else if !scanAllowed e sc.ch then scanEnd 2 e
    else if !loopLocked e (scanLoop sc.ref) then scanEnd 3 e
    else e

/-- The bytes `a ..< a + n` of scratch lie in banks of one owner (R305, R307). -/
def inPartition (e : Eng) (own a n : Nat) : Bool :=
  a + n ≤ 2 ^ 25 && (n == 0 || (List.range ((a + n - 1) / 2 ^ 20 - a / 2 ^ 20 + 1)).all fun k =>
    e.rd (SCR_BANK_OWN_OWN (a / 2 ^ 20 + k)) == own)

/-- A scan begins (R84: TS_START): it was held until SPLL was LOCKED (R474). -/
def scanGo (e : Eng) : Eng :=
  if e.fe.scanHeld then
    scanRecheck { e with fe := { e.fe with scanHeld := false, scan := e.fe.scan.map fun sc => { sc with ts := e.ts } } }
  else scanRecheck e

/-- EYE_SCAN_START (R81, R82, R83). DESIGN CHOICE (log entry 137): ERR reads 0 while the scan runs. -/
def eyeScanStart (e : Eng) : Eng :=
  if e.on FE_ES_STAT_BUSY then e
  else
    let c := e.rd FE_ES_CTRL_CH
    let ref := e.rd FE_ES_CTRL_REF
    let start := signed 12 (e.rd FE_ES_THR_START_CODE)
    let stride := e.rd FE_ES_THR_STRIDE + 1
    let base := e.rd FE_ES_BASE_OFFS / 64 * 64
    let sc : ScanSt := ⟨c, ref, e.rd FE_ES_CTRL_DWELL, e.rd FE_ES_CTRL_TOL, start, stride, base, e.ts⟩
    let e1 := ((({ e with fe := { e.fe with scan := some sc } }).wr FE_ES_STAT_VALID 0).wr FE_ES_STAT_BUSY 1).wr FE_ES_STAT_ERR 0
    if 2047 < start + 255 * stride ∨ 5 ≤ ref then scanEnd 1 e1
    else if !inPartition e 1 base 32800 then scanEnd 6 e1
    else if e.rd PWR_STAT_STATE = 1 then powerCheck { e1 with fe := { e1.fe with scanHeld := true } }
    else scanRecheck e1

/-- EYE_SCAN_START. -/
def execEyeScanStart (s : State) : Result := onEng s eyeScanStart

/-- EYE_SCAN_ABORT (R83 code 4). -/
def execEyeScanAbort (s : State) : Result := onEng s (scanEnd 4)

/-- The longest run of true values in a list of flags: start and length, the lower start on a tie. -/
def longestRun (l : List Bool) : Nat × Nat :=
  let r := (l.zip (List.range l.length)).foldl (fun (acc : Nat × Nat × Nat × Nat) p =>
    -- best start, best length, run start, run length
    let (bs, bl, rs, rl) := acc
    if p.1 then
      let rs2 := if rl = 0 then p.2 else rs
      if bl < rl + 1 then (rs2, rl + 1, rs2, rl + 1) else (bs, bl, rs2, rl + 1)
    else (bs, bl, 0, 0)) (0, 0, 0, 0)
  (r.1, r.2.1)

/-- The circular run of true values that contains index `i`: start and length (R85). -/
def circularRun (l : List Bool) (i : Nat) : Nat × Nat :=
  let n := l.length
  if l.all id then (0, n)
  else
    let back := ((List.range n).takeWhile fun k => l.getD ((i + n - k) % n) false).length
    let fwd := ((List.range n).takeWhile fun k => l.getD ((i + k) % n) false).length
    ((i + n + 1 - back) % n, back + fwd - 1)

/-- The proposal of R85. -/
structure Proposal where
  isOpen : Bool
  code : Int
  col : Nat
  width : Nat
  height : Nat
  deriving DecidableEq, Repr

/-- R85: the proposed centre from the counts of a scan. -/
def propose (sc : ScanSt) (cur : Int) (count : Nat → Nat → Nat) : Proposal :=
  let opens (i j : Nat) : Bool := count i j ≤ sc.tol
  let col (j : Nat) : List Bool := (List.range 256).map fun i => opens i j
  let h (j : Nat) : Nat := (longestRun (col j)).2
  let dist (j : Nat) : Nat := if j < 32 then 32 - j else j - 32
  let cstar := (List.range 64).foldl (fun b j =>
    if h b < h j ∨ (h j = h b ∧ dist j < dist b) then j else b) 0
  if h cstar = 0 then ⟨false, cur, 32, 0, 0⟩
  else
    let run := longestRun (col cstar)
    let rstar := (run.1 + (run.1 + run.2 - 1)) / 2
    let row := (List.range 64).map fun j => opens rstar j
    let uw := circularRun row cstar
    ⟨true, sc.startCode + rstar * sc.stride, (uw.1 + (uw.2 - 1) / 2) % 64, uw.2, run.2⟩

/-- The result block (R84). -/
def scanBlock (sc : ScanSt) (gen : Nat) (p : Proposal) (count : Nat → Nat → Nat) : List Byte :=
  leBytes 2 gen ++ leBytes 1 sc.ch ++ leBytes 1 sc.ref ++ leBytes 2 (toField 16 sc.startCode) ++ leBytes 1 sc.stride ++
  leBytes 1 sc.dwell ++ leBytes 8 sc.ts ++ leBytes 2 (toField 16 p.code) ++ leBytes 1 p.col ++
  leBytes 1 (if p.isOpen then 1 else 0) ++ leBytes 1 p.width ++ leBytes 1 0 ++ leBytes 2 p.height ++ leBytes 8 0 ++
  (List.range 256).flatMap fun i => (List.range 64).flatMap fun j => leBytes 2 (min (count i j) 0xFFFF)

/-- EYE_SCAN_DONE (R82, R84, R85): the counts measured, row by row. -/
def eyeScanDone (counts : List (List Nat)) (e : Eng) : Eng :=
  match e.fe.scan with
  | none => e
  | some sc =>
    if e.fe.scanHeld then e else
    let count (i j : Nat) : Nat := (counts.getD i []).getD j 0
    let p := propose sc (signed 12 (e.rd (FE_THR_CODE sc.ch))) count
    let gen := (e.rd FE_ES_STAT_GEN + 1) % 65536
    let e1 := ({ e with fe := { e.fe with scan := none, scanHeld := false } }).emit (.scr sc.base (scanBlock sc gen p count))
    let e2 := (((e1.wr FE_ES_RES_PROP_CODE (toField 12 p.code)).wr FE_ES_RES_PROP_COL p.col).wrb FE_ES_RES_OPEN p.isOpen)
    let e3 := (e2.wr FE_ES_SIZE_WIDTH p.width).wr FE_ES_SIZE_HEIGHT p.height
    scanVector sc.ch ((((e3.wr FE_ES_STAT_GEN gen).wr FE_ES_STAT_ERR 0).wr FE_ES_STAT_VALID 1).wr FE_ES_STAT_BUSY 0)

/-- EYE_SCAN_DONE. -/
def execEyeScanDone (counts : List (List Nat)) (s : State) : Result := onMem s fun e _ => eyeScanDone counts e

/-! ### Port states that calibration and joining share (R89, R96, R99) -/

/-- The indicator that a port state shows (R96). -/
def stateInd : Nat → Nat
  | 5 => 1
  | 2 | 3 | 4 => 2
  | 6 | 7 => 3
  | _ => 0

/-- A port enters a state: STATE, the indicator while IND_AUTO is 1, and ID_VALID 0 outside JOINING and READY. -/
def setPort (p st : Nat) (e : Eng) : Eng :=
  let e1 := e.wr (POD_STAT_STATE p) st
  let e2 := if e.on (POD_CTRL_IND_AUTO p) then e1.wr (POD_CTRL_IND p) (stateInd st) else e1
  if st = 4 ∨ st = 5 then e2 else e2.wr (POD_STAT_ID_VALID p) 0

/-- A port enters READY (J2, J3). -/
def enterReady (p : Nat) (e : Eng) : Eng := (setPort p 5 e).raise (POD_EVT_READY p)

/-- After J1 (R99): the tile waits to rejoin when the engine acquires, the tile is not in service and no transition
runs (J2); otherwise the port enters READY (J3), and a tile that could not rejoin because of a transition waits for its
end (R53). -/
def joinNext (p : Nat) (e : Eng) : Eng :=
  if e.inAcq && !e.inService p && !e.on GLB_MODE_STAT_BUSY then e
  else
    let e1 := enterReady p e
    if e.inAcq && !e.inService p then { e1 with pod := { e1.pod with rejoin := setNatBit e1.pod.rejoin p } } else e1

/-- Ports in JOINING whose calibration has ended enter READY as soon as J2's condition has ceased to hold (J3 of R99): the
run ends, the tile enters service, a transition begins. -/
def joinAgain (e : Eng) : Eng :=
  (List.range 8).foldl (fun a p =>
    if a.rd (POD_STAT_STATE p) = 4 ∧ !calBusy a p ∧ !natBit a.fe.calJ1 p then joinNext p a else a) e

/-! ### Calibration -/

/-- A tile starts to calibrate: BUSY, and a scan on its channels ends (R86). -/
def calStart (t : Nat) (e : Eng) : Eng := powerCheck (scanRecheck (e.wrBit FE_CAL_STAT_BUSY t true))

/-- CAL_REQUEST (R86): bit t asks for tile t; a tile that samples is refused, one that calibrates is joined. -/
def calRequest (tiles : Nat) (e : Eng) : Eng :=
  (List.range 8).foldl (fun a t =>
    if !natBit tiles t then a
    else if calBusy a t then a
    else if tileSamples a t then a.raise FE_CAL_STAT_REJ t
    else calStart t a) e

/-- CAL_REQUEST. -/
def execCalRequest (tiles : Nat) (s : State) : Result := onEng s (calRequest tiles)

/-- The engine requests calibration of a stale tile that does not sample (R88). -/
def autoCal (t : Nat) (e : Eng) : Eng :=
  if e.on FE_CAL_CFG_AUTO && e.on (FE_TILE_STAT_CAL_STALE t) && !tileSamples e t && !calBusy e t then calStart t e else e

/-- The die temperature of a tile in whole degrees: to the nearest, halves upward (R87). -/
def calTemp (e : Eng) (t : Nat) : Int := (signed 12 (e.rd (CUR_TEMP_VAL t)) + 2) / 4

/-- A calibration fails: the trims stay, FAIL is set and Curator writes its entry (R87). -/
def calFail (t mask : Nat) (e : Eng) : Eng :=
  (e.wrBit FE_CAL_STAT_BUSY t false).raisePost FE_CAL_STAT_FAIL t (leBytes 1 t ++ leBytes 1 mask)

/-- A calibration passes with new trims (R87). -/
def calPass (t : Nat) (trims : List Nat) (ilv : Nat) (e : Eng) : Eng :=
  let e1 := (List.range 32).foldl (fun a k => a.wr (FE_DSK_CAL (32 * t + k)) (trims.getD k 0)) (e.wrBit FE_CAL_STAT_BUSY t false)
  let e2 := ((e1.wr (FE_TILE_STAT_ILV_SKEW t) ilv).wr (FE_TILE_STAT_CAL_VALID t) 1).wr (FE_TILE_STAT_CAL_TEMP t) (toField 8 (calTemp e t))
  (e2.wr (FE_TILE_STAT_CAL_STALE t) 0).raise FE_CAL_STAT_DONE t

/-- CAL_DONE (R87): `fail` is the failing-quantity mask, zero for a pass; `trims` the CAL steps of the 32 channels and
`ilv` the largest interleave offset. A calibration that was step J1 lets the port go on (R99). -/
def calDone (t fail : Nat) (trims : List Nat) (ilv : Nat) (e : Eng) : Eng :=
  if !calBusy e t then e
  else
    let e1 := if fail % 16 = 0 then calPass t trims ilv e else calFail t (fail % 16) e
    if natBit e.fe.calJ1 t then
      joinNext t { e1 with fe := { e1.fe with calJ1 := clrNatBit e1.fe.calJ1 t } }
    else e1

end Machine
end Sys2Proof
end

