-- ==== Sys2Proof/Machine/RegTable.lean ====
section
/-!
DEFINITION. The register tables of the spec as data: for every register its BAR 0 offset, its index strides and its
fields with their types (R7), so that an access by offset (R327, R328) finds the fields it touches.
-/
namespace Sys2Proof
namespace Machine

/-- The field types of R7; reserved fields are simply absent from a register's list. -/
inductive FieldTy where
  | rw | ro | wo | w1c | w1s | rwl
  deriving DecidableEq, Repr

/-- What a write does with the value: stored as it is; limited to a range; its low bits cleared; only the listed
ranges are legal encodings (R12); only the even values of a range are; or the field belongs to a command of its own (R7's "no row of its own"). -/
inductive WriteRule where
  | plain
  | clamp (lo hi : Nat)
  | low (k : Nat)
  | legal (ranges : List (Nat × Nat))
  | even (lo hi : Nat)
  | own
  deriving DecidableEq, Repr

/-- One field row. -/
structure FieldRow where
  lsb : Nat
  width : Nat
  ty : FieldTy
  rule : WriteRule
  reset : Nat
  /-- Reset is "img" (R11, R412) -/
  img : Bool
  deriving DecidableEq, Repr

/-- One register row: base offset, `(stride, count)` of each index, and its fields. `shared` marks a TRIG register that
appears at the same window offset in the windows of all four contexts. -/
structure RegRow where
  base : Nat
  dims : List (Nat × Nat)
  shared : Bool
  fields : List FieldRow
  deriving DecidableEq, Repr

def regRowsGlbA : List RegRow :=
  [ ⟨0x00000000, [], false, [⟨0, 16, .ro, .plain, 5632, false⟩, ⟨16, 8, .ro, .plain, 0, false⟩]⟩
  , ⟨0x00000004, [], false, [⟨0, 16, .ro, .plain, 8090, false⟩]⟩
  , ⟨0x00000008, [], false, [⟨0, 32, .ro, .plain, 0, false⟩]⟩
  , ⟨0x0000000C, [], false, [⟨0, 32, .ro, .plain, 0, false⟩]⟩
  , ⟨0x00000010, [], false, [⟨0, 1, .w1c, .plain, 0, false⟩]⟩
  , ⟨0x00000014, [], false, [⟨2, 24, .ro, .plain, 0, false⟩, ⟨26, 2, .ro, .plain, 0, false⟩]⟩
  , ⟨0x00000018, [], false, [⟨0, 1, .w1s, .plain, 0, false⟩, ⟨1, 1, .wo, .plain, 0, false⟩]⟩
  , ⟨0x00000100, [], false, [⟨0, 3, .rw, .own, 0, false⟩, ⟨4, 1, .rw, .own, 0, false⟩]⟩
  , ⟨0x00000104, [], false, [⟨0, 3, .ro, .plain, 0, false⟩, ⟨3, 1, .ro, .plain, 0, false⟩, ⟨4, 3, .ro, .plain, 0, false⟩, ⟨7, 1, .ro, .plain, 0, false⟩, ⟨8, 4, .ro, .plain, 0, false⟩, ⟨12, 1, .w1c, .plain, 0, false⟩, ⟨13, 1, .w1c, .plain, 0, false⟩, ⟨16, 16, .ro, .plain, 0, false⟩]⟩
  , ⟨0x00000108, [], false, [⟨0, 32, .ro, .plain, 0, false⟩]⟩
  , ⟨0x0000010C, [], false, [⟨0, 32, .ro, .plain, 0, false⟩]⟩
  , ⟨0x00000110, [], false, [⟨0, 32, .ro, .plain, 0, false⟩]⟩
  , ⟨0x00000114, [], false, [⟨0, 32, .ro, .plain, 0, false⟩]⟩
  , ⟨0x00000120, [], false, [⟨0, 15, .rw, .own, 0, false⟩]⟩
  , ⟨0x00000124, [], false, [⟨0, 15, .ro, .plain, 0, false⟩, ⟨16, 15, .w1c, .plain, 0, false⟩]⟩
  , ⟨0x00000130, [], false, [⟨0, 14, .rw, .even 32 12800, 0, true⟩]⟩
  , ⟨0x00000400, [], false, [⟨0, 1, .rw, .plain, 1, false⟩, ⟨1, 1, .wo, .own, 0, false⟩, ⟨8, 8, .rw, .clamp 0 100, 10, false⟩, ⟨16, 4, .rw, .legal [(0, 8)], 4, false⟩]⟩
  , ⟨0x00000404, [], false, [⟨0, 8, .ro, .plain, 100, false⟩, ⟨8, 4, .ro, .plain, 0, false⟩]⟩
  , ⟨0x00000408, [], false, [⟨0, 16, .w1c, .plain, 0, false⟩]⟩
  , ⟨0x00000440, [(0x4, 16)], false, [⟨0, 8, .ro, .plain, 100, false⟩, ⟨8, 8, .ro, .plain, 100, false⟩, ⟨16, 8, .ro, .plain, 0, true⟩]⟩
  , ⟨0x00000480, [(0x4, 8)], false, [⟨0, 13, .ro, .plain, 0, false⟩, ⟨16, 13, .ro, .plain, 0, false⟩, ⟨31, 1, .ro, .plain, 0, false⟩]⟩
  , ⟨0x000004A0, [(0x4, 8)], false, [⟨0, 32, .ro, .plain, 0, false⟩]⟩
  , ⟨0x000004C0, [(0x4, 8)], false, [⟨0, 32, .ro, .plain, 0, false⟩]⟩
  , ⟨0x000004E0, [], false, [⟨0, 8, .wo, .own, 0, false⟩]⟩ ]

def regRowsGlbB : List RegRow :=
  [ ⟨0x00000600, [], false, [⟨0, 1, .ro, .plain, 0, false⟩, ⟨1, 1, .ro, .plain, 0, false⟩, ⟨2, 1, .ro, .plain, 0, false⟩, ⟨3, 1, .ro, .plain, 0, false⟩, ⟨4, 4, .ro, .plain, 0, false⟩, ⟨8, 1, .ro, .plain, 0, false⟩]⟩
  , ⟨0x00000604, [], false, [⟨0, 1, .w1c, .plain, 0, false⟩, ⟨1, 1, .w1c, .plain, 0, false⟩, ⟨2, 1, .w1c, .plain, 0, false⟩, ⟨3, 1, .w1c, .plain, 0, false⟩, ⟨4, 1, .w1c, .plain, 0, false⟩, ⟨5, 1, .w1c, .plain, 0, false⟩, ⟨6, 1, .w1c, .plain, 0, false⟩]⟩
  , ⟨0x00000608, [], false, [⟨0, 7, .rw, .plain, 127, false⟩]⟩
  , ⟨0x0000060C, [], false, [⟨0, 4, .ro, .plain, 0, false⟩, ⟨4, 2, .ro, .plain, 0, false⟩, ⟨6, 1, .ro, .plain, 0, false⟩]⟩
  , ⟨0x00000610, [], false, [⟨0, 12, .ro, .plain, 0, false⟩]⟩
  , ⟨0x00000614, [], false, [⟨0, 32, .ro, .plain, 0, false⟩]⟩
  , ⟨0x00000640, [(0x4, 16)], false, [⟨0, 16, .ro, .plain, 0, false⟩, ⟨16, 16, .ro, .plain, 0, false⟩]⟩
  , ⟨0x00000680, [], false, [⟨0, 1, .ro, .plain, 0, false⟩, ⟨1, 1, .ro, .plain, 0, false⟩, ⟨2, 1, .ro, .plain, 0, false⟩, ⟨3, 1, .ro, .plain, 0, false⟩]⟩
  , ⟨0x00000684, [], false, [⟨0, 32, .ro, .plain, 0, false⟩]⟩
  , ⟨0x00000688, [], false, [⟨0, 32, .ro, .plain, 0, false⟩]⟩ ]

def regRowsFeA : List RegRow :=
  [ ⟨0x00100000, [(0x40, 8)], false, [⟨0, 2, .rw, .own, 0, true⟩]⟩
  , ⟨0x00100004, [(0x40, 8)], false, [⟨0, 1, .ro, .plain, 0, false⟩, ⟨1, 1, .ro, .plain, 0, false⟩, ⟨2, 1, .ro, .plain, 0, false⟩, ⟨8, 8, .ro, .plain, 0, false⟩, ⟨16, 8, .ro, .plain, 0, false⟩]⟩
  , ⟨0x00100400, [], false, [⟨0, 8, .wo, .own, 0, false⟩]⟩
  , ⟨0x00100404, [], false, [⟨0, 8, .ro, .plain, 0, false⟩, ⟨8, 8, .w1c, .plain, 0, false⟩, ⟨16, 8, .w1c, .plain, 0, false⟩, ⟨24, 8, .w1c, .plain, 0, false⟩]⟩
  , ⟨0x00100408, [], false, [⟨0, 8, .rw, .clamp 1 255, 0, true⟩, ⟨8, 1, .rw, .plain, 0, true⟩]⟩
  , ⟨0x00100500, [(0x10, 4)], false, [⟨0, 8, .rw, .own, 0, true⟩, ⟨8, 2, .rw, .own, 0, true⟩, ⟨10, 1, .rw, .own, 0, true⟩]⟩
  , ⟨0x00100504, [(0x10, 4)], false, [⟨0, 6, .rw, .own, 0, true⟩]⟩
  , ⟨0x00100600, [], false, [⟨0, 1, .wo, .own, 0, false⟩, ⟨1, 1, .wo, .own, 0, false⟩, ⟨8, 8, .rw, .plain, 0, false⟩, ⟨16, 3, .rw, .legal [(0, 4)], 0, false⟩, ⟨20, 4, .rw, .legal [(0, 10)], 4, false⟩, ⟨24, 8, .rw, .plain, 0, false⟩]⟩
  , ⟨0x00100604, [], false, [⟨0, 12, .rw, .plain, 2048, false⟩, ⟨16, 4, .rw, .plain, 15, false⟩]⟩
  , ⟨0x00100608, [], false, [⟨0, 32, .rw, .low 6, 0, true⟩]⟩
  , ⟨0x0010060C, [], false, [⟨0, 1, .ro, .plain, 0, false⟩, ⟨1, 1, .ro, .plain, 0, false⟩, ⟨2, 3, .ro, .plain, 0, false⟩, ⟨16, 16, .ro, .plain, 0, false⟩]⟩
  , ⟨0x00100610, [], false, [⟨0, 12, .ro, .plain, 0, false⟩, ⟨16, 6, .ro, .plain, 0, false⟩, ⟨23, 1, .ro, .plain, 0, false⟩]⟩
  , ⟨0x00100614, [], false, [⟨0, 7, .ro, .plain, 0, false⟩, ⟨16, 9, .ro, .plain, 0, false⟩]⟩
  , ⟨0x00101000, [(0x20, 256)], false, [⟨0, 1, .rw, .own, 0, true⟩, ⟨1, 1, .rw, .own, 0, true⟩, ⟨2, 1, .ro, .plain, 0, false⟩, ⟨4, 4, .rw, .own, 0, true⟩]⟩
  , ⟨0x00101004, [(0x20, 256)], false, [⟨0, 12, .rw, .own, 0, true⟩, ⟨12, 1, .ro, .plain, 0, false⟩, ⟨13, 1, .ro, .plain, 0, false⟩, ⟨14, 1, .w1c, .own, 0, false⟩]⟩
  , ⟨0x00101008, [(0x20, 256)], false, [⟨0, 24, .rw, .own, 0, false⟩]⟩
  , ⟨0x0010100C, [(0x20, 256)], false, [⟨0, 10, .rw, .own, 0, true⟩, ⟨15, 1, .ro, .plain, 0, false⟩, ⟨16, 7, .ro, .plain, 0, false⟩]⟩
  , ⟨0x00101010, [(0x20, 256)], false, [⟨0, 1, .ro, .plain, 0, false⟩, ⟨1, 1, .w1c, .plain, 0, false⟩]⟩ ]

def regRowsPodA : List RegRow :=
  [ ⟨0x00200000, [(0x1000, 8)], false, [⟨0, 2, .rw, .legal [(0, 2)], 0, true⟩, ⟨2, 1, .rw, .own, 0, false⟩, ⟨3, 1, .rw, .plain, 0, true⟩, ⟨4, 2, .rw, .plain, 0, false⟩, ⟨6, 1, .rw, .plain, 1, false⟩, ⟨7, 1, .rw, .plain, 0, false⟩, ⟨8, 1, .rw, .plain, 1, false⟩, ⟨9, 1, .wo, .own, 0, false⟩]⟩
  , ⟨0x00200004, [(0x1000, 8)], false, [⟨0, 3, .ro, .plain, 0, false⟩, ⟨3, 1, .ro, .plain, 0, false⟩, ⟨4, 1, .ro, .plain, 0, false⟩, ⟨5, 3, .ro, .plain, 0, false⟩]⟩
  , ⟨0x00200008, [(0x1000, 8)], false, [⟨0, 1, .w1c, .plain, 0, false⟩, ⟨1, 1, .w1c, .plain, 0, false⟩, ⟨2, 1, .w1c, .plain, 0, false⟩, ⟨3, 1, .w1c, .plain, 0, false⟩, ⟨4, 1, .w1c, .plain, 0, false⟩, ⟨5, 1, .w1c, .plain, 0, false⟩, ⟨6, 1, .w1c, .plain, 0, false⟩]⟩
  , ⟨0x0020000C, [(0x1000, 8)], false, [⟨0, 7, .rw, .plain, 63, false⟩]⟩
  , ⟨0x00200010, [(0x1000, 8)], false, [⟨0, 8, .rw, .clamp 1 160, 0, true⟩, ⟨8, 4, .rw, .plain, 0, true⟩]⟩
  , ⟨0x00200014, [(0x1000, 8)], false, [⟨0, 12, .ro, .plain, 0, false⟩, ⟨16, 12, .ro, .plain, 0, false⟩]⟩
  , ⟨0x00200020, [(0x1000, 8)], false, [⟨0, 7, .rw, .plain, 0, false⟩, ⟨7, 1, .rw, .plain, 0, false⟩, ⟨8, 3, .rw, .legal [(1, 4)], 1, false⟩, ⟨15, 1, .wo, .own, 0, false⟩, ⟨16, 1, .ro, .plain, 0, false⟩, ⟨17, 1, .w1c, .plain, 0, false⟩]⟩
  , ⟨0x00200024, [(0x1000, 8)], false, [⟨0, 32, .rw, .plain, 0, false⟩]⟩
  , ⟨0x00200800, [(0x1000, 8), (0x4, 64)], false, [⟨0, 32, .ro, .plain, 0, false⟩]⟩ ]

def regRowsClkA : List RegRow :=
  [ ⟨0x00300000, [], false, [⟨0, 1, .w1s, .plain, 0, false⟩]⟩
  , ⟨0x00300004, [], false, [⟨0, 18, .rwl, .plain, 0, true⟩]⟩
  , ⟨0x00300008, [], false, [⟨0, 1, .ro, .plain, 0, false⟩, ⟨1, 4, .ro, .plain, 0, false⟩, ⟨8, 8, .ro, .plain, 0, false⟩]⟩
  , ⟨0x0030000C, [], false, [⟨0, 8, .w1c, .plain, 0, false⟩, ⟨8, 8, .w1c, .plain, 0, false⟩, ⟨16, 1, .w1c, .plain, 0, false⟩, ⟨17, 1, .w1c, .plain, 0, false⟩, ⟨18, 4, .w1c, .plain, 0, false⟩, ⟨22, 1, .w1c, .plain, 0, false⟩]⟩
  , ⟨0x00300010, [], false, [⟨0, 23, .rw, .plain, 8388607, false⟩]⟩
  , ⟨0x00300014, [], false, [⟨0, 8, .wo, .own, 0, false⟩, ⟨8, 8, .wo, .own, 0, false⟩]⟩
  , ⟨0x00300018, [], false, [⟨0, 1, .rw, .own, 0, true⟩, ⟨1, 3, .rw, .own, 0, true⟩, ⟨4, 4, .rw, .own, 3, false⟩, ⟨8, 1, .ro, .plain, 0, false⟩, ⟨16, 8, .ro, .plain, 0, false⟩]⟩
  , ⟨0x00300100, [(0x40, 8)], false, [⟨0, 2, .rw, .legal [(0, 2)], 0, true⟩, ⟨2, 5, .rw, .legal [(1, 31)], 0, true⟩, ⟨8, 12, .rw, .plain, 0, true⟩, ⟨20, 3, .rw, .plain, 0, true⟩, ⟨24, 3, .rw, .plain, 0, true⟩, ⟨27, 1, .rw, .plain, 1, false⟩]⟩
  , ⟨0x00300104, [(0x40, 8)], false, [⟨0, 24, .rw, .plain, 0, true⟩]⟩
  , ⟨0x00300108, [(0x40, 8)], false, [⟨0, 16, .rwl, .plain, 0, true⟩]⟩
  , ⟨0x0030010C, [(0x40, 8)], false, [⟨0, 4, .rw, .legal [(0, 10)], 6, false⟩, ⟨4, 4, .rw, .plain, 1, false⟩, ⟨8, 3, .rw, .plain, 3, false⟩, ⟨11, 2, .rw, .plain, 0, false⟩]⟩
  , ⟨0x00300110, [(0x40, 8)], false, [⟨0, 3, .ro, .plain, 0, false⟩, ⟨3, 1, .ro, .plain, 0, false⟩, ⟨4, 1, .ro, .plain, 1, false⟩, ⟨5, 1, .ro, .plain, 0, false⟩, ⟨8, 8, .ro, .plain, 0, false⟩]⟩
  , ⟨0x00300114, [(0x40, 8)], false, [⟨0, 24, .ro, .plain, 0, false⟩]⟩
  , ⟨0x00300118, [(0x40, 8)], false, [⟨0, 32, .ro, .plain, 0, false⟩]⟩
  , ⟨0x0030011C, [(0x40, 8)], false, [⟨0, 32, .ro, .plain, 0, false⟩]⟩
  , ⟨0x00300120, [(0x40, 8)], false, [⟨0, 24, .rw, .plain, 0, true⟩]⟩
  , ⟨0x00301000, [(0x400, 4)], false, [⟨0, 1, .rw, .plain, 0, true⟩, ⟨1, 1, .rw, .plain, 0, true⟩, ⟨2, 6, .rw, .plain, 0, true⟩]⟩
  , ⟨0x00301004, [(0x400, 4)], false, [⟨0, 1, .ro, .plain, 0, false⟩, ⟨8, 8, .ro, .plain, 0, false⟩, ⟨16, 6, .ro, .plain, 0, false⟩]⟩
  , ⟨0x00301100, [(0x400, 4), (0x4, 64)], false, [⟨0, 16, .rw, .own, 0, true⟩, ⟨16, 16, .rw, .own, 0, true⟩]⟩
  , ⟨0x00302000, [(0x20, 4)], false, [⟨0, 1, .rw, .own, 0, true⟩, ⟨1, 3, .rw, .own, 0, true⟩, ⟨4, 3, .rw, .own, 0, true⟩, ⟨7, 2, .rw, .own, 0, true⟩, ⟨10, 11, .rw, .own, 0, true⟩, ⟨21, 3, .rw, .own, 0, true⟩, ⟨24, 2, .rw, .own, 0, true⟩]⟩
  , ⟨0x00302004, [(0x20, 4)], false, [⟨0, 1, .ro, .plain, 0, false⟩, ⟨1, 1, .ro, .plain, 0, false⟩, ⟨2, 1, .w1c, .plain, 0, false⟩, ⟨8, 24, .ro, .plain, 0, false⟩]⟩ ]

def regRowsTimeA : List RegRow :=
  [ ⟨0x00400000, [], false, [⟨0, 1, .w1s, .plain, 0, false⟩]⟩
  , ⟨0x00400004, [], false, [⟨0, 3, .wo, .own, 0, false⟩, ⟨3, 1, .wo, .own, 0, false⟩, ⟨4, 1, .ro, .own, 0, false⟩]⟩
  , ⟨0x00400008, [], false, [⟨0, 32, .rw, .plain, 0, false⟩]⟩
  , ⟨0x0040000C, [], false, [⟨0, 32, .rw, .plain, 0, false⟩]⟩
  , ⟨0x00400010, [], false, [⟨0, 32, .rw, .plain, 0, false⟩]⟩
  , ⟨0x00400014, [], false, [⟨0, 16, .rw, .plain, 0, false⟩]⟩
  , ⟨0x00400018, [], false, [⟨0, 32, .rw, .plain, 0, false⟩]⟩
  , ⟨0x0040001C, [], false, [⟨0, 2, .rw, .plain, 0, false⟩]⟩
  , ⟨0x00400020, [], false, [⟨0, 32, .ro, .plain, 0, false⟩]⟩
  , ⟨0x00400024, [], false, [⟨0, 32, .ro, .plain, 0, false⟩]⟩
  , ⟨0x00400028, [], false, [⟨0, 32, .ro, .plain, 0, false⟩]⟩
  , ⟨0x0040002C, [], false, [⟨0, 16, .ro, .plain, 0, false⟩]⟩
  , ⟨0x00400030, [], false, [⟨0, 32, .ro, .plain, 0, false⟩]⟩
  , ⟨0x00400034, [], false, [⟨0, 2, .ro, .plain, 0, false⟩]⟩
  , ⟨0x00400038, [], false, [⟨0, 16, .ro, .plain, 0, false⟩]⟩
  , ⟨0x00400040, [], false, [⟨0, 22, .rw, .own, 0, false⟩]⟩
  , ⟨0x00400044, [], false, [⟨0, 2, .rwl, .own, 0, true⟩, ⟨4, 4, .rw, .legal [(0, 12)], 4, false⟩, ⟨8, 1, .rw, .plain, 1, false⟩, ⟨9, 1, .rw, .plain, 0, false⟩]⟩
  , ⟨0x00400048, [], false, [⟨0, 16, .rw, .plain, 10000, false⟩]⟩
  , ⟨0x0040004C, [], false, [⟨0, 24, .rw, .plain, 0, false⟩]⟩
  , ⟨0x00400050, [], false, [⟨0, 2, .ro, .plain, 0, false⟩, ⟨4, 3, .ro, .plain, 5, false⟩, ⟨8, 8, .ro, .plain, 0, false⟩]⟩
  , ⟨0x00400054, [], false, [⟨0, 32, .ro, .plain, 0, false⟩]⟩
  , ⟨0x00400058, [], false, [⟨0, 32, .ro, .plain, 0, false⟩]⟩
  , ⟨0x0040005C, [], false, [⟨0, 32, .ro, .plain, 0, false⟩]⟩
  , ⟨0x00400060, [], false, [⟨0, 16, .rw, .plain, 100, false⟩, ⟨16, 16, .rw, .plain, 1000, false⟩]⟩ ]

def regRowsTimeB : List RegRow :=
  [ ⟨0x00400064, [], false, [⟨0, 32, .ro, .plain, 0, false⟩]⟩
  , ⟨0x00400068, [], false, [⟨0, 32, .ro, .plain, 0, false⟩]⟩
  , ⟨0x00400070, [], false, [⟨0, 1, .w1c, .plain, 0, false⟩, ⟨1, 1, .w1c, .plain, 0, false⟩, ⟨2, 1, .w1c, .plain, 0, false⟩, ⟨3, 1, .w1c, .plain, 0, false⟩, ⟨4, 1, .w1c, .plain, 0, false⟩, ⟨5, 1, .w1c, .plain, 0, false⟩, ⟨6, 1, .w1c, .plain, 0, false⟩, ⟨7, 1, .w1c, .plain, 0, false⟩, ⟨8, 1, .w1c, .plain, 0, false⟩, ⟨9, 1, .w1c, .plain, 0, false⟩, ⟨10, 1, .w1c, .plain, 0, false⟩, ⟨11, 1, .w1c, .plain, 0, false⟩, ⟨12, 1, .w1c, .plain, 0, false⟩, ⟨13, 1, .w1c, .plain, 0, false⟩]⟩
  , ⟨0x00400074, [], false, [⟨0, 14, .rw, .plain, 16379, false⟩]⟩
  , ⟨0x00400080, [], false, [⟨0, 1, .rw, .plain, 0, true⟩, ⟨1, 1, .rw, .plain, 0, true⟩, ⟨2, 3, .rw, .plain, 0, true⟩, ⟨8, 9, .rw, .clamp 1 500, 0, true⟩]⟩
  , ⟨0x00400084, [], false, [⟨0, 32, .rw, .plain, 0, false⟩]⟩
  , ⟨0x00400088, [], false, [⟨0, 1, .rw, .plain, 0, true⟩, ⟨2, 3, .rw, .plain, 0, true⟩]⟩
  , ⟨0x0040008C, [], false, [⟨0, 1, .rw, .plain, 0, true⟩, ⟨1, 1, .rw, .plain, 0, true⟩, ⟨2, 3, .rw, .plain, 0, true⟩]⟩
  , ⟨0x00400090, [], false, [⟨0, 32, .rw, .plain, 0, false⟩]⟩
  , ⟨0x00400094, [], false, [⟨0, 32, .rw, .plain, 0, false⟩]⟩
  , ⟨0x00400098, [], false, [⟨0, 1, .rw, .plain, 0, false⟩, ⟨1, 1, .rw, .plain, 0, false⟩]⟩
  , ⟨0x00400100, [], false, [⟨0, 2, .rwl, .legal [(0, 2)], 0, true⟩, ⟨2, 1, .rw, .plain, 0, true⟩]⟩
  , ⟨0x00400104, [], false, [⟨0, 2, .ro, .plain, 0, false⟩, ⟨2, 2, .ro, .plain, 0, false⟩, ⟨4, 4, .ro, .plain, 0, false⟩, ⟨8, 4, .ro, .plain, 0, false⟩, ⟨12, 1, .ro, .plain, 0, false⟩, ⟨16, 3, .ro, .plain, 5, false⟩]⟩
  , ⟨0x00400108, [], false, [⟨0, 32, .ro, .plain, 0, false⟩]⟩
  , ⟨0x0040010C, [], false, [⟨0, 32, .ro, .plain, 0, false⟩]⟩
  , ⟨0x00400110, [], false, [⟨0, 1, .wo, .own, 0, false⟩, ⟨1, 1, .wo, .own, 0, false⟩, ⟨2, 1, .wo, .own, 0, false⟩]⟩
  , ⟨0x00400114, [], false, [⟨0, 32, .rw, .plain, 0, false⟩]⟩
  , ⟨0x00400118, [], false, [⟨0, 32, .rw, .plain, 0, false⟩]⟩
  , ⟨0x0040011C, [], false, [⟨0, 2, .rw, .legal [(1, 2)], 0, false⟩, ⟨4, 4, .rw, .plain, 0, false⟩, ⟨16, 16, .rw, .plain, 0, false⟩]⟩
  , ⟨0x00400120, [], false, [⟨0, 16, .ro, .plain, 0, false⟩, ⟨16, 8, .ro, .plain, 0, false⟩]⟩ ]

def regRowsTrigA : List RegRow :=
  [ ⟨0x00500000, [(0x80000, 4)], false, [⟨0, 1, .ro, .plain, 0, true⟩, ⟨1, 2, .ro, .plain, 0, true⟩]⟩
  , ⟨0x00500004, [(0x80000, 4)], false, [⟨0, 8, .wo, .own, 0, false⟩, ⟨8, 1, .wo, .own, 0, false⟩]⟩
  , ⟨0x00500008, [(0x80000, 4)], false, [⟨0, 1, .ro, .plain, 0, false⟩, ⟨1, 1, .w1c, .plain, 0, false⟩, ⟨2, 1, .w1c, .plain, 0, false⟩, ⟨3, 1, .ro, .plain, 0, false⟩, ⟨8, 8, .ro, .plain, 0, false⟩, ⟨16, 3, .ro, .plain, 0, false⟩]⟩
  , ⟨0x00500010, [(0x80000, 4)], false, [⟨0, 32, .ro, .plain, 0, false⟩]⟩
  , ⟨0x00500014, [(0x80000, 4)], false, [⟨0, 32, .ro, .plain, 0, false⟩]⟩
  , ⟨0x00500200, [(0x4, 6)], true, [⟨0, 32, .ro, .plain, 4294967295, false⟩]⟩
  , ⟨0x00500218, [], true, [⟨0, 16, .ro, .plain, 65535, false⟩]⟩
  , ⟨0x00501000, [(0x4, 208)], true, [⟨0, 3, .ro, .plain, 0, true⟩]⟩
  , ⟨0x00502000, [(0x80, 32)], true, [⟨0, 7, .ro, .plain, 0, true⟩]⟩
  , ⟨0x00502040, [(0x80, 32), (0x4, 16)], true, [⟨0, 32, .ro, .plain, 0, true⟩]⟩
  , ⟨0x00510000, [(0x20, 64)], true, [⟨0, 5, .rw, .plain, 0, true⟩, ⟨5, 1, .rw, .plain, 0, true⟩, ⟨6, 1, .rw, .plain, 0, true⟩]⟩
  , ⟨0x00510004, [(0x20, 64)], true, [⟨0, 32, .rw, .plain, 0, true⟩]⟩
  , ⟨0x00510008, [(0x20, 64)], true, [⟨0, 32, .rw, .plain, 0, true⟩]⟩
  , ⟨0x0051000C, [(0x20, 64)], true, [⟨0, 32, .rw, .plain, 0, true⟩]⟩
  , ⟨0x00510010, [(0x20, 64)], true, [⟨0, 32, .rw, .plain, 0, true⟩]⟩
  , ⟨0x00510014, [(0x20, 64)], true, [⟨0, 32, .ro, .plain, 0, false⟩]⟩
  , ⟨0x00510018, [(0x20, 64)], true, [⟨0, 32, .ro, .plain, 0, false⟩]⟩
  , ⟨0x00511000, [(0x20, 64)], true, [⟨0, 8, .rw, .plain, 0, true⟩, ⟨8, 3, .rw, .plain, 0, true⟩, ⟨11, 1, .rw, .plain, 0, true⟩]⟩
  , ⟨0x00511004, [(0x20, 64)], true, [⟨0, 32, .rw, .plain, 0, true⟩]⟩
  , ⟨0x00511008, [(0x20, 64)], true, [⟨0, 16, .rw, .plain, 0, true⟩]⟩
  , ⟨0x0051100C, [(0x20, 64)], true, [⟨0, 32, .rw, .plain, 0, true⟩]⟩
  , ⟨0x00511010, [(0x20, 64)], true, [⟨0, 16, .rw, .plain, 0, true⟩]⟩
  , ⟨0x00511014, [(0x20, 64)], true, [⟨0, 32, .ro, .plain, 0, false⟩]⟩
  , ⟨0x00511018, [(0x20, 64)], true, [⟨0, 32, .ro, .plain, 0, false⟩]⟩ ]

def regRowsTrigB : List RegRow :=
  [ ⟨0x0051101C, [(0x20, 64)], true, [⟨0, 1, .w1c, .plain, 0, false⟩, ⟨1, 1, .w1c, .plain, 0, false⟩]⟩
  , ⟨0x00512000, [(0x20, 16)], true, [⟨0, 5, .rw, .plain, 0, true⟩, ⟨5, 1, .rw, .plain, 0, true⟩, ⟨6, 2, .rw, .plain, 0, true⟩, ⟨8, 1, .rw, .plain, 0, true⟩]⟩
  , ⟨0x00512004, [(0x20, 16)], true, [⟨0, 32, .rw, .plain, 0, true⟩]⟩
  , ⟨0x00512008, [(0x20, 16)], true, [⟨0, 32, .rw, .plain, 0, true⟩]⟩
  , ⟨0x0051200C, [(0x20, 16)], true, [⟨0, 32, .rw, .plain, 0, true⟩]⟩
  , ⟨0x00512010, [(0x20, 16)], true, [⟨0, 32, .rw, .plain, 0, true⟩]⟩
  , ⟨0x00512014, [(0x20, 16)], true, [⟨0, 32, .ro, .plain, 0, false⟩]⟩
  , ⟨0x00512018, [(0x20, 16)], true, [⟨0, 32, .ro, .plain, 0, false⟩]⟩
  , ⟨0x00513000, [(0x40, 32)], true, [⟨0, 8, .rw, .plain, 0, true⟩, ⟨8, 1, .rw, .plain, 0, true⟩, ⟨9, 2, .rw, .legal [(0, 2)], 0, true⟩, ⟨11, 1, .rw, .plain, 0, true⟩]⟩
  , ⟨0x00513004, [(0x40, 32)], true, [⟨0, 32, .rw, .plain, 0, true⟩]⟩
  , ⟨0x00513008, [(0x40, 32)], true, [⟨0, 16, .rw, .plain, 0, true⟩]⟩
  , ⟨0x0051300C, [(0x40, 32)], true, [⟨0, 32, .rw, .plain, 0, true⟩]⟩
  , ⟨0x00513010, [(0x40, 32)], true, [⟨0, 16, .rw, .plain, 0, true⟩]⟩
  , ⟨0x00513014, [(0x40, 32)], true, [⟨0, 32, .ro, .plain, 0, false⟩]⟩
  , ⟨0x00513018, [(0x40, 32)], true, [⟨0, 16, .ro, .plain, 0, false⟩]⟩
  , ⟨0x0051301C, [(0x40, 32)], true, [⟨0, 32, .ro, .plain, 0, false⟩]⟩
  , ⟨0x00513020, [(0x40, 32)], true, [⟨0, 32, .ro, .plain, 0, false⟩]⟩
  , ⟨0x00513024, [(0x40, 32)], true, [⟨0, 1, .ro, .plain, 0, false⟩, ⟨1, 1, .ro, .plain, 0, false⟩, ⟨2, 1, .w1c, .plain, 0, false⟩]⟩
  , ⟨0x00514000, [(0x40, 16)], true, [⟨0, 1, .rw, .plain, 0, true⟩, ⟨1, 2, .rw, .legal [(0, 2)], 0, true⟩, ⟨3, 1, .rw, .plain, 0, true⟩]⟩
  , ⟨0x00514004, [(0x40, 16)], true, [⟨0, 32, .rw, .plain, 0, true⟩]⟩
  , ⟨0x00514008, [(0x40, 16)], true, [⟨0, 16, .rw, .plain, 0, true⟩]⟩
  , ⟨0x0051400C, [(0x40, 16)], true, [⟨0, 32, .rw, .plain, 0, true⟩]⟩
  , ⟨0x00514010, [(0x40, 16)], true, [⟨0, 16, .rw, .plain, 0, true⟩]⟩
  , ⟨0x00514014, [(0x40, 16)], true, [⟨0, 32, .ro, .plain, 0, false⟩]⟩ ]

def regRowsTrigC : List RegRow :=
  [ ⟨0x00514018, [(0x40, 16)], true, [⟨0, 16, .ro, .plain, 0, false⟩]⟩
  , ⟨0x0051401C, [(0x40, 16)], true, [⟨0, 32, .ro, .plain, 0, false⟩]⟩
  , ⟨0x00514020, [(0x40, 16)], true, [⟨0, 32, .ro, .plain, 0, false⟩]⟩
  , ⟨0x00514024, [(0x40, 16)], true, [⟨0, 1, .ro, .plain, 0, false⟩, ⟨1, 1, .ro, .plain, 0, false⟩, ⟨2, 1, .w1c, .plain, 0, false⟩]⟩
  , ⟨0x00515000, [], true, [⟨0, 16, .ro, .plain, 0, false⟩]⟩
  , ⟨0x00515004, [], true, [⟨0, 16, .ro, .plain, 0, true⟩]⟩
  , ⟨0x00515100, [(0x8, 16)], true, [⟨0, 32, .ro, .plain, 0, false⟩]⟩
  , ⟨0x00515104, [(0x8, 16)], true, [⟨0, 32, .ro, .plain, 0, false⟩]⟩
  , ⟨0x00516000, [(0x80000, 4), (0x10, 16)], false, [⟨0, 8, .rw, .plain, 0, true⟩, ⟨8, 1, .rw, .plain, 0, true⟩, ⟨9, 1, .rw, .plain, 0, true⟩]⟩
  , ⟨0x00516004, [(0x80000, 4), (0x10, 16)], false, [⟨0, 32, .rw, .plain, 0, true⟩]⟩
  , ⟨0x00516008, [(0x80000, 4), (0x10, 16)], false, [⟨0, 16, .rw, .plain, 0, true⟩]⟩
  , ⟨0x00540000, [(0x80000, 4)], false, [⟨0, 1, .rw, .own, 0, true⟩, ⟨1, 1, .rw, .own, 0, true⟩, ⟨2, 1, .rw, .own, 0, true⟩, ⟨16, 16, .rw, .own, 0, true⟩]⟩
  , ⟨0x00540004, [(0x80000, 4)], false, [⟨0, 1, .wo, .own, 0, false⟩, ⟨1, 1, .wo, .own, 0, false⟩, ⟨2, 1, .wo, .own, 0, false⟩]⟩
  , ⟨0x00540008, [(0x80000, 4)], false, [⟨0, 3, .ro, .plain, 0, false⟩, ⟨3, 1, .ro, .plain, 0, false⟩, ⟨4, 4, .ro, .plain, 0, false⟩, ⟨8, 1, .ro, .plain, 0, false⟩, ⟨9, 1, .ro, .plain, 0, false⟩, ⟨10, 1, .ro, .plain, 0, false⟩, ⟨11, 1, .ro, .plain, 0, false⟩]⟩
  , ⟨0x0054000C, [(0x80000, 4)], false, [⟨0, 1, .w1c, .plain, 0, false⟩, ⟨1, 1, .w1c, .plain, 0, false⟩, ⟨2, 1, .w1c, .plain, 0, false⟩, ⟨3, 1, .w1c, .plain, 0, false⟩, ⟨4, 1, .w1c, .plain, 0, false⟩, ⟨5, 1, .w1c, .plain, 0, false⟩, ⟨6, 1, .w1c, .plain, 0, false⟩, ⟨7, 1, .w1c, .plain, 0, false⟩, ⟨8, 1, .w1c, .plain, 0, false⟩]⟩
  , ⟨0x00540010, [(0x80000, 4)], false, [⟨0, 9, .rw, .plain, 511, false⟩]⟩
  , ⟨0x00540014, [(0x80000, 4)], false, [⟨0, 4, .ro, .plain, 0, false⟩, ⟨4, 2, .ro, .plain, 0, false⟩, ⟨8, 3, .ro, .plain, 0, false⟩]⟩
  , ⟨0x00540020, [(0x80000, 4)], false, [⟨0, 32, .rw, .plain, 0, true⟩]⟩
  , ⟨0x00540024, [(0x80000, 4)], false, [⟨0, 16, .rw, .plain, 0, true⟩]⟩
  , ⟨0x00540028, [(0x80000, 4)], false, [⟨0, 32, .rw, .plain, 0, true⟩]⟩
  , ⟨0x0054002C, [(0x80000, 4)], false, [⟨0, 16, .rw, .plain, 0, true⟩]⟩
  , ⟨0x00540030, [(0x80000, 4)], false, [⟨0, 32, .rw, .plain, 0, true⟩]⟩
  , ⟨0x00540034, [(0x80000, 4)], false, [⟨0, 16, .rw, .plain, 0, true⟩]⟩
  , ⟨0x00540038, [(0x80000, 4)], false, [⟨0, 24, .rw, .plain, 102400, false⟩]⟩ ]

def regRowsTrigD : List RegRow :=
  [ ⟨0x00540040, [(0x80000, 4)], false, [⟨0, 32, .ro, .plain, 0, false⟩]⟩
  , ⟨0x00540044, [(0x80000, 4)], false, [⟨0, 32, .ro, .plain, 0, false⟩]⟩
  , ⟨0x00540048, [(0x80000, 4)], false, [⟨0, 32, .ro, .plain, 0, false⟩]⟩
  , ⟨0x0054004C, [(0x80000, 4)], false, [⟨0, 32, .ro, .plain, 0, false⟩]⟩
  , ⟨0x00540050, [(0x80000, 4)], false, [⟨0, 32, .ro, .plain, 0, false⟩]⟩
  , ⟨0x00540054, [(0x80000, 4)], false, [⟨0, 32, .ro, .plain, 0, false⟩]⟩
  , ⟨0x00540058, [(0x80000, 4)], false, [⟨0, 32, .ro, .plain, 0, false⟩]⟩
  , ⟨0x0054005C, [(0x80000, 4)], false, [⟨0, 32, .ro, .plain, 0, false⟩]⟩
  , ⟨0x00540100, [(0x80000, 4)], false, [⟨0, 1, .ro, .plain, 0, false⟩, ⟨1, 1, .ro, .plain, 0, false⟩, ⟨2, 1, .ro, .plain, 0, false⟩, ⟨3, 1, .ro, .plain, 0, false⟩, ⟨4, 1, .ro, .plain, 0, false⟩, ⟨5, 1, .ro, .plain, 0, false⟩, ⟨8, 4, .ro, .plain, 0, false⟩, ⟨12, 2, .ro, .plain, 0, false⟩, ⟨16, 16, .ro, .plain, 0, false⟩]⟩
  , ⟨0x00540104, [(0x80000, 4)], false, [⟨0, 32, .ro, .plain, 0, false⟩]⟩
  , ⟨0x00540108, [(0x80000, 4)], false, [⟨0, 32, .ro, .plain, 0, false⟩]⟩
  , ⟨0x0054010C, [(0x80000, 4)], false, [⟨0, 32, .ro, .plain, 0, false⟩]⟩
  , ⟨0x00540110, [(0x80000, 4)], false, [⟨0, 32, .ro, .plain, 0, false⟩]⟩
  , ⟨0x00540114, [(0x80000, 4)], false, [⟨0, 32, .ro, .plain, 0, false⟩]⟩
  , ⟨0x00540118, [(0x80000, 4)], false, [⟨0, 32, .ro, .plain, 0, false⟩]⟩
  , ⟨0x00540200, [(0x80000, 4)], false, [⟨0, 29, .ro, .plain, 0, true⟩]⟩
  , ⟨0x00540204, [(0x80000, 4)], false, [⟨0, 5, .ro, .plain, 0, true⟩]⟩
  , ⟨0x00540208, [(0x80000, 4)], false, [⟨0, 32, .ro, .plain, 0, false⟩]⟩
  , ⟨0x0054020C, [(0x80000, 4)], false, [⟨0, 32, .rw, .plain, 0, false⟩]⟩
  , ⟨0x00540210, [(0x80000, 4)], false, [⟨0, 1, .rw, .plain, 0, true⟩]⟩
  , ⟨0x00540214, [(0x80000, 4)], false, [⟨0, 32, .ro, .plain, 0, false⟩]⟩
  , ⟨0x00541000, [(0x80000, 4), (0x100, 16), (0x20, 4)], false, [⟨0, 8, .rw, .plain, 0, true⟩, ⟨8, 8, .rw, .plain, 0, true⟩, ⟨16, 8, .rw, .plain, 0, true⟩, ⟨24, 8, .rw, .plain, 0, true⟩]⟩
  , ⟨0x00541004, [(0x80000, 4), (0x100, 16), (0x20, 4)], false, [⟨0, 16, .rw, .plain, 0, true⟩, ⟨16, 4, .rw, .plain, 0, true⟩]⟩
  , ⟨0x00541008, [(0x80000, 4), (0x100, 16), (0x20, 4)], false, [⟨0, 1, .rw, .plain, 0, true⟩, ⟨1, 1, .rw, .plain, 0, true⟩, ⟨2, 1, .rw, .plain, 0, true⟩, ⟨3, 1, .rw, .plain, 0, true⟩, ⟨4, 1, .rw, .plain, 0, true⟩, ⟨5, 1, .rw, .plain, 0, true⟩, ⟨6, 1, .rw, .plain, 0, true⟩, ⟨8, 3, .rw, .plain, 0, true⟩, ⟨16, 16, .rw, .plain, 0, true⟩]⟩ ]

def regRowsTrigE : List RegRow :=
  [ ⟨0x0054100C, [(0x80000, 4), (0x100, 16), (0x20, 4)], false, [⟨0, 8, .rw, .plain, 0, true⟩, ⟨8, 3, .rw, .legal [(0, 6)], 0, true⟩, ⟨16, 8, .rw, .plain, 0, true⟩, ⟨24, 3, .rw, .legal [(0, 6)], 0, true⟩]⟩
  , ⟨0x00541010, [(0x80000, 4), (0x100, 16), (0x20, 4)], false, [⟨0, 32, .ro, .plain, 0, false⟩]⟩
  , ⟨0x00560000, [], true, [⟨0, 1, .wo, .own, 0, false⟩, ⟨1, 1, .wo, .own, 0, false⟩, ⟨4, 4, .rw, .plain, 0, false⟩, ⟨8, 4, .rw, .plain, 0, false⟩, ⟨12, 1, .rw, .plain, 0, false⟩]⟩
  , ⟨0x00560004, [], true, [⟨0, 1, .ro, .plain, 0, false⟩, ⟨1, 1, .ro, .plain, 0, false⟩, ⟨2, 3, .ro, .plain, 0, false⟩, ⟨16, 16, .ro, .plain, 0, false⟩]⟩
  , ⟨0x00560008, [], true, [⟨0, 32, .rw, .plain, 0, false⟩]⟩
  , ⟨0x0056000C, [], true, [⟨0, 32, .rw, .plain, 0, false⟩]⟩
  , ⟨0x00560010, [], true, [⟨0, 32, .rw, .plain, 0, false⟩]⟩
  , ⟨0x00560014, [], true, [⟨0, 32, .rw, .plain, 0, false⟩]⟩
  , ⟨0x00560018, [], true, [⟨0, 32, .ro, .plain, 0, false⟩]⟩
  , ⟨0x0056001C, [], true, [⟨0, 32, .ro, .plain, 0, false⟩]⟩
  , ⟨0x00560020, [], true, [⟨0, 32, .ro, .plain, 0, false⟩]⟩
  , ⟨0x00560024, [], true, [⟨0, 32, .rw, .low 5, 0, true⟩]⟩
  , ⟨0x00560028, [], true, [⟨0, 16, .rw, .plain, 0, true⟩]⟩
  , ⟨0x0056002C, [], true, [⟨0, 32, .ro, .plain, 0, false⟩]⟩
  , ⟨0x00560030, [], true, [⟨0, 32, .ro, .plain, 0, false⟩]⟩ ]

def regRowsAccA : List RegRow :=
  [ ⟨0x00700000, [], false, [⟨0, 4, .rw, .plain, 0, false⟩, ⟨4, 1, .wo, .own, 0, false⟩]⟩
  , ⟨0x00700004, [], false, [⟨0, 1, .ro, .plain, 0, false⟩, ⟨1, 1, .w1c, .plain, 0, false⟩]⟩
  , ⟨0x00701000, [(0x40, 16)], false, [⟨0, 2, .ro, .plain, 0, true⟩, ⟨2, 2, .ro, .plain, 0, true⟩, ⟨4, 1, .rw, .own, 0, true⟩]⟩
  , ⟨0x00701004, [(0x40, 16)], false, [⟨0, 29, .ro, .plain, 0, true⟩]⟩
  , ⟨0x00701008, [(0x40, 16)], false, [⟨0, 30, .ro, .plain, 0, true⟩]⟩
  , ⟨0x00701010, [(0x40, 16)], false, [⟨0, 30, .ro, .plain, 0, false⟩]⟩
  , ⟨0x00701014, [(0x40, 16)], false, [⟨0, 8, .ro, .plain, 0, false⟩, ⟨8, 24, .ro, .plain, 0, false⟩]⟩
  , ⟨0x00701018, [(0x40, 16)], false, [⟨0, 32, .ro, .plain, 0, false⟩]⟩
  , ⟨0x0070101C, [(0x40, 16)], false, [⟨0, 32, .ro, .plain, 0, false⟩]⟩
  , ⟨0x00701020, [(0x40, 16), (0x4, 8)], false, [⟨0, 32, .ro, .plain, 0, true⟩]⟩
  , ⟨0x00702000, [(0x10, 16)], false, [⟨0, 1, .w1c, .plain, 0, false⟩, ⟨1, 1, .w1c, .plain, 0, false⟩, ⟨2, 1, .w1c, .plain, 0, false⟩, ⟨3, 1, .w1c, .plain, 0, false⟩, ⟨4, 1, .w1c, .plain, 0, false⟩, ⟨5, 1, .w1c, .plain, 0, false⟩, ⟨16, 1, .ro, .plain, 0, false⟩, ⟨17, 1, .ro, .plain, 0, false⟩, ⟨18, 1, .ro, .plain, 0, false⟩]⟩
  , ⟨0x00702004, [(0x10, 16)], false, [⟨0, 6, .rw, .plain, 62, false⟩]⟩
  , ⟨0x00702008, [(0x10, 16)], false, [⟨0, 32, .ro, .plain, 0, false⟩]⟩
  , ⟨0x0070200C, [(0x10, 16)], false, [⟨0, 30, .ro, .plain, 0, false⟩]⟩
  , ⟨0x00708000, [(0x10, 16)], false, [⟨0, 1, .rw, .own, 0, true⟩, ⟨1, 1, .rw, .own, 0, true⟩, ⟨4, 4, .rw, .own, 0, true⟩]⟩
  , ⟨0x00708004, [(0x10, 16)], false, [⟨0, 22, .rw, .clamp 0 3600000, 0, true⟩]⟩
  , ⟨0x00708008, [(0x10, 16)], false, [⟨0, 22, .rw, .clamp 0 3600000, 0, true⟩]⟩
  , ⟨0x0070800C, [(0x10, 16)], false, [⟨0, 24, .rw, .clamp 1 14400000, 0, true⟩]⟩
  , ⟨0x00708100, [(0x4, 16)], false, [⟨0, 32, .ro, .plain, 0, false⟩]⟩
  , ⟨0x00708140, [(0x4, 16)], false, [⟨0, 32, .ro, .plain, 0, false⟩]⟩
  , ⟨0x00708200, [], false, [⟨0, 1, .rw, .plain, 0, false⟩, ⟨1, 1, .rw, .plain, 0, false⟩, ⟨2, 1, .rw, .plain, 0, false⟩, ⟨8, 8, .rw, .plain, 60, false⟩]⟩
  , ⟨0x00708204, [], false, [⟨0, 3, .w1c, .plain, 0, false⟩]⟩ ]

def regRowsCmpA : List RegRow :=
  [ ⟨0x00800000, [], false, [⟨0, 8, .w1c, .plain, 0, false⟩, ⟨8, 4, .w1c, .plain, 0, false⟩, ⟨12, 4, .w1c, .plain, 0, false⟩, ⟨16, 1, .w1c, .plain, 0, false⟩]⟩
  , ⟨0x00800004, [], false, [⟨0, 17, .rw, .plain, 131071, false⟩]⟩
  , ⟨0x00800008, [], false, [⟨0, 32, .ro, .plain, 0, false⟩]⟩
  , ⟨0x0080000C, [], false, [⟨0, 3, .ro, .plain, 0, false⟩, ⟨4, 2, .ro, .plain, 0, false⟩, ⟨6, 2, .ro, .plain, 0, false⟩]⟩
  , ⟨0x00800100, [(0x4, 8)], false, [⟨0, 32, .ro, .plain, 0, true⟩]⟩
  , ⟨0x00800200, [(0x4, 16)], false, [⟨0, 2, .rw, .own, 0, true⟩, ⟨2, 2, .rw, .own, 0, true⟩, ⟨4, 1, .rw, .own, 0, true⟩]⟩
  , ⟨0x00800240, [(0x4, 16)], false, [⟨0, 32, .ro, .plain, 0, true⟩]⟩
  , ⟨0x00800400, [(0x20, 8)], false, [⟨0, 32, .ro, .plain, 0, false⟩]⟩
  , ⟨0x00800404, [(0x20, 8)], false, [⟨0, 32, .ro, .plain, 0, false⟩]⟩
  , ⟨0x00800408, [(0x20, 8)], false, [⟨0, 32, .ro, .plain, 0, false⟩]⟩
  , ⟨0x0080040C, [(0x20, 8)], false, [⟨0, 32, .ro, .plain, 0, false⟩]⟩
  , ⟨0x00800410, [(0x20, 8)], false, [⟨0, 32, .ro, .plain, 0, false⟩]⟩
  , ⟨0x00800414, [(0x20, 8)], false, [⟨0, 32, .ro, .plain, 0, false⟩]⟩
  , ⟨0x00800418, [(0x20, 8)], false, [⟨0, 32, .ro, .plain, 0, false⟩]⟩
  , ⟨0x00801000, [(0x100, 4)], false, [⟨0, 2, .rw, .legal [(1, 2)], 0, false⟩, ⟨2, 1, .wo, .own, 0, false⟩, ⟨3, 1, .wo, .own, 0, false⟩, ⟨4, 1, .wo, .own, 0, false⟩, ⟨5, 1, .rw, .plain, 0, false⟩, ⟨6, 1, .rw, .plain, 0, false⟩, ⟨7, 1, .rw, .plain, 0, false⟩, ⟨8, 2, .rw, .legal [(0, 2)], 0, false⟩, ⟨10, 2, .rw, .plain, 0, false⟩, ⟨12, 1, .rw, .plain, 0, false⟩, ⟨13, 3, .rw, .plain, 0, false⟩]⟩
  , ⟨0x00801004, [(0x100, 4)], false, [⟨0, 16, .rw, .plain, 1, false⟩]⟩
  , ⟨0x00801008, [(0x100, 4)], false, [⟨0, 32, .rw, .plain, 0, false⟩]⟩
  , ⟨0x0080100C, [(0x100, 4)], false, [⟨0, 5, .rw, .plain, 0, false⟩]⟩
  , ⟨0x00801010, [(0x100, 4)], false, [⟨0, 32, .rw, .plain, 0, false⟩]⟩
  , ⟨0x00801014, [(0x100, 4)], false, [⟨0, 32, .rw, .plain, 0, false⟩]⟩
  , ⟨0x00801018, [(0x100, 4)], false, [⟨0, 5, .rw, .plain, 0, false⟩]⟩
  , ⟨0x0080101C, [(0x100, 4)], false, [⟨0, 32, .rw, .plain, 0, false⟩]⟩
  , ⟨0x00801020, [(0x100, 4)], false, [⟨0, 32, .rw, .plain, 0, false⟩]⟩
  , ⟨0x00801024, [(0x100, 4)], false, [⟨0, 32, .rw, .plain, 0, false⟩]⟩ ]

def regRowsCmpB : List RegRow :=
  [ ⟨0x00801028, [(0x100, 4)], false, [⟨0, 32, .rw, .plain, 0, false⟩]⟩
  , ⟨0x0080102C, [(0x100, 4)], false, [⟨0, 32, .rw, .plain, 0, false⟩]⟩
  , ⟨0x00801030, [(0x100, 4)], false, [⟨0, 32, .rw, .plain, 0, false⟩]⟩
  , ⟨0x00801034, [(0x100, 4)], false, [⟨0, 32, .rw, .plain, 0, false⟩]⟩
  , ⟨0x00801038, [(0x100, 4)], false, [⟨0, 32, .rw, .plain, 0, false⟩]⟩
  , ⟨0x00801040, [(0x100, 4)], false, [⟨0, 3, .ro, .plain, 0, false⟩, ⟨3, 1, .ro, .plain, 0, false⟩, ⟨4, 3, .ro, .plain, 0, false⟩, ⟨7, 1, .ro, .plain, 0, false⟩, ⟨16, 16, .ro, .plain, 0, false⟩]⟩
  , ⟨0x00801044, [(0x100, 4)], false, [⟨0, 32, .ro, .plain, 0, false⟩]⟩
  , ⟨0x00801048, [(0x100, 4)], false, [⟨0, 32, .ro, .plain, 0, false⟩]⟩
  , ⟨0x0080104C, [(0x100, 4)], false, [⟨0, 32, .ro, .plain, 0, false⟩]⟩
  , ⟨0x00801050, [(0x100, 4)], false, [⟨0, 32, .ro, .plain, 0, false⟩]⟩
  , ⟨0x00801054, [(0x100, 4)], false, [⟨0, 32, .ro, .plain, 0, false⟩]⟩ ]

def regRowsMemA : List RegRow :=
  [ ⟨0x00900000, [], false, [⟨0, 1, .w1s, .plain, 0, false⟩]⟩
  , ⟨0x00900100, [(0x4, 6)], false, [⟨0, 11, .rwl, .own, 0, true⟩, ⟨16, 11, .rwl, .own, 0, true⟩]⟩
  , ⟨0x00900120, [(0x4, 6)], false, [⟨0, 11, .ro, .plain, 0, false⟩, ⟨16, 11, .ro, .plain, 0, false⟩]⟩
  , ⟨0x00900140, [], false, [⟨0, 11, .ro, .plain, 0, true⟩, ⟨16, 1, .w1c, .plain, 0, false⟩]⟩
  , ⟨0x00901000, [], false, [⟨0, 1, .rw, .plain, 1, false⟩, ⟨1, 1, .rw, .plain, 0, false⟩, ⟨4, 12, .rw, .clamp 1 1440, 15, false⟩, ⟨16, 12, .rw, .clamp 1 4095, 448, false⟩]⟩
  , ⟨0x00901004, [], false, [⟨0, 29, .ro, .plain, 0, false⟩]⟩
  , ⟨0x00901008, [], false, [⟨0, 32, .ro, .plain, 0, false⟩]⟩
  , ⟨0x0090100C, [], false, [⟨0, 32, .ro, .plain, 0, false⟩]⟩
  , ⟨0x00901010, [], false, [⟨0, 16, .rw, .plain, 256, false⟩, ⟨16, 8, .rw, .clamp 1 255, 24, false⟩, ⟨24, 4, .rw, .clamp 1 15, 2, false⟩, ⟨28, 1, .rw, .plain, 1, false⟩, ⟨29, 1, .rw, .plain, 1, false⟩]⟩
  , ⟨0x00901014, [], false, [⟨0, 8, .rw, .plain, 72, false⟩, ⟨8, 16, .rw, .plain, 60, false⟩]⟩
  , ⟨0x00901018, [], false, [⟨0, 1, .wo, .own, 0, false⟩, ⟨4, 2, .rw, .plain, 0, false⟩, ⟨8, 4, .rw, .legal [(0, 9)], 0, false⟩]⟩
  , ⟨0x0090101C, [], false, [⟨0, 9, .ro, .plain, 0, false⟩, ⟨16, 8, .ro, .plain, 0, false⟩, ⟨24, 8, .ro, .plain, 0, false⟩]⟩
  , ⟨0x00901020, [], false, [⟨0, 1, .w1c, .plain, 0, false⟩, ⟨1, 1, .w1c, .plain, 0, false⟩, ⟨2, 1, .w1c, .plain, 0, false⟩, ⟨3, 1, .w1c, .plain, 0, false⟩, ⟨4, 1, .w1c, .plain, 0, false⟩, ⟨5, 1, .w1c, .plain, 0, false⟩, ⟨6, 1, .w1c, .plain, 0, false⟩, ⟨7, 1, .w1c, .plain, 0, false⟩, ⟨8, 1, .w1c, .plain, 0, false⟩, ⟨9, 1, .w1c, .plain, 0, false⟩, ⟨10, 1, .w1c, .plain, 0, false⟩]⟩
  , ⟨0x00901024, [], false, [⟨0, 11, .rw, .plain, 2047, false⟩]⟩
  , ⟨0x00901028, [], false, [⟨0, 32, .ro, .plain, 0, false⟩]⟩
  , ⟨0x0090102C, [], false, [⟨0, 32, .ro, .plain, 0, false⟩]⟩
  , ⟨0x00901030, [], false, [⟨0, 32, .ro, .plain, 0, false⟩]⟩
  , ⟨0x00901034, [], false, [⟨0, 5, .rw, .own, 10, false⟩]⟩
  , ⟨0x00901038, [], false, [⟨0, 32, .ro, .plain, 0, false⟩]⟩
  , ⟨0x00901040, [], false, [⟨0, 29, .ro, .plain, 0, false⟩, ⟨29, 3, .ro, .plain, 0, false⟩]⟩
  , ⟨0x00901044, [], false, [⟨0, 32, .ro, .plain, 0, false⟩]⟩
  , ⟨0x00901048, [], false, [⟨0, 10, .ro, .plain, 0, false⟩, ⟨16, 1, .ro, .plain, 0, false⟩]⟩
  , ⟨0x00901050, [], false, [⟨0, 29, .rw, .own, 0, false⟩, ⟨29, 1, .rw, .own, 0, false⟩, ⟨30, 1, .w1c, .plain, 0, false⟩]⟩
  , ⟨0x00901054, [], false, [⟨0, 4, .rw, .plain, 0, false⟩, ⟨4, 2, .rw, .legal [(0, 2)], 0, false⟩]⟩ ]

def regRowsMemB : List RegRow :=
  [ ⟨0x00901080, [], false, [⟨0, 32, .ro, .plain, 0, false⟩]⟩
  , ⟨0x00901100, [(0x8, 16)], false, [⟨0, 29, .ro, .plain, 0, false⟩, ⟨29, 3, .ro, .plain, 0, false⟩]⟩
  , ⟨0x00901104, [(0x8, 16)], false, [⟨0, 4, .ro, .plain, 0, false⟩, ⟨4, 2, .ro, .plain, 0, false⟩, ⟨16, 16, .ro, .plain, 0, false⟩]⟩
  , ⟨0x00902000, [(0x100, 4)], false, [⟨0, 32, .ro, .plain, 0, false⟩]⟩
  , ⟨0x00902004, [(0x100, 4)], false, [⟨0, 8, .ro, .plain, 0, false⟩]⟩
  , ⟨0x00902008, [(0x100, 4)], false, [⟨0, 30, .ro, .plain, 0, false⟩]⟩
  , ⟨0x0090200C, [(0x100, 4)], false, [⟨0, 4, .ro, .plain, 0, false⟩, ⟨4, 27, .ro, .plain, 0, false⟩, ⟨31, 1, .ro, .plain, 0, false⟩]⟩
  , ⟨0x00903000, [(0x400, 4), (0x20, 12)], false, [⟨0, 3, .ro, .plain, 0, false⟩, ⟨4, 4, .ro, .plain, 0, false⟩, ⟨8, 8, .ro, .plain, 0, false⟩, ⟨16, 16, .ro, .plain, 0, false⟩]⟩
  , ⟨0x00903004, [(0x400, 4), (0x20, 12)], false, [⟨0, 32, .ro, .plain, 0, false⟩]⟩
  , ⟨0x00903008, [(0x400, 4), (0x20, 12)], false, [⟨0, 32, .ro, .plain, 0, false⟩]⟩
  , ⟨0x0090300C, [(0x400, 4), (0x20, 12)], false, [⟨0, 32, .ro, .plain, 0, false⟩]⟩
  , ⟨0x00903010, [(0x400, 4), (0x20, 12)], false, [⟨0, 32, .ro, .plain, 0, false⟩]⟩
  , ⟨0x00904000, [(0x4, 6)], false, [⟨0, 16, .rw, .clamp 100 65535, 0, true⟩]⟩
  , ⟨0x00904040, [(0x4, 6)], false, [⟨0, 32, .ro, .plain, 0, false⟩]⟩
  , ⟨0x00904060, [(0x4, 6)], false, [⟨0, 24, .ro, .plain, 0, false⟩]⟩
  , ⟨0x00905000, [], false, [⟨0, 4, .rw, .clamp 1 8, 4, false⟩, ⟨4, 4, .rw, .clamp 0 8, 4, false⟩, ⟨8, 4, .rw, .plain, 3, false⟩]⟩
  , ⟨0x00905010, [(0x4, 4)], false, [⟨0, 2, .ro, .plain, 0, false⟩, ⟨2, 1, .ro, .plain, 0, false⟩, ⟨8, 8, .ro, .plain, 0, false⟩, ⟨16, 8, .ro, .plain, 0, false⟩, ⟨24, 2, .ro, .plain, 0, false⟩]⟩
  , ⟨0x00905020, [(0x4, 4)], false, [⟨0, 32, .ro, .plain, 0, false⟩]⟩
  , ⟨0x00905030, [], false, [⟨0, 1, .w1c, .plain, 0, false⟩, ⟨1, 1, .w1c, .plain, 0, false⟩, ⟨2, 1, .w1c, .plain, 0, false⟩, ⟨3, 1, .w1c, .plain, 0, false⟩, ⟨4, 1, .w1c, .plain, 0, false⟩, ⟨5, 1, .w1c, .plain, 0, false⟩, ⟨6, 1, .w1c, .plain, 0, false⟩, ⟨7, 1, .w1c, .plain, 0, false⟩, ⟨8, 1, .w1c, .plain, 0, false⟩]⟩
  , ⟨0x00905034, [], false, [⟨0, 9, .rw, .plain, 204, false⟩]⟩
  , ⟨0x00906000, [], false, [⟨0, 16, .rw, .clamp 256 65535, 4096, false⟩, ⟨16, 5, .rw, .clamp 0 20, 10, false⟩, ⟨24, 1, .rw, .plain, 1, false⟩, ⟨25, 1, .rw, .plain, 1, false⟩]⟩
  , ⟨0x00906010, [(0x4, 4)], false, [⟨0, 32, .ro, .plain, 0, false⟩]⟩
  , ⟨0x00906020, [(0x4, 4)], false, [⟨0, 32, .ro, .plain, 0, false⟩]⟩
  , ⟨0x00906030, [(0x4, 4)], false, [⟨0, 32, .ro, .plain, 0, false⟩]⟩ ]

def regRowsMemC : List RegRow :=
  [ ⟨0x00907000, [], false, [⟨0, 8, .rw, .plain, 20, false⟩, ⟨8, 16, .rw, .plain, 0, false⟩]⟩
  , ⟨0x00908000, [], false, [⟨0, 2, .rw, .plain, 0, true⟩, ⟨2, 1, .wo, .own, 0, false⟩, ⟨3, 1, .rw, .plain, 0, false⟩]⟩
  , ⟨0x00908004, [], false, [⟨0, 2, .ro, .plain, 0, true⟩, ⟨2, 1, .ro, .plain, 0, false⟩, ⟨3, 1, .w1c, .plain, 0, false⟩, ⟨4, 3, .ro, .plain, 0, false⟩, ⟨16, 16, .ro, .plain, 0, false⟩]⟩
  , ⟨0x00908100, [(0x10, 4)], false, [⟨0, 8, .rwl, .plain, 0, true⟩, ⟨8, 8, .rwl, .plain, 0, true⟩, ⟨16, 8, .rwl, .plain, 0, true⟩, ⟨24, 8, .rwl, .plain, 0, true⟩]⟩
  , ⟨0x00908104, [(0x10, 4)], false, [⟨0, 8, .rwl, .plain, 0, true⟩, ⟨8, 8, .rwl, .plain, 0, true⟩, ⟨16, 8, .rwl, .plain, 0, true⟩, ⟨24, 8, .rwl, .plain, 0, true⟩]⟩
  , ⟨0x00908108, [(0x10, 4)], false, [⟨0, 12, .rwl, .plain, 0, true⟩, ⟨12, 12, .rwl, .plain, 0, true⟩, ⟨31, 1, .rwl, .plain, 0, true⟩]⟩
  , ⟨0x00908200, [], false, [⟨0, 8, .rw, .clamp 1 255, 100, false⟩, ⟨8, 8, .rw, .clamp 10 255, 30, false⟩, ⟨16, 8, .rw, .plain, 16, false⟩]⟩
  , ⟨0x00908204, [], false, [⟨0, 1, .ro, .plain, 0, false⟩, ⟨1, 1, .ro, .plain, 0, false⟩, ⟨2, 1, .ro, .plain, 0, false⟩]⟩
  , ⟨0x00908208, [], false, [⟨0, 32, .ro, .plain, 0, false⟩]⟩
  , ⟨0x00909000, [(0x400, 4), (0x40, 12), (0x4, 16)], false, [⟨0, 7, .ro, .plain, 0, false⟩, ⟨8, 7, .ro, .plain, 0, false⟩, ⟨16, 8, .ro, .plain, 0, false⟩]⟩ ]

def regRowsScrA : List RegRow :=
  [ ⟨0x00A00000, [], false, [⟨0, 1, .w1s, .plain, 0, false⟩]⟩
  , ⟨0x00A00004, [], false, [⟨0, 1, .ro, .plain, 0, false⟩]⟩
  , ⟨0x00A00010, [], false, [⟨0, 1, .w1c, .plain, 0, false⟩, ⟨1, 1, .w1c, .plain, 0, false⟩, ⟨2, 1, .w1c, .plain, 0, false⟩, ⟨3, 1, .w1c, .plain, 0, false⟩, ⟨4, 1, .w1c, .plain, 0, false⟩, ⟨5, 1, .w1c, .plain, 0, false⟩, ⟨6, 1, .w1c, .plain, 0, false⟩, ⟨7, 1, .w1c, .plain, 0, false⟩, ⟨8, 1, .w1c, .plain, 0, false⟩, ⟨9, 1, .w1c, .plain, 0, false⟩]⟩
  , ⟨0x00A00014, [], false, [⟨0, 10, .rw, .plain, 1023, false⟩]⟩
  , ⟨0x00A00020, [], false, [⟨0, 32, .ro, .plain, 0, false⟩]⟩
  , ⟨0x00A00024, [], false, [⟨0, 32, .ro, .plain, 0, false⟩]⟩
  , ⟨0x00A00028, [], false, [⟨0, 32, .ro, .plain, 0, false⟩]⟩
  , ⟨0x00A0002C, [], false, [⟨0, 25, .ro, .plain, 0, false⟩, ⟨25, 7, .ro, .plain, 0, false⟩]⟩
  , ⟨0x00A00030, [], false, [⟨0, 25, .ro, .plain, 0, false⟩]⟩
  , ⟨0x00A00034, [], false, [⟨0, 32, .ro, .plain, 0, false⟩]⟩
  , ⟨0x00A00038, [], false, [⟨0, 25, .ro, .plain, 0, false⟩, ⟨25, 3, .ro, .plain, 0, false⟩]⟩
  , ⟨0x00A0003C, [], false, [⟨0, 32, .ro, .plain, 0, false⟩]⟩
  , ⟨0x00A00040, [], false, [⟨0, 25, .ro, .plain, 0, false⟩, ⟨25, 2, .ro, .plain, 0, false⟩]⟩
  , ⟨0x00A00044, [], false, [⟨0, 32, .ro, .plain, 0, false⟩]⟩
  , ⟨0x00A00050, [], false, [⟨0, 1, .rw, .plain, 1, false⟩, ⟨16, 10, .rw, .clamp 100 1000, 1000, false⟩]⟩
  , ⟨0x00A00054, [], false, [⟨0, 32, .ro, .plain, 0, false⟩]⟩
  , ⟨0x00A00058, [], false, [⟨0, 4, .rw, .clamp 1 15, 2, false⟩, ⟨4, 1, .rw, .plain, 1, false⟩]⟩
  , ⟨0x00A0005C, [], false, [⟨0, 6, .ro, .plain, 0, false⟩, ⟨16, 8, .ro, .plain, 0, false⟩, ⟨24, 8, .ro, .plain, 0, false⟩]⟩
  , ⟨0x00A00060, [], false, [⟨19, 6, .rw, .plain, 0, false⟩]⟩
  , ⟨0x00A00070, [], false, [⟨0, 1, .wo, .plain, 0, false⟩, ⟨1, 1, .wo, .plain, 0, false⟩, ⟨2, 1, .rw, .plain, 0, false⟩]⟩
  , ⟨0x00A00074, [], false, [⟨0, 32, .rw, .plain, 0, false⟩]⟩
  , ⟨0x00A00078, [], false, [⟨0, 1, .ro, .plain, 0, false⟩, ⟨1, 1, .ro, .plain, 0, false⟩, ⟨2, 1, .w1c, .plain, 0, false⟩, ⟨3, 1, .ro, .plain, 0, false⟩, ⟨16, 16, .ro, .plain, 0, false⟩]⟩
  , ⟨0x00A0007C, [], false, [⟨0, 32, .ro, .plain, 0, false⟩]⟩
  , ⟨0x00A00100, [(0x4, 32)], false, [⟨0, 3, .ro, .plain, 0, true⟩]⟩ ]

def regRowsScrB : List RegRow :=
  [ ⟨0x00A00200, [(0x4, 32)], false, [⟨0, 4, .ro, .plain, 0, false⟩, ⟨4, 4, .ro, .plain, 0, false⟩]⟩
  , ⟨0x00A01000, [(0x100, 3), (0x10, 8)], false, [⟨12, 13, .rw, .own, 0, true⟩]⟩
  , ⟨0x00A01004, [(0x100, 3), (0x10, 8)], false, [⟨12, 13, .rw, .own, 0, true⟩]⟩
  , ⟨0x00A01008, [(0x100, 3), (0x10, 8)], false, [⟨0, 1, .rw, .own, 0, true⟩, ⟨1, 1, .rw, .own, 0, true⟩, ⟨2, 1, .rw, .own, 0, true⟩]⟩
  , ⟨0x00A02000, [(0x40, 3)], false, [⟨0, 25, .rw, .plain, 0, false⟩]⟩
  , ⟨0x00A02004, [(0x40, 3)], false, [⟨0, 32, .rw, .plain, 0, false⟩]⟩
  , ⟨0x00A02008, [(0x40, 3)], false, [⟨0, 32, .rw, .plain, 0, false⟩]⟩
  , ⟨0x00A0200C, [(0x40, 3)], false, [⟨0, 1, .wo, .plain, 0, false⟩, ⟨1, 1, .rw, .plain, 0, false⟩, ⟨2, 1, .rw, .plain, 0, false⟩]⟩
  , ⟨0x00A02010, [(0x40, 3)], false, [⟨0, 32, .ro, .plain, 0, false⟩]⟩
  , ⟨0x00A02014, [(0x40, 3)], false, [⟨0, 32, .ro, .plain, 0, false⟩]⟩
  , ⟨0x00A02018, [(0x40, 3)], false, [⟨0, 1, .ro, .plain, 0, false⟩, ⟨1, 1, .ro, .plain, 0, false⟩, ⟨2, 3, .ro, .plain, 0, false⟩, ⟨16, 16, .ro, .plain, 0, false⟩]⟩ ]

def regRowsHostA : List RegRow :=
  [ ⟨0x00B00000, [], false, [⟨0, 1, .w1s, .plain, 0, false⟩]⟩
  , ⟨0x00B00004, [], false, [⟨0, 4, .ro, .plain, 0, false⟩, ⟨4, 6, .ro, .plain, 0, false⟩, ⟨10, 1, .ro, .plain, 0, false⟩, ⟨11, 2, .ro, .plain, 0, false⟩]⟩
  , ⟨0x00B00008, [], false, [⟨0, 1, .rwl, .plain, 0, true⟩]⟩
  , ⟨0x00B0000C, [], false, [⟨0, 1, .w1c, .plain, 1, false⟩, ⟨1, 1, .w1c, .plain, 0, false⟩, ⟨2, 1, .w1c, .plain, 0, false⟩, ⟨3, 1, .w1c, .plain, 0, false⟩]⟩
  , ⟨0x00B00010, [], false, [⟨0, 1, .w1c, .plain, 0, false⟩, ⟨1, 1, .w1c, .plain, 0, false⟩, ⟨2, 1, .w1c, .plain, 0, false⟩, ⟨3, 1, .w1c, .plain, 0, false⟩, ⟨4, 1, .w1c, .plain, 0, false⟩, ⟨5, 1, .w1c, .plain, 0, false⟩]⟩
  , ⟨0x00B00014, [], false, [⟨0, 6, .rw, .plain, 63, false⟩]⟩
  , ⟨0x00B00020, [], false, [⟨0, 16, .rw, .clamp 1 65535, 1000, false⟩]⟩
  , ⟨0x00B00024, [], false, [⟨0, 32, .ro, .plain, 0, false⟩]⟩
  , ⟨0x00B00028, [], false, [⟨0, 32, .ro, .plain, 0, false⟩]⟩
  , ⟨0x00B0002C, [], false, [⟨0, 11, .ro, .plain, 0, false⟩]⟩
  , ⟨0x00B00030, [], false, [⟨0, 10, .ro, .plain, 0, false⟩, ⟨10, 2, .ro, .plain, 0, false⟩, ⟨12, 3, .ro, .plain, 0, false⟩]⟩
  , ⟨0x00B00034, [], false, [⟨0, 10, .ro, .plain, 0, false⟩, ⟨10, 1, .ro, .plain, 0, false⟩, ⟨16, 16, .ro, .plain, 0, false⟩]⟩
  , ⟨0x00B00038, [], false, [⟨0, 32, .ro, .plain, 0, false⟩]⟩
  , ⟨0x00B0003C, [], false, [⟨0, 32, .ro, .plain, 0, false⟩]⟩
  , ⟨0x00B00040, [], false, [⟨0, 32, .ro, .plain, 0, false⟩]⟩
  , ⟨0x00B00044, [], false, [⟨0, 32, .ro, .plain, 0, false⟩]⟩
  , ⟨0x00B00100, [], false, [⟨0, 6, .wo, .plain, 0, false⟩]⟩
  , ⟨0x00B00104, [], false, [⟨0, 32, .ro, .plain, 0, false⟩]⟩
  , ⟨0x00B00108, [], false, [⟨0, 32, .ro, .plain, 0, false⟩]⟩
  , ⟨0x00B0010C, [], false, [⟨0, 32, .ro, .plain, 0, false⟩]⟩
  , ⟨0x00B00110, [], false, [⟨0, 32, .ro, .plain, 0, false⟩]⟩
  , ⟨0x00B00200, [], false, [⟨0, 6, .ro, .plain, 30, false⟩, ⟨8, 6, .ro, .plain, 30, false⟩]⟩
  , ⟨0x00B01000, [(0x4, 8)], false, [⟨0, 32, .ro, .plain, 0, false⟩]⟩
  , ⟨0x00B01020, [], false, [⟨0, 1, .wo, .plain, 0, false⟩]⟩ ]

def regRowsHostB : List RegRow :=
  [ ⟨0x00B01024, [], false, [⟨0, 13, .ro, .plain, 0, false⟩, ⟨13, 1, .ro, .plain, 0, false⟩, ⟨16, 16, .ro, .plain, 0, false⟩]⟩
  , ⟨0x00B02000, [], false, [⟨0, 1, .wo, .plain, 0, false⟩]⟩
  , ⟨0x00B02004, [], false, [⟨0, 1, .w1c, .plain, 0, false⟩, ⟨1, 3, .ro, .plain, 0, false⟩, ⟨4, 4, .ro, .plain, 0, false⟩, ⟨16, 16, .ro, .plain, 0, false⟩]⟩
  , ⟨0x00B02100, [(0x10, 16)], false, [⟨0, 1, .rw, .plain, 0, true⟩, ⟨1, 1, .rw, .plain, 0, true⟩, ⟨2, 6, .rw, .plain, 0, true⟩]⟩
  , ⟨0x00B02104, [(0x10, 16)], false, [⟨0, 17, .rw, .plain, 0, true⟩]⟩
  , ⟨0x00B02108, [(0x10, 16)], false, [⟨0, 17, .rw, .plain, 0, true⟩]⟩
  , ⟨0x00B03000, [(0x40, 8)], false, [⟨6, 26, .rw, .plain, 0, false⟩]⟩
  , ⟨0x00B03004, [(0x40, 8)], false, [⟨0, 32, .rw, .plain, 0, false⟩]⟩
  , ⟨0x00B03008, [(0x40, 8)], false, [⟨0, 5, .rw, .clamp 2 16, 2, false⟩, ⟨8, 1, .rw, .plain, 0, false⟩, ⟨9, 1, .rw, .plain, 0, false⟩, ⟨16, 16, .rw, .clamp 1 65535, 100, false⟩]⟩
  , ⟨0x00B0300C, [(0x40, 8)], false, [⟨0, 32, .rw, .own, 0, false⟩]⟩
  , ⟨0x00B03010, [(0x40, 8)], false, [⟨0, 32, .ro, .plain, 0, false⟩]⟩
  , ⟨0x00B03014, [(0x40, 8)], false, [⟨0, 1, .rw, .own, 0, false⟩, ⟨1, 1, .wo, .plain, 0, false⟩]⟩
  , ⟨0x00B03018, [(0x40, 8)], false, [⟨0, 2, .ro, .plain, 0, false⟩, ⟨2, 1, .ro, .plain, 0, false⟩, ⟨3, 4, .ro, .plain, 0, false⟩, ⟨7, 1, .w1c, .plain, 0, false⟩, ⟨16, 16, .ro, .plain, 0, false⟩]⟩
  , ⟨0x00B0301C, [(0x40, 8)], false, [⟨0, 1, .w1c, .plain, 0, false⟩, ⟨1, 1, .w1c, .plain, 0, false⟩]⟩
  , ⟨0x00B03020, [(0x40, 8)], false, [⟨0, 2, .rw, .plain, 3, false⟩]⟩
  , ⟨0x00B03024, [(0x40, 8)], false, [⟨0, 32, .ro, .plain, 0, false⟩]⟩
  , ⟨0x00B03028, [(0x40, 8)], false, [⟨0, 32, .ro, .plain, 0, false⟩]⟩
  , ⟨0x00B0302C, [(0x40, 8)], false, [⟨0, 32, .ro, .plain, 0, false⟩]⟩ ]

def regRowsVitA : List RegRow :=
  [ ⟨0x00C00000, [], false, [⟨0, 1, .w1s, .plain, 0, false⟩]⟩
  , ⟨0x00C00004, [], false, [⟨0, 1, .rw, .plain, 0, true⟩, ⟨1, 1, .rw, .plain, 0, true⟩, ⟨2, 1, .rw, .plain, 0, true⟩, ⟨3, 1, .rw, .plain, 0, true⟩, ⟨4, 1, .rw, .plain, 0, true⟩]⟩
  , ⟨0x00C00008, [], false, [⟨0, 1, .ro, .plain, 0, false⟩, ⟨1, 1, .ro, .plain, 0, false⟩, ⟨2, 1, .ro, .plain, 0, false⟩, ⟨3, 1, .ro, .plain, 0, false⟩, ⟨4, 3, .ro, .plain, 0, false⟩]⟩
  , ⟨0x00C0000C, [], false, [⟨0, 1, .w1c, .plain, 0, false⟩, ⟨1, 1, .w1c, .plain, 0, false⟩, ⟨2, 1, .w1c, .plain, 0, false⟩, ⟨3, 1, .w1c, .plain, 0, false⟩, ⟨4, 1, .w1c, .plain, 0, false⟩, ⟨5, 1, .w1c, .plain, 0, false⟩, ⟨6, 1, .w1c, .plain, 0, false⟩, ⟨7, 1, .w1c, .plain, 0, false⟩, ⟨8, 1, .w1c, .plain, 0, false⟩, ⟨9, 1, .w1c, .plain, 0, false⟩, ⟨10, 1, .w1c, .plain, 0, false⟩, ⟨11, 1, .w1c, .plain, 0, false⟩, ⟨12, 1, .w1c, .plain, 0, false⟩]⟩
  , ⟨0x00C00010, [], false, [⟨0, 13, .rw, .plain, 8190, false⟩]⟩
  , ⟨0x00C00014, [], false, [⟨0, 32, .ro, .plain, 0, false⟩]⟩
  , ⟨0x00C00018, [], false, [⟨0, 1, .wo, .plain, 0, false⟩, ⟨1, 1, .wo, .plain, 0, false⟩, ⟨2, 1, .wo, .plain, 0, false⟩, ⟨3, 1, .wo, .plain, 0, false⟩]⟩
  , ⟨0x00C00100, [], false, [⟨0, 2, .rw, .legal [(0, 2)], 0, true⟩, ⟨2, 2, .rw, .legal [(0, 2)], 0, true⟩, ⟨4, 1, .rw, .plain, 0, true⟩]⟩
  , ⟨0x00C00104, [], false, [⟨0, 3, .ro, .plain, 0, false⟩, ⟨3, 1, .ro, .plain, 0, false⟩, ⟨4, 2, .ro, .plain, 0, false⟩, ⟨6, 2, .ro, .plain, 0, false⟩]⟩
  , ⟨0x00C00108, [], false, [⟨0, 1, .ro, .plain, 0, false⟩, ⟨1, 1, .ro, .plain, 0, false⟩]⟩
  , ⟨0x00C00200, [], false, [⟨0, 20, .rw, .plain, 0, false⟩, ⟨20, 4, .rw, .plain, 0, false⟩, ⟨24, 2, .rw, .plain, 0, false⟩, ⟨26, 1, .rw, .plain, 0, false⟩, ⟨31, 1, .wo, .plain, 0, false⟩]⟩
  , ⟨0x00C00204, [], false, [⟨0, 1, .ro, .plain, 0, false⟩, ⟨1, 1, .ro, .plain, 0, false⟩, ⟨2, 2, .ro, .plain, 0, false⟩, ⟨16, 16, .ro, .plain, 0, false⟩]⟩
  , ⟨0x00C00210, [(0x4, 4)], false, [⟨0, 32, .rw, .plain, 0, false⟩]⟩
  , ⟨0x00C00300, [], false, [⟨0, 13, .rw, .plain, 0, true⟩, ⟨16, 12, .rw, .plain, 0, true⟩]⟩
  , ⟨0x00C00304, [], false, [⟨0, 12, .rw, .plain, 0, true⟩, ⟨16, 12, .rw, .plain, 0, true⟩, ⟨31, 1, .rw, .plain, 0, true⟩]⟩
  , ⟨0x00C00308, [], false, [⟨0, 13, .rw, .plain, 0, true⟩, ⟨16, 12, .rw, .plain, 0, true⟩]⟩
  , ⟨0x00C0030C, [], false, [⟨0, 12, .rw, .plain, 0, true⟩, ⟨16, 12, .rw, .plain, 0, true⟩, ⟨31, 1, .rw, .plain, 0, true⟩]⟩
  , ⟨0x00C00310, [], false, [⟨0, 20, .rw, .plain, 0, true⟩]⟩
  , ⟨0x00C00314, [], false, [⟨0, 16, .rw, .plain, 0, true⟩, ⟨16, 8, .rw, .plain, 0, true⟩]⟩
  , ⟨0x00C00400, [], false, [⟨0, 24, .rw, .plain, 0, true⟩]⟩
  , ⟨0x00C00404, [(0x4, 15)], false, [⟨0, 24, .rw, .plain, 0, true⟩]⟩
  , ⟨0x00C00500, [], false, [⟨0, 1, .rw, .plain, 0, true⟩, ⟨1, 1, .rw, .plain, 0, true⟩, ⟨16, 16, .rw, .plain, 0, true⟩]⟩
  , ⟨0x00C00504, [(0x8, 2)], false, [⟨0, 32, .rw, .low 8, 0, true⟩]⟩
  , ⟨0x00C00508, [(0x8, 2)], false, [⟨0, 5, .rw, .plain, 0, true⟩]⟩ ]

def regRowsVitB : List RegRow :=
  [ ⟨0x00C00600, [], false, [⟨0, 1, .rw, .plain, 0, true⟩, ⟨8, 8, .rw, .plain, 255, false⟩, ⟨16, 16, .rw, .plain, 0, true⟩]⟩
  , ⟨0x00C00604, [], false, [⟨0, 32, .rw, .low 8, 0, true⟩]⟩
  , ⟨0x00C00608, [], false, [⟨0, 5, .rw, .plain, 0, true⟩]⟩
  , ⟨0x00C00700, [], false, [⟨0, 1, .rw, .plain, 0, false⟩]⟩
  , ⟨0x00C00704, [], false, [⟨14, 11, .rw, .plain, 0, true⟩]⟩
  , ⟨0x00C00708, [], false, [⟨0, 14, .rw, .plain, 0, false⟩, ⟨16, 14, .rw, .plain, 0, false⟩]⟩
  , ⟨0x00C00780, [], false, [⟨0, 3, .wo, .plain, 0, false⟩]⟩
  , ⟨0x00C00784, [(0x4, 3)], false, [⟨0, 16, .ro, .plain, 0, false⟩, ⟨16, 16, .ro, .plain, 0, false⟩]⟩
  , ⟨0x00C00790, [], false, [⟨0, 32, .ro, .plain, 0, false⟩]⟩
  , ⟨0x00C00800, [], false, [⟨0, 4, .rw, .plain, 0, true⟩, ⟨4, 1, .rw, .plain, 0, true⟩, ⟨5, 1, .rw, .plain, 0, false⟩, ⟨8, 4, .rw, .plain, 0, true⟩]⟩
  , ⟨0x00C00804, [], false, [⟨0, 1, .wo, .plain, 0, false⟩, ⟨1, 1, .wo, .plain, 0, false⟩]⟩
  , ⟨0x00C00808, [], false, [⟨0, 32, .rw, .plain, 0, false⟩]⟩
  , ⟨0x00C0080C, [], false, [⟨0, 32, .rw, .plain, 0, false⟩]⟩
  , ⟨0x00C00810, [], false, [⟨0, 32, .rw, .plain, 0, true⟩]⟩
  , ⟨0x00C00820, [], false, [⟨0, 1, .ro, .plain, 0, false⟩, ⟨1, 1, .ro, .plain, 0, false⟩, ⟨2, 3, .ro, .plain, 0, false⟩, ⟨5, 1, .ro, .plain, 0, false⟩, ⟨16, 16, .ro, .plain, 0, false⟩]⟩
  , ⟨0x00C00824, [], false, [⟨0, 32, .ro, .plain, 0, false⟩]⟩
  , ⟨0x00C00828, [], false, [⟨0, 32, .ro, .plain, 0, false⟩]⟩
  , ⟨0x00C0082C, [], false, [⟨0, 13, .ro, .plain, 0, false⟩]⟩
  , ⟨0x00C00900, [(0x8, 32)], false, [⟨0, 1, .rw, .plain, 0, true⟩, ⟨8, 8, .rw, .plain, 0, true⟩, ⟨16, 4, .rw, .plain, 0, true⟩]⟩
  , ⟨0x00C00904, [(0x8, 32)], false, [⟨0, 13, .rw, .plain, 0, true⟩, ⟨16, 8, .rw, .clamp 4 255, 0, true⟩]⟩
  , ⟨0x00C00A00, [], false, [⟨0, 8, .rw, .clamp 1 128, 32, false⟩]⟩
  , ⟨0x00C00A04, [], false, [⟨0, 8, .ro, .plain, 0, false⟩]⟩
  , ⟨0x00C00A08, [], false, [⟨0, 32, .ro, .plain, 0, false⟩]⟩
  , ⟨0x00C00A0C, [], false, [⟨0, 32, .ro, .plain, 0, false⟩]⟩ ]

def regRowsCurA : List RegRow :=
  [ ⟨0x00D00000, [], false, [⟨0, 1, .w1s, .plain, 0, false⟩]⟩
  , ⟨0x00D00004, [], false, [⟨0, 1, .ro, .plain, 0, false⟩, ⟨1, 1, .ro, .plain, 0, false⟩, ⟨2, 2, .ro, .plain, 3, false⟩, ⟨4, 2, .ro, .plain, 0, false⟩, ⟨6, 1, .ro, .plain, 0, false⟩, ⟨8, 8, .ro, .plain, 0, false⟩, ⟨16, 3, .ro, .plain, 0, false⟩]⟩
  , ⟨0x00D00008, [], false, [⟨0, 1, .w1c, .plain, 0, false⟩, ⟨1, 1, .w1c, .plain, 0, false⟩, ⟨2, 1, .w1c, .plain, 0, false⟩, ⟨3, 1, .w1c, .plain, 0, false⟩, ⟨4, 1, .w1c, .plain, 0, false⟩, ⟨5, 1, .w1c, .plain, 0, false⟩, ⟨6, 1, .w1c, .plain, 0, false⟩, ⟨7, 1, .w1c, .plain, 0, false⟩, ⟨8, 1, .w1c, .plain, 0, false⟩, ⟨9, 1, .w1c, .plain, 0, false⟩, ⟨10, 1, .w1c, .plain, 0, false⟩, ⟨11, 1, .w1c, .plain, 0, false⟩, ⟨12, 1, .w1c, .plain, 0, false⟩]⟩
  , ⟨0x00D0000C, [], false, [⟨0, 13, .rw, .plain, 8191, false⟩]⟩
  , ⟨0x00D00010, [], false, [⟨0, 32, .ro, .plain, 0, false⟩]⟩
  , ⟨0x00D00014, [], false, [⟨0, 21, .rw, .plain, 0, false⟩]⟩
  , ⟨0x00D00100, [], false, [⟨0, 8, .rw, .plain, 0, false⟩, ⟨8, 8, .rw, .plain, 0, false⟩, ⟨16, 1, .wo, .plain, 0, false⟩]⟩
  , ⟨0x00D00104, [], false, [⟨0, 1, .ro, .plain, 0, false⟩, ⟨1, 1, .ro, .plain, 0, false⟩, ⟨2, 6, .ro, .plain, 0, false⟩, ⟨8, 8, .ro, .plain, 0, false⟩, ⟨16, 16, .ro, .plain, 0, false⟩]⟩
  , ⟨0x00D00140, [(0x4, 16)], false, [⟨0, 32, .rw, .plain, 0, false⟩]⟩
  , ⟨0x00D00180, [(0x4, 16)], false, [⟨0, 32, .ro, .plain, 0, false⟩]⟩
  , ⟨0x00D00200, [], false, [⟨0, 2, .rw, .plain, 0, true⟩, ⟨8, 8, .rw, .clamp 1 255, 0, true⟩]⟩
  , ⟨0x00D00204, [], false, [⟨0, 32, .ro, .plain, 0, false⟩]⟩
  , ⟨0x00D00208, [], false, [⟨0, 32, .ro, .plain, 0, false⟩]⟩
  , ⟨0x00D0020C, [], false, [⟨0, 9, .ro, .plain, 0, false⟩]⟩
  , ⟨0x00D00210, [], false, [⟨0, 32, .ro, .plain, 0, false⟩]⟩
  , ⟨0x00D00214, [], false, [⟨0, 1, .wo, .plain, 0, false⟩]⟩
  , ⟨0x00D00218, [], false, [⟨0, 32, .rw, .plain, 0, false⟩]⟩
  , ⟨0x00D0021C, [], false, [⟨0, 1, .ro, .plain, 0, false⟩, ⟨1, 1, .ro, .plain, 0, false⟩, ⟨2, 2, .ro, .plain, 0, false⟩, ⟨16, 16, .ro, .plain, 0, false⟩]⟩
  , ⟨0x00D00220, [(0x4, 8)], false, [⟨0, 32, .ro, .plain, 0, false⟩]⟩
  , ⟨0x00D00400, [(0x4, 24)], false, [⟨0, 12, .ro, .plain, 0, false⟩, ⟨31, 1, .ro, .plain, 0, false⟩]⟩
  , ⟨0x00D00480, [(0x4, 16)], false, [⟨0, 14, .ro, .plain, 0, false⟩, ⟨31, 1, .ro, .plain, 0, false⟩]⟩
  , ⟨0x00D00500, [(0x4, 24)], false, [⟨0, 12, .rw, .plain, 0, true⟩, ⟨16, 12, .rw, .plain, 0, true⟩]⟩
  , ⟨0x00D00580, [(0x4, 16)], false, [⟨0, 14, .rw, .plain, 0, true⟩, ⟨16, 14, .rw, .plain, 0, true⟩]⟩
  , ⟨0x00D00600, [], false, [⟨0, 24, .w1c, .plain, 0, false⟩]⟩ ]

def regRowsCurB : List RegRow :=
  [ ⟨0x00D00604, [], false, [⟨0, 16, .w1c, .plain, 0, false⟩]⟩
  , ⟨0x00D00608, [], false, [⟨0, 1, .ro, .plain, 0, false⟩, ⟨1, 1, .ro, .plain, 0, false⟩]⟩
  , ⟨0x00D00700, [], false, [⟨0, 32, .ro, .plain, 0, false⟩]⟩
  , ⟨0x00D00704, [], false, [⟨0, 16, .ro, .plain, 0, false⟩]⟩
  , ⟨0x00D00740, [(0x4, 16)], false, [⟨0, 32, .ro, .plain, 0, false⟩]⟩
  , ⟨0x00D00800, [], false, [⟨0, 8, .ro, .plain, 0, false⟩, ⟨8, 8, .ro, .plain, 0, false⟩, ⟨16, 3, .ro, .plain, 0, false⟩, ⟨20, 3, .ro, .plain, 0, false⟩]⟩
  , ⟨0x00D00804, [], false, [⟨0, 11, .ro, .plain, 0, false⟩]⟩
  , ⟨0x00D00808, [], false, [⟨0, 32, .ro, .plain, 0, false⟩]⟩
  , ⟨0x00D00900, [], false, [⟨0, 32, .ro, .plain, 0, false⟩]⟩
  , ⟨0x00D00904, [], false, [⟨0, 32, .ro, .plain, 0, false⟩]⟩
  , ⟨0x00D00908, [], false, [⟨0, 32, .ro, .plain, 0, false⟩]⟩
  , ⟨0x00D00910, [(0x4, 3)], false, [⟨0, 3, .ro, .plain, 0, false⟩, ⟨8, 13, .ro, .plain, 0, false⟩]⟩ ]

def regRowsCfgA : List RegRow :=
  [ ⟨0x00E00000, [], false, [⟨0, 1, .w1s, .plain, 0, false⟩]⟩
  , ⟨0x00E00004, [], false, [⟨0, 2, .ro, .plain, 0, false⟩, ⟨2, 1, .ro, .plain, 0, false⟩, ⟨3, 1, .ro, .plain, 0, false⟩, ⟨4, 2, .ro, .plain, 3, false⟩, ⟨8, 4, .ro, .plain, 0, false⟩, ⟨12, 6, .ro, .plain, 0, false⟩]⟩
  , ⟨0x00E00008, [], false, [⟨0, 1, .wo, .plain, 0, false⟩, ⟨1, 1, .wo, .plain, 0, false⟩, ⟨2, 1, .rw, .plain, 0, false⟩, ⟨8, 4, .rw, .legal [(0, 14)], 0, false⟩]⟩
  , ⟨0x00E0000C, [], false, [⟨0, 32, .rw, .low 8, 0, false⟩]⟩
  , ⟨0x00E00010, [], false, [⟨0, 5, .rw, .plain, 0, false⟩]⟩
  , ⟨0x00E00014, [], false, [⟨0, 21, .rw, .plain, 0, false⟩]⟩
  , ⟨0x00E00018, [], false, [⟨0, 1, .ro, .plain, 0, false⟩, ⟨1, 1, .ro, .plain, 0, false⟩, ⟨2, 4, .ro, .plain, 0, false⟩, ⟨6, 6, .ro, .plain, 0, false⟩, ⟨16, 16, .ro, .plain, 0, false⟩]⟩
  , ⟨0x00E0001C, [], false, [⟨0, 1, .w1c, .plain, 0, false⟩, ⟨1, 1, .w1c, .plain, 0, false⟩, ⟨2, 1, .w1c, .plain, 0, false⟩, ⟨3, 1, .w1c, .plain, 0, false⟩]⟩
  , ⟨0x00E00020, [], false, [⟨0, 4, .rw, .plain, 15, false⟩]⟩
  , ⟨0x00E00024, [], false, [⟨0, 32, .ro, .plain, 0, false⟩]⟩
  , ⟨0x00E00028, [], false, [⟨0, 4, .ro, .plain, 0, false⟩]⟩
  , ⟨0x00E00030, [], false, [⟨0, 32, .ro, .plain, 0, false⟩]⟩
  , ⟨0x00E00034, [], false, [⟨0, 32, .ro, .plain, 0, false⟩]⟩
  , ⟨0x00E00038, [], false, [⟨0, 32, .ro, .plain, 0, false⟩]⟩
  , ⟨0x00E0003C, [], false, [⟨0, 32, .ro, .plain, 0, false⟩]⟩
  , ⟨0x00E00100, [(0x8, 15)], false, [⟨0, 1, .ro, .plain, 0, false⟩, ⟨1, 1, .ro, .plain, 0, false⟩, ⟨16, 16, .ro, .plain, 0, false⟩]⟩
  , ⟨0x00E00104, [(0x8, 15)], false, [⟨0, 32, .ro, .plain, 0, false⟩]⟩
  , ⟨0x00E00200, [(0x4, 16)], false, [⟨0, 11, .ro, .plain, 0, false⟩]⟩ ]

def regRowsSecA : List RegRow :=
  [ ⟨0x00F00000, [], false, [⟨0, 1, .w1s, .plain, 0, false⟩]⟩
  , ⟨0x00F00004, [], false, [⟨0, 3, .ro, .plain, 0, false⟩, ⟨3, 1, .ro, .plain, 0, false⟩, ⟨4, 1, .ro, .plain, 0, false⟩]⟩
  , ⟨0x00F00008, [], false, [⟨0, 4, .rw, .legal [(1, 12)], 0, false⟩, ⟨4, 1, .wo, .plain, 0, false⟩, ⟨8, 3, .rw, .plain, 0, false⟩]⟩
  , ⟨0x00F0000C, [], false, [⟨0, 1, .ro, .plain, 0, false⟩, ⟨1, 1, .ro, .plain, 0, false⟩, ⟨2, 4, .ro, .plain, 0, false⟩, ⟨16, 16, .ro, .plain, 0, false⟩]⟩
  , ⟨0x00F00010, [], false, [⟨0, 1, .w1c, .plain, 0, false⟩, ⟨1, 1, .w1c, .plain, 0, false⟩, ⟨2, 1, .w1c, .plain, 0, false⟩, ⟨3, 1, .w1c, .plain, 0, false⟩, ⟨4, 1, .w1c, .plain, 0, false⟩, ⟨5, 1, .w1c, .plain, 0, false⟩, ⟨6, 1, .w1c, .plain, 0, false⟩, ⟨7, 1, .w1c, .plain, 0, false⟩]⟩
  , ⟨0x00F00014, [], false, [⟨0, 8, .rw, .plain, 255, false⟩]⟩
  , ⟨0x00F00020, [], false, [⟨0, 10, .rwl, .plain, 598, false⟩]⟩
  , ⟨0x00F00024, [], false, [⟨0, 5, .ro, .plain, 0, false⟩, ⟨8, 1, .ro, .plain, 0, false⟩]⟩
  , ⟨0x00F00028, [], false, [⟨0, 32, .ro, .plain, 0, false⟩]⟩
  , ⟨0x00F00030, [], false, [⟨0, 32, .ro, .plain, 0, false⟩]⟩
  , ⟨0x00F00034, [], false, [⟨1, 7, .ro, .plain, 0, false⟩, ⟨8, 3, .ro, .plain, 0, false⟩]⟩
  , ⟨0x00F00038, [], false, [⟨0, 2, .ro, .plain, 0, false⟩, ⟨2, 1, .ro, .plain, 0, false⟩, ⟨4, 4, .ro, .plain, 0, false⟩, ⟨8, 5, .ro, .plain, 0, false⟩]⟩
  , ⟨0x00F0003C, [], false, [⟨0, 17, .ro, .plain, 0, false⟩]⟩
  , ⟨0x00F00040, [], false, [⟨0, 1, .ro, .plain, 0, false⟩, ⟨16, 16, .ro, .plain, 0, false⟩]⟩
  , ⟨0x00F00060, [(0x4, 8)], false, [⟨0, 32, .ro, .plain, 0, false⟩]⟩
  , ⟨0x00F00080, [], false, [⟨0, 3, .rw, .plain, 0, false⟩]⟩
  , ⟨0x00F00100, [(0x4, 24)], false, [⟨0, 32, .ro, .plain, 0, false⟩]⟩
  , ⟨0x00F00200, [(0x4, 64)], false, [⟨0, 32, .rw, .plain, 0, false⟩]⟩ ]

def regRowsPwrA : List RegRow :=
  [ ⟨0x01000000, [], false, [⟨0, 1, .w1s, .plain, 0, false⟩]⟩
  , ⟨0x01000004, [], false, [⟨0, 1, .rw, .plain, 0, true⟩, ⟨1, 1, .rw, .plain, 0, true⟩]⟩
  , ⟨0x01000008, [], false, [⟨0, 2, .ro, .plain, 0, false⟩, ⟨4, 5, .ro, .plain, 0, false⟩]⟩
  , ⟨0x0100000C, [], false, [⟨0, 4, .ro, .plain, 1, false⟩, ⟨4, 1, .ro, .plain, 0, false⟩, ⟨5, 1, .ro, .plain, 0, false⟩, ⟨6, 1, .ro, .plain, 0, false⟩, ⟨16, 16, .ro, .plain, 0, false⟩]⟩
  , ⟨0x01000010, [], false, [⟨0, 30, .ro, .plain, 0, false⟩]⟩
  , ⟨0x01000014, [], false, [⟨0, 3, .ro, .plain, 0, false⟩]⟩
  , ⟨0x01000018, [], false, [⟨0, 1, .wo, .plain, 0, false⟩, ⟨1, 1, .wo, .plain, 0, false⟩, ⟨8, 8, .wo, .plain, 0, false⟩]⟩
  , ⟨0x01000020, [], false, [⟨0, 1, .w1c, .plain, 0, false⟩, ⟨1, 1, .w1c, .plain, 0, false⟩, ⟨2, 1, .w1c, .plain, 0, false⟩, ⟨3, 1, .w1c, .plain, 0, false⟩]⟩
  , ⟨0x01000024, [], false, [⟨0, 4, .rw, .plain, 15, false⟩]⟩ ]

/-- The rows of the block that holds byte offset `off` (R479). -/
def regRowsAt (off : Nat) : List RegRow :=
  match off / 0x100000 with
  | 0 => regRowsGlbA ++ regRowsGlbB
  | 1 => regRowsFeA
  | 2 => regRowsPodA
  | 3 => regRowsClkA
  | 4 => regRowsTimeA ++ regRowsTimeB
  | 5 => regRowsTrigA ++ regRowsTrigB ++ regRowsTrigC ++ regRowsTrigD ++ regRowsTrigE
  | 6 => regRowsTrigA ++ regRowsTrigB ++ regRowsTrigC ++ regRowsTrigD ++ regRowsTrigE
  | 7 => regRowsAccA
  | 8 => regRowsCmpA ++ regRowsCmpB
  | 9 => regRowsMemA ++ regRowsMemB ++ regRowsMemC
  | 10 => regRowsScrA ++ regRowsScrB
  | 11 => regRowsHostA ++ regRowsHostB
  | 12 => regRowsVitA ++ regRowsVitB
  | 13 => regRowsCurA ++ regRowsCurB
  | 14 => regRowsCfgA
  | 15 => regRowsSecA
  | 16 => regRowsPwrA
  | _ => []

end Machine
end Sys2Proof
end

