-- ==== Sys2Proof/Machine/RegWrite.lean ====
section
/-!
DEFINITION. Writing a register by its offset: the fields of the word act by their types (R7 to R10), reserved encodings
are kept out (R12, R482), and enables that rise send their messages (R335). Shared by REGISTER_WRITE and the window writes
of the trigger fabric.
-/
namespace Sys2Proof
namespace Machine

/-- The offset that the indices of a register account for, strides largest first. -/
def dimOffset : Nat → List (Nat × Nat) → Nat
  | _, [] => 0
  | d, (st, ct) :: r =>
    let q := if st = 0 then 0 else min (ct - 1) (d / st)
    q * st + dimOffset (d - q * st) r

/-- The offset under which a register's fields are kept: TRIG registers that appear in every window are kept in window 0. -/
def canonOff (row : RegRow) (off : Nat) : Nat :=
  if row.shared then 0x500000 + (off - 0x500000) % 0x80000 else off

/-- Does a register row stand at an offset? -/
def RegRow.hits (row : RegRow) (off : Nat) : Bool :=
  let o := canonOff row off
  row.base ≤ o && row.base + dimOffset (o - row.base) row.dims == o

/-- The register at an offset. -/
def findReg (off : Nat) : Option RegRow := (regRowsAt off).find? (·.hits off)

/-- The field that a row of a register at an offset names. -/
def rowFld (row : RegRow) (off : Nat) (f : FieldRow) : Fld := ⟨8 * canonOff row off + f.lsb, f.width, f.reset⟩

/-- The LOCK bit of the block at an offset (R10, R483). -/
def lockFld (off : Nat) : Option Fld :=
  match off / 0x100000 with
  | 0 => some GLB_GCTRL_LOCK
  | 3 => some CLK_GCTRL_LOCK
  | 4 => some TIME_GCTRL_LOCK
  | 9 => some MEM_GCTRL_LOCK
  | 10 => some SCR_GCTRL_LOCK
  | 11 => some HOST_GCTRL_LOCK
  | 12 => some VIT_GCTRL_LOCK
  | 13 => some CUR_GCTRL_LOCK
  | 14 => some CFG_GCTRL_LOCK
  | 15 => some SEC_GCTRL_LOCK
  | 16 => some PWR_GCTRL_LOCK
  | _ => none

/-- Is the block at an offset locked? -/
def locked (e : Eng) (off : Nat) : Bool :=
  match lockFld off with
  | some f => e.on f
  | none => false

/-- Store a value under the field's write rule. -/
def storeRule (master : Nat) (f : Fld) (rule : WriteRule) (v : Nat) (e : Eng) : Eng :=
  match rule with
  | .plain => e.wr f v
  | .clamp lo hi => e.wr f (clampNat lo hi v)
  | .low k => e.wr f (v / 2 ^ k * 2 ^ k)
  | .even lo hi => e.wrEnc master f v (lo ≤ v && v ≤ hi && v % 2 == 0)
  | .legal rs => e.wrEnc master f v (rs.any fun r => r.1 ≤ v && v ≤ r.2)
  | .own => e

/-- One field of a written word. `mask` is the bits of the word whose bytes the write enables. -/
def writeField (master off value mask : Nat) (row : RegRow) (e : Eng) (f : FieldRow) : Eng :=
  let x := rowFld row off f
  let m := bitsOf mask f.lsb f.width
  let v := bitsOf value f.lsb f.width
  if m = 0 ∨ f.rule = .own then e
  else
    let merged := natAndNot (e.rd x) m + (v &&& m)
    match f.ty with
    | .rw => storeRule master x f.rule merged e
    | .rwl => if locked e off then e else storeRule master x f.rule merged e
    | .w1c => e.clearBits x (v &&& m)
    | .w1s => e.wr x (e.rd x ||| (v &&& m))
    | .ro => e
    | .wo => e

/-- All vectors. -/
def allVectors : List Nat := List.range 64

/-- A software write of the enabled bytes of the word at an offset of BAR 0. -/
def writeWord (master off value mask : Nat) (e : Eng) : Eng :=
  match findReg off with
  | none => e
  | some row => irqRises e allVectors (row.fields.foldl (writeField master off value mask row) e)

/-- A software read of the word at an offset: WO and reserved fields read 0 (R7). -/
def readWord (off : Nat) (e : Eng) : Nat :=
  match findReg off with
  | none => 0
  | some row => row.fields.foldl (fun a f =>
      if f.ty = .wo then a else a + e.rd (rowFld row off f) * 2 ^ f.lsb) 0

end Machine
end Sys2Proof
end

