-- ==== Sys2Proof/Machine/Clock.lean ====
section
/-!
DEFINITION. Clock synthesis (chapter 5): the commands LOOP_COMMIT, LOCK_WINDOW_END, ANALOGUE_LOCK, CLOCK_MONITOR_FAIL,
CLOCK_MONITOR_PASS, PHASE_ALIGN_DONE, LOOP_RETURN, UNLOCK_RECORD, CLK_LD_AN_WRITE, RAMP_SEG_WRITE, RAMP_PERIOD and
CLKOUT_CFG_WRITE.
-/
namespace Sys2Proof
namespace Machine

/-- Reject a commit or write. -/
def cmtRej (e : Eng) : Eng := e.raise CLK_EVT_CMT_REJ

/-- One bit of CLK_CMD.COMMIT (R105, R106). DESIGN CHOICE (log entry 143): before the first image a commit is accepted as R106 says,
though every loop is OFF until then (R110); the limits of R103 then decide. -/
def commitLoop (n : Nat) (e : Eng) : Eng :=
  let v := loopShadow e n
  if !loopLegal e n v then cmtRej e
  else if n = 0 then
    (if (e.mode = .service ∨ e.mode = .review) ∧ !e.on GLB_MODE_STAT_BUSY then startLoop 0 v e else cmtRej e)
  else if n = 5 then cmtRej e
  else if n = 6 then startLoop 6 v e
  else if n = 7 then (if e.mode = .service then startLoop 7 v e else cmtRej e)
  else if (List.range 8).any fun t => tileSamples e t && e.rda (FE_TILE_CFG_CLKSEL t) == n - 1 then
    (e.modLoop n fun l => { l with held := true }).wr (CLK_LOOP_STAT_CMT_PEND n) 1
  else startLoop n v e

/-- LOOP_COMMIT (R105 to R107): a write of CLK_CMD.COMMIT. -/
def execLoopCommit (mask : Nat) (s : State) : Result :=
  onEng s fun e => scanRecheck ((List.range 8).foldl (fun a n => if natBit mask n then commitLoop n a else a) e)

/-- LOCK_WINDOW_END (R111): a window of loop `n` ends at tick `t` with `fb` cycles of the feedback divider counted. DESIGN
CHOICE (log entry 144): failing windows declare a loss only of a lock that has been declared. -/
def lockWindowEnd (n fb t : Nat) (e : Eng) : Eng :=
  if 8 ≤ n ∨ loopState e n = 0 ∨ refFailed e n ∨ analogueOn e n then e
  else
    let ref := 2 ^ (6 + e.rd (CLK_LOOP_LD_WIN n))
    if ((fb : Int) - ref).natAbs ≤ e.rd (CLK_LOOP_LD_TOL n) then
      let e1 := (e.wrq (CLK_LOOP_LASTGOOD n) t).modLoop n fun l => { l with passes := l.passes + 1, fails := 0 }
      if !(e.getLoop n).decl ∧ e.rd (CLK_LOOP_LD_CONSEC n) + 1 ≤ (e1.getLoop n).passes then declareLock n e1 else e1
    else
      let e1 := e.modLoop n fun l => { l with passes := 0, fails := l.fails + 1 }
      if (e.getLoop n).decl ∧ e.rd (CLK_LOOP_LD_LOSS n) + 1 ≤ (e1.getLoop n).fails then scanRecheck (loopLoss n 0 t e1) else e1

/-- ANALOGUE_LOCK (R112): LOCK_FILT, now at `volt` × 5 mV, crosses 0.70 V upward or 0.45 V downward at tick `t`. The LOCK
pin equals DECL. Without its reference a loop declares no lock (R121). -/
def analogueLock (lock : Bool) (volt t : Nat) (e : Eng) : Eng :=
  let n := e.rda CLK_LD_AN_LOOP
  if !e.ona CLK_LD_AN_EN ∨ loopState e n = 0 then e
  else
    let e0 := e.wr CLK_LD_AN_VOLT volt
    let e1 := if lock && refFailed e n then e0 else e0.wrb CLK_LD_AN_DECL lock
    if lock && !(e.getLoop n).decl then (if refFailed e n then e1 else declareLock n e1)
    else if !lock && (e.getLoop n).decl then scanRecheck (loopLoss n 1 t e1)
    else e1

/-- A monitor failure is a loss (R115): of the four XREF loops, of a TPLL, or of the loop itself. `src`: 0 XREF, 1 + m DUT
clock m, which is monitored while it is tracked, 8 + n the output of loop n. Vector 57 is raised; for the output of a loop CLK_EVT has
no bit but LOSS. -/
def monitorFail (src t : Nat) (e : Eng) : Eng :=
  if src = 0 then
    let e1 := ({ e.wr CLK_MON_STAT_XREF_OK 0 with clk := { e.clk with refBad := setNatBit e.clk.refBad 0 } }).raise CLK_EVT_XREF_LOSS
    scanRecheck (loopsShow ([0, 5, 6, 7].foldl (fun a n => loopLoss n 2 t a) e1))
  else if src ≤ 4 then
    if !e.ona (FE_STCLK_EN (src - 1)) then e else
    let e1 := ({ e.wrBit CLK_MON_STAT_DUT_OK (src - 1) false with
      clk := { e.clk with refBad := setNatBit e.clk.refBad src } }).raise CLK_EVT_DUT_LOSS (src - 1)
    scanRecheck (loopLoss src 2 t e1)
  else if 8 ≤ src ∧ src < 16 ∧ loopLocked e (src - 8) then
    scanRecheck (irqMessage 57 (loopLoss (src - 8) 2 t e))
  else e

/-- CLOCK_MONITOR_PASS (R115): a clock passes. XREF_BACK reports a reference that had failed. The loops of a reference that
returns start their count afresh (R121). -/
def monitorPass (src : Nat) (e : Eng) : Eng :=
  let fresh (ns : List Nat) (a : Eng) : Eng := ns.foldl (fun a n => a.modLoop n fun l => { l with passes := 0, fails := 0 }) a
  if src = 0 then
    let was := natBit e.clk.refBad 0
    let e1 := { e.wr CLK_MON_STAT_XREF_OK 1 with clk := { e.clk with refBad := clrNatBit e.clk.refBad 0 } }
    loopsShow (if was then fresh [0, 5, 6, 7] (e1.raise CLK_EVT_XREF_BACK) else e1)
  else if src ≤ 4 then
    if !e.ona (FE_STCLK_EN (src - 1)) then e else
    fresh [src] { e.wrBit CLK_MON_STAT_DUT_OK (src - 1) true with clk := { e.clk with refBad := clrNatBit e.clk.refBad src } }
  else if 8 ≤ src ∧ src < 16 ∧ loopLocked e (src - 8) then e.wrBit CLK_MON_STAT_LOOP_OK (src - 8) true
  else e

/-- CLOCK_MONITOR_PASS. -/
def execClockMonitorPass (src : Nat) (s : State) : Result := onEng s (monitorPass src)

/-- CLK_LD_AN_WRITE (R114): the write takes effect, or waits for the next commit of the loop concerned while that loop is
LOCKED and LOOP or EN changes; a later write takes the place of one that waits. A WIN of 0 stores 1. DESIGN CHOICE (log entry 145):
the loops concerned are the old and the new loop of the analogue method, and where both are LOCKED the first commit of either applies
the write. -/
def clkLdAnWrite (en : Bool) (loop win : Nat) (e : Eng) : Eng :=
  let e1 := ((e.wrb CLK_LD_AN_EN en).wr CLK_LD_AN_LOOP loop).wr CLK_LD_AN_WIN (if win % 16 = 0 then 1 else win)
  let same := e1.rd CLK_LD_AN_EN = e.rda CLK_LD_AN_EN ∧ e1.rd CLK_LD_AN_LOOP = e.rda CLK_LD_AN_LOOP
  if same then ldApply e1
  else
    let conc := (if e.ona CLK_LD_AN_EN then [e.rda CLK_LD_AN_LOOP] else []) ++
      (if en then [e1.rd CLK_LD_AN_LOOP] else [])
    let locked := conc.filter fun n => loopLocked e n
    if locked.isEmpty then ldApply e1
    else
      let e2 := locked.foldl (fun a n => a.wr (CLK_LOOP_STAT_CMT_PEND n) 1) (ldRelease e1)
      { e2 with clk := { e2.clk with ldFor := locked.foldl setNatBit 0 } }

/-- CLK_LD_AN_WRITE. -/
def execClkLdAnWrite (en : Bool) (loop win : Nat) (s : State) : Result := onEng s (clkLdAnWrite en loop win)

/-- RAMP_SEG_WRITE (R122): discarded with CMT_REJ while EN is 1; DUR 0 stores 1; END is limited to ±10,000. -/
def rampSegWrite (m sg dur end_ : Nat) (e : Eng) : Eng :=
  if e.on (CLK_RAMP_CTRL_EN m) then cmtRej e
  else
    (e.wr (CLK_RAMP_SEG_DUR m sg) (if dur % 2 ^ 16 = 0 then 1 else dur)).wr (CLK_RAMP_SEG_END m sg)
      (toField 16 (clampInt (-10000) 10000 (signed 16 (end_ % 2 ^ 16))))

/-- RAMP_SEG_WRITE. -/
def execRampSegWrite (m sg dur fin : Nat) (s : State) : Result := onEng s (rampSegWrite m sg dur fin)

/-- Ticks of a segment of ramp `m` (R122): DUR × 10 ns. -/
def rampDur (e : Eng) (m k : Nat) : Nat := 128 * e.rd (CLK_RAMP_SEG_DUR m k)

/-- The profile period (R122). -/
def rampTotal (e : Eng) (m : Nat) : Nat := ((List.range (e.rd (CLK_RAMP_CTRL_COUNT m) + 1)).map (rampDur e m)).sum

/-- The segment in progress after `x` ticks of a period, and the ticks since its start. -/
def rampWalk (e : Eng) (m : Nat) : Nat → Nat → Nat → Nat × Nat
  | 0, k, x => (k, x)
  | n + 1, k, x => if x < rampDur e m k then (k, x) else rampWalk e m n (k + 1) (x - rampDur e m k)

/-- The segment of ramp `m` in progress, and the ticks since its start (R122). -/
def rampPos (e : Eng) (m : Nat) : Nat × Nat :=
  let p := rampTotal e m
  let start := (e.clk.ramp.getD (m % 4) {}).start
  rampWalk e m (e.rd (CLK_RAMP_CTRL_COUNT m)) 0 (if p = 0 then 0 else (((e.now : Int) - start) % p).toNat)

/-- The feed-forward offset of TPLL_m (R122) in ppm of its f_out, as a fraction: it moves linearly from END of the previous segment
to END of the segment in progress. -/
def rampOffset (e : Eng) (m : Nat) : Int × Nat :=
  if !e.on (CLK_RAMP_CTRL_EN m) then (0, 1)
  else
    let p := rampPos e m
    let fin (k : Nat) : Int := signed 16 (e.rd (CLK_RAMP_SEG_END m k))
    let a := fin (if p.1 = 0 then e.rd (CLK_RAMP_CTRL_COUNT m) else p.1 - 1)
    (a * rampDur e m p.1 + (fin p.1 - a) * p.2, rampDur e m p.1)

/-- RAMP_PERIOD (R123): with FOLLOW = 1 time passes to the end of the profile period of ramp `m`, where the engine shifts the profile by
`shift` ticks, at most 1/256 of the period, and has measured the peak residual error `resid` × 10 ppm. Four periods in a row with
at most 5 set ALIGNED, four with more than 10 clear it. -/
def rampPeriod (m resid : Nat) (shift : Int) (e : Eng) : Eng :=
  if !e.on (CLK_RAMP_CTRL_EN m) ∨ !e.on (CLK_RAMP_CTRL_FOLLOW m) then e
  else
    let c := e.clk.ramp.getD (m % 4) {}
    let p := rampTotal e m
    let most : Int := ((p / 256 : Nat) : Int)
    let fin := e.now + (p - (if p = 0 then 0 else (((e.now : Int) - c.start) % p).toNat))
    let e0 := advanceTo fin e
    let r : RampSt := ⟨true, ((fin : Int) + clampInt (-most) most shift).toNat, if resid ≤ 5 then c.good + 1 else 0,
      if 10 < resid then c.bad + 1 else 0⟩
    let e1 := (e0.wr (CLK_RAMP_STAT_RESID m) (min resid 255)).wr (CLK_RAMP_STAT_SEG m) 0
    let e2 := { e1 with clk := { e1.clk with ramp := putAt e1.clk.ramp (m % 4) r {} } }
    if 4 ≤ r.good then e2.wr (CLK_RAMP_STAT_ALIGNED m) 1
    else if 4 ≤ r.bad then e2.wr (CLK_RAMP_STAT_ALIGNED m) 0
    else e2

/-- RAMP_PERIOD. -/
def execRampPeriod (m resid : Nat) (shift : Int) (s : State) : Result := onEng s (rampPeriod m resid shift)

/-- The largest frequency of a CLKOUT format in MHz (R125). -/
def outMax : Nat → Nat
  | 0 => 1600
  | 1 => 400
  | 2 => 6400
  | 3 => 250
  | _ => 200

/-- CLKOUT_CFG_WRITE (R125 to R127): a write of CLK_OUT_k_CFG. Reserved encodings are kept out of their fields (R12); a
configuration above its format's largest frequency is discarded and sets REJ. A change of FMT or LEVEL while EN is 1 drives the idle
level for 1 µs first (R126). -/
def clkoutCfgWrite (master k value mask : Nat) (e : Eng) : Eng :=
  let merged (f : Fld) : Nat :=
    let l := f.key % 32
    natAndNot (e.rd f) (bitsOf mask l f.width) + (bitsOf value l f.width &&& bitsOf mask l f.width)
  let e1 := ((e.wrEnc master (CLK_OUT_CFG_FMT k) (merged (CLK_OUT_CFG_FMT k)) (merged (CLK_OUT_CFG_FMT k) ≤ 4)).wrEnc master
    (CLK_OUT_CFG_SRC k) (merged (CLK_OUT_CFG_SRC k)) (merged (CLK_OUT_CFG_SRC k) ≤ 6)).wrEnc master
    (CLK_OUT_CFG_ONLOSS k) (merged (CLK_OUT_CFG_ONLOSS k)) (merged (CLK_OUT_CFG_ONLOSS k) ≤ 2)
  let e2 := [CLK_OUT_CFG_EN k, CLK_OUT_CFG_TSEL k, CLK_OUT_CFG_DIV k, CLK_OUT_CFG_LEVEL k].foldl (fun a f => a.wr f (merged f)) e1
  if outMax (e2.rd (CLK_OUT_CFG_FMT k)) * 1000 * (e2.rd (CLK_OUT_CFG_DIV k) + 1) <
      outSrcKhz e2 (e2.rd (CLK_OUT_CFG_SRC k)) (e2.rd (CLK_OUT_CFG_TSEL k)) then
    e.raise (CLK_OUT_STAT_REJ k)
  else
    let moved := e.on (CLK_OUT_CFG_EN k) && e2.on (CLK_OUT_CFG_EN k) &&
      (e2.rd (CLK_OUT_CFG_FMT k) != e.rd (CLK_OUT_CFG_FMT k) || e2.rd (CLK_OUT_CFG_LEVEL k) != e.rd (CLK_OUT_CFG_LEVEL k))
    clkOutShow (if moved then { e2 with clk := { e2.clk with outIdle := putAt e2.clk.outIdle (k % 4) (e2.now + 12800) 0 } } else e2) k

/-- CLKOUT_CFG_WRITE. -/
def execClkoutCfgWrite (master k value mask : Nat) (s : State) : Result := onEng s (clkoutCfgWrite master k value mask)

end Machine
end Sys2Proof
end

