-- ==== Sys2Proof/Machine/Fabric.lean ====
section
/-!
DEFINITION. The memory fabric and the schedulers of the stacks (R32 to R34, R281 to R284): requests stall at their port, wait in the
fabric, enter a scheduler of 256 and are served in its order; the command MEMORY_REQUEST.
-/
namespace Sys2Proof
namespace Machine

/-! ### Rows (R281) -/

/-- A row stays open for 2 µs after its last access. -/
def rowOpenTicks : Nat := 25600

/-- Does a request hit an open row? -/
def rowHit (e : Eng) (line : Nat) : Bool :=
  (e.getStk (stackOf line)).rows.any fun r => r.bank == bankOf line && r.row == rowOf line && e.now ≤ r.last + rowOpenTicks

/-- The row of a request is open from now on; a conflict closes the other row of its bank. -/
def rowTouch (line : Nat) (e : Eng) : Eng :=
  e.modStk (stackOf line) fun k =>
    { k with rows := ⟨bankOf line, rowOf line, e.now⟩ :: k.rows.filter fun r => r.bank != bankOf line }

/-! ### The order of a scheduler (R281, R282, R284) -/

/-- Vitrine reports its line buffer below the watermark, which does not apply between L and line 0 (R284, R374). -/
def vitLow (e : Eng) : Bool := e.vt.inLines && e.rd VIT_LB_STAT_FILL < e.rd VIT_LB_CFG_WM

/-- Nanoseconds since the fabric accepted a request. -/
def waited (e : Eng) (x : MemReq) : Nat := (e.now - x.since) * 10 / 128

/-- The urgency of a request (R282, R284). -/
def urgency (e : Eng) (x : MemReq) : Nat :=
  let t := e.rd (MEM_QOS_TARGET_NS x.port)
  let w := waited e x
  if (x.port = 3 ∧ vitLow e = true) ∨ t ≤ w then 3 else if 3 * t ≤ 4 * w then 2 else if t ≤ 2 * w then 1 else 0

/-- The requests in the scheduler of a stack: it holds up to 256, the others wait in the fabric. -/
def schedOf (e : Eng) (s : Nat) : List MemReq := (e.mc.fab.filter fun x => stackOf x.line == s).take 256

/-- Must a request wait for the targeted refreshes queued in its stack, which go ahead of urgencies 0 to 2 (R294)? -/
def trqFirst (e : Eng) (x : MemReq) : Bool := !(e.getStk (stackOf x.line)).trq.isEmpty && urgency e x < 3

/-- The requests of a scheduler that can be served now: those that need not wait, the first of each line (R34). -/
def servable (e : Eng) (s : Nat) : List MemReq :=
  ((schedOf e s).foldl (fun (acc : List Nat × List MemReq) x =>
    (x.line :: acc.1, if acc.1.contains x.line || memWaits x.port x.line (!rowHit e x.line) e || trqFirst e x then acc.2 else acc.2 ++ [x])) ([], [])).2

/-- The older of two requests; on an equal age the one of the lower port. -/
def older (a b : MemReq) : MemReq := if b.since < a.since ∨ (b.since = a.since ∧ b.port < a.port) then b else a

/-- The first of some requests by age and port. -/
def oldestOf : List MemReq → Option MemReq
  | [] => none
  | x :: l => some (l.foldl older x)

/-- The request that the scheduler of a stack chooses (R281): the highest urgency; a row hit, unless 16 in a row have been served at
that urgency; the oldest; the lower port. -/
def schedPick (e : Eng) (s : Nat) : Option MemReq :=
  let l := servable e s
  let u := l.foldl (fun a x => max a (urgency e x)) 0
  let top := l.filter fun x => urgency e x == u
  let hits := top.filter fun x => rowHit e x.line
  let run := (e.getStk s).hitRun
  oldestOf (if hits.isEmpty ∨ (run.1 = u ∧ 16 ≤ run.2) then top else hits)

/-! ### The fabric (R32, R33) -/

/-- Show what is outstanding. -/
def showFab (e : Eng) : Eng :=
  let e1 := (List.range 6).foldl (fun a p =>
    let n := (a.mc.fab.filter fun x => x.port == p).length
    (a.wr (MEM_FAB_OUT_CUR p) n).wr (MEM_FAB_OUT_PEAK p) (max n (a.rd (MEM_FAB_OUT_PEAK p)))) e
  e1.wr MEM_FAB_STAT_SHARED_FREE (sharedFree e1)

/-- The fabric accepts stalled requests, the oldest first, as far as the limits of their ports allow. -/
def fabAccept (e : Eng) : Eng :=
  let r := e.mc.stalled.foldl (fun (acc : Eng × List MemReq) x =>
    if portFree acc.1 x.port then
      (showFab { acc.1 with mc := { acc.1.mc with fab := acc.1.mc.fab ++ [{ x with since := acc.1.now }] } }, acc.2)
    else (acc.1, acc.2 ++ [x])) (e, [])
  { r.1 with mc := { r.1.mc with stalled := r.2 } }

/-- A request is served: its stack wakes, its row is opened where it is not open, the latency counts what it waited, and it acts. -/
def serve (x : MemReq) (e : Eng) (m : Mems) : Eng :=
  let s := stackOf x.line
  let hit := rowHit e x.line
  let u := urgency e x
  let e1 := rowTouch x.line ((stackHeld x.line e).when (!hit) (activate x.port x.line))
  let e2 := e1.modStk s fun k => { k with hitRun := if !hit then (0, 0) else if k.hitRun.1 = u then (u, k.hitRun.2 + 1) else (u, 1) }
  let e3 := latencyNote x.port (waited e x + x.lat) e2
  let e4 := showFab { e3 with mc := { e3.mc with fab := e3.mc.fab.erase x } }
  match x.wr with
  | none => portRead x.port x.line x.want x.resp e4 m
  | some (mask, data) =>
    if mask % 2 ^ 256 = 2 ^ 256 - 1 then fullWrite x.line data e4 else partialWrite x.port x.line mask data x.resp e4 m

/-- The next request that some stack serves, the lowest stack first. -/
def nextServed (e : Eng) : Option MemReq :=
  match schedPick e 0 with
  | some x => some x
  | none => match schedPick e 1 with
    | some x => some x
    | none => match schedPick e 2 with
      | some x => some x
      | none => schedPick e 3

/-- The schedulers serve what can be served; what they free lets stalled requests in. -/
def fabServe : Nat → Eng → Mems → Eng
  | 0, e, _ => e
  | n + 1, e, m =>
    match nextServed e with
    | none => e
    | some x => fabServe n (fabAccept (serve x e (m.applyAll e.wq))) m

/-- The fabric goes on as far as it can. -/
def fabGo (e : Eng) (m : Mems) : Eng :=
  if e.mc.fab.isEmpty && e.mc.stalled.isEmpty then e
  else
    let e1 := fabAccept e
    fabServe (e1.mc.fab.length + e1.mc.stalled.length) e1 m

/-- No request waits for a stack that is more urgent than 1 (R288, R289). -/
def calm (e : Eng) (s : Nat) : Bool := e.mc.fab.all fun x => stackOf x.line != s || urgency e x < 2

/-- No request waits for a stack. -/
def unasked (e : Eng) (s : Nat) : Bool := e.mc.fab.all fun x => stackOf x.line != s

/-- A request stalls at its port, or is accepted and served as soon as its scheduler chooses it. -/
def fabRequest (x : MemReq) (e : Eng) (m : Mems) : Eng := fabGo { e with mc := { e.mc with stalled := e.mc.stalled ++ [x] } } m

/-- MEMORY_REQUEST (R32 to R34, R254 to R265, R279 to R284): port `port` reads a line, or writes the bytes of `mask`. It stalls at its
port, or is accepted and served as soon as its scheduler chooses it. `resp` is what the ranks return, `lat` the nanoseconds that its
service takes. -/
def memoryRequest (port line : Nat) (wr : Option (Nat × List Byte)) (resp : List SecResp) (lat : Nat) (e : Eng) (m : Mems) : Eng :=
  fabRequest { port := port, line := line, wr := wr, resp := resp, lat := lat, since := e.now } e m

/-- MEMORY_REQUEST. -/
def execMemoryRequest (port line : Nat) (wr : Option (Nat × List Byte)) (resp : List SecResp) (lat : Nat) (s : State) : Result :=
  onMem s (memoryRequest port line wr resp lat)

end Machine
end Sys2Proof
end

