-- ==== Sys2Proof/Machine/MemSched.lean ====
section
/-!
DEFINITION. Capture memory scheduling (chapter 12): the commands REFRESH_ACCRUAL, REFRESH_ROUND, BURST_NOTICE,
RD_TABLE_CLEAR, TARGETED_REFRESH, POWER_DOWN_ENTRY, SELF_REFRESH_ENTRY, TRAINING_PASS_START, BIN_REQUEST, BIN_CHANGE,
BIN_LOCK_TIMEOUT and QOS_MAX_READ.
-/
namespace Sys2Proof
namespace Machine

/-- A refresh round of a stack: its rows close first (R281), D falls by one (R287); a training pause or the new delays follow (R297). -/
def refreshRound (s : Nat) (eyes : List (Option (Nat × Nat × Nat))) (e : Eng) : Eng :=
  trainRound s eyes (setDebt s (debt e s - 1) (rowsClose s e))

/-- REFRESH_ACCRUAL (R287, R288): D rises by one per tREFI, not in self-refresh; a D that reaches POSTPONE forces a round at
once. -/
def refreshAccrual (s : Nat) (eyes : List (Option (Nat × Nat × Nat))) (e : Eng) : Eng :=
  if e.rd (MEM_REF_STAT_PWR s) = 2 then setDebt s 0 e
  else
    let d := debt e s + 1
    let e1 := setDebt s d e
    if (e.rd MEM_REF_CFG_POSTPONE : Int) ≤ d then
      refreshRound s eyes ((e1.addSat (MEM_REF_FORCED_CNT s) 1).raise MEM_OP_EVT_FORCED)
    else e1

/-- REFRESH_ACCRUAL. -/
def execRefreshAccrual (st : Nat) (eyes : List (Option (Nat × Nat × Nat))) (s : State) : Result := onEng s (refreshAccrual (st % 4) eyes)

/-- Within 5 µs of a burst notice (R289)? -/
def burstNear (e : Eng) : Bool := match e.mc.burstAt with
  | some t => decide (e.now ≤ t + 64000)
  | none => false

/-- Ticks of tRFC of the active timing set (R299): its clocks at the bin in force. -/
def trfcTicks (e : Eng) : Nat := e.rda (MEM_TIM_C_TRFC 0) * 64 / (4 + e.rd MEM_BIN_STAT_CUR)

/-- A stack is due an opportunistic round (R288): D > 0, and no request of urgency 2 or 3 waits. -/
def roundDue (e : Eng) (s : Nat) : Bool := decide (0 < debt e s) && calm e s

/-- The opportunistic round goes to stack `s`: the largest D, the lower index on a tie, and none began within tRFC. -/
def roundHere (e : Eng) (s : Nat) : Bool :=
  roundDue e s &&
  ((List.range 4).all fun j => !roundDue e j || decide (debt e j < debt e s) || (debt e j == debt e s && s ≤ j)) &&
  (match e.mc.oppAt with
   | some t => decide (t + trfcTicks e ≤ e.now)
   | none => true)

/-- REFRESH_ROUND (R288, R289): an opportunistic round while D > 0, or one pulled in down to −PULLIN after a burst notice, or, where
the stack stays `idle`, once it has held no request for 100 ns. The rounds of the pass of R117 and R301 wait for no accrual. -/
def refreshRoundCmd (s : Nat) (idle : Bool) (eyes : List (Option (Nat × Nat × Nat))) (e : Eng) : Eng :=
  if e.mc.resume then trainRound s eyes (rowsClose s e)
  else if e.rd (MEM_REF_STAT_PWR s) = 2 ∨ !memRuns e then e
  else if 0 < debt e s then
    (if roundHere e s then
      (let e1 := { e with mc := { e.mc with oppAt := some e.now } }
       refreshRound s eyes e1)
     else e)
  else if decide (-(e.rd MEM_REF_CFG_PULLIN : Int) < debt e s) then
    (if burstNear e && calm e s then refreshRound s eyes e
     else if idle && unasked e s then refreshRound s eyes (advanceTo ((e.getStk s).heldAt + 1280) e)
     else e)
  else e

/-- REFRESH_ROUND. -/
def execRefreshRound (st : Nat) (idle : Bool) (eyes : List (Option (Nat × Nat × Nat))) (s : State) : Result :=
  onMem s fun e m => fabGo (refreshRoundCmd (st % 4) idle eyes e) m

/-- BURST_NOTICE (R289). -/
def execBurstNotice (s : State) : Result := onEng s fun e => { e with mc := { e.mc with burstAt := some e.now } }

/-- RD_TABLE_CLEAR (R292): 32 ms ÷ multiplier after the latest clearing the counting tables of a stack are cleared. -/
def rdTableClear (s : Nat) (e : Eng) : Eng :=
  let e1 := advanceTo ((e.getStk s).clearAt + 409600000 / 2 ^ e.rd (MEM_REF_STAT_MULT s)) e
  e1.modStk s fun k => { k with table := [], clearAt := e1.now }

/-- RD_TABLE_CLEAR. -/
def execRdTableClear (st : Nat) (s : State) : Result := onEng s (rdTableClear (st % 4))

/-- TARGETED_REFRESH (R294): the oldest queued targeted refresh of a stack is issued. -/
def targetedRefresh (s : Nat) (e : Eng) : Eng :=
  match (e.getStk s).trq with
  | [] => e
  | x :: rest =>
    let e1 := e.modStk s fun k => { k with trq := rest, full := false }
    if x.2.2 then e1.addSat (MEM_RD_TRR_CNT s) 1 else e1

/-- TARGETED_REFRESH; requests that its full queue held back go on. -/
def execTargetedRefresh (st : Nat) (s : State) : Result := onMem s fun e m => fabGo (targetedRefresh (st % 4) e) m

/-- POWER_DOWN_ENTRY (R295, R476): a stack that has held no request for PD_NS × 10 ns enters power-down; in TRICKLE after 20 ns,
whatever MEM_PD_CFG holds. -/
def powerDown (s : Nat) (e : Eng) : Eng :=
  let wait := if e.rd PWR_STAT_STATE = 2 then 256 else e.rd MEM_PD_CFG_PD_NS * 128
  if e.rd (MEM_REF_STAT_PWR s) ≠ 0 ∨ wait = 0 ∨ !unasked e s then e
  else (advanceTo ((e.getStk s).heldAt + wait) e).wr (MEM_REF_STAT_PWR s) 1

/-- POWER_DOWN_ENTRY. -/
def execPowerDownEntry (st : Nat) (s : State) : Result := onEng s (powerDown (st % 4))

/-- SELF_REFRESH_ENTRY (R290, R295): a stack that has held no request for SR_US µs enters self-refresh, where D is 0. -/
def selfRefresh (s : Nat) (e : Eng) : Eng :=
  if e.rd MEM_PD_CFG_SR_US = 0 ∨ !unasked e s then e
  else setDebt s 0 (rowsClose s ((advanceTo ((e.getStk s).heldAt + e.rd MEM_PD_CFG_SR_US * 12800) e).wr (MEM_REF_STAT_PWR s) 2))

/-- SELF_REFRESH_ENTRY. -/
def execSelfRefreshEntry (st : Nat) (s : State) : Result := onEng s (selfRefresh (st % 4))

/-- TRAINING_PASS_START (R297): PERIOD_MS after the previous one a periodic pass begins; none starts during a bin change or another
pass. -/
def trainingPass (e : Eng) : Eng :=
  if !e.on MEM_TRN_STAT_INIT_DONE ∨ e.mc.pass ∨ e.mc.bin.isSome ∨ !memRuns e then e
  else
    let e1 := advanceTo (e.mc.passFrom + e.rd MEM_TRN_CFG_PERIOD_MS * 12800000) e
    let e2 := { e1 with mc := { e1.mc with passFrom := e1.now } }
    passStart false e2

/-- TRAINING_PASS_START. -/
def execTrainingPassStart (s : State) : Result := onEng s trainingPass

/-! ### The speed bin (R299 to R303) -/

/-- NINT that gives MPLL the output of a bin: f_vco = 3.2, 4.0, 4.8 or 5.6 GHz. -/
def binNint (e : Eng) (bin : Nat) : Nat :=
  let v := loopActive e 5
  (3200000 + 800000 * bin) * (2 * v.rdiv) / refTwice e 5 v

/-- The first condition of R300 that a request fails. -/
def binCheck (e : Eng) (bin : Nat) : Option Nat :=
  if !(e.mode = .service ∨ e.mode = .review) ∨ e.on GLB_MODE_STAT_BUSY then some 1
  else if !e.on (MEM_TIM_C_VALID bin) then some 2
  else if !e.on MEM_TRN_STAT_INIT_DONE then some 3
  else if e.on MEM_BIN_STAT_BUSY then some 4
  else if (List.range 8).any fun c => e.rd (HOST_DMA_STAT_STATE c) == 1 then some 5
  else none

/-- BIN_REQUEST (R300): a write of MEM_BIN_CTRL with REQ. -/
def binRequest (bin : Nat) (pol : Bool) (e : Eng) : Eng :=
  let e1 := (e.wr MEM_BIN_CTRL_BIN bin).wrb MEM_BIN_CTRL_TRN_POL pol
  let b := bin % 4
  match binCheck e1 b with
  | some c => (e1.wr MEM_BIN_STAT_REJ_CODE c).raise MEM_BIN_STAT_REJ
  | none =>
    if b = e.rd MEM_BIN_STAT_CUR then e1
    else
      { e1.wr MEM_BIN_STAT_BUSY 1 with
        mc := { e1.mc with bin := some { bin := b, prev := e.rd MEM_BIN_STAT_CUR, prevNint := (loopActive e 5).nint, since := e.now } } }

/-- BIN_REQUEST. -/
def execBinRequest (bin : Nat) (pol : Bool) (s : State) : Result := onEng s (binRequest bin pol)

/-- Load the shadow timing set of a bin into the active set. -/
def loadTiming (b : Nat) (e : Eng) : Eng :=
  [MEM_TIM_A_TRCD, MEM_TIM_A_TRP, MEM_TIM_A_TRAS, MEM_TIM_A_TRRD, MEM_TIM_B_RL, MEM_TIM_B_WL, MEM_TIM_B_TFAW, MEM_TIM_B_TWR,
    MEM_TIM_C_TRFC, MEM_TIM_C_TXS].foldl (fun a f => a.wra (f 0) (a.rd (f b))) e

/-- BIN_CHANGE (R301 steps 2 to 5, R302): after the hold the ports stall, every rank enters self-refresh, the timing set and
MPLL change. With TRN_POL 0 the change waits for a gathering pass, at most 1 ms; with 1 it abandons the pass. A repair in
the slice is waited for. -/
def binChange (e : Eng) : Eng :=
  match e.mc.bin with
  | none => e
  | some b =>
    if b.stall ∨ (List.range 4).any (fun s => (e.getStk s).ppr.isSome) ∨
        (e.mc.pass ∧ !e.on MEM_BIN_CTRL_TRN_POL ∧ e.now < b.since + 12800000) then e
    else
      let e1 := memSelfRefresh (passAbandon e)
      let e2 := loadTiming b.bin { e1 with mc := { e1.mc with bin := some { b with stall := true } } }
      startLoop 5 { loopActive e2 5 with nint := binNint e2 b.bin } e2

/-- BIN_CHANGE. -/
def execBinChange (s : State) : Result := onEng s binChange

/-- BIN_LOCK_TIMEOUT (R303): MPLL has not locked 2 ms after step 5; the previous timing set and NINT are restored. -/
def binLockTimeout (e : Eng) : Eng :=
  match e.mc.bin with
  | none => e
  | some b =>
    if !b.stall ∨ b.restore ∨ loopLocked e 5 then e
    else
      let e1 := loadTiming b.prev { e with mc := { e.mc with bin := some { b with restore := true } } }
      startLoop 5 { loopActive e1 5 with nint := b.prevNint } e1

/-- BIN_LOCK_TIMEOUT. -/
def execBinLockTimeout (s : State) : Result := onEng s binLockTimeout

/-- QOS_MAX_READ: a read of MEM_QOS_MAX_p takes the value for its master and resets NS. -/
def qosMaxRead (master p : Nat) (e : Eng) : Eng := (latchFld master (MEM_QOS_MAX_NS p) e).wr (MEM_QOS_MAX_NS p) 0

/-- QOS_MAX_READ. -/
def execQosMaxRead (master p : Nat) (s : State) : Result := onEng s (qosMaxRead master p)

end Machine
end Sys2Proof
end

