-- ==== Sys2Proof/Machine/Scratch.lean ====
section
/-!
DEFINITION. Scratch (R305 to R318): the commands SCRATCH_ACCESS, SCR_RGN_WRITE, ATOMIC_GO, SCRATCH_PATROL,
SCRATCH_INV_AGE, SCRATCH_REPAIR_DONE, MARCH_TEST_START, MARCH_TEST_ABORT and MARCH_TEST_END, and the start and end of a
secure wipe.
-/
namespace Sys2Proof
namespace Machine

/-! ### Addresses and owners (R305, R307) -/

/-- Does the range touch banks 28 to 31? -/
def touchesSecure (a n : Nat) : Bool := 28 * 2 ^ 20 < a + n

/-- The region registers of master `m` permit an access of the bytes (R309). -/
def rgnPermits (e : Eng) (m a n : Nat) (r w : Bool) : Bool :=
  (List.range 8).any fun j =>
    e.on (SCR_RGN_PERM_EN m j) && e.rd (SCR_RGN_BASE_BASE m j) * 4096 ≤ a &&
    a + n ≤ (e.rd (SCR_RGN_LIMIT_LIMIT m j) + 1) * 4096 &&
    (!r || e.on (SCR_RGN_PERM_R m j)) && (!w || e.on (SCR_RGN_PERM_W m j))

/-- Is an access by a privileged master permitted (R309)? -/
def privPermits (e : Eng) (m a n : Nat) (r w : Bool) : Bool :=
  a + n ≤ 2 ^ 25 && rgnPermits e m a n r w && (m == 0 || !touchesSecure a n) &&
    !((scrWords a n).any fun x => bankTested e (scrBank x))

/-- May the access be served? -/
def scrPermits (e : Eng) (x : ScrAcc) : Bool :=
  if x.who < 8 then unitReaches e x.who x.addr x.len
  else privPermits e (x.who - 8) x.addr x.len x.wr.isNone x.wr.isSome

/-- A denied register access of the host (R328). -/
def hostDeny (e : Eng) : Eng := (e.addSat HOST_DENY_CNT_CNT 1).raise HOST_EVT_DENIED

/-- PRIV_DENIED (R309). -/
def privDeny (m a : Nat) (e : Eng) : Eng :=
  (((e.addSat SCR_PRIV_CNT_CNT 1).wr SCR_PRIV_LOG_ADDR a).wr SCR_PRIV_LOG_MASTER m).raise SCR_EVT_PRIV_ERR

/-! ### Inventory and repair (R315, R316) -/

/-- Replace the inventory, with its counts shown. -/
def scrSetInv (l : List ScrEntry) (e : Eng) : Eng :=
  (({ e with sc := { e.sc with inv := l } }).wr SCR_INV_STAT_USED l.length).wr SCR_INV_STAT_UNREP (l.filter fun (x : ScrEntry) => x.unrep).length

/-- Change the entry of a word and bit. -/
def scrModInv (w b : Nat) (f : ScrEntry → ScrEntry) (e : Eng) : Eng :=
  scrSetInv (e.sc.inv.map fun x => if x.word = w ∧ x.bit = b then f x else x) e

/-- The entry of a word and bit. -/
def scrEntry (e : Eng) (w b : Nat) : Option ScrEntry := e.sc.inv.find? fun x => x.word == w && x.bit == b

/-- A hard fault calls for a spare column: hard faults in two or more rows of the bank at its column and bit (R316). -/
def wantsColumn (e : Eng) (w b : Nat) : Bool :=
  e.sc.inv.any fun x => x.hard && scrBank x.word == scrBank w && scrRow x.word != scrRow w && scrCol x.word == scrCol w && x.bit == b

/-- The repair of a hard fault starts, or finds no spare of its kind left (R316). -/
def scrRepairStart (w b : Nat) (e : Eng) : Eng :=
  let k := scrBank w
  let col := wantsColumn e w b
  let left := if col then e.rd (SCR_REP_COLS_LEFT k) else e.rd (SCR_REP_ROWS_LEFT k)
  let running := (e.sc.reps.filter fun r => scrBank r.1 == k && r.2.2 == col).length
  if e.sc.reps.any fun r => r.1 == w && r.2.1 == b then e
  else if e.on SCR_STAT_WIPING && 28 ≤ k then e
  else if left ≤ running then
    (scrModInv w b (fun x => { x with unrep := true }) e).raisePost SCR_EVT_REP_FAIL 0 (leBytes 4 (w * 8) ++ leBytes 1 b)
  else { e with sc := { e.sc with reps := e.sc.reps ++ [(w, b, col)] } }

/-- A hard fault is declared (R315): HARD, its Ledger entry, and the repair with AUTO_REP. -/
def scrDeclare (w b : Nat) (e : Eng) : Eng :=
  let e1 := (scrModInv w b (fun x => { x with hard := true }) e).raisePost SCR_EVT_HARD 0 (leBytes 4 (w * 8) ++ leBytes 1 b)
  if e.on SCR_REP_CFG_AUTO_REP then scrRepairStart w b e1 else e1

/-- A CORRECTED read creates or refreshes the entry of its word and bit (R315). -/
def scrInvNote (w b : Nat) (e : Eng) : Eng :=
  match scrEntry e w b with
  | some _ => scrModInv w b (fun x => { x with seen := e.now }) e
  | none =>
    let new : ScrEntry := { word := w, bit := b, seen := e.now }
    if e.sc.inv.length < 32 then scrSetInv (e.sc.inv ++ [new]) e
    else match e.sc.inv.find? fun x => x.count == 0 with
      | some old => scrSetInv (e.sc.inv.erase old ++ [new]) e
      | none => e.addSat SCR_INV_STAT_OVF 1

/-- The same bit was in error again at the re-read (R314, R315). -/
def scrAgain (w b : Nat) (e : Eng) : Eng :=
  match scrEntry e w b with
  | none => e
  | some x =>
    let e1 := scrModInv w b (fun y => { y with count := y.count + 1 }) e
    if x.count + 1 < e.rd SCR_REP_CFG_HARD_THR ∨ x.unrep then e1
    else if x.hard then (if e.on SCR_REP_CFG_AUTO_REP then scrRepairStart w b e1 else e1)
    else scrDeclare w b e1

/-! ### Reads and writes of words (R312) -/

/-- The result of reading a word. -/
inductive ScrRes where
  | clean
  | corrected (bit : Nat)
  | uncorrectable
  | poisoned
  deriving DecidableEq, Repr

/-- A poisoned word reads POISONED, any other as its array returns it. -/
def scrResult (m : Mems) (w : Nat) (r : ScrResp) : ScrRes :=
  if idxMem m.scrPois w then .poisoned
  else match r with
    | .clean => .clean
    | .corrected b => .corrected b
    | .uncorrectable => .uncorrectable

/-- The result delivers poison. -/
def ScrRes.bad : ScrRes → Bool
  | .uncorrectable => true
  | .poisoned => true
  | _ => false

/-- What a read counts, whoever makes it; an uncorrectable word is written back poisoned. -/
def scrCount (w : Nat) (r : ScrRes) (e : Eng) : Eng :=
  match r with
  | .clean => e
  | .corrected b =>
    scrInvNote w b ((((e.addSat SCR_ERR_CE_CNT_CNT 1).wr SCR_CE_LOG_ADDR (w * 8)).wr SCR_CE_LOG_BIT b).raise SCR_EVT_CE)
  | .uncorrectable =>
    (((e.addSat SCR_ERR_UE_CNT_CNT 1).wr SCR_UE_LOG_ADDR (w * 8)).raiseWith SCR_EVT_UE 0 (leBytes 4 (w * 8))).emit (.scrPoison w true)
  | .poisoned => e.addSat SCR_ERR_PRD_CNT_CNT 1

/-- A reader is told of poison (R313, R329): POISON_RD; for Curator the load error's Ledger entry; for the host the
poisoned completion. -/
def scrTold (who a : Nat) (e : Eng) : Eng :=
  let e1 := if who = 8 ∧ e.on SCR_EVT_POISON_RD = true then e.postEv SCR_EVT_POISON_RD 0 (leBytes 4 a)
    else e.raiseWith SCR_EVT_POISON_RD 0 (leBytes 4 a)
  if who = 9 then (e1.addSat HOST_POISON_CNT_CNT 1).raise HOST_EVT_POISON_TX else e1

/-- Serve a read. -/
def scrServeRead (x : ScrAcc) (e : Eng) (m : Mems) : Eng :=
  let ws := scrWords x.addr x.len
  let res := ((List.range ws.length).zip ws).map fun p => (p.2, scrResult m p.2 (x.resp.getD p.1 .clean))
  let e1 := res.foldl (fun a p => scrCount p.1 p.2 a) e
  let badAt (a : Nat) : Bool := res.any fun p => p.1 == a / 8 && p.2.bad
  let bytes := (List.range x.len).map fun i => if badAt (x.addr + i) then 0 else memGet m.scr (x.addr + i)
  let pois := res.any fun p => p.2.bad
  let e2 := if pois then scrTold x.who x.addr e1 else e1
  e2.send (.scr x.who x.addr bytes pois)

/-- Serve a write: whole words without a read, the others as partial writes; a partial write leaves a poisoned word
poisoned. -/
def scrServeWrite (x : ScrAcc) (bs : List Byte) (e : Eng) (m : Mems) : Eng :=
  let ws := scrWords x.addr x.len
  let part (w : Nat) : Bool := w * 8 < x.addr || x.addr + x.len < w * 8 + 8
  let e1 := ((List.range ws.length).zip ws).foldl (fun a p =>
    if part p.2 then scrCount p.2 (scrResult m p.2 (x.resp.getD p.1 .clean)) a else a) e
  e1.emit (.scr x.addr ((bs ++ List.replicate x.len 0).take x.len))

/-- An access while WIPING to the secure banks waits until the wipe ends (R317). -/
def scrWaits (e : Eng) (a n : Nat) : Bool := e.on SCR_STAT_WIPING && touchesSecure a n

/-- Serve an access, or refuse it. -/
def scrAccess (x : ScrAcc) (e : Eng) (m : Mems) : Eng :=
  if !scrPermits e x then
    let e1 := if x.who < 8 then partRefuse x.who x.addr e else privDeny (x.who - 8) x.addr e
    let e2 := if x.who = 9 then hostDeny e1 else e1
    if x.wr.isNone then e2.send (.scr x.who x.addr (List.replicate x.len 0) false) else e2
  else if scrWaits e x.addr x.len then { e with sc := { e.sc with hold := e.sc.hold ++ [.acc x] } }
  else match x.wr with
    | none => scrServeRead x e m
    | some bs => scrServeWrite x bs e m

/-- Two accesses of one slot meet in a word of bank 0 or 1 (R306). -/
def scrMeet (a b : ScrAcc) : Bool :=
  (scrWords a.addr a.len).any fun w => scrBank w < 2 && (scrWords b.addr b.len).contains w

/-- SCRATCH_ACCESS (R306 to R313). `b` is a privileged master's access through port B in the same slot, if there is one:
reads come before writes, and of two writes port A's bytes win. -/
def scratchAccess (a : ScrAcc) (b : Option ScrAcc) (e : Eng) (m : Mems) : Eng :=
  let after (x : ScrAcc) (e1 : Eng) : Eng := scrAccess x e1 (m.applyAll e1.wq)
  match b with
  | none => scrAccess a e m
  | some y =>
    if scrMeet a y && a.who < 8 && 8 ≤ y.who && scrPermits e a && scrPermits e y then
      match a.wr, y.wr with
      | some _, some _ => after a (scrAccess y (e.addSat SCR_DP_COLL_CNT 1) m)
      | some _, none => after a (scrAccess y e m)
      | none, _ => after y (scrAccess a e m)
    else after y (scrAccess a e m)

/-- SCRATCH_ACCESS. -/
def execScratchAccess (a : ScrAcc) (b : Option ScrAcc) (s : State) : Result := onMem s (scratchAccess a b)

/-- SCR_RGN_WRITE (R309): only Curator writes; `reg` 0 BASE, 1 LIMIT, 2 PERM with EN, R, W in bits 0 to 2. -/
def scrRgnWrite (master m j reg v : Nat) (e : Eng) : Eng :=
  if master ≠ 0 then e.raise SCR_EVT_PRIV_ERR
  else if 3 ≤ m ∨ 8 ≤ j then e
  else if reg = 0 then e.wr (SCR_RGN_BASE_BASE m j) v
  else if reg = 1 then e.wr (SCR_RGN_LIMIT_LIMIT m j) v
  else if reg = 2 then
    ((e.wr (SCR_RGN_PERM_EN m j) v).wr (SCR_RGN_PERM_R m j) (v / 2)).wr (SCR_RGN_PERM_W m j) (v / 4)
  else e

/-- SCR_RGN_WRITE. -/
def execScrRgnWrite (master m j reg v : Nat) (s : State) : Result := onEng s (scrRgnWrite master m j reg v)

/-! ### Atomics (R311) -/

/-- An atomic ends with a result. -/
def atomEnd (m err res : Nat) (e : Eng) : Eng :=
  ((((e.wrq (SCR_ATOM_RES m) res).wr (SCR_ATOM_STAT_ERR m) err).addWrap (SCR_ATOM_STAT_GEN m) 1).wr (SCR_ATOM_STAT_VALID m) 1).wr
    (SCR_ATOM_STAT_BUSY m) 0

/-- Perform an accepted atomic of master `m`. -/
def atomRun (m : Nat) (r : ScrResp) (e : Eng) (mem : Mems) : Eng :=
  let a := e.rd (SCR_ATOM_ADDR_ADDR m)
  let n := if e.on (SCR_ATOM_CMD_SIZE m) then 8 else 4
  if !privPermits e m a n true true then atomEnd m 1 0 (privDeny m a e)
  else if a % n ≠ 0 then atomEnd m 2 0 e
  else if scrWaits e a n then { e with sc := { e.sc with hold := e.sc.hold ++ [.atom m r] } }
  else
    let res := scrResult mem (a / 8) r
    let e1 := scrCount (a / 8) res e
    if res.bad then atomEnd m 3 0 (scrTold (8 + m) a e1)
    else
      let old := leNat (memRead mem.scr a n)
      let op := e.rdq (SCR_ATOM_OPND m)
      let new := if e.on (SCR_ATOM_CMD_OP m) then op else old + op
      atomEnd m 0 old (e1.emit (.scr a (leBytes n (new % 2 ^ (8 * n)))))

/-- ATOMIC_GO (R311): `master` writes CMD.GO of set `m`. -/
def atomicGo (master m : Nat) (r : ScrResp) (e : Eng) (mem : Mems) : Eng :=
  if master ≠ m then e.raise SCR_EVT_PRIV_ERR
  else if 3 ≤ m then e
  else if e.on (SCR_ATOM_STAT_BUSY m) then e
  else atomRun m r ((e.wr (SCR_ATOM_STAT_VALID m) 0).wr (SCR_ATOM_STAT_BUSY m) 1) mem

/-- ATOMIC_GO. -/
def execAtomicGo (master m : Nat) (resp : ScrResp) (s : State) : Result := onMem s (atomicGo master m resp)

/-! ### Patrol (R314) -/

/-- The patrol moves to the next word; after the last one a pass is complete. -/
def patrolNext (e : Eng) : Eng :=
  if e.sc.patrol + 1 < 2 ^ 22 then { e with sc := { e.sc with patrol := e.sc.patrol + 1 } }
  else ({ e with sc := { e.sc with patrol := 0 } }).addWrap SCR_PATROL_PASS_CNT 1

/-- SCRATCH_PATROL (R314): the patrol reads its next word, writes a CORRECTED one back and re-reads it (`again`: the same
bit in error), and writes an UNCORRECTABLE one back poisoned. -/
def scratchPatrol (r : ScrResp) (again : Bool) (e : Eng) (m : Mems) : Eng :=
  let w := e.sc.patrol
  if !e.on SCR_PATROL_CFG_EN then e
  else if e.on SCR_STAT_WIPING && 28 ≤ scrBank w then e
  else if bankTested e (scrBank w) then patrolNext e
  else
    let res := scrResult m w r
    let e1 := scrCount w res e
    patrolNext (match res with
      | .corrected b => if again then scrAgain w b e1 else e1
      | _ => e1)

/-- SCRATCH_PATROL. -/
def execScratchPatrol (resp : ScrResp) (again : Bool) (s : State) : Result := onMem s (scratchPatrol resp again)

/-- SCRATCH_INV_AGE (R315): time passes until the entry of count 0 longest without a correction reaches 24 h; the entries
that have are dropped. -/
def scratchInvAge (e : Eng) : Eng :=
  match e.sc.inv.filter fun x => x.count == 0 with
  | [] => e
  | x :: xs =>
    let day := 24 * 3600 * tps
    let e1 := advanceTo (xs.foldl (fun a y => min a y.seen) x.seen + day) e
    scrSetInv (e1.sc.inv.filter fun y => !(y.count == 0 && y.seen + day ≤ e1.now)) e1

/-- SCRATCH_INV_AGE. -/
def execScratchInvAge (s : State) : Result := onEng s scratchInvAge

/-- Curator records a repair of bank `b` in the Vault (R316), at once where it executes, otherwise when it does. -/
def repairSave (b : Nat) (col : Bool) (e : Eng) : Eng :=
  let add (r : Rec) : Rec := { r with rep := { r.rep with scr := r.rep.scr ++ [(b, col)] } }
  if curRuns e then recWrite add e
  else { e with nv := { e.nv with srec := add e.nv.srec }, cu := { e.cu with mapDue := true } }

/-- SCRATCH_REPAIR_DONE (R316): the oldest repair of bank `b` completes; it is recorded in the Vault. -/
def scratchRepairDone (b : Nat) (e : Eng) : Eng :=
  match e.sc.reps.find? fun r => scrBank r.1 == b with
  | none => e
  | some r =>
    let f := if r.2.2 then SCR_REP_COLS_LEFT b else SCR_REP_ROWS_LEFT b
    let covered (x : ScrEntry) : Bool := scrBank x.word == b &&
      (if r.2.2 then scrCol x.word == scrCol r.1 && x.bit == r.2.1 else scrRow x.word == scrRow r.1)
    let e1 := repairSave b r.2.2 (({ e with sc := { e.sc with reps := e.sc.reps.erase r } }).wr f (e.rd f - 1))
    (scrSetInv (e1.sc.inv.filter fun x => !covered x) e1).raisePost SCR_EVT_REPAIRED 0
      (leBytes 4 (r.1 * 8) ++ [BitVec.ofNat 8 (r.2.1 + if r.2.2 then 128 else 0)])

/-- SCRATCH_REPAIR_DONE. -/
def execScratchRepairDone (b : Nat) (s : State) : Result := onEng s (scratchRepairDone b)

/-! ### Secure wipe (R317) -/

/-- A wipe of banks 28 to 31 begins: a march test or repair there ends. -/
def wipeStart (e : Eng) : Eng :=
  let keep (t : March) : March := { t with banks := t.banks % 2 ^ 28 }
  ({ e with sc := { e.sc with
    reps := e.sc.reps.filter fun r => scrBank r.1 < 28
    march := e.sc.march.map keep } }).wr SCR_STAT_WIPING 1

/-- The wipe ends: every word of the banks is zero and clean, and the accesses that waited are served. -/
def wipeEnd (e : Eng) (m : Mems) : Eng :=
  if !e.on SCR_STAT_WIPING then e
  else
    let e1 := (((({ e with sc := { e.sc with hold := [] } }).wr SCR_STAT_WIPING 0).raise SCR_EVT_WIPED).emit
      (.scrClear (28 * 2 ^ 20) (4 * 2 ^ 20)))
    e.sc.hold.foldl (fun a x =>
      match x with
      | .acc y => scrAccess y a (m.applyAll a.wq)
      | .atom k r => atomRun k r a (m.applyAll a.wq)) e1

/-! ### March test (R318) -/

/-- A DESTRUCTIVE test may start: SERVICE, and no eye scan, retriggering run, compression job or DMA channel is active. -/
def marchAllowed (e : Eng) : Bool :=
  e.mode == OpMode.service && !e.on FE_ES_STAT_BUSY && !e.on TRIG_RR_STAT_BUSY &&
  !((List.range 4).any fun q => e.rd (CMP_JOB_STAT_STATE q) == 1 || e.rd (CMP_JOB_STAT_STATE q) == 2) &&
  !((List.range 8).any fun c => e.rd (HOST_DMA_STAT_STATE c) == 1)

/-- MARCH_TEST_START (R318). -/
def marchStart (e : Eng) : Eng :=
  let mode := e.rd SCR_MT_CTRL_MODE
  if e.on SCR_MT_STAT_BUSY || (mode == 0 && !marchAllowed e) then e.raise SCR_MT_STAT_REJ
  else ({ e with sc := { e.sc with march := some ⟨mode, e.rd SCR_MT_BANKS_BANKS⟩ } }).wr SCR_MT_STAT_BUSY 1

/-- MARCH_TEST_START. -/
def execMarchTestStart (s : State) : Result := onEng s marchStart

/-- A failing cell is a hard fault (R315, R318). -/
def cellFail (e : Eng) (c : Nat × Nat) : Eng :=
  let e1 := scrInvNote c.1 c.2 e
  match scrEntry e1 c.1 c.2 with
  | some x => if x.hard then e1 else scrDeclare c.1 c.2 e1
  | none => (e1.raisePost SCR_EVT_HARD 0 (leBytes 4 (c.1 * 8) ++ leBytes 1 c.2))

/-- The test ends: failing cells (word, bit), rows that read zero afterwards in a DESTRUCTIVE test. -/
def marchEnd (err rows : Nat) (fails : List (Nat × Nat)) (e : Eng) : Eng :=
  match e.sc.march with
  | none => e
  | some t =>
    let fs := fails.filter fun c => natBit t.banks (scrBank c.1)
    let e1 := { e with sc := { e.sc with march := none } }
    let e2 := if t.mode = 0 then
        (indicesWhere 32 (natBit t.banks)).foldl (fun a b => a.emit (.scrClear (b * 2 ^ 20) (min rows 2048 * 512))) e1
      else e1
    let e3 := fs.foldl cellFail e2
    ((((((e3.wr SCR_MT_FAIL_BANKS (maskOf 32 fun b => fs.any fun c => scrBank c.1 == b)).wr SCR_MT_STAT_ERR err).addWrap
      SCR_MT_STAT_GEN 1).wr SCR_MT_STAT_VALID 1).wr SCR_MT_STAT_BUSY 0).raise SCR_EVT_MT_END)

end Machine
end Sys2Proof
end

