-- ==== Sys2Proof/Machine/Dma.lean ====
section
/-!
DEFINITION. The DMA channels, address translation and completions (R342 to R350): the commands DMA_TAIL_WRITE, DMA_ENABLE,
DMA_DISABLE, DMA_ABORT, DMA_DESCRIPTOR, DMA_DESCRIPTOR_DONE, STREAM_FLUSH, ATS_INVALIDATE, COMPLETION_TIMEOUT,
QUARANTINE_EXPIRY and COMPLETION_RECEIVED.
-/
namespace Sys2Proof
namespace Machine

/-- The state of a channel. -/
def Eng.getDma (e : Eng) (c : Nat) : DmaSt := e.dma.getD (c % 8) {}

/-- Change the state of a channel. -/
def Eng.modDma (e : Eng) (c : Nat) (f : DmaSt → DmaSt) : Eng := { e with dma := putAt e.dma (c % 8) (f (e.getDma c)) {} }

/-- Change the host link's state. -/
def Eng.modHl (e : Eng) (f : LinkSt → LinkSt) : Eng := { e with hl := f e.hl }

/-- A channel is RUNNING. -/
def dmaRuns (e : Eng) (c : Nat) : Bool := e.rd (HOST_DMA_STAT_STATE c) == 1

/-- The engine may send requests: Bus Master Enable, D0, link up (R345). -/
def busOk (e : Eng) : Bool := e.on CS_BME && e.rd CS_PM_STATE == 0 && e.hl.up && !e.hl.cold

/-! ### Capture memory as the host port sees it -/

/-- The fabric port of the host. -/
def hstPort : Nat := 2

/-- Does a byte of the range lie in a poisoned sector of line `l`? -/
def rangePois (a n l pois : Nat) : Bool :=
  (List.range 8).any fun k => natBit pois k && a < l * 256 + 32 * k + 32 && l * 256 + 32 * k < a + n

/-- Read `n` bytes of capture memory through a port: the bytes, and whether one is poisoned. -/
def portBytes (port a n : Nat) (e : Eng) (m : Mems) : Eng × List Byte × Bool :=
  (capLines a n).foldl (fun (acc : Eng × List Byte × Bool) l =>
    let r := portLine port l acc.1 m
    let lo := max a (l * 256)
    let hi := min (a + n) (l * 256 + 256)
    (r.1, acc.2.1 ++ ((r.2.1.drop (lo - l * 256)).take (hi - lo)), acc.2.2 || rangePois a n l r.2.2)) (e, [], false)

/-- Read `n` bytes of capture memory through the host port. -/
def capRead (a n : Nat) (e : Eng) (m : Mems) : Eng × List Byte × Bool := portBytes hstPort a n e m

/-- Write bytes to capture memory through a port, line by line. -/
def portStore (port a : Nat) (bs : List Byte) (e : Eng) (m : Mems) : Eng :=
  (capLines a bs.length).foldl (fun x l =>
    let inside (b : Nat) : Bool := a ≤ l * 256 + b && l * 256 + b < a + bs.length
    let data := (List.range 256).map fun b => if inside b then bs.getD (l * 256 + b - a) 0 else 0
    if a ≤ l * 256 && l * 256 + 256 ≤ a + bs.length then fullWrite l data x
    else partialWrite port l (maskOf 256 inside) data [] x (m.applyAll x.wq)) e

/-- Write bytes to capture memory through the host port. -/
def capStore (a : Nat) (bs : List Byte) (e : Eng) (m : Mems) : Eng := portStore hstPort a bs e m

/-! ### Tags and translations (R346, R347, R349) -/

/-- The lowest tag that is neither outstanding nor quarantined. -/
def freeTag (e : Eng) : Option Nat :=
  (List.range 1024).find? fun t => !(e.hl.reqs.any fun r => r.tag == t) && !(e.hl.quar.any fun q => q.1 == t)

/-- Issue a request. -/
def issueReq (r : NpReq) (msg : OutMsg) (e : Eng) : Eng := (e.modHl fun h => { h with reqs := h.reqs ++ [r] }).send msg

/-- What a translation gives. -/
inductive Xl where
  | ok (addr : Nat) (page : Option Nat)
  | miss
  | refused
  deriving DecidableEq, Repr

/-- Translate a host address for a read or a write. -/
def xlate (marked : Bool) (addr : Nat) (w : Bool) (e : Eng) : Xl :=
  if marked || !e.on CS_ATS_EN then .ok addr none
  else match e.hl.ats.find? fun x => x.page == addr / 4096 with
    | none => .miss
    | some x => if (if w then x.wr else x.rd) then .ok (x.dest * 4096 + addr % 4096) (some x.page) else .refused

/-- A cached translation has been used: it is the latest (R346). -/
def atsUse (page : Option Nat) (e : Eng) : Eng :=
  match page with
  | none => e
  | some p =>
    match e.hl.ats.find? fun x => x.page == p with
    | none => e
    | some x => e.modHl fun h => { h with ats := x :: h.ats.erase x }

/-- Send a Translation Request for a page, if the channel has none outstanding and a tag is free. -/
def askXlat (c addr : Nat) (e : Eng) : Eng :=
  if e.hl.reqs.any fun r => r.chan == c && r.kind == 2 && !r.orphan then e
  else match freeTag e with
    | none => e
    | some t => issueReq { tag := t, chan := c, kind := 2, addr := addr / 4096 * 4096, len := 8, off := 0 } (.xlat t (addr / 4096)) e

/-- A refused translation is not kept. -/
def dropXlat (addr : Nat) (e : Eng) : Eng := e.modHl fun h => { h with ats := h.ats.filter fun x => x.page != addr / 4096 }

/-! ### Ends of a descriptor and of a channel (R343, R345) -/

/-- The channel enters STOPPED (2) or ERROR (3). -/
def dmaStop (c st err : Nat) (e : Eng) : Eng :=
  ((((e.wr (HOST_DMA_STAT_STATE c) st).wr (HOST_DMA_STAT_ERR c) err).addWrap (HOST_DMA_STAT_GEN c) 1).wr
    (HOST_DMA_STAT_VALID c) 1).raise (HOST_DMA_EVT_END c)

/-- The requests of a channel no longer belong to a descriptor. -/
def orphanReqs (c : Nat) (e : Eng) : Eng :=
  e.modHl fun h => { h with reqs := h.reqs.map fun r => if r.chan = c then { r with orphan := true } else r }

/-- The descriptor's slot in the ring. -/
def slotAddr (e : Eng) (c : Nat) : Nat :=
  e.rd (HOST_DMA_RING_LO_ADDR c) * 64 + 2 ^ 32 * e.rd (HOST_DMA_RING_HI_ADDR c) +
    e.rd (HOST_DMA_HEAD_IDX c) % 2 ^ e.rd (HOST_DMA_RING_CFG_LOG2 c) * 32

/-- The descriptor has completed: HEAD, DESC, and the end of the channel where it follows. -/
def dmaComplete (c err : Nat) (e : Eng) : Eng :=
  let d := e.getDma c
  let e1 := orphanReqs c ((e.modDma c fun x => { x with phase := 0, region := none }).addWrap (HOST_DMA_HEAD_IDX c) 1)
  let e2 := if d.desc.irq then e1.raise (HOST_DMA_EVT_DESC c) else e1
  if err = 6 then dmaStop c 2 6 e2
  else if err ≠ 0 then dmaStop c 3 err e2
  else if d.stop then dmaStop c 2 0 (e2.modDma c fun x => { x with stop := false })
  else e2

/-- The status bytes 24 to 31 of a descriptor. -/
def statusBytes (e : Eng) (c : Nat) : List Byte :=
  let d := e.getDma c
  leBytes 4 d.done ++ leBytes 1 (d.err + 128) ++
    leBytes 1 ((if d.poison then 1 else 0) + (if d.lost then 2 else 0) + (if d.flush then 4 else 0)) ++
    leBytes 2 (e.rd (HOST_DMA_HEAD_IDX c) % 2 ^ 16)

/-- Write the status, once its address is translated, and complete. -/
def statusStep (c : Nat) (e : Eng) : Eng :=
  let a := slotAddr e c + 24
  match xlate false a true e with
  | .miss => askXlat c a e
  | .refused => dmaComplete c 5 (dropXlat a e)
  | .ok x p => dmaComplete c (e.getDma c).err ((atsUse p e).send (.mwr x (statusBytes e c) false))

/-- The descriptor ends with an ERR and a DONE. -/
def dmaFinish (c err done : Nat) (e : Eng) : Eng :=
  statusStep c (orphanReqs c (e.modDma c fun x => { x with phase := 3, err := err, done := done }))

/-- Bytes moved from the start of the descriptor without a hole. -/
def doneBytes (e : Eng) (c : Nat) : Nat :=
  (e.hl.reqs.filter fun r => r.chan == c && r.kind == 0 && !r.orphan).foldl (fun a r => min a r.off) (e.getDma c).pos

/-! ### Starting a descriptor -/

/-- The descriptor that 32 bytes spell (R343). -/
def parseDesc (b : List Byte) : Desc :=
  let ctl := bytesAt b 20 1
  ⟨bytesAt b 0 8, bytesAt b 8 8, bytesAt b 16 4, ctl % 4, natBit ctl 2, natBit ctl 3, ctl / 16⟩

/-- A byte range of capture memory touches lines `lo ..< hi`. -/
def rangeMeets (a n lo hi : Nat) : Bool := a / 256 < hi && lo * 256 < a + n

/-- A FROM_HOST target meets a region with EN = 1 or a Catalogue (R343 code 1). -/
def targetBusy (e : Eng) (a n : Nat) : Bool :=
  e.inAcq &&
    (((List.range 16).any fun r => e.ona (ACC_CREG_CFG_EN r) &&
        rangeMeets a n (e.rd (ACC_CREG_BASE_LINE r)) (e.rd (ACC_CREG_BASE_LINE r) + e.rd (ACC_CREG_SIZE_LINES r))) ||
     ((List.range 4).any fun x => e.rd (TRIG_CAT_SIZE_LOG2 x) != 0 &&
        rangeMeets a n (e.rd (TRIG_CAT_BASE_LINE x)) (e.rd (TRIG_CAT_BASE_LINE x) + cdiv (2 ^ e.rd (TRIG_CAT_SIZE_LOG2 x)) 8)))

/-- The ERR a descriptor starts with (R343 codes 1 and 2). -/
def descErr (e : Eng) (d : Desc) (b : List Byte) : Nat :=
  let k := regionKind e d.region
  if (d.op ≠ 2 ∧ 2 ^ 37 < d.caddr + d.len) ∨ (d.op = 1 ∧ targetBusy e d.caddr d.len) ∨ (d.op = 2 ∧ (k = 0 ∨ k = 3)) then 1
  else if d.op = 3 ∨ d.haddr % 4 ≠ 0 ∨ (d.op ≠ 2 ∧ d.caddr % 4 ≠ 0) ∨ d.len = 0 ∨ d.len % 4 ≠ 0 ∨
      (d.op = 2 ∧ d.len % 256 ≠ 0) ∨ ((b.drop 21).take 11).any (fun x => x != 0) ∨ (d.xlat ∧ !e.on CS_ATS_EN) then 2
  else 0

/-- The position at which a stream begins (R344), with the GEN and SEQ that R221 gives there. -/
def streamAt (e : Eng) (n o : Nat) : Nat × Nat × Nat :=
  let w := e.rd (ACC_CREG_POS_WPTR n)
  let g := e.rd (ACC_CREG_GS_GEN n)
  let s := e.rd (ACC_CREG_GS_SEQ n)
  let size := e.rd (ACC_CREG_SIZE_LINES n)
  if o < w then (o, g, (s + 2 ^ 24 - (w - o) % 2 ^ 24) % 2 ^ 24)
  else if o = w ∧ (e.getRg n).lines < size then (o, g, s)
  else (o, (g + 255) % 256, (s + 2 ^ 24 - (w + size - o) % 2 ^ 24) % 2 ^ 24)

/-- A STREAM descriptor sets RPOS where none is set. -/
def setRpos (c n : Nat) (e : Eng) : Eng :=
  match (e.getDma c).rpos with
  | some _ => e
  | none =>
    let w := e.rd (ACC_CREG_POS_WPTR n)
    let wrapped := e.rd (ACC_CREG_SIZE_LINES n) ≤ (e.getRg n).lines
    let p := if e.on (HOST_DMA_RING_CFG_FROM c) then (w, e.rd (ACC_CREG_GS_GEN n), e.rd (ACC_CREG_GS_SEQ n))
      else streamAt e n (if wrapped then w else 0)
    e.modDma c fun x => { x with rpos := some p }

/-- The descriptor has been fetched: it is checked and its data phase begins. -/
def descBegin (c : Nat) (b : List Byte) (e : Eng) : Eng :=
  let d := parseDesc b
  let e1 := e.modDma c fun x =>
    { x with phase := 2, desc := d, pos := 0, poison := false, lost := false, flush := false, err := 0, done := 0 }
  let er := descErr e d b
  if er ≠ 0 then dmaFinish c er 0 e1
  else
    let e2 := if 2 ^ 20 ≤ d.len then { e1 with mc := { e1.mc with burstAt := some e1.now } } else e1
    if d.op = 2 then setRpos c d.region (e2.modDma c fun x => { x with region := some d.region }) else e2

/-! ### Moving data -/

/-- The next piece of a move from offset `pos`: at most `cap` bytes, not across a 4 KiB page. -/
def pieceLen (addr left cap : Nat) : Nat := min left (min cap (4096 - addr % 4096))

/-- Send one piece of bytes to the host address of offset `pos`. -/
def sendPiece (c : Nat) (bs : List Byte) (ep : Bool) (x : Nat) (p : Option Nat) (e : Eng) : Eng :=
  let e1 := (atsUse p e).send (.mwr x bs ep)
  (e1.modDma c fun d => { d with pos := d.pos + bs.length }).wrq (HOST_DMA_BYTES c)
    ((e1.rdq (HOST_DMA_BYTES c) + bs.length) % 2 ^ 64)

/-- One TLP of a TO_HOST descriptor; false: no progress. -/
def toHostStep (c limit : Nat) (e : Eng) (m : Mems) : Eng × Bool :=
  let d := e.getDma c
  let h := d.desc.haddr + d.pos
  let a := d.desc.caddr + d.pos
  if min limit d.desc.len ≤ d.pos ∨ memWaits hstPort (a / 256) false e then (e, false)
  else match xlate d.desc.xlat h true e with
    | .miss => (askXlat c h e, false)
    | .refused => (dmaFinish c 5 d.pos (dropXlat h e), false)
    | .ok x p =>
      let mps := 128 * 2 ^ min 2 (e.rd CS_MPS)
      let r := capRead a (pieceLen h (min limit d.desc.len - d.pos) (mps - h % mps)) e m
      let e1 := if r.2.2 then r.1.modDma c fun y => { y with poison := true } else r.1
      (sendPiece c r.2.1 (r.2.2 && e.on (HOST_DMA_RING_CFG_EPF c)) x p e1, true)

/-- One read request of a FROM_HOST descriptor. -/
def fromHostStep (c : Nat) (e : Eng) : Eng × Bool :=
  let d := e.getDma c
  let h := d.desc.haddr + d.pos
  if d.desc.len ≤ d.pos ∨ memWaits hstPort ((d.desc.caddr + d.pos) / 256) false e then (e, false)
  else match xlate d.desc.xlat h false e with
    | .miss => (askXlat c h e, false)
    | .refused => (dmaFinish c 5 (doneBytes e c) (dropXlat h e), false)
    | .ok x p =>
      match freeTag e with
      | none => (e, false)
      | some t =>
        let n := pieceLen h (d.desc.len - d.pos) (128 * 2 ^ min 5 (e.rd CS_MRRS))
        let e1 := issueReq { tag := t, chan := c, kind := 0, addr := h, len := n, off := d.pos, page := p } (.mrd t x n) (atsUse p e)
        (e1.modDma c fun y => { y with pos := y.pos + n }, true)

/-- The line at RPOS is not the one expected: it was overwritten (R344). -/
def streamSkip (c n : Nat) (p : Nat × Nat × Nat) (e : Eng) : Eng :=
  let size := e.rd (ACC_CREG_SIZE_LINES n)
  let q := streamAt e n ((e.rd (ACC_CREG_POS_WPTR n) + size / 16) % size)
  (e.modDma c fun x => { x with rpos := some q, lost := true }).addSat (HOST_DMA_LOST_CNT c) ((q.2.2 + 2 ^ 24 - p.2.2) % 2 ^ 24)

/-- The read position after one line. -/
def rposNext (size : Nat) (p : Nat × Nat × Nat) : Nat × Nat × Nat :=
  if p.1 + 1 = size then (0, (p.2.1 + 1) % 256, (p.2.2 + 1) % 2 ^ 24) else (p.1 + 1, p.2.1, (p.2.2 + 1) % 2 ^ 24)

/-- One line of a STREAM descriptor (R344). -/
def streamStep (c : Nat) (e : Eng) (m : Mems) : Eng × Bool :=
  let d := e.getDma c
  let n := d.desc.region
  let h := d.desc.haddr + d.pos
  match d.rpos with
  | none => (e, false)
  | some p =>
    if d.desc.len ≤ d.pos ∨ memWaits hstPort (e.rd (ACC_CREG_BASE_LINE n) + p.1) false e then (e, false)
    else if p.1 = e.rd (ACC_CREG_POS_WPTR n) ∧ p.2.2 = e.rd (ACC_CREG_GS_SEQ n) then (e, false)
    else
      let r := portLine hstPort (e.rd (ACC_CREG_BASE_LINE n) + p.1) e m
      let l := parseLine r.2.1
      if r.2.2 % 2 = 0 ∧ (l.region ≠ n ∨ l.gen ≠ p.2.1 ∨ l.seq ≠ p.2.2) then (streamSkip c n p e, true)
      else match xlate d.desc.xlat h true e, xlate d.desc.xlat (h + 255) true e with
        | .ok x q, .ok y q2 =>
          let k := pieceLen h 256 256
          let mark (z : DmaSt) : DmaSt :=
            { z with rpos := some (rposNext (e.rd (ACC_CREG_SIZE_LINES n)) p), poison := z.poison || r.2.2 != 0 }
          let bad (lo hi : Nat) : Bool := (List.range 8).any (fun s => natBit r.2.2 s && lo < 32 * s + 32 && 32 * s < hi) &&
            e.on (HOST_DMA_RING_CFG_EPF c)
          let e1 := sendPiece c (r.2.1.take k) (bad 0 k) x q (r.1.modDma c mark)
          (if k = 256 then e1 else sendPiece c (r.2.1.drop k) (bad k 256) (y / 4096 * 4096) q2 e1, true)
        | .miss, _ => (askXlat c h e, false)
        | .ok _ _, .miss => (askXlat c (h + 255) e, false)
        | .refused, _ => (dmaFinish c 5 d.pos (dropXlat h e), false)
        | .ok _ _, .refused => (dmaFinish c 5 d.pos (dropXlat (h + 255) e), false)

/-- Fetch the descriptor at HEAD. -/
def fetchStep (c : Nat) (e : Eng) : Eng :=
  let a := slotAddr e c
  if e.hl.reqs.any fun r => r.chan == c && r.kind == 1 && !r.orphan then e
  else match xlate false a false e with
    | .miss => askXlat c a e
    | .refused => dmaFinish c 5 0 (dropXlat a e)
    | .ok x p =>
      match freeTag e with
      | none => e
      | some t => issueReq { tag := t, chan := c, kind := 1, addr := a, len := 32, off := 0, page := p } (.mrd t x 32) (atsUse p e)

/-- A channel goes on as far as it can; `limit` bounds the bytes that a TO_HOST descriptor has sent afterwards. -/
def dmaPump (c limit : Nat) : Nat → Eng → Mems → Eng
  | 0, e, _ => e
  | fuel + 1, e, m =>
    let d := e.getDma c
    if !dmaRuns e c then e
    else match d.phase with
      | 1 => fetchStep c e
      | 2 =>
        let r := match d.desc.op with
          | 0 => toHostStep c limit e m
          | 1 => fromHostStep c e
          | _ => if limit ≤ d.pos then (e, false) else streamStep c e m
        if r.2 then dmaPump c limit fuel r.1 m else r.1
      | 3 => statusStep c e
      | _ => e

/-- Enough fuel for every TLP of the descriptor. -/
def pumpFuel (e : Eng) (c : Nat) : Nat := (e.getDma c).desc.len + 8

/-- A channel goes on where no data need to be sent: requests, translations and status writes. -/
def dmaGo (c : Nat) (e : Eng) (m : Mems) : Eng := dmaPump c (e.getDma c).pos (pumpFuel e c) e m

/-- Start the descriptor at HEAD, if the channel is RUNNING with one. -/
def descStart (c : Nat) (e : Eng) (m : Mems) : Eng :=
  let d := e.getDma c
  if !dmaRuns e c then e
  else if d.phase ≠ 0 then dmaGo c e m
  else if e.rd (HOST_DMA_HEAD_IDX c) = e.rd (HOST_DMA_TAIL_IDX c) then e
  else fetchStep c (e.modDma c fun x => { x with phase := 1, desc := {}, pos := 0 })

/-- DMA_DESCRIPTOR (R342): the channel fetches the descriptor at HEAD; the completion of the fetch begins it. Of a
descriptor in progress, what waited for a tag or for memory goes on. -/
def execDmaDescriptor (c : Nat) (s : State) : Result := onMem s (descStart (c % 8))

/-- DMA_DESCRIPTOR_DONE (R343, R344): the rest of the data moves; when all of it has, the status is written and the
descriptor completes. -/
def descDone (c : Nat) (e : Eng) (m : Mems) : Eng :=
  if !dmaRuns e c ∨ (e.getDma c).phase ≠ 2 then e
  else
    let e1 := dmaPump c (e.getDma c).desc.len (pumpFuel e c) e m
    let d := e1.getDma c
    if d.phase = 2 ∧ dmaRuns e1 c ∧ doneBytes e1 c = d.desc.len then dmaFinish c 0 d.desc.len e1 else e1

/-- DMA_DESCRIPTOR_DONE. -/
def execDmaDescriptorDone (c : Nat) (s : State) : Result := onMem s (descDone (c % 8))

/-- STREAM_FLUSH (R344): no new line has appeared for FLUSH_US; the descriptor completes with the lines it has. -/
def streamFlush (c : Nat) (e : Eng) (m : Mems) : Eng :=
  if !dmaRuns e c ∨ (e.getDma c).phase ≠ 2 ∨ (e.getDma c).desc.op ≠ 2 then e
  else
    let e1 := dmaPump c (e.getDma c).desc.len (pumpFuel e c) e m
    let d := e1.getDma c
    if d.phase ≠ 2 ∨ !dmaRuns e1 c ∨ d.pos = 0 then e1
    else if d.pos = d.desc.len then dmaFinish c 0 d.pos e1
    else dmaFinish c 0 d.pos (e1.modDma c fun x => { x with flush := true })

/-- STREAM_FLUSH. -/
def execStreamFlush (c : Nat) (s : State) : Result := onMem s (streamFlush (c % 8))

/-! ### Channel control (R342, R345) -/

/-- DMA_TAIL_WRITE (R342). -/
def tailWrite (c v : Nat) (e : Eng) : Eng :=
  if 2 ^ e.rd (HOST_DMA_RING_CFG_LOG2 c) < (v + 2 ^ 32 - e.rd (HOST_DMA_HEAD_IDX c)) % 2 ^ 32 then e.raise (HOST_DMA_STAT_TAIL_REJ c)
  else e.wr (HOST_DMA_TAIL_IDX c) v

/-- DMA_TAIL_WRITE. -/
def execDmaTailWrite (c v : Nat) (s : State) : Result := onEng s (tailWrite (c % 8) (v % 2 ^ 32))

/-- The channel stops because the link cannot carry its TLPs (ERR 7): HEAD stays, no status is written. -/
def dmaPower (c : Nat) (e : Eng) : Eng :=
  if !dmaRuns e c then e
  else dmaStop c 3 7 (orphanReqs c (e.modDma c fun x => { x with phase := 0, region := none, stop := false }))

/-- Every channel stops in this way. -/
def dmaPowerAll (e : Eng) : Eng := (List.range 8).foldl (fun a c => dmaPower c a) e

/-- DMA_ENABLE (R345): EN = 1 starts a channel from HEAD; a change of EN from 0 to 1 lets the next STREAM set RPOS. -/
def dmaEnable (c : Nat) (e : Eng) : Eng :=
  let fresh := !e.on (HOST_DMA_CTRL_EN c)
  let e1 := (e.wr (HOST_DMA_CTRL_EN c) 1).modDma c fun x => { x with stop := false, rpos := if fresh then none else x.rpos }
  if dmaRuns e1 c then e1
  else
    let e2 := (e1.modDma c fun x => { x with phase := 0 }).wr (HOST_DMA_STAT_STATE c) 1
    if busOk e2 then e2 else dmaPower c e2

/-- DMA_ENABLE. -/
def execDmaEnable (c : Nat) (s : State) : Result := onEng s (dmaEnable (c % 8))

/-- DMA_DISABLE (R345): the current descriptor completes, then the channel is STOPPED. -/
def dmaDisable (c : Nat) (e : Eng) : Eng :=
  let e1 := e.wr (HOST_DMA_CTRL_EN c) 0
  if !dmaRuns e1 c then e1
  else if (e1.getDma c).phase = 0 then dmaStop c 2 0 e1
  else e1.modDma c fun x => { x with stop := true }

/-- DMA_DISABLE. -/
def execDmaDisable (c : Nat) (s : State) : Result := onEng s (dmaDisable (c % 8))

/-- DMA_ABORT (R345): the channel stops at a TLP boundary after `moved` bytes, with ERR 6 and DONE written. A descriptor
that is still being fetched has not begun, and none is written for it. -/
def dmaAbort (c moved : Nat) (e : Eng) (m : Mems) : Eng :=
  if !dmaRuns e c then e
  else match (e.getDma c).phase with
    | 2 =>
      let e1 := if (e.getDma c).desc.op = 1 then e else dmaPump c moved (pumpFuel e c) e m
      if dmaRuns e1 c ∧ (e1.getDma c).phase = 2 then dmaFinish c 6 (doneBytes e1 c) e1 else e1
    | 3 => e.modDma c fun x => { x with stop := true }
    | _ => dmaStop c 2 6 (orphanReqs c (e.modDma c fun x => { x with phase := 0, region := none }))

/-- DMA_ABORT. -/
def execDmaAbort (c moved : Nat) (s : State) : Result := onMem s (dmaAbort (c % 8) moved)

/-! ### Invalidation (R347) -/

/-- Handle the Invalidate Requests that are among the first 32: drop the entries and note the reads to wait for; those with
none left to wait for are completed. -/
def invalHandle : Nat → Eng → Eng
  | 0, e => e
  | fuel + 1, e =>
    match e.hl.inv.take 32 |>.find? fun i => i.wait.isNone with
    | some i =>
      let inside (p : Nat) : Bool := i.page ≤ p && p < i.page + i.pages
      let tags := (e.hl.reqs.filter fun r => match r.page with
        | some p => inside p
        | none => false).map (·.tag)
      let set (x : Inval) : Inval := if x = i then { x with wait := some tags } else x
      invalHandle fuel (e.modHl fun h => { h with ats := h.ats.filter (fun x => !inside x.page), inv := h.inv.map set })
    | none =>
      match e.hl.inv.find? fun i => i.wait == some [] with
      | some i => invalHandle fuel ((e.modHl fun h => { h with inv := h.inv.erase i }).send (.invCpl i.itag))
      | none => e

/-- Handle what can be handled. -/
def invalRun (e : Eng) : Eng := invalHandle (2 * e.hl.inv.length + 2) e

/-- ATS_INVALIDATE (R347). -/
def atsInvalidate (itag page pages : Nat) (e : Eng) : Eng :=
  invalRun ((e.modHl fun h => { h with inv := h.inv ++ [{ itag := itag, page := page, pages := pages }] }).addWrap HOST_ATS_INV_CNT 1)

/-- ATS_INVALIDATE. -/
def execAtsInvalidate (itag page pages : Nat) (s : State) : Result := onEng s (atsInvalidate itag page pages)

/-- A request is over: it is no longer outstanding, and invalidations no longer wait for it. -/
def endReq (t : Nat) (e : Eng) : Eng :=
  invalRun (e.modHl fun h =>
    { h with
      reqs := h.reqs.filter fun r => r.tag != t
      inv := h.inv.map fun i => { i with wait := i.wait.map fun l => l.erase t } })

/-! ### Completions (R348 to R350) -/

/-- Tags quarantined, as HOST_QUAR_STAT shows them. -/
def quarShow (e : Eng) : Eng := e.wr HOST_QUAR_STAT_TAGS e.hl.quar.length

/-- A tag enters quarantine (R349). -/
def quarantine (t : Nat) (e : Eng) : Eng :=
  quarShow (e.modHl fun h => { h with quar := h.quar ++ [(t, e.now + e.rd HOST_CTO_CFG_QUAR_MS * msTicks)] })

/-- Bits of the AER Uncorrectable Error Status (PCI Express Base Specification). -/
def aerSet (bit : Nat) (e : Eng) : Eng := e.wrBit CS_AER_UE bit true

/-- The descriptor that made a request ends with an ERR, DONE up to the first byte of the request. -/
def reqFails (r : NpReq) (err : Nat) (e : Eng) : Eng :=
  let d := e.getDma r.chan
  if r.orphan || !dmaRuns e r.chan then e
  else if d.phase = 3 then dmaComplete r.chan err e
  else dmaFinish r.chan err (if r.kind = 0 then r.off else doneBytes e r.chan) e

/-- COMPLETION_TIMEOUT (R348): unless the timeout is disabled. -/
def completionTimeout (t : Nat) (e : Eng) : Eng :=
  match e.hl.reqs.find? fun r => r.tag == t with
  | none => e
  | some r =>
    if e.on CS_CTO_DIS then e
    else
      let e1 := (((aerSet 14 e).addSat HOST_CTO_CNT_CNT 1).wr HOST_CTO_LOG_TAG t).wr HOST_CTO_LOG_KIND r.kind
      let e2 := (e1.wr HOST_CTO_LOG_CHAN r.chan).raisePost HOST_EVT_CTO 0
        (leBytes 2 t ++ leBytes 1 r.kind ++ leBytes 1 r.chan)
      reqFails r 3 (quarantine t (endReq t e2))

/-- COMPLETION_TIMEOUT. -/
def execCompletionTimeout (tag : Nat) (s : State) : Result := onEng s (completionTimeout tag)

/-- QUARANTINE_EXPIRY (R349): time passes until the first quarantined tag is due; the tags that are due are released, and
channels that waited for one go on. -/
def quarantineExpiry (e : Eng) (m : Mems) : Eng :=
  match e.hl.quar with
  | [] => e
  | q :: qs =>
    let e1 := advanceTo (qs.foldl (fun a x => min a x.2) q.2) e
    let e2 := quarShow (e1.modHl fun h => { h with quar := h.quar.filter fun x => e1.now < x.2 })
    (List.range 8).foldl (fun a c => dmaGo c a (m.applyAll a.wq)) e2

/-- QUARANTINE_EXPIRY. -/
def execQuarantineExpiry (s : State) : Result := onMem s quarantineExpiry

/-- UNEXPECTED_COMPLETION (R350). -/
def unexpected (t cplid : Nat) (e : Eng) : Eng :=
  let q := e.hl.quar.any fun x => x.1 == t
  ((((aerSet 16 e).addSat HOST_UNEXP_CNT_CNT 1).wr HOST_UNEXP_LOG_TAG t).wrb HOST_UNEXP_LOG_QUAR q).wr HOST_UNEXP_LOG_CPLID cplid
    |>.raisePost HOST_EVT_UNEXP 0 (leBytes 2 t ++ leBytes 1 (if q then 1 else 0) ++ leBytes 2 cplid)

/-- The translation that a completion brings: address in bits 63 to 12, write and read permission in bits 1 and 0. -/
def atsAdd (page : Nat) (b : List Byte) (e : Eng) : Eng :=
  let v := beNat (b.take 8)
  let ent : AtsEnt := ⟨page, v / 4096, natBit v 0, natBit v 1⟩
  e.modHl fun h => { h with ats := (ent :: h.ats.filter fun x => x.page != page).take 512 }

/-- All bytes of a request have arrived. -/
def reqDone (r : NpReq) (bytes : List Byte) (e : Eng) (m : Mems) : Eng :=
  let e1 := endReq r.tag e
  if r.orphan || !dmaRuns e r.chan then e1
  else match r.kind with
    | 0 =>
      let e2 := capStore ((e.getDma r.chan).desc.caddr + r.off) bytes e1 m
      dmaGo r.chan (e2.wrq (HOST_DMA_BYTES r.chan) ((e2.rdq (HOST_DMA_BYTES r.chan) + bytes.length) % 2 ^ 64)) (m.applyAll e2.wq)
    | 1 => let e2 := descBegin r.chan bytes e1; dmaGo r.chan e2 m
    | _ => dmaGo r.chan (atsAdd (r.addr / 4096) bytes e1) m

/-- COMPLETION_RECEIVED (R348, R350): status 0 success, 1 UR, 2 CA; a completion in error or with EP ends the descriptor with
ERR 4. -/
def completionReceived (t status : Nat) (ep : Bool) (bytes : List Byte) (cplid : Nat) (e : Eng) (m : Mems) : Eng :=
  match e.hl.reqs.find? fun r => r.tag == t with
  | none => unexpected t cplid e
  | some r =>
    if status ≠ 0 ∨ ep = true then
      let e1 := endReq t (if status = 0 then aerSet 12 e else e)
      if r.kind = 2 ∧ status ≠ 0 then reqFails r 5 e1 else reqFails r 4 e1
    else
      let all := r.got ++ bytes
      if all.length < r.len then
        e.modHl fun h => { h with reqs := h.reqs.map fun x => if x.tag = t then { x with got := all } else x }
      else reqDone r (all.take r.len) e m

/-- COMPLETION_RECEIVED. -/
def execCompletionReceived (tag status : Nat) (ep : Bool) (bytes : List Byte) (cplid : Nat) (s : State) : Result :=
  onMem s (completionReceived tag status ep bytes cplid)

end Machine
end Sys2Proof
end

