-- ==== Sys2Proof/Machine/Host.lean ====
section
/-!
DEFINITION. The host link (R319 to R341, R351 to R353): the commands CONFIG_REQUEST, APERTURE_ACCESS, HOT_RESET,
FUNCTION_LEVEL_RESET, D3HOT_ENTRY, D0_ENTRY, LINK_DOWN, IRQ_EOI, MSIX_UNMASK, EVQ_READ, EVQ_POP and WIN_COMMIT.
-/
namespace Sys2Proof
namespace Machine

/-! ### Interrupts (R335 to R337) -/

/-- HOST_IRQ_ASRT: bit v is 1 while vector v is asserted. -/
def irqAsserted (e : Eng) : Nat := maskOf 64 (asserted e)

/-- INTA is asserted while any vector is, in INTx mode, unless Interrupt Disable is set (R335, R337). -/
def intA (e : Eng) : Bool := irqMode e == .intx && !e.on CS_INT_DIS && (List.range 64).any (asserted e)

/-- IRQ_EOI (R337). -/
def irqEoi (v : Nat) (e : Eng) : Eng :=
  let e1 := putService e v false
  if asserted e1 v then irqMessage v e1 else e1

/-- IRQ_EOI. -/
def execIrqEoi (v : Nat) (s : State) : Result := onEng s (irqEoi (v % 64))

/-- On unmask the message goes out if the vector is still asserted, and its pending bit is cleared either way (R337). -/
def pbaRelease (e : Eng) (v : Nat) : Eng :=
  if natBit e.pba v && !e.on CS_MSIX_FMASK && !natBit e.vmask v then
    let e1 := { e with pba := clrNatBit e.pba v }
    if asserted e1 v then irqMessage v e1 else e1
  else e

/-- MSIX_UNMASK (R337): a write of a vector's control word in the MSI-X table; `mask` false unmasks it. -/
def msixUnmask (v : Nat) (mask : Bool) (e : Eng) : Eng :=
  let e1 := { e with vmask := putNatBit e.vmask v mask }
  if mask then e1 else pbaRelease e1 v

/-- MSIX_UNMASK. -/
def execMsixUnmask (v : Nat) (mask : Bool) (s : State) : Result := onEng s (msixUnmask (v % 64) mask)

/-- A change of interrupt mode clears every in-service bit and every PBA bit (R337); vectors that are asserted then send. -/
def irqModeCheck (before : IrqMode) (e : Eng) : Eng :=
  if irqMode e = before then e
  else irqResend ({ e with pba := 0 }.wrq HOST_IRQ_INSVC 0)

/-! ### The event FIFO (R340, R341) -/

/-- The 256-bit word that a read forms: 8 items, or the items held, PADs and a TAG. -/
def evqWord (items : List Nat) : List Nat :=
  let k := items.length
  if 8 ≤ k then items.take 8
  else if k = 0 then List.replicate 8 0
  else items ++ List.replicate (7 - k) (2 ^ 29) ++ [2 * 2 ^ 29 + 4 * k]

/-- Show a word in HOST_EVQ_DATA. -/
def evqShow (w : List Nat) (e : Eng) : Eng := (List.range 8).foldl (fun a k => a.wr (HOST_EVQ_DATA_ITEM k) (w.getD k 0)) e

/-- EVQ_READ (R340): a word is formed and latched, unless one is latched or no item is held. -/
def evqRead (e : Eng) : Eng :=
  match e.evq.latched with
  | some _ => e
  | none =>
    let w := evqWord e.evq.items
    if e.evq.items.isEmpty then evqShow w e
    else (evqShow w { e with evq := { e.evq with latched := some w } }).wr HOST_EVQ_STAT_LATCHED 1

/-- EVQ_READ. -/
def execEvqRead (s : State) : Result := onEng s evqRead

/-- The items of a word that are not PAD or TAG. -/
def wordItems (w : List Nat) : Nat := (w.filter fun x => x / 2 ^ 29 != 1 && x / 2 ^ 29 != 2 && x / 2 ^ 29 != 0).length

/-- EVQ_POP (R341): the items of the latched word leave; a LOST item follows where items were discarded. -/
def evqPop (e : Eng) : Eng :=
  match e.evq.latched with
  | none => e
  | some w =>
    let items := e.evq.items.drop (wordItems w)
    let lost := e.evq.lost
    let items1 := if lost = 0 then items else items ++ [5 * 2 ^ 29 + lost]
    evqCount (evqShow [] ({ e with evq := { items := items1, latched := none, lost := 0 } }.wr HOST_EVQ_STAT_LATCHED 0))

/-- EVQ_POP. -/
def execEvqPop (s : State) : Result := onEng s evqPop

/-! ### D-states and resets (R330 to R333) -/

/-- WAKE_N is released (R333). -/
def wakeRelease (e : Eng) : Eng := { e with wakeLow := false }

/-- D3HOT_ENTRY (R332). -/
def d3Entry (e : Eng) : Eng :=
  let e1 := dmaPowerAll e
  (e1.wr CS_PM_STATE 3).wr HOST_LINK_STAT_DSTATE 3

/-- D3HOT_ENTRY. -/
def execD3hotEntry (s : State) : Result := onEng s d3Entry

/-- D0_ENTRY (R332, R333): windows, rings and FIFO are kept; messages of vectors asserted meanwhile go out. -/
def d0Entry (e : Eng) : Eng :=
  irqResend (wakeRelease ((e.wr CS_PM_STATE 0).wr HOST_LINK_STAT_DSTATE 0))

/-- D0_ENTRY. -/
def execD0Entry (s : State) : Result := onEng s d0Entry

/-- LINK_DOWN (R345): the channels end with ERR 7. -/
def linkDown (e : Eng) : Eng :=
  let e1 := (dmaPowerAll e).modHl fun h => { h with up := false }
  ((e1.wr HOST_LINK_STAT_SPEED 0).wr HOST_LINK_STAT_WIDTH 0).wr HOST_LINK_STAT_FLIT 0

/-- LINK_DOWN. -/
def execLinkDown (s : State) : Result := onEng s linkDown

/-- Every field of a window from the image's values, shadow and active (R330). -/
def winFields (w : Nat) : List Fld := [HOST_WIN_CFG_EN w, HOST_WIN_CFG_RO w, HOST_WIN_CFG_SIZE w, HOST_WIN_AP_BASE w, HOST_WIN_CAP_BASE w]

/-- The image's value of a field. -/
def imgVal (e : Eng) (f : Fld) : Nat := rfGet e.img f

/-- The windows take the image's values. -/
def winImage (e : Eng) : Eng := ((List.range 16).flatMap winFields).foldl (fun a f => a.wrBoth f (imgVal e f)) e

/-- The abandoned requests' tags are quarantined (R331, R349). -/
def abandonTags (e : Eng) : Eng :=
  quarShow (e.modHl fun h =>
    { h with
      quar := h.quar ++ h.reqs.map fun r => (r.tag, e.now + e.rd HOST_CTO_CFG_QUAR_MS * msTicks)
      reqs := [], ats := [], inv := [] })

/-- The HOST registers a hot reset or function-level reset keeps. -/
def hostKept (e : Eng) : List (Fld × Nat) :=
  [HOST_GCTRL_LOCK, HOST_RST_CFG_KEEP, HOST_RST_STAT_FUND, HOST_RST_STAT_LINK, HOST_RST_STAT_HOT, HOST_RST_STAT_FLR,
    HOST_LINK_STAT_SPEED, HOST_LINK_STAT_WIDTH, HOST_LINK_STAT_FLIT, HOST_QUAR_STAT_TAGS, HOST_BAR2_PEND, HOST_BAR2_LOG2].map
    fun f => (f, e.rd f)

/-- The fields of configuration space that a reset keeps: the sticky ones; for a function-level reset also those that the
base specification keeps (Max_Payload_Size). -/
def cfgKept (flr : Bool) (e : Eng) : List (Fld × Nat) :=
  ((cfgRows.filter fun r => r.sticky).map (·.fld) ++ (if flr then [CS_MPS] else [])).map fun f => (f, e.rd f)

/-- Reset of the HOST block and of configuration space (R330): DMA channels, windows, event FIFO, MSI-X table and PBA,
vector states and ATS cache. -/
def hostReset (flr : Bool) (e : Eng) : Eng :=
  let e1 := abandonTags e
  let keep := hostKept e1 ++ cfgKept flr e1
  let base := 8 * 0xB00000
  let cfg := 8 * 2 ^ 32
  let e2 := { e1 with
    regs := rfClear (rfClear e1.regs base (base + 8 * 0x100000)) cfg (cfg + 8 * 4096)
    act := rfClear e1.act base (base + 8 * 0x100000)
    dma := List.replicate 8 {}
    evq := {}
    vmask := 2 ^ 64 - 1
    pba := 0 }
  winImage (keep.foldl (fun a p => a.wr p.1 p.2) e2)

/-- A hot reset: the link retrains, a pending BAR 2 size takes effect (R323). -/
def hotReset (e : Eng) : Eng :=
  let e1 := hostReset false e
  linkDown (e1.wr HOST_BAR2_LOG2 (e1.rd HOST_BAR2_PEND))

/-- HOT_RESET (R330). -/
def execHotReset (s : State) : Result := onEng s fun e => (hotReset e).raise HOST_RST_STAT_HOT

/-- FUNCTION_LEVEL_RESET (R330, R331). -/
def flReset (e : Eng) : Eng := (hostReset true e).raise HOST_RST_STAT_FLR

/-- FUNCTION_LEVEL_RESET. -/
def execFunctionLevelReset (s : State) : Result := onEng s flReset

/-! ### Configuration requests (R321 to R323) -/

/-- The size mask and low bits of a base address register, as a 64-bit number. -/
def barBits (e : Eng) (size : Option Nat) : Nat := 2 ^ 64 - 2 ^ size.getD (e.rd HOST_BAR2_LOG2)

/-- The word of a base address register at a configuration offset. -/
def barWord (e : Eng) (off : Nat) : Option Nat :=
  match barRows.find? fun r => off == r.1 || (r.2.2.1 && off == r.1 + 4) with
  | none => none
  | some r =>
    let m := if r.2.2.1 then barBits e r.2.2.2 else barBits e r.2.2.2 % 2 ^ 32 + 1
    let x := e.rd (CS_BAR off)
    if off = r.1 then some (x &&& (m % 2 ^ 32) ||| r.2.1) else some (x &&& (m / 2 ^ 32))

/-- The value of the configuration word at an offset. -/
def cfgRead (e : Eng) (off : Nat) : Nat :=
  match barWord e off with
  | some w => w
  | none =>
    let base := 8 * (2 ^ 32 + off)
    let w := cfgRows.foldl (fun a r =>
      if base ≤ r.fld.key && r.fld.key < base + 32 then a + e.rd r.fld * 2 ^ (r.fld.key - base) else a) 0
    if off = 0x08 then w + e.rd GLB_ID_REV
    else if off = 0x14C then e.rd GLB_SERIAL_LO_SERIAL
    else if off = 0x150 then e.rd GLB_SERIAL_HI_SERIAL
    else if off = 0x80 then w + (e.rd HOST_LINK_STAT_SPEED + 16 * e.rd HOST_LINK_STAT_WIDTH) * 2 ^ 16
    else if off = 0x04 then w + (if (List.range 64).any (asserted e) then 2 ^ 19 else 0)
    else w

/-- Write one field of configuration space. -/
def cfgField (off v mask : Nat) (e : Eng) (r : CfgRow) : Eng :=
  let base := 8 * (2 ^ 32 + off)
  if r.fld.key < base ∨ base + 32 ≤ r.fld.key then e
  else
    let lsb := r.fld.key - base
    let m := bitsOf mask lsb r.fld.width
    let x := bitsOf v lsb r.fld.width
    match r.ty with
    | .ro => e
    | .rw => e.wr r.fld (natAndNot (e.rd r.fld) m + (x &&& m))
    | .w1c => e.clearBits r.fld (x &&& m)

/-- Store a configuration write. -/
def cfgStore (off v mask : Nat) (e : Eng) : Eng :=
  match barWord e off with
  | some w => e.wr (CS_BAR off) (natAndNot w mask + (v &&& mask))
  | none => cfgRows.foldl (cfgField off v mask) e

/-- MSI messages that are no longer masked are sent where their vector is still asserted (R337). -/
def msiRelease (e : Eng) : Eng :=
  (List.range 64).foldl (fun a v =>
    if a.bit CS_MSI_PEND (msiOf a v) && !a.bit CS_MSI_MASK (msiOf a v) then
      (if asserted a v then irqMessage v a else a) else a) e
    |> fun a => a.wr CS_MSI_PEND (a.rd CS_MSI_PEND &&& a.rd CS_MSI_MASK)

/-- What follows a configuration write: the D-state (only D0 and D3hot exist), bus mastering, interrupt mode and masks,
PME_Status, ATS Enable, function-level reset. -/
def cfgEffects (before : Eng) (off v mask : Nat) (e : Eng) : Eng :=
  let st := e.rd CS_PM_STATE
  let old := before.rd CS_PM_STATE
  let e1 :=
    if st = old then e
    else if st = 3 then d3Entry e
    else if st = 0 then d0Entry e
    else e.wr CS_PM_STATE old
  let e2 := if before.on CS_BME && !e1.on CS_BME then dmaPowerAll e1 else e1
  let e3 := irqModeCheck (irqMode before) e2
  let e4 := if before.on CS_MSIX_FMASK && !e3.on CS_MSIX_FMASK then (List.range 64).foldl pbaRelease e3 else e3
  let e5 := if off = 0x60 then msiRelease e4 else e4
  let e6 := if before.on CS_PME_STATUS && !e5.on CS_PME_STATUS then wakeRelease e5 else e5
  let e7 := if before.on CS_ATS_EN && !e6.on CS_ATS_EN then e6.modHl fun h => { h with ats := [] } else e6
  if off = 0x78 ∧ natBit v 15 ∧ natBit mask 15 then flReset e7 else e7

/-- CONFIG_REQUEST (R321 to R323): a read (`wr` none) or write of the configuration word at `off`, with the bits that the
byte enables cover. -/
def configRequest (off : Nat) (wr : Option Nat) (mask : Nat) (e : Eng) : Eng :=
  let o := off / 4 * 4
  if !e.hl.ready then e.send (.cfg 2 0)
  else match wr with
    | none => e.send (.cfg 0 (cfgRead e o))
    | some v => ((cfgEffects e o v mask (cfgStore o v mask e)).wr CS_FLR 0).send (.cfg 0 0)

/-- CONFIG_REQUEST. -/
def execConfigRequest (off : Nat) (wr : Option Nat) (mask : Nat) (s : State) : Result := onEng s (configRequest off wr mask)

/-! ### Aperture windows (R351 to R353) -/

/-- The active window that holds the whole of a TLP (R351, R353). -/
def winHit (e : Eng) (a n : Nat) : Option Nat :=
  (List.range 16).find? fun w =>
    let b := e.rda (HOST_WIN_AP_BASE w) * 2 ^ 20
    e.ona (HOST_WIN_CFG_EN w) && b ≤ a && a + n ≤ b + 2 ^ e.rda (HOST_WIN_CFG_SIZE w)

/-- BAR 2 decodes: Memory Space Enable in D0 (R332). -/
def barDecodes (e : Eng) : Bool := e.on CS_MSE && e.rd CS_PM_STATE == 0 && e.hl.up && !e.hl.cold

/-- A TLP that no window takes (R353). -/
def winMiss (e : Eng) : Eng := aerSet 20 ((e.addSat HOST_WIN_MISS_CNT_CNT 1).raise HOST_EVT_WIN_MISS)

/-- The completions of a read of `n` bytes from capture address `ca`, the aperture offset being `a`: each ends at a multiple
of the smaller of Max_Payload_Size and 256, and one that carries poisoned bytes has EP = 1 (R329). -/
def sendCpls (m : Mems) : Nat → Nat → Nat → Nat → Eng → Eng
  | 0, _, _, _, e => e
  | fuel + 1, a, ca, n, e =>
    if n = 0 then e
    else
      let step := min 256 (128 * 2 ^ min 2 (e.rd CS_MPS))
      let k := min n (step - a % step)
      let r := capRead ca k e m
      let e1 := r.1.send (.cpl 0 r.2.1 r.2.2)
      let e2 := if r.2.2 then (e1.addSat HOST_POISON_CNT_CNT 1).raise HOST_EVT_POISON_TX else e1
      sendCpls m fuel (a + k) (ca + k) (n - k) e2

/-- APERTURE_ACCESS (R353): a BAR 2 TLP at offset `a` of `n` bytes; `wr` none is a read. A write received with EP = 1 is
discarded (R329). While the memory plan tile is in service every access is unsupported (R49). -/
def apertureAccess (a n : Nat) (wr : Option (List Byte)) (ep : Bool) (e : Eng) (m : Mems) : Eng :=
  let unsupported (x : Eng) : Eng := if wr.isNone then x.send (.cpl 1 [] false) else x
  if !barDecodes e || e.inService 14 then unsupported (aerSet 20 e)
  else if wr.isSome && ep then aerSet 12 e
  else match winHit e a n with
    | none => unsupported (winMiss e)
    | some w =>
      let ca := e.rda (HOST_WIN_CAP_BASE w) * 2 ^ 20 + (a - e.rda (HOST_WIN_AP_BASE w) * 2 ^ 20)
      if (capLines ca n).any fun l => memWaits hstPort l false e then e
      else match wr with
        | none => sendCpls m (n + 1) a ca n e
        | some bs => if e.ona (HOST_WIN_CFG_RO w) then winMiss e else capStore ca ((bs ++ List.replicate n 0).take n) e m

/-- APERTURE_ACCESS. -/
def execApertureAccess (a n : Nat) (wr : Option (List Byte)) (ep : Bool) (s : State) : Result := onMem s (apertureAccess a n wr ep)

/-- Shadow values of a window: aperture base and size in bytes, capture base. -/
def winAp (e : Eng) (w : Nat) : Nat := e.rd (HOST_WIN_AP_BASE w) * 2 ^ 20
def winLen (e : Eng) (w : Nat) : Nat := 2 ^ e.rd (HOST_WIN_CFG_SIZE w)

/-- The first code of R352 that a window fails; a window whose shadow EN is 0 is not checked. -/
def winCheck (e : Eng) (w : Nat) : Option Nat :=
  let len := winLen e w
  let size := e.rd (HOST_WIN_CFG_SIZE w)
  if !e.on (HOST_WIN_CFG_EN w) then none
  else if winAp e w % len ≠ 0 then some 1
  else if 2 ^ e.rd HOST_BAR2_LOG2 < winAp e w + len then some 2
  else if 2 ^ 37 < e.rd (HOST_WIN_CAP_BASE w) * 2 ^ 20 + len then some 3
  else if (List.range w).any fun v => e.on (HOST_WIN_CFG_EN v) && winAp e v < winAp e w + len && winAp e w < winAp e v + winLen e v then some 4
  else if size < 20 ∨ 37 < size then some 5
  else none

/-- The first failing window and its code. -/
def winFail (e : Eng) : Option (Nat × Nat) :=
  (List.range 16).findSome? fun w => (winCheck e w).map fun c => (w, c)

/-- WIN_COMMIT (R352). -/
def winCommit (e : Eng) : Eng :=
  match winFail e with
  | some (w, c) => ((e.wr HOST_WIN_STAT_WIN w).wr HOST_WIN_STAT_WHY c).raise HOST_WIN_STAT_REJ
  | none => (((List.range 16).flatMap winFields).foldl Eng.load e).addWrap HOST_WIN_STAT_GEN 1

/-- WIN_COMMIT. -/
def execWinCommit (s : State) : Result := onEng s winCommit

/-! ### The expansion ROM (R324 to R326) -/

/-- The records of the BLOCKS entry (R479, R480): base in BAR 0, size in MiB, version; the end record closes them. -/
def blockRecords : List (Nat × Nat × Nat) :=
  [0, 1, 2, 3, 4].map (fun k => (k * 2 ^ 20, 1, 1)) ++ [(5 * 2 ^ 20, 2, 1)] ++
    ((List.range 10).map fun k => ((7 + k) * 2 ^ 20, 1, 1)) ++ [(2 ^ 26, 0, 0)]

/-- The Device Description Table: header, directory of IDENTITY, BLOCKS, LIMITS and VECTORS, their bytes in that order, CHK. The
ordering code comes from the fuses (R3). -/
def ddtBytes (e : Eng) : List Byte :=
  let ident := leBytes 2 0x1600 ++ leBytes 1 (e.rd GLB_ID_REV) ++ leBytes 1 0 ++ leBytes 4 (e.rd GLB_SERIAL_LO_SERIAL) ++
    leBytes 4 (e.rd GLB_SERIAL_HI_SERIAL) ++ (e.nv.code ++ List.replicate 16 0).take 16
  let blks := blockRecords.flatMap fun b => leBytes 4 b.1 ++ leBytes 2 b.2.1 ++ leBytes 2 b.2.2
  let limits := [256, 8, 4, 16, 16, 8, 16, 64, 4096, 1024, 32, 4, 12].flatMap (leBytes 2)
  let group (v : Nat) : Nat :=
    if v < 4 then 0 else if v < 12 then 1 else if v < 28 then 2 else if v < 36 then 3 else if v < 40 then 4
    else if v < 48 then 5 else if v < 52 then 6 else if v < 56 then 7 else if v < 60 then 8 else 9
  let vecs := (List.range 64).map fun v => BitVec.ofNat 8 (group v)
  let bodies := [ident, blks, limits, vecs]
  let offs := bodies.foldl (fun (acc : List (Nat × Nat) × Nat) b => (acc.1 ++ [(acc.2, b.length)], acc.2 + b.length)) ([], 16 + 64)
  let dir := ((List.range 4).zip offs.1).flatMap fun p =>
    leBytes 2 (p.1 + 1) ++ leBytes 2 1 ++ leBytes 4 p.2.1 ++ leBytes 4 p.2.2 ++ leBytes 4 0
  let body := [0x54, 0x4B, 0x44, 0x54] ++ leBytes 2 1 ++ leBytes 2 4 ++ leBytes 4 (offs.2 + 4) ++ leBytes 4 0 ++ dir ++ bodies.flatten
  body ++ leBytes 4 (crc32c body)

/-- The PCI data structure (R324), 24 bytes; the places of its fields are log entry 147. -/
def pcirBytes : List Byte :=
  [0x50, 0x43, 0x49, 0x52] ++ leBytes 2 0x1F9A ++ leBytes 2 0x1600 ++ leBytes 2 0 ++ leBytes 2 0x0018 ++ leBytes 1 3 ++
    leBytes 3 0x118000 ++ leBytes 2 0x0200 ++ leBytes 2 0x0001 ++ leBytes 1 0xFF ++ leBytes 1 0x80 ++ leBytes 2 0

/-- The expansion ROM up to the end of the table (R324). -/
def romBytes (e : Eng) : List Byte :=
  let zeros (n : Nat) : List Byte := List.replicate n 0
  [0x55, 0xAA] ++ zeros 22 ++ leBytes 2 0x0020 ++ zeros 6 ++ pcirBytes ++ zeros 200 ++ ddtBytes e

/-- One byte of the expansion ROM as it stands since start-up; every byte that `romBytes` does not give is zero. -/
def romByte (e : Eng) (a : Nat) : Byte := e.pw.rom.getD a 0

end Machine
end Sys2Proof
end

