-- ==== Sys2Proof/Machine/Pod.lean ====
section
/-!
DEFINITION. Pod ports and hot plug (chapter 4): presence, power, the attention button, the identity and the sideband,
joining and leaving (R89 to R101).
-/
namespace Sys2Proof
namespace Machine

/-- The supplies of a port are on: POWERING, IDENT, JOINING, READY, HOLD (R93). -/
def podPowered (e : Eng) (p : Nat) : Bool :=
  let s := e.rd (POD_STAT_STATE p)
  2 ≤ s && s ≤ 6

/-- Drive PODp_PWR_EN. -/
def podPin (p : Nat) (on : Bool) (e : Eng) : Eng := { e with pod := { e.pod with pwrEn := putNatBit e.pod.pwrEn p on } }

/-- Clear what a port's departure cancels: a pending power-off after a press, an orderly power-off, a rejoin. -/
def podCancel (p : Nat) (e : Eng) : Eng :=
  { e with pod := { e.pod with attnOff := clrNatBit e.pod.attnOff p, rejoin := clrNatBit e.pod.rejoin p } }

/-- Enter POWERING (R92): the soft start drives the pin. -/
def powerOn (p : Nat) (e : Eng) : Eng := podPin p true (setPort p 2 e)

/-- A port in OFF enters POWERING whenever PWR_REQ is 1 (R94). -/
def powerIfRequested (p : Nat) (e : Eng) : Eng :=
  if e.rd (POD_STAT_STATE p) = 1 ∧ e.on (POD_CTRL_PWR_REQ p) then powerOn p e else e

/-- The tile of a port that leaves READY stops sampling: held values are applied (R78). -/
def stopTile (p : Nat) (was : Bool) (e : Eng) : Eng := if was then autoCal p (heldApply p e) else e

/-- An orderly power-off is past X3: the pin goes low and STATE becomes OFF (R99); PWR_REQ written 1 meanwhile powers the
port again (R94). -/
def offDone (p : Nat) (e : Eng) : Eng :=
  let was := tileSamples e p
  let e1 := podCancel p { e with pod := { e.pod with offWait := clrNatBit e.pod.offWait p } }
  powerIfRequested p (stopTile p was (podPin p false (setPort p 1 e1)))

/-- The open absence interval of a tile. -/
def getAbsent (e : Eng) (p : Nat) : Option Absent := e.pod.absent.getD (p % 8) none

/-- Set the absence interval of a tile. -/
def setAbsent (p : Nat) (a : Option Absent) (e : Eng) : Eng := { e with pod := { e.pod with absent := putAt e.pod.absent (p % 8) a none } }

/-- Open a PORT_ABSENT interval at `u` in an acquisition mode, unless one is open or tile service covers it (R100). -/
def openAbsent (p cause u : Nat) (e : Eng) : Eng :=
  if e.inAcq && !e.inService p && (getAbsent e p).isNone then setAbsent p (some ⟨cause, u, false⟩) e else e

/-- A tile leaves at the next word boundary (X1 of R99): it writes the word in progress, and an absence of cause `cause` opens
there. In STATE that boundary is `u`. -/
def tileLeaves (p cause u : Nat) (e : Eng) : Eng :=
  let b := stopBoundary e p u
  tileStopAt p b (openAbsent p cause b e)

/-- Close the open PORT_ABSENT interval of a tile at `fin` with a CLOSE record; an OPEN record still outstanding is
written first (R99 X4, R218). An interval that has not begun by `fin` leaves no record (R100). -/
def closeAbsent (p fin : Nat) (e : Eng) : Eng :=
  match getAbsent e p with
  | none => e
  | some a =>
    if tsBefore fin a.start then setAbsent p none e else
    let e1 := if a.written then e else absentRecord p a.start none a.cause e
    setAbsent p none (absentRecord p a.start (some fin) a.cause e1)

/-- A calibration that a departure ends is failed (R99 X2); which quantities had not been met is not stated. -/
def calAbort (p : Nat) (e : Eng) : Eng :=
  if calBusy e p then
    let e1 := calFail p (e.freeVal 4) e.drawn
    { e1 with fe := { e1.fe with calJ1 := clrNatBit e1.fe.calJ1 p } }
  else e

/-- End a software transaction on the sideband (R98). -/
def sbEnd (p : Nat) (nack : Bool) (e : Eng) : Eng :=
  let e1 := { e.wr (POD_SB_CMD_BUSY p) 0 with pod := { e.pod with sbFirst := clrNatBit e.pod.sbFirst p } }
  (if nack then e1.raise (POD_SB_CMD_NACK p) else e1).raise (POD_EVT_SB_DONE p)

/-- POD_INSERTED (R90, R94). -/
def podInserted (p : Nat) (e : Eng) : Eng :=
  if e.rd (POD_STAT_STATE p) ≠ 0 then e
  else
    let e1 := (setPort p 1 (e.wr (POD_STAT_PRSNT p) 1)).raise (POD_EVT_INS p)
    let e2 := if e.rd (POD_CTRL_POLICY p) = 1 then e1.wr (POD_CTRL_PWR_REQ p) 1 else e1
    powerIfRequested p e2

/-- POD_INSERTED. -/
def execPodInserted (p : Nat) (s : State) : Result := onEng s (podInserted p)

/-- The identity bytes read zero. -/
def clearIdentity (p : Nat) (e : Eng) : Eng := (List.range 64).foldl (fun a w => a.wr (POD_ID_BYTES p w) 0) e

/-- POD_REMOVED (R90, R92, R99): `u` is the tile's next word boundary. -/
def podRemoved (p u : Nat) (e : Eng) : Eng :=
  if e.rd (POD_STAT_STATE p) = 0 then e
  else
    let was := tileSamples e p
    let e1 := podPin p false (tileLeaves p 0 u e)
    let e2 := podCancel p ((setPort p 0 (e1.wr (POD_STAT_PRSNT p) 0)).raise (POD_EVT_REM p))
    let e3 := calAbort p (match e2.fe.scan with
      | some sc => if sc.ch / 32 = p then scanEnd 5 e2 else e2
      | none => e2)
    let e4 := if e3.on (POD_SB_CMD_BUSY p) then sbEnd p true e3 else e3
    let e5 := { e4 with pod := { e4.pod with offWait := clrNatBit e4.pod.offWait p } }
    stopTile p was (clearIdentity p e5)

/-- POD_REMOVED. -/
def execPodRemoved (p u : Nat) (s : State) : Result := onEng s (podRemoved p u)

/-- The orderly power-off of R99 for PWR_REQ = 0 in a powered state: with the tile sampling the pin goes low, STATE becomes OFF
and held values are applied after X3; otherwise at once. A power-off that already waits for X3 goes on. -/
def powerOff (p u : Nat) (e : Eng) : Eng :=
  if !podPowered e p || natBit e.pod.offWait p then e
  else
    let was := tileSamples e p
    let e1 := calAbort p (podCancel p (tileLeaves p 1 u e))
    if was then ({ e1 with pod := { e1.pod with offWait := setNatBit e1.pod.offWait p } }).wr (POD_STAT_ID_VALID p) 0
    else podPin p false (setPort p 1 e1)

/-- POD_POWER_REQUEST (R93, R94, R99): a write of PWR_REQ; `u` is the tile's next word boundary. -/
def podPowerRequest (p : Nat) (req : Bool) (u : Nat) (e : Eng) : Eng :=
  let e1 := e.wrb (POD_CTRL_PWR_REQ p) req
  if req then powerIfRequested p e1
  else if e.rd (POD_STAT_STATE p) = 7 then setPort p 1 e1
  else powerOff p u e1

/-- POD_POWER_REQUEST. -/
def execPodPowerRequest (p : Nat) (req : Bool) (u : Nat) (s : State) : Result := onEng s (podPowerRequest p req u)

/-- The port enters IDENT: the identity read stands behind a software transaction that has not ended (R98). -/
def identStart (p : Nat) (e : Eng) : Eng :=
  let e1 := setPort p 3 e
  if e.on (POD_SB_CMD_BUSY p) then { e1 with pod := { e1.pod with sbFirst := setNatBit e1.pod.sbFirst p } } else e1

/-- SOFT_START_END (R92). -/
def execSoftStartEnd (p : Nat) (s : State) : Result :=
  onEng s fun e => if e.rd (POD_STAT_STATE p) = 2 then identStart p e else e

/-- POD_OVERCURRENT (R93, R99): the peak current in mA. -/
def podOvercurrent (p peak u : Nat) (e : Eng) : Eng :=
  if !podPowered e p then e
  else
    let was := tileSamples e p
    let e0 := (e.wr (POD_PWR_STAT_CUR_MA p) peak).wr (POD_PWR_STAT_PEAK_MA p) (max peak (e.rd (POD_PWR_STAT_PEAK_MA p)))
    let e1 := setPort p 7 (podPin p false (tileLeaves p 2 u e0))
    let e2 := calAbort p (podCancel p (e1.raisePost (POD_EVT_FAULT p) 0 (leBytes 1 p ++ leBytes 2 peak)))
    stopTile p was { e2 with pod := { e2.pod with offWait := clrNatBit e2.pod.offWait p } }

/-- POD_OVERCURRENT. -/
def execPodOvercurrent (p peak u : Nat) (s : State) : Result := onEng s (podOvercurrent p peak u)

/-- ATTN_PRESS (R95): a press within the 5 s cancels the power-off, ATTN_REM as it may be by then. -/
def attnPress (p : Nat) (e : Eng) : Eng :=
  let e1 := e.raise (POD_EVT_ATTN p)
  let st := e.rd (POD_STAT_STATE p)
  let pending := natBit e.pod.attnOff p
  if st = 1 ∧ e.rd (POD_CTRL_POLICY p) = 2 then powerIfRequested p (e1.wr (POD_CTRL_PWR_REQ p) 1)
  else if st = 5 ∧ (pending || e.on (POD_CTRL_ATTN_REM p)) then
    let e2 := { e1 with pod := { e1.pod with attnOff := putNatBit e1.pod.attnOff p (!pending) } }
    if e.on (POD_CTRL_IND_AUTO p) then e2.wr (POD_CTRL_IND p) (if pending then 1 else 2) else e2
  else e1

/-- ATTN_PRESS. -/
def execAttnPress (p : Nat) (s : State) : Result := onEng s (attnPress p)

/-- ATTN_POWER_OFF (R95): the end of the 5 s after a press that nothing cancelled. -/
def attnPowerOff (p u : Nat) (e : Eng) : Eng :=
  if natBit e.pod.attnOff p then
    powerOff p u (({ e with pod := { e.pod with attnOff := clrNatBit e.pod.attnOff p } }).wr (POD_CTRL_PWR_REQ p) 0)
  else e

/-- ATTN_POWER_OFF. -/
def execAttnPowerOff (p u : Nat) (s : State) : Result := onEng s (attnPowerOff p u)

/-- The first failing check of the identity bytes (R98), 0 when all pass. -/
def idCheck (b : List Byte) (limit : Nat) : Nat :=
  let i33 := bytesAt b 38 2
  let i50 := bytesAt b 40 2
  if b.take 4 ≠ [0x54, 0x57, 0x50, 0x44] ∨ bytesAt b 4 1 ≠ 1 then 3
  else if crc32c (b.take 252) ≠ bytesAt b 252 4 then 4
  else if 2000 < i33 ∨ 2000 < i50 ∨ limit * 25 < i33 + i50 then 5
  else if bytesAt b 32 4 < 0x8000 ∨ 0x400000 < bytesAt b 32 4 then 6
  else 0

/-- Copy identity bytes into POD_ID_p_w. -/
def storeIdentity (p : Nat) (b : List Byte) (e : Eng) : Eng :=
  (List.range 64).foldl (fun a w => a.wr (POD_ID_BYTES p w) (bytesAt b (4 * w) 4)) e

/-- Step J1 of R99, or straight on without it. -/
def joinStart (p : Nat) (e : Eng) : Eng :=
  if e.on (POD_CTRL_CAL_ON_INS p) then
    let e1 := if calBusy e p then e else calStart p e
    { e1 with fe := { e1.fe with calJ1 := setNatBit e1.fe.calJ1 p } }
  else joinNext p e

/-- IDENT_DONE (R98): what the identity read brought; it does not end before a software transaction that came first.
DESIGN CHOICE (log entry 153): a read that fails leaves the bytes of POD_ID_p_w as they were. -/
def identDone (p : Nat) (r : IdRead) (e : Eng) : Eng :=
  if e.rd (POD_STAT_STATE p) ≠ 3 ∨ natBit e.pod.sbFirst p then e
  else
    let err := match r with
      | .nack => 1
      | .busStuck => 2
      | .bytes b => idCheck b (e.rd (POD_PWR_CFG_LIMIT p))
    let e1 := match r with
      | .bytes b => storeIdentity p b e
      | _ => e
    let e2 := e1.wr (POD_STAT_ID_ERR p) err
    if err = 0 then
      let e3 := (setPort p 4 e2).wr (POD_STAT_ID_VALID p) 1
      let e4 := (List.range 32).foldl (fun a k => if a.on (FE_THR_SRC (32 * p + k)) then applyTip (32 * p + k) a else a) e3
      joinStart p (e4.raise (POD_EVT_ID_DONE p))
    else if err = 5 then
      ((podPin p false (setPort p 7 e2)).raise (POD_EVT_ID_DONE p)).raise (POD_EVT_FAULT p)
    else (setPort p 6 e2).raise (POD_EVT_ID_DONE p)

/-- IDENT_DONE. -/
def execIdentDone (p : Nat) (r : IdRead) (s : State) : Result := onEng s (identDone p r)

/-- REREAD (R98): HOLD returns to IDENT. -/
def execReread (p : Nat) (s : State) : Result :=
  onEng s fun e => if e.rd (POD_STAT_STATE p) = 6 then identStart p e else e

/-- SB_GO (R98): ignored while BUSY; a port that is not powered answers with NACK. -/
def sbGo (p : Nat) (e : Eng) : Eng :=
  if e.on (POD_SB_CMD_BUSY p) then e
  else if podPowered e p then e.wr (POD_SB_CMD_BUSY p) 1
  else sbEnd p true e

/-- SB_GO. -/
def execSbGo (p : Nat) (s : State) : Result := onEng s (sbGo p)

/-- SB_DONE: the transaction ends, acknowledged or not, with the bytes a read brought; one that came behind the identity read does
not end before it (R98). DESIGN CHOICE (log entry 135): the bytes of POD_SB_DATA above LEN read 0. -/
def sbDone (p : Nat) (nack : Bool) (data : Nat) (e : Eng) : Eng :=
  if !e.on (POD_SB_CMD_BUSY p) ∨ (e.rd (POD_STAT_STATE p) = 3 ∧ !natBit e.pod.sbFirst p) then e
  else
    let e1 := if !nack && e.on (POD_SB_CMD_RD p) then
        e.wr (POD_SB_DATA_DATA p) (data % 2 ^ (8 * e.rd (POD_SB_CMD_LEN p))) else e
    sbEnd p nack e1

/-- SB_DONE. -/
def execSbDone (p : Nat) (nack : Bool) (data : Nat) (s : State) : Result := onEng s (sbDone p nack data)

/-- TILE_REJOIN (J2 of R99, R51, R53): the tile's first word has stamp `v`, a word boundary outside STATE. What Accession still
holds of the tile is written first; the event has not come while a word of it waits. -/
def tileRejoin (p v : Nat) (e : Eng) : Eng :=
  let st := e.rd (POD_STAT_STATE p)
  if !e.inAcq || e.inService p || e.on GLB_MODE_STAT_BUSY || calBusy e p || !(st == 4 || (st == 5 && natBit e.pod.rejoin p)) then e
  else
    let e1 := drainNow e
    let b := stopBoundary e p v
    if !drained e1 p || tileWrites e1 p then e
    else
      let e2 := if st = 4 then enterReady p (heldApply p e1)
        else { e1 with pod := { e1.pod with rejoin := clrNatBit e1.pod.rejoin p } }
      tileBack p b (closeAbsent p (prevTick b) e2)

/-- TILE_REJOIN. -/
def execTileRejoin (p v : Nat) (s : State) : Result := onMem s fun e _ => tileRejoin p v e

/-- PORT_ABSENT_RECORD (X3 of R99): Accession reaches U, having read every word of the tile below it, and writes the OPEN record;
an orderly power-off ends. -/
def portAbsentRecord (p : Nat) (e : Eng) : Eng :=
  match getAbsent e p with
  | none => e
  | some a =>
    let e1 := drainNow e
    if !drained e1 p || tileWrites e1 p then e
    else
      let e2 := if a.written then e1
        else setAbsent p (some { a with written := true }) (absentRecord p a.start none a.cause e1)
      if natBit e2.pod.offWait p then offDone p e2 else e2

/-- PORT_ABSENT_RECORD. -/
def execPortAbsentRecord (p : Nat) (s : State) : Result := onMem s fun e _ => portAbsentRecord p e

/-- POD_PWR_STAT_READ (R354): the read resets PEAK_MA to CUR_MA. -/
def pwrStatRead (p : Nat) (e : Eng) : Eng := e.wr (POD_PWR_STAT_PEAK_MA p) (e.rd (POD_PWR_STAT_CUR_MA p))

/-- POD_PWR_STAT_READ. -/
def execPodPwrStatRead (p : Nat) (s : State) : Result := onEng s (pwrStatRead p)

end Machine
end Sys2Proof
end

