-- ==== Sys2Proof/Machine/Compress.lean ====
section
/-!
DEFINITION. Compressor and decompressor lanes and the job slots (R232, R242 to R253): the commands CONTAINER_COMMIT,
CONTAINER_DECODE, JOB_GO, RESUME, JOB_ABORT, JOB_CONTAINER and CMP_REG_CFG_WRITE.
-/
namespace Sys2Proof
namespace Machine

/-! ### Capture (R244, R245) -/

/-- The lane of a region and tile (R246); 15 is none. -/
def laneOf (e : Eng) (n t : Nat) : Nat := bitsOf (e.rd (CMP_MAP_LANE n)) (4 * t) 4

/-- Cut a list of units into payloads of at most 60 units. -/
def unitLines : Nat → List Nat → List (List Nat)
  | 0, _ => []
  | fuel + 1, us => if us.isEmpty then [] else us.take 60 :: unitLines fuel (us.drop 60)

/-- The CBLOCK lines of a container (R219). -/
def cblockLines (s : Span) (bytes : List Byte) : List LineRec :=
  let us := bytesUnits (bytes ++ List.replicate ((4 - bytes.length % 4) % 4) 0)
  let ls := unitLines (us.length + 1) us
  (ls.zip (List.range ls.length)).map fun p =>
    ⟨10, s.tile, s.base, p.1.length, p.2 != 0, unitBytes p.1, (s.base + s.len + (2 ^ 64 - 1)) % 2 ^ 64⟩

/-- Write out a stream of items as TRANSITION lines; the last one ends at tick `fin` (R213, R214, R219). -/
def itemLines (tile fin : Nat) : Nat → StreamSt → List LineRec
  | 0, _ => []
  | fuel + 1, s =>
    let k := transCap s.units
    if s.units.isEmpty then []
    else if s.units.length ≤ k then [{ transLine tile s.units.length s with last := fin }]
    else transLine tile k s :: itemLines tile fin fuel (rebaseFirst (s.dropUnits k))

/-- The TRANSITION lines of a span that failed its verification (R219, R245). -/
def transLines (s : Span) (items : List Item) : List LineRec :=
  let st := items.foldl addItem {}
  itemLines s.tile ((s.base + s.len + (2 ^ 64 - 1)) % 2 ^ 64) (st.units.length + 1) st

/-- Commit the closed container at the head of region `n`'s order while capture memory runs (R117, R244, R245). `mismatch`: the
lane's checker found that its container does not decode to its input. -/
def commitHead (n : Nat) (mismatch : Bool) (e : Eng) : Eng :=
  if !cmpFlows e then e
  else match (e.getRg n).outQ with
  | .cont s edges :: rest =>
    let lane := laneOf e n s.tile
    let st := (e.getRg n).stream s.tile
    let enc := encodeSpan (e.rda (CMP_REG_CFG_TBL n)) (e.rda (CMP_REG_CFG_CLASS n)) (e.ona (CMP_REG_CFG_NBR n)) false st.counts s edges
    let ulen := (canonical s edges).length
    let e1 := e.modRg n fun r =>
      { r.modStream s.tile (fun x => { x with counts := some enc.counts }) with outQ := rest }
    let e2 := e1.wrq (CMP_LANE_IN lane) ((e1.rdq (CMP_LANE_IN lane) + 4 * ulen) % 2 ^ 64)
    let e3 := if mismatch then
        let a := (transLines s (levelItems s ++ edges)).foldl (fun a l => writeLine n l a) e2
        (a.addSat (CMP_LANE_VFAIL_CNT lane) 1).raisePost CMP_EVT_VFAIL lane
          (leBytes 1 lane ++ leBytes 1 n ++ leBytes 1 s.tile ++ leBytes 8 s.base)
      else
        let a := (cblockLines s enc.bytes).foldl (fun a l => writeLine n l a) e2
        let b := (a.addWrap (CMP_LANE_BLK_CNT lane) 1).wrq (CMP_LANE_OUT lane)
          ((a.rdq (CMP_LANE_OUT lane) + enc.bytes.length) % 2 ^ 64)
        if bytesAt enc.bytes 1 1 % 4 = 3 then b.addWrap (CMP_LANE_BMAP_CNT lane) 1 else b
    drainLines n ((e3.getRg n).outQ.length) e3
  | _ => e

/-- CONTAINER_COMMIT (R245). -/
def execContainerCommit (n : Nat) (mismatch : Bool) (s : State) : Result := onMem s fun e _ => commitHead n mismatch e

/-- Commit everything that waits in region `n`. -/
def commitAll (n : Nat) : Nat → Eng → Eng
  | 0, e => e
  | fuel + 1, e =>
    if (e.getRg n).outQ.isEmpty then e
    else commitAll n fuel (commitHead n false (drainLines n ((e.getRg n).outQ.length) e))

/-- CMP_REG_CFG_WRITE (R247): held while an acquisition mode is in force; TBL 3 is reserved (R12). -/
def cmpRegCfgWrite (master n tbl cls : Nat) (nbr : Bool) (e : Eng) : Eng :=
  let e1 := ((e.wrEnc master (CMP_REG_CFG_TBL n) tbl (tbl < 3)).wr (CMP_REG_CFG_CLASS n) cls).wrb (CMP_REG_CFG_NBR n) nbr
  if e.inAcq then e1 else ((e1.load (CMP_REG_CFG_TBL n)).load (CMP_REG_CFG_CLASS n)).load (CMP_REG_CFG_NBR n)

/-- CMP_REG_CFG_WRITE. -/
def execCmpRegCfgWrite (master n tbl cls : Nat) (nbr : Bool) (s : State) : Result := onEng s (cmpRegCfgWrite master n tbl cls nbr)

/-! ### Decoding (R242, R243) -/

/-- A decoding ended with WHY ≠ 0 (R242). -/
def decBad (why user slot : Nat) (e : Eng) : Eng :=
  ((((e.addSat CMP_DEC_BAD_CNT 1).wr CMP_DEC_LAST_WHY why).wr CMP_DEC_LAST_USER user).wr CMP_DEC_LAST_SLOT slot).raise
    CMP_EVT_DEC_BAD

/-- The lines of the container that begins at capture line `a`: in a ring the line after the last is the first, with the next GEN
(R221). -/
def capPlaces (e : Eng) (m : Mems) (a : Nat) : LinePlaces := fun i =>
  let n := (parseLine (recRead e m a).1).region % 16
  let base := e.rd (ACC_CREG_BASE_LINE n)
  let size := e.rd (ACC_CREG_SIZE_LINES n)
  let x := if regionKind e n = 1 ∧ base ≤ a ∧ a < base + size ∧ base + size ≤ a + i then (a + i - size, 1) else (a + i, 0)
  if x.1 < 2 ^ 29 then some x else none

/-- CONTAINER_DECODE (R242, R248): a decompressor lane decodes the container that begins at capture line `a` for a user
(0 Vitrine, 1 retriggering, 2 a job slot). -/
def containerDecode (user slot a : Nat) (e : Eng) (m : Mems) : Eng :=
  let r := decodeLines e m (capPlaces e m a)
  let d := r.dec
  if !cmpFlows e then e else
    let e1 := linesNoted 1 m r.read e
    if d.why = 0 then e1 else decBad d.why user slot e1

/-- CONTAINER_DECODE. -/
def execContainerDecode (user slot a : Nat) (s : State) : Result := onMem s (containerDecode user slot a)

/-! ### Jobs (R249 to R253) -/

/-- STATE of a slot. -/
def jobState (e : Eng) (q : Nat) : Nat := e.rd (CMP_JOB_STAT_STATE q)

/-- A slot that is QUEUED, RUNNING or STOPPED. -/
def jobActive (e : Eng) (q : Nat) : Bool := jobState e q == 1 || jobState e q == 2 || jobState e q == 3

/-- The job slot. -/
def Eng.getJob (e : Eng) (q : Nat) : JobSt := e.job.getD (q % 4) {}

/-- Change a job slot. -/
def Eng.modJob (e : Eng) (q : Nat) (f : JobSt → JobSt) : Eng := { e with job := putAt e.job (q % 4) (f (e.getJob q)) {} }

/-- A slot ends or stops: STATE, GEN, VALID and the JOB_END bit (R251, R252). -/
def jobEnd (q st : Nat) (e : Eng) : Eng :=
  (((e.wr (CMP_JOB_STAT_STATE q) st).addWrap (CMP_JOB_STAT_GEN q) 1).wr (CMP_JOB_STAT_VALID q) 1).raise CMP_EVT_JOB_END q

/-- A slot ends with an error code. -/
def jobError (q err : Nat) (e : Eng) : Eng := jobEnd q 5 (e.wr (CMP_JOB_STAT_ERR q) err)

/-- A slot stops. -/
def jobStop (q why : Nat) (e : Eng) : Eng := jobEnd q 3 (e.wr (CMP_JOB_STAT_STOP_WHY q) why)

/-- COMPRESS is not permitted in the mode in force. -/
def compressBarred (e : Eng) : Bool := e.mode == .chronicle || e.mode == .archive

/-- Two byte ranges meet. -/
def rangesMeet (a la b lb : Nat) : Bool := 0 < la && 0 < lb && a < b + lb && b < a + la

/-- The source of a slot is lines: of a DECOMPRESS job with SRCKIND = 1. -/
def jobLines (e : Eng) (q : Nat) : Bool := e.rd (CMP_JOB_CTRL_OP q) != 1 && e.on (CMP_JOB_CTRL_SRCKIND q)

/-- SRCLEN in bytes. -/
def srcBytes (e : Eng) (q : Nat) : Nat := if jobLines e q then e.rd (CMP_JOB_SRCLEN_LEN q) * 256 else e.rd (CMP_JOB_SRCLEN_LEN q)

/-- The RANGE check of R250. -/
def jobRangeBad (e : Eng) (q : Nat) : Bool :=
  let src := e.rdq (CMP_JOB_SRC q)
  let dst := e.rdq (CMP_JOB_DST q)
  let dl := e.rd (CMP_JOB_DSTLEN_LEN q)
  let meets (a l : Nat) : Bool := rangesMeet dst dl a l
  2 ^ 37 < src + srcBytes e q || 2 ^ 37 < dst + dl || meets src (srcBytes e q) ||
    ((List.range 16).any fun n => e.on (ACC_CREG_CFG_EN n) && regionKind e n != 0 &&
      meets (e.rd (ACC_CREG_BASE_LINE n) * 256) (e.rd (ACC_CREG_SIZE_LINES n) * 256)) ||
    ((List.range 4).any fun n => e.rd (TRIG_CAT_SIZE_LOG2 n) != 0 &&
      meets (e.rd (TRIG_CAT_BASE_LINE n) * 256) (2 ^ e.rd (TRIG_CAT_SIZE_LOG2 n) * 32)) ||
    ((List.range 4).any fun p => p != q && jobActive e p && meets (e.rdq (CMP_JOB_DST p)) (e.rd (CMP_JOB_DSTLEN_LEN p)))

/-- The PARAM check of R250. -/
def jobParamBad (e : Eng) (q : Nat) : Bool :=
  let op := e.rd (CMP_JOB_CTRL_OP q)
  let pitch := e.rd (CMP_JOB_PITCH_PITCH q)
  let src := e.rdq (CMP_JOB_SRC q)
  let base := e.rdq (CMP_JOB_BASE q)
  let fin := e.rdq (CMP_JOB_END q)
  let lines := jobLines e q
  (op != 1 && op != 2) || pitch == 0 ||
    (!lines && (src % 4 != 0 || e.rd (CMP_JOB_SRCLEN_LEN q) % 4 != 0)) || e.rdq (CMP_JOB_DST q) % 4 != 0 ||
    e.rd (CMP_JOB_DSTLEN_LEN q) % 4 != 0 || (lines && src % 256 != 0) ||
    (op == 1 && (fin ≤ base || (pitch != 0 && (fin - base) % pitch != 0) || 2 ^ 48 ≤ fin - base))

/-- JOB_GO (R250). -/
def jobGo (q : Nat) (e : Eng) : Eng :=
  if jobActive e q then e
  else if e.inService 12 ∨ (e.rd (CMP_JOB_CTRL_OP q) = 1 ∧ compressBarred e) then jobError q 1 e
  else if jobRangeBad e q then jobError q 2 e
  else if jobParamBad e q then jobError q 3 e
  else
    let e1 := (((e.wr (CMP_JOB_STAT_VALID q) 0).wr (CMP_JOB_STAT_STATE q) 1).wr (CMP_JOB_DONE_IN_CNT q) 0).wr (CMP_JOB_DONE_OUT_CNT q) 0
    ((e1.wr (CMP_JOB_NBLK_CNT q) 0).wr (CMP_JOB_NBAD_CNT q) 0).modJob q fun _ =>
      { base := e.rdq (CMP_JOB_BASE q), itemT := e.rdq (CMP_JOB_BASE q), init := e.rd (CMP_JOB_INIT_INIT q) }

/-- JOB_GO. -/
def execJobGo (q : Nat) (s : State) : Result := onEng s (jobGo q)

/-- RESUME (R251, R253): a STOPPED slot goes on into its new DST; refused with ERR 1 while the mode or tile service bars the job
(R39, R250). -/
def jobResume (q : Nat) (e : Eng) : Eng :=
  if jobState e q ≠ 3 then e
  else if e.inService 12 ∨ (e.rd (CMP_JOB_CTRL_OP q) = 1 ∧ compressBarred e) then e.wr (CMP_JOB_STAT_ERR q) 1
  else ((e.wr (CMP_JOB_STAT_VALID q) 0).wr (CMP_JOB_DONE_OUT_CNT q) 0).wr (CMP_JOB_STAT_STATE q) 1

/-- RESUME. -/
def execResume (q : Nat) (s : State) : Result := onEng s (jobResume q)

/-- JOB_ABORT (R253): between two containers the slot stands at a container boundary, so it ends. -/
def execJobAbort (q : Nat) (s : State) : Result := onEng s fun e => if jobActive e q then jobError q 6 e else e

/-- Read items of a stream with the units each takes; the flag says that a unit breaks R213. -/
def parsePrefix : Nat → Nat → List Nat → List (Item × Nat) × Bool
  | 0, _, _ => ([], false)
  | _, _, [] => ([], false)
  | fuel + 1, t, u :: us =>
    let k := if bitsOf u 24 2 = 1 then 3 else 1
    match parseItems t ((u :: us).take k) with
    | some [i] =>
      let r := parsePrefix fuel i.t ((u :: us).drop k)
      ((i, k) :: r.1, r.2)
    | _ => ([], true)

/-- The longest run of whole instants of an item list whose canonical units fit in a container (R231, R249). -/
def fitInstants (units : List Item → Nat) : Nat → List (Item × Nat) → List (Item × Nat) → List (Item × Nat)
  | 0, got, _ => got
  | _, got, [] => got
  | fuel + 1, got, p :: rest =>
    let same := (p :: rest).takeWhile fun x => x.1.t == p.1.t
    let next := got ++ same
    if units (next.map (·.1)) ≤ 16384 then fitInstants units fuel next ((p :: rest).dropWhile fun x => x.1.t == p.1.t) else got

/-- Channel values after a list of items on a tile. -/
def valsAfter (init : Nat) (items : List Item) : Nat := items.foldl (fun v i => putNatBit v (i.ch % 32) i.val) init

/-- One container of a COMPRESS job (R249, R251). -/
def compressStep (q : Nat) (mismatch : Bool) (e : Eng) (m : Mems) : Eng :=
  let j := e.getJob q
  let src := e.rdq (CMP_JOB_SRC q) + e.rd (CMP_JOB_DONE_IN_CNT q)
  let left := e.rd (CMP_JOB_SRCLEN_LEN q) - e.rd (CMP_JOB_DONE_IN_CNT q)
  let take := min left (4 * 16384 * 3)
  let inp := capBytes e m src take
  let pitch := e.rd (CMP_JOB_PITCH_PITCH q)
  let fin := e.rdq (CMP_JOB_END q)
  let pp := parsePrefix (take / 4 + 1) j.itemT (bytesUnits inp.1)
  let got := fitInstants (fun is => (itemStream j.base is).length) (pp.1.length + 1) [] pp.1
  let items := got.map (·.1)
  let used := 4 * (got.map (·.2)).sum
  let last := decide (left ≤ used)
  let endT := if last then fin else ((items.getLast?.map (·.t)).getD j.base) + pitch
  let sp : Span := ⟨j.base, endT - j.base, pitch, e.rd (CMP_JOB_MASK_CHMASK q), j.init, e.rd (CMP_JOB_GRP_GRPSTART q),
    j.first && e.on (CMP_JOB_CTRL_LEVELS q), e.rd (CMP_JOB_CTRL_TILE q)⟩
  let edges := items.dropWhile (·.level)
  let lane := j.lane.getD 0
  let looked := min take (used + 4 * (((pp.1.drop got.length).head?.map (·.2)).getD 1))
  let e := linesNoted 1 m (capLines src looked) e
  if (capBytes e m src looked).2 then jobError q 5 e
  else if !itemsObey sp items ∨ items.takeWhile (·.level) ≠ levelItems sp ∨ (used < left ∧ items.isEmpty) ∨ (pp.2 ∧ used = 4 * (pp.1.map (·.2)).sum) then jobError q 4 e
  else
    let enc := encodeSpan (e.rd (CMP_JOB_CTRL_TBL q)) (e.rd (CMP_JOB_CTRL_CLASS q)) (e.on (CMP_JOB_CTRL_NBR q)) true j.counts sp edges
    let bytes0 := if mismatch then encodeStored sp edges else enc.bytes
    let bytes := bytes0 ++ List.replicate ((4 - bytes0.length % 4) % 4) 0
    if e.rd (CMP_JOB_DSTLEN_LEN q) < e.rd (CMP_JOB_DONE_OUT_CNT q) + bytes.length then
      jobStop q 0 (e.wr (CMP_JOB_NEED_BYTES q) bytes.length)
    else
      let e1 := (e.emit (.cap (e.rdq (CMP_JOB_DST q) + e.rd (CMP_JOB_DONE_OUT_CNT q)) bytes)).addWrap (CMP_JOB_DONE_OUT_CNT q) bytes.length
      let e2 := (e1.addWrap (CMP_JOB_DONE_IN_CNT q) used).addWrap (CMP_JOB_NBLK_CNT q) 1
      let e3 := e2.modJob q fun x =>
        { x with base := endT, init := valsAfter j.init items, first := false, counts := some enc.counts,
                 itemT := (items.getLast?.map (·.t)).getD j.itemT }
      let e4 := if mismatch then
          (e3.addSat (CMP_LANE_VFAIL_CNT lane) 1).raisePost CMP_EVT_VFAIL lane
            (leBytes 1 lane ++ leBytes 1 0xFF ++ leBytes 1 sp.tile ++ leBytes 8 sp.base)
        else e3
      if last then jobEnd q 4 e4 else e4

/-- The line's header can be read and begins a container (R252). -/
def beginsCont (e : Eng) (m : Mems) (a : Nat) : Bool :=
  let r := recRead e m a
  let l := parseLine r.1
  !natBit r.2 0 && l.ty == 10 && !l.cont

/-- What a DECOMPRESS job reads next; none where the source is used up. -/
def decompressNext (q : Nat) (e : Eng) (m : Mems) : Option LaneRead :=
  let src := e.rdq (CMP_JOB_SRC q)
  let done := e.rd (CMP_JOB_DONE_IN_CNT q)
  let left := e.rd (CMP_JOB_SRCLEN_LEN q) - done
  if jobLines e q then
    let a := src / 256 + done
    let skip := ((List.range left).takeWhile fun i => !beginsCont e m (a + i)).length
    if left ≤ skip then none
    else
      let d := decodeLines e m fun i => if skip + i < left then some (a + skip + i, 0) else none
      some { d with used := skip + d.used, read := (List.range skip).map (a + ·) ++ d.read }
  else if left = 0 then none
  else
    let head := (capBytes e m (src + done) (min left 64)).1
    let clen := bytesAt head 32 4
    let size := if left < 64 ∨ clen < 68 ∨ left < clen then min left 64 else clen
    let r := capBytes e m (src + done) size
    some ⟨if r.2 then ⟨7, none, [], []⟩ else decodeContainer r.1, min left (cdiv size 4 * 4), head, capLines (src + done) size⟩

/-- The 16-byte result header (R249), from the container's header as read. -/
def resultHeader (r : LaneRead) : List Byte :=
  leBytes 8 (bytesAt r.head 4 8) ++ leBytes 2 r.dec.units.length ++ leBytes 1 (bytesAt r.head 61 1) ++ leBytes 1 r.dec.why ++
    leBytes 4 (if r.dec.why = 1 ∨ r.dec.why = 6 then 0 else bytesAt r.head 32 4)

/-- The result of one container of a DECOMPRESS job (R249, R251, R252). -/
def decompressOne (q : Nat) (r : LaneRead) (e : Eng) : Eng :=
  let d := r.dec
  let used := r.used
  let bytes := resultHeader r ++ (if d.why = 0 then unitBytes d.units else [])
  let fits := e.rd (CMP_JOB_DONE_OUT_CNT q) + bytes.length ≤ e.rd (CMP_JOB_DSTLEN_LEN q)
  let bad (a : Eng) : Eng := if d.why = 0 then a else (decBad d.why 2 q (a.addWrap (CMP_JOB_NBAD_CNT q) 1)).raise CMP_EVT_JOB_BAD q
  if d.why ≠ 0 ∧ (!e.on (CMP_JOB_CTRL_CONT_ON_ERR q) ∨ (d.why = 1 ∧ !jobLines e q)) then jobError q 4 (bad e)
  else if ¬ fits then jobStop q 0 (e.wr (CMP_JOB_NEED_BYTES q) bytes.length)
  else
    let e1 := ((bad e).emit (.cap (e.rdq (CMP_JOB_DST q) + e.rd (CMP_JOB_DONE_OUT_CNT q)) bytes)).addWrap (CMP_JOB_DONE_OUT_CNT q) bytes.length
    let e2 := (e1.addWrap (CMP_JOB_DONE_IN_CNT q) used).addWrap (CMP_JOB_NBLK_CNT q) 1
    if e.rd (CMP_JOB_SRCLEN_LEN q) ≤ e.rd (CMP_JOB_DONE_IN_CNT q) + used then jobEnd q 4 e2 else e2

/-- One container of a DECOMPRESS job. -/
def decompressStep (q : Nat) (e : Eng) (m : Mems) : Eng :=
  match decompressNext q e m with
  | none =>
    let left := e.rd (CMP_JOB_SRCLEN_LEN q) - e.rd (CMP_JOB_DONE_IN_CNT q)
    let a := e.rdq (CMP_JOB_SRC q) / 256 + e.rd (CMP_JOB_DONE_IN_CNT q)
    linesNoted 1 m ((List.range left).map (a + ·)) (jobEnd q 4 (e.wr (CMP_JOB_DONE_IN_CNT q) (e.rd (CMP_JOB_SRCLEN_LEN q))))
  | some r => linesNoted 1 m r.read (decompressOne q r e)

/-- The compressor lanes that a COMPRESS job may take: those that CMP_MAP gives no region with EN = 1 in the current run, and that no
other slot keeps (R250). -/
def freeLanes (e : Eng) : List Nat := indicesWhere 8 fun l =>
  !((List.range 16).any fun n => e.inAcq && e.ona (ACC_CREG_CFG_EN n) && (List.range 8).any fun t => laneOf e n t == l) &&
  !((List.range 4).any fun p => jobActive e p && (e.getJob p).lane == some l)

/-- A COMPRESS job takes its lane as it begins, and keeps it. -/
def takeLane (q : Nat) (e : Eng) : Eng :=
  if e.rd (CMP_JOB_CTRL_OP q) = 1 ∧ (e.getJob q).lane = none then e.modJob q fun j => { j with lane := (freeLanes e).head? } else e

/-- A COMPRESS job waits for its lane. -/
def laneWaits (e : Eng) (q : Nat) : Bool := e.rd (CMP_JOB_CTRL_OP q) == 1 && (e.getJob q).lane.isNone

/-- JOB_CONTAINER (R251 to R253): a queued or running slot works one container, while capture memory runs (R117). -/
def jobContainer (q : Nat) (mismatch : Bool) (e : Eng) (m : Mems) : Eng :=
  if (jobState e q ≠ 1 ∧ jobState e q ≠ 2) ∨ !cmpFlows e ∨ laneWaits (takeLane q e) q then e
  else
    let e0 := (takeLane q e).wr (CMP_JOB_STAT_STATE q) 2
    let e1 := if e.rd (CMP_JOB_CTRL_OP q) = 1 then compressStep q mismatch e0 m else decompressStep q e0 m
    if jobState e1 q ≠ 2 then e1
    else if e.rd (CMP_JOB_CTRL_OP q) = 1 ∧ compressBarred e then jobStop q 1 e1
    else if e.inService 12 then jobError q 1 e1
    else e1

/-- JOB_CONTAINER. -/
def execJobContainer (q : Nat) (mismatch : Bool) (s : State) : Result := onMem s (jobContainer q mismatch)

end Machine
end Sys2Proof
end

