-- ==== Sys2Proof/Machine/TrigRes.lean ====
section
/-!
DEFINITION. Trigger resources (R153 to R176): ownership, outputs, occurrences and retro terms, the reset of a context's
resources, and the commands RES_COMMIT, RES_COMMIT_APPLY, RES_FIELD_WRITE and LAST_READ.
-/
namespace Sys2Proof
namespace Machine

/-! ### Ownership and last occurrences -/

/-- Context `n` exists. -/
def ctxExists (e : Eng) (n : Nat) : Bool := n < 4 && e.on (TRIG_CTX_INFO_EXISTS n)

/-- Context `n` evaluates. -/
def evals (e : Eng) (n : Nat) : Bool := n < 4 && e.on (TRIG_SEQ_STAT_EVAL n)

/-- Context `n` owns resource `i` (R161). -/
def owns (e : Eng) (n i : Nat) : Bool := i < 208 && e.rd (TRIG_OWN_CTX i) == n && ctxExists e n

/-- Resource `i` has an owner. -/
def hasOwner (e : Eng) (i : Nat) : Bool := i < 208 && e.rd (TRIG_OWN_CTX i) < 4

/-- Resource `i` is evaluated: an existing context owns it; otherwise it is idle (R156). -/
def inUse (e : Eng) (i : Nat) : Bool := hasOwner e i && ctxExists e (e.rd (TRIG_OWN_CTX i))

/-- The resources of context `n`, ascending. -/
def ownedBy (e : Eng) (n : Nat) : List Nat := indicesWhere 208 (owns e n)

/-- The LAST register of a resource (R172). -/
def lastFld (i : Nat) : Fld2 :=
  if i < 0x40 then TRIG_WR_LAST i
  else if i < 0x80 then TRIG_ED_LAST (i - 0x40)
  else if i < 0x90 then TRIG_RC_LAST (i - 0x80)
  else if i < 0xB0 then TRIG_CNT_LAST (i - 0x90)
  else if i < 0xC0 then TRIG_TMR_LAST (i - 0xB0)
  else TRIG_FLG_LAST (i - 0xC0)

/-- The field that holds a resource's empty mark. -/
def emptyFld (i : Nat) : Fld := if i < 192 then TRIG_EMPTY_EMPTY (i / 32) else TRIG_EMPTY6_EMPTY

/-- LAST of a resource is empty. -/
def lastEmpty (e : Eng) (i : Nat) : Bool := e.bit (emptyFld i) (i % 32)

/-- Mark LAST of a resource empty. -/
def setEmpty (i : Nat) (e : Eng) : Eng := e.wrBit (emptyFld i) (i % 32) true

/-- An occurrence at `t`. -/
def occur (i t : Nat) (e : Eng) : Eng := (e.wrq (lastFld i) t).wrBit (emptyFld i) (i % 32) false

/-- Reset resources with the values of the image (step 3 of R43): counters, timers, flags, occurrences. -/
def resetIds (ids : List Nat) (e : Eng) : Eng :=
  ids.foldl (fun a i =>
    let b := setEmpty i { a with tr := { a.tr with
      out := clrNatBit a.tr.out i
      prevOk := clrNatBit a.tr.prevOk i
      due := clrNatBit a.tr.due i
      opens := if 0x40 ≤ i ∧ i < 0x80 then putAt a.tr.opens (i - 0x40) none none else a.tr.opens
      noEdge := if 0x40 ≤ i ∧ i < 0x80 then clrNatBit a.tr.noEdge (i - 0x40) else a.tr.noEdge } }
    if 0x90 ≤ i ∧ i < 0xB0 then
      let c := i - 0x90
      ((b.wrq (TRIG_CNT_VAL c) (b.rdqa (TRIG_CNT_INIT c))).wr (TRIG_CNT_STAT_RUN c) (b.rda (TRIG_CNT_CFG_RUN0 c))).wrb
        (TRIG_CNT_STAT_SAT c) (b.rdqa (TRIG_CNT_INIT c) == 2 ^ 48 - 1)
    else if 0xB0 ≤ i ∧ i < 0xC0 then
      let m := i - 0xB0
      ((b.wrq (TRIG_TMR_VAL m) (b.rdqa (TRIG_TMR_INIT m))).wr (TRIG_TMR_STAT_RUN m) (b.rda (TRIG_TMR_CFG_RUN0 m))).wrb
        (TRIG_TMR_STAT_SAT m) (b.rdqa (TRIG_TMR_INIT m) == 2 ^ 48 - 1)
    else if 0xC0 ≤ i then b.wrBit TRIG_FLG_VAL_F (i - 0xC0) (b.bit TRIG_FLG_INIT_INIT (i - 0xC0))
    else b) e

/-- Every last occurrence is empty (step 3 of R43). -/
def emptyAll (e : Eng) : Eng := (List.range 208).foldl (fun a i => setEmpty i a) e

/-- Reset a context's resources. -/
def resetResources (n : Nat) (e : Eng) : Eng := resetIds (ownedBy e n) e

/-! ### Recognisers, detectors, comparators (step 2 of R158) -/

/-- The value of a channel group (R160). -/
def groupVal (e : Eng) (vals g : Nat) : Nat :=
  maskOf (e.rd (TRIG_GRP_INFO_WIDTH g)) fun k => natBit vals (bitsOf (e.rd (TRIG_GRP_CH_CH g (k / 4))) (8 * (k % 4)) 8)

/-- The test of a recogniser (R163). -/
def wrTest (e : Eng) (vals w : Nat) : Bool :=
  let g := e.rda (TRIG_WR_CFG_GRP w)
  let v := groupVal e vals g
  (((v ^^^ e.rdqa (TRIG_WR_VAL w)) &&& e.rdqa (TRIG_WR_MASK w)) % 2 ^ e.rd (TRIG_GRP_INFO_WIDTH g) == 0) != e.ona (TRIG_WR_CFG_NEG w)

/-- The test of a comparator (R167). -/
def rcTest (e : Eng) (vals r : Nat) : Bool :=
  let g := e.rda (TRIG_RC_CFG_GRP r)
  let v := groupVal e vals g
  let sg := e.ona (TRIG_RC_CFG_SIGNED r)
  let width := e.rd (TRIG_GRP_INFO_WIDTH g)
  let x : Int := if sg && width != 0 then signed width v else v
  let lo : Int := if sg then signed 64 (e.rdqa (TRIG_RC_LOW r)) else e.rdqa (TRIG_RC_LOW r)
  let hi : Int := if sg then signed 64 (e.rdqa (TRIG_RC_HIGH r)) else e.rdqa (TRIG_RC_HIGH r)
  match e.rda (TRIG_RC_CFG_OP r) with
  | 0 => decide (lo ≤ x ∧ x ≤ hi)
  | 1 => decide (x < lo ∨ hi < x)
  | 2 => decide (lo ≤ x)
  | _ => decide (x ≤ hi)

/-- What a context sees at an instant: time, channel values, channels held at it and channels held at any tick since its previous
instant, the values and held channels of that instant if there is one, and channels flagged by the pulse catcher. -/
structure Seen where
  t : Nat
  vals : Nat
  held : Nat
  gap : Nat
  prev : Option (Nat × Nat)
  caught : Nat
  deriving DecidableEq, Repr

/-- The evaluation of a recogniser or comparator with its test result (R163, R167, R175). -/
def evalTest (i : Nat) (evt test : Bool) (e : Eng) : Eng :=
  let o := if evt then test && natBit e.tr.prevOk i && !natBit e.tr.prevM i else test
  { e with tr := { e.tr with
      out := putNatBit e.tr.out i o
      prevM := putNatBit e.tr.prevM i test
      prevOk := setNatBit e.tr.prevOk i } }

/-- The evaluation of a detector (R164 to R166, R176). A hold since the previous instant discards its open pulse. -/
def evalDetector (d : Nat) (s : Seen) (e : Eng) : Eng :=
  let ch := e.rda (TRIG_ED_CFG_CH d)
  let v := natBit s.vals ch
  let off := natBit s.gap ch
  let edge := match s.prev with
    | none => false
    | some (pv, ph) => !natBit e.tr.noEdge d && !off && !natBit ph ch && natBit pv ch != v
  let op := if off then none else e.tr.opens.getD (d % 64) none
  let pol := !e.ona (TRIG_ED_CFG_POL d)
  let wmin := e.rdqa (TRIG_ED_WMIN d)
  let wmax := e.rdqa (TRIG_ED_WMAX d)
  let closed := if edge then op else none
  let longNow := match op with
    | some (o, high, given) => high == pol && !given && wmax < ticksFrom o s.t
    | none => false
  let flagged := natBit s.caught ch && !off && s.prev.isSome
  let kind := e.rda (TRIG_ED_CFG_KIND d)
  let out := match kind with
    | 0 => edge && v
    | 1 => edge && !v
    | 2 => edge
    | 3 => flagged || (match closed with
      | some (o, _, _) => ticksFrom o s.t < wmin
      | none => false)
    | 4 => (match closed with
      | some (o, high, _) => high == pol && ticksFrom o s.t < wmin
      | none => false)
    | 5 => longNow
    | 6 => (match closed with
      | some (o, high, _) => high == pol && wmin ≤ ticksFrom o s.t && ticksFrom o s.t ≤ wmax
      | none => false)
    | _ => longNow || (match closed with
      | some (o, high, given) => high == pol && ticksFrom o s.t < wmin && !given
      | none => false)
  let op2 := if edge then some (s.t, v, false) else op.map fun x => (x.1, x.2.1, x.2.2 || longNow)
  let e1 := { e with tr := { e.tr with
      out := putNatBit e.tr.out (0x40 + d) out
      opens := putAt e.tr.opens (d % 64) op2 none
      noEdge := clrNatBit e.tr.noEdge d } }
  let e2 := if off then e1.raise (TRIG_ED_STAT_HELD d) else e1
  if kind == 3 && flagged then e2.raise (TRIG_ED_STAT_CAUGHT d) else e2

/-! ### Timers and flags (steps 3 and 4 of R158) -/

/-- E of a timer at instant `t`, after the previous instant `p` of its context (R170). -/
def tmrNext (e : Eng) (m t : Nat) (p : Option Nat) : Nat :=
  match p with
  | some q =>
    if e.on (TRIG_TMR_STAT_RUN m) then min (e.rdq (TRIG_TMR_VAL m) + (t + 2 ^ 64 - q) % 2 ^ 64) (2 ^ 48 - 1)
    else e.rdq (TRIG_TMR_VAL m)
  | none => e.rdq (TRIG_TMR_VAL m)

/-- The OUT = 0 condition of a timer (R170). -/
def tmrEvent (e : Eng) (m t : Nat) (p : Option Nat) : Bool :=
  let lim := e.rdqa (TRIG_TMR_LIM m)
  p.isSome && lim ≤ tmrNext e m t p && e.rdq (TRIG_TMR_VAL m) < lim

/-- The output of a timer. -/
def tmrOut (e : Eng) (m t : Nat) (p : Option Nat) : Bool :=
  if e.ona (TRIG_TMR_CFG_OUT m) then e.rdqa (TRIG_TMR_LIM m) ≤ tmrNext e m t p else tmrEvent e m t p

/-! ### Outputs of identifiers -/

/-- What the outputs of one instant are read from: the state before the instant, the outputs of recognisers, detectors,
comparators, timers and flags at it, and the contexts that have the instant. -/
structure Pres where
  e0 : Eng
  out : Nat
  t : Nat
  ctxs : Nat

/-- The cascade input CASC_k of context `n` at `t` (R197). -/
def cascIn (e : Eng) (n k t : Nat) : Bool :=
  let c := e.getCx n
  (c.casc.any fun x => x.1 == k && !tsBefore t x.2.1 && tsBefore x.2.2 t) || (c.inst == 0 && c.cascStep.contains k)

/-- TRIGGERED_j and ARMED_j as context `n` reads them (R195). -/
def crossIn (e : Eng) (n j : Nat) (armed : Bool) : Bool :=
  let c := e.getCx j
  if j = n then
    (if armed then e.rd (TRIG_SEQ_STAT_STATE j) == 2 || e.rd (TRIG_SEQ_STAT_STATE j) == 3 else c.trigd)
  else if armed then c.xArmed else c.xTrig

/-- The output of an identifier as context `n` reads it at an instant (R153, R158, R161, R173, R195); counters and retro
terms follow their sources, with a bound on the chain that R175 keeps free of cycles. -/
def idOut (p : Pres) : Nat → Nat → Nat → Bool
  | 0, _, _ => false
  | fuel + 1, n, i =>
    let e := p.e0
    if i < 0x90 then natBit p.out i
    else if i < 0xB0 then
      let c := i - 0x90
      let inc := e.on (TRIG_CNT_STAT_RUN c) && e.rdq (TRIG_CNT_VAL c) < 2 ^ 48 - 1 &&
        idOut p fuel (e.rd (TRIG_OWN_CTX i)) (e.rda (TRIG_CNT_CFG_SRC c))
      let v := e.rdq (TRIG_CNT_VAL c) + (if inc then 1 else 0)
      let tc := e.rdqa (TRIG_CNT_TC c)
      inUse e i && (if e.ona (TRIG_CNT_CFG_OUT c) then tc ≤ v else inc && v == tc)
    else if i < 0xC0 then natBit p.out i
    else if i < 0xD0 then inUse e i && e.bit TRIG_FLG_VAL_F (i - 0xC0)
    else if i < 0xD4 then crossIn e n (i - 0xD0) false
    else if i < 0xD8 then crossIn e n (i - 0xD4) true
    else if i < 0xE0 then cascIn e n (i - 0xD8) p.t
    else if i < 0xF0 then
      let k := i - 0xE0
      let r := e.rda (TRIG_RT_CFG_RES n k)
      let o := e.rd (TRIG_OWN_CTX r)
      let here := e.ona (TRIG_RT_CFG_INCL n k) && natBit p.ctxs o && idOut p fuel o r
      let d := if here then 0 else (p.t + 2 ^ 64 - e.rdq (lastFld r)) % 2 ^ 64
      e.ona (TRIG_RT_CFG_EN n k) && inUse e r && (here || (!lastEmpty e r && (e.ona (TRIG_RT_CFG_INCL n k) || 1 ≤ d))) &&
        d ≤ e.rdqa (TRIG_RT_WIN n k)
    else i == 0xFE

/-- The chain bound: every counter and every retro term once. -/
def idFuel : Nat := 128

/-- A counter increases at the instant (R168). -/
def cntInc (p : Pres) (n c : Nat) : Bool :=
  p.e0.on (TRIG_CNT_STAT_RUN c) && p.e0.rdq (TRIG_CNT_VAL c) < 2 ^ 48 - 1 && idOut p idFuel n (p.e0.rda (TRIG_CNT_CFG_SRC c))

/-! ### Terminal behaviour (step 6 of R158) -/

/-- A counter has reached TC: TCHIT and ON_TC (R168). -/
def cntTerminal (c : Nat) (e : Eng) : Eng :=
  let e1 := e.raise (TRIG_CNT_STAT_TCHIT c)
  match e1.rda (TRIG_CNT_CFG_ON_TC c) with
  | 1 => e1.wr (TRIG_CNT_STAT_RUN c) 0
  | 2 => (e1.wrq (TRIG_CNT_VAL c) (e1.rdqa (TRIG_CNT_INIT c))).wr (TRIG_CNT_STAT_SAT c) 0
  | _ => e1

/-- A timer has reached LIM: LIMHIT and ON_LIM (R170). -/
def tmrTerminal (m : Nat) (e : Eng) : Eng :=
  let e1 := e.raise (TRIG_TMR_STAT_LIMHIT m)
  match e1.rda (TRIG_TMR_CFG_ON_LIM m) with
  | 1 => e1.wr (TRIG_TMR_STAT_RUN m) 0
  | 2 =>
    let lim := e1.rdqa (TRIG_TMR_LIM m)
    (e1.wrq (TRIG_TMR_VAL m) (if lim = 0 then 0 else e1.rdq (TRIG_TMR_VAL m) % lim)).wr (TRIG_TMR_STAT_SAT m) 0
  | _ => e1

/-- The terminal condition of resource `i` holds since its owner's latest instant, and step 6 has not answered it. -/
def isDue (e : Eng) (i : Nat) : Bool := hasOwner e i && natBit e.tr.due i

/-- Step 6 has answered the terminal condition of resource `i`. -/
def clearDue (i : Nat) (e : Eng) : Eng := { e with tr := { e.tr with due := clrNatBit e.tr.due i } }

/-- A counter whose increase reached TC applies its terminal behaviour once. -/
def counterTerminal (c : Nat) (e : Eng) : Eng := if isDue e (0x90 + c) then cntTerminal c (clearDue (0x90 + c) e) else e

/-- COUNTER_TERMINAL (R168): step 6 of R158 for one counter. -/
def execCounterTerminal (c : Nat) (s : State) : Result := onEng s (counterTerminal c)

/-- A timer that reached LIM applies its terminal behaviour once. -/
def timerLimit (m : Nat) (e : Eng) : Eng := if isDue e (0xB0 + m) then tmrTerminal m (clearDue (0xB0 + m) e) else e

/-- TIMER_LIMIT (R170): step 6 of R158 for one timer. -/
def execTimerLimit (m : Nat) (s : State) : Result := onEng s (timerLimit m)

/-! ### Commits (R174, R175) -/

/-- Identifiers that context `n` may name in conditions and counter sources (R161); F0 to FD are reserved (R153). -/
def mayName (e : Eng) (n i : Nat) : Bool :=
  if i < 0xC0 then owns e n i else if i < 0xD0 then hasOwner e i else i < 0xF0 || i == 0xFE || i == 0xFF

/-- The identifiers that a commit of context `n` covers: one, or all it owns with its retro terms. -/
def commitIds (e : Eng) (n : Nat) (id : Option Nat) : List Nat :=
  match id with
  | some i => [i]
  | none => ownedBy e n ++ (List.range 16).map (· + 0xE0)

/-- The configuration after the commit: the shadow of what it covers, the active value of the rest. -/
def nextCfg (e : Eng) (covered : List Nat) (i : Nat) (f : Fld) : Nat := if covered.contains i then e.rd f else e.rda f

/-- The next node of the dependency chain: a counter's source, an enabled inclusive retro term's resource. `n` is the
context that reads the identifier. -/
def chainNext (e : Eng) (n : Nat) (covered : List Nat) (node : Nat × Nat) : Option (Nat × Nat) :=
  let (c, i) := node
  if 0x90 ≤ i ∧ i < 0xB0 then
    let o := e.rd (TRIG_OWN_CTX i)
    some (o, nextCfg e covered i (TRIG_CNT_CFG_SRC (i - 0x90)))
  else if 0xE0 ≤ i ∧ i < 0xF0 then
    let k := i - 0xE0
    let cov := if c = n then covered else []
    if nextCfg e cov i (TRIG_RT_CFG_EN c k) = 1 ∧ nextCfg e cov i (TRIG_RT_CFG_INCL c k) = 1 then
      let r := nextCfg e cov i (TRIG_RT_CFG_RES c k)
      some (if r < 208 then e.rd (TRIG_OWN_CTX r) else c, r)
    else none
  else none

/-- Does the chain from a node come back to it? Counters are one node whoever reads them. -/
def chainCycle (e : Eng) (n : Nat) (covered : List Nat) (goal : Nat × Nat) : Nat → Nat × Nat → Bool
  | 0, _ => false
  | fuel + 1, node =>
    match chainNext e n covered node with
    | none => false
    | some x => (x.2 == goal.2 && (x.2 < 0xE0 || x.1 == goal.1)) || chainCycle e n covered goal fuel x

/-- The first check of R175 that an identifier fails, 0 for none. -/
def commitWhy (e : Eng) (n : Nat) (covered : List Nat) (i : Nat) : Nat :=
  let sq (q : Fld2) : Nat := e.rdq q
  if !(owns e n i || (0xE0 ≤ i && i < 0xF0)) then 7
  else if (i < 0x40 && e.rd (TRIG_GRP_INFO_WIDTH (e.rd (TRIG_WR_CFG_GRP i))) == 0) ||
     (0x80 ≤ i && i < 0x90 && e.rd (TRIG_GRP_INFO_WIDTH (e.rd (TRIG_RC_CFG_GRP (i - 0x80)))) == 0) then 1
  else if 0x40 ≤ i && i < 0x80 && 6 ≤ e.rd (TRIG_ED_CFG_KIND (i - 0x40)) &&
     sq (TRIG_ED_WMAX (i - 0x40)) < sq (TRIG_ED_WMIN (i - 0x40)) then 2
  else if 0x80 ≤ i && i < 0x90 && e.rd (TRIG_RC_CFG_OP (i - 0x80)) < 2 &&
     (if e.on (TRIG_RC_CFG_SIGNED (i - 0x80)) then
        decide (signed 64 (sq (TRIG_RC_HIGH (i - 0x80))) < signed 64 (sq (TRIG_RC_LOW (i - 0x80))))
      else sq (TRIG_RC_HIGH (i - 0x80)) < sq (TRIG_RC_LOW (i - 0x80))) then 3
  else if 0x90 ≤ i && i < 0xB0 &&
     (!mayName e n (e.rd (TRIG_CNT_CFG_SRC (i - 0x90))) || e.rd (TRIG_CNT_CFG_SRC (i - 0x90)) == i) then 4
  else if 0xE0 ≤ i && i < 0xF0 && e.on (TRIG_RT_CFG_EN n (i - 0xE0)) && !hasOwner e (e.rd (TRIG_RT_CFG_RES n (i - 0xE0))) then 4
  else if chainCycle e n covered (n, i) 256 (n, i) then 5
  else if 0x90 ≤ i && i < 0xB0 && e.rd (TRIG_CNT_CFG_ON_TC (i - 0x90)) == 2 &&
     sq (TRIG_CNT_TC (i - 0x90)) ≤ sq (TRIG_CNT_INIT (i - 0x90)) then 6
  else if 0xB0 ≤ i && i < 0xC0 && e.rd (TRIG_TMR_CFG_ON_LIM (i - 0xB0)) == 2 && sq (TRIG_TMR_LIM (i - 0xB0)) == 0 then 6
  else 0

/-- Copy the shadow of one identifier into its active values. -/
def applyShadow (n i : Nat) (e : Eng) : Eng :=
  let one (fs : List Fld) (qs : List Fld2) (a : Eng) : Eng := qs.foldl Eng.loadq (fs.foldl Eng.load a)
  if i < 0x40 then one [TRIG_WR_CFG_GRP i, TRIG_WR_CFG_NEG i, TRIG_WR_CFG_EVT i] [TRIG_WR_VAL i, TRIG_WR_MASK i] e
  else if i < 0x80 then
    let d := i - 0x40
    one [TRIG_ED_CFG_CH d, TRIG_ED_CFG_KIND d, TRIG_ED_CFG_POL d] [TRIG_ED_WMIN d, TRIG_ED_WMAX d] e
  else if i < 0x90 then
    let r := i - 0x80
    one [TRIG_RC_CFG_GRP r, TRIG_RC_CFG_SIGNED r, TRIG_RC_CFG_OP r, TRIG_RC_CFG_EVT r] [TRIG_RC_LOW r, TRIG_RC_HIGH r] e
  else if i < 0xB0 then
    let c := i - 0x90
    one [TRIG_CNT_CFG_SRC c, TRIG_CNT_CFG_OUT c, TRIG_CNT_CFG_ON_TC c, TRIG_CNT_CFG_RUN0 c] [TRIG_CNT_TC c, TRIG_CNT_INIT c] e
  else if i < 0xC0 then
    let m := i - 0xB0
    one [TRIG_TMR_CFG_OUT m, TRIG_TMR_CFG_ON_LIM m, TRIG_TMR_CFG_RUN0 m] [TRIG_TMR_LIM m, TRIG_TMR_INIT m] e
  else if 0xE0 ≤ i ∧ i < 0xF0 then
    let k := i - 0xE0
    one [TRIG_RT_CFG_RES n k, TRIG_RT_CFG_INCL n k, TRIG_RT_CFG_EN n k] [TRIG_RT_WIN n k] e
  else e

/-- A commit takes no previous value and discards an open pulse (R175). -/
def forgetPrev (i : Nat) (e : Eng) : Eng :=
  if i < 0x40 ∨ (0x80 ≤ i ∧ i < 0x90) then { e with tr := { e.tr with prevOk := clrNatBit e.tr.prevOk i } }
  else if 0x40 ≤ i ∧ i < 0x80 then
    { e with tr := { e.tr with opens := putAt e.tr.opens (i - 0x40) none none, noEdge := setNatBit e.tr.noEdge (i - 0x40) } }
  else e

/-- Apply or reject a commit (R175). -/
def resCommit (n : Nat) (id : Option Nat) (e : Eng) : Eng :=
  let ids := commitIds e n id
  match ids.find? fun i => commitWhy e n ids i != 0 with
  | some i =>
    ((e.raise (TRIG_RES_STAT_CMT_REJ n)).wr (TRIG_RES_STAT_REJ_ID n) i).wr (TRIG_RES_STAT_REJ_WHY n) (commitWhy e n ids i)
  | none => ids.foldl (fun a i => forgetPrev i (applyShadow n i a)) e

/-- RES_COMMIT (R174): the commit waits for its step, PEND is 1. -/
def resCommitRequest (n : Nat) (id : Option Nat) (e : Eng) : Eng :=
  if ctxExists e n then (e.modCx n fun c => { c with commits := c.commits ++ [id] }).wr (TRIG_RES_STAT_PEND n) 1 else e

/-- RES_COMMIT. -/
def execResCommit (n : Nat) (id : Option Nat) (s : State) : Result := onEng s (resCommitRequest n id)

/-! ### Windows -/

/-- The resource whose register stands at a window offset. -/
def resourceAt (off : Nat) : Option Nat :=
  if 0x10000 ≤ off ∧ off < 0x10800 then some ((off - 0x10000) / 0x20)
  else if 0x11000 ≤ off ∧ off < 0x11800 then some (0x40 + (off - 0x11000) / 0x20)
  else if 0x12000 ≤ off ∧ off < 0x12200 then some (0x80 + (off - 0x12000) / 0x20)
  else if 0x13000 ≤ off ∧ off < 0x13800 then some (0x90 + (off - 0x13000) / 0x40)
  else if 0x14000 ≤ off ∧ off < 0x14400 then some (0xB0 + (off - 0x14000) / 0x40)
  else if 0x15100 ≤ off ∧ off < 0x15180 then some (0xC0 + (off - 0x15100) / 8)
  else none

/-- RES_FIELD_WRITE (R162, R174): a write through the window of context `n` at window offset `off` to a resource or retro
term; `mask` is the enabled bits. -/
def resFieldWrite (master n off value mask : Nat) (e : Eng) : Eng :=
  if !ctxExists e n then e
  else
    match resourceAt off with
    | some i => if owns e n i then writeWord master (0x500000 + 0x80000 * n + off) value mask e else e.raise (TRIG_RES_STAT_OWN_ERR n)
    | none => if 0x16000 ≤ off ∧ off < 0x16100 then writeWord master (0x500000 + 0x80000 * n + off) value mask e else e

/-- RES_FIELD_WRITE. -/
def execResFieldWrite (master n off value mask : Nat) (s : State) : Result := onEng s (resFieldWrite master n off value mask)

/-- LAST_READ (R172): a read of LAST_LO of resource `i` through window `n` latches its LAST_HI and its empty mark. -/
def lastRead (n i : Nat) (e : Eng) : Eng :=
  if ctxExists e n ∧ i < 208 then
    (e.modCx n fun c => { c with lastHi := (i, e.rd (lastFld i).hi) :: c.lastHi.filter fun x => x.1 != i }).wrb
      (TRIG_RES_STAT_LAST_EMPTY n) (lastEmpty e i)
  else e

/-- The resource whose LAST_LO or LAST_HI stands at an offset of the windows. -/
def lastAt (hi : Bool) (off : Nat) : Option Nat :=
  (List.range 208).find? fun i =>
    (if hi then (lastFld i).hi else (lastFld i).lo).key / 32 * 4 == 0x500000 + (off - 0x500000) % 0x80000

/-- LAST_HI of resource `i` as a read through window `n` returns it: the value that the latest read of LAST_LO latched. -/
def lastHiRead (n i : Nat) (e : Eng) : Nat := ((e.getCx n).lastHi.lookup i).getD (e.rd (lastFld i).hi)

/-- LAST_READ. -/
def execLastRead (n i : Nat) (s : State) : Result := onEng s (lastRead n i)

end Machine
end Sys2Proof
end

