-- ==== Sys2Proof/Machine/Replay.lean ====
section
/-!
DEFINITION. What a retriggering run reads back of its source region (R178, R201): channel values, held intervals, holes and the
instants of the captured mode (R154); and the next instant of a context, in acquisition and in a run.
-/
namespace Sys2Proof
namespace Machine

/-- A retriggering run is active. -/
def inRun (e : Eng) : Bool := e.on TRIG_RR_STAT_BUSY

/-! ### The lines of the region -/

/-- A line of the source region: its number, the line where its header can be read, whether any of it is poisoned, whether the
container that it begins could not be decoded. -/
structure SrcLine where
  k : Nat
  line : Option RLine
  pois : Bool
  cut : Bool
  deriving DecidableEq, Repr

/-- Line number `k` of region `g`. -/
def srcLine (e : Eng) (m : Mems) (g k : Nat) : Option SrcLine :=
  (offsetOf e g k).map fun o =>
    ⟨k, if headReadable e m g o then some (parseLine (readLineAt e m g o)) else none, linePoisoned e m g o, false⟩

/-- The lines that region `g` holds, oldest first. -/
def srcLines (e : Eng) (m : Mems) (g : Nat) : List SrcLine :=
  let total := (e.getRg g).lines
  let held := min total (e.rd (ACC_CREG_SIZE_LINES g))
  (List.range held).filterMap fun i => srcLine e m g (total - held + i)

/-- The lines of the region of a run, less what the run lost to datapath faults (R453, R462). -/
def runLines (e : Eng) (m : Mems) : List SrcLine :=
  (srcLines e m e.rr.region).map fun x =>
    if e.rr.unread.contains x.k then { x with line := none, pois := true } else { x with cut := e.rr.undec.contains x.k }

/-- A span of ticks in one mode, from a TIME record to the next: its first tick, the mode, timing-double, DIV, and the DUT
clocks of the tiles (R201, R216). -/
structure Seg where
  ts : Nat
  mode : Nat
  double : Bool
  div : Nat
  clk : Nat
  deriving DecidableEq, Repr

/-- The span that a TIME record begins. -/
def segOf (l : RLine) : Seg :=
  let md := bytesAt l.payload 25 1
  ⟨bytesAt l.payload 0 8, md % 8, natBit md 3, bytesAt l.payload 26 2, bytesAt l.payload 28 2⟩

/-- The spans of a region's readable TIME records. -/
def segsOf (ls : List SrcLine) : List Seg := ls.filterMap fun x => match x.line with
  | some l => if l.ty = 4 && !x.pois then some (segOf l) else none
  | none => none

/-- The capture lines that a port reads of `ls` for the ticks `lo` to `hi`: not the CBLOCK lines, which the decompressor lanes read
(CONTAINER_DECODE), nor other data lines outside. -/
def portLines (e : Eng) (g lo hi : Nat) (ls : List SrcLine) : List Nat :=
  (ls.filter fun x => match x.line with
    | some l => l.ty != 10 && (!isData l || (!tsBefore hi l.base && !tsBefore (lineEnd l) lo))
    | none => true).filterMap fun x => (offsetOf e g x.k).map fun o => lineAddr e g o / 256

/-! ### What a line tells -/

/-- The channels of `mask` on a tile have the values of `bits` from a tick on. -/
structure Put where
  t : Nat
  tile : Nat
  mask : Nat
  bits : Nat
  deriving DecidableEq, Repr

/-- What an item tells. -/
def itemPut (i : Item) : Put := ⟨i.t, i.ch / 32, 2 ^ (i.ch % 32), if i.val then 2 ^ (i.ch % 32) else 0⟩

/-- The units of a SAMPLE line (R211, R212). -/
def samplePuts (l : RLine) : List Put :=
  let us := (lineUnits l).zip (List.range l.units)
  if l.mode = 2 then us.map fun p => ⟨stateTime l p.2, l.tile, 2 ^ 32 - 1, p.1⟩
  else if l.double then us.flatMap fun p =>
    [⟨(l.base + 2 * p.2) % 2 ^ 64, l.tile, 0x55555555, p.1 &&& 0x55555555⟩,
     ⟨(l.base + 2 * p.2 + 1) % 2 ^ 64, l.tile, 0x55555555, p.1 / 2 &&& 0x55555555⟩]
  else us.map fun p => ⟨(l.base + 2 * p.2) % 2 ^ 64, l.tile, 2 ^ 32 - 1, p.1⟩

/-- A held interval of some tiles. -/
structure Hold where
  tiles : Nat
  lo : Nat
  hi : Nat
  deriving DecidableEq, Repr

/-- Does the interval meet the ticks from `a` to `b`? -/
def Hold.meets (h : Hold) (a b : Nat) : Bool := (h.hi == 2 ^ 64 - 1 || !tsBefore h.hi a) && !tsBefore b h.lo

/-- What lines tell: values, held intervals, the spans that cannot be read (R201), the spans of data lines by tile. -/
structure Facts where
  puts : List Put := []
  holds : List Hold := []
  holes : List (Nat × Nat) := []
  spans : List Hold := []
  deriving DecidableEq, Repr

/-- Both. -/
def Facts.join (a b : Facts) : Facts := ⟨a.puts ++ b.puts, a.holds ++ b.holds, a.holes ++ b.holes, a.spans ++ b.spans⟩

/-- BASE of the next data line of a tile. -/
def nextBase (tile : Nat) (ls : List SrcLine) : Option Nat := ls.findSome? fun x => match x.line with
  | some l => if isData l && l.tile == tile && !l.cont then some l.base else none
  | none => none

/-- TS of the next TIME record. -/
def nextTime (ls : List SrcLine) : Option Nat := (segsOf ls).head?.map (·.ts)

/-- The tick before the next data line of a tile, or the last tick of the run. -/
def untilNext (upto tile : Nat) (ls : List SrcLine) : Nat := prevTick ((nextBase tile ls).getD upto)

/-- A CLOSE of the tile's port comes before the next TIME record (R218). -/
def closedSoon (tile : Nat) (ls : List SrcLine) : Bool :=
  ((ls.takeWhile fun x => match x.line with
    | some l => l.ty != 4
    | none => true).any fun x => match x.line with
      | some l => l.ty == 9 && !x.pois && bytesAt l.payload 17 1 == tile && bytesAt l.payload 18 1 == 1
      | none => false)

/-- A data line whose contents cannot be used: its tile is held over its span, and it counts as a hole. -/
def lostLine (l : RLine) (fin : Nat) : Facts :=
  ⟨[], [⟨2 ^ l.tile, l.base, fin⟩], [(l.base, fin)], [⟨2 ^ l.tile, l.base, fin⟩]⟩

/-- What a line whose header can be read tells, given the lines after it. -/
def lineFacts (e : Eng) (m : Mems) (g upto : Nat) (x : SrcLine) (l : RLine) (rest : List SrcLine) : Facts :=
  let pay (o n : Nat) : Nat := bytesAt l.payload o n
  if l.ty = 10 then
    if l.cont then {}
    else
      let d := (decodeLines e m (regionPlaces e g x.k)).dec
      match d.hdr with
      | some h =>
        let fin := (h.span.base + h.span.len + (2 ^ 64 - 1)) % 2 ^ 64
        if d.why ≠ 0 ∨ x.cut then lostLine l fin
        else ⟨⟨h.span.base, l.tile, h.span.mask, h.span.init⟩ :: d.items.map itemPut, [], [], [⟨2 ^ l.tile, l.base, fin⟩]⟩
      | none => lostLine l (untilNext upto l.tile rest)
  else if x.pois then
    (if isData l then lostLine l (untilNext upto l.tile rest)
     else ⟨[], [⟨regionTiles e g, l.base, l.base⟩], [(l.base, l.base)], []⟩)
  else match l.ty with
    | 1 => { puts := samplePuts l, spans := [⟨2 ^ l.tile, l.base, lineEnd l⟩] }
    | 2 => { puts := (lineItems l).map itemPut, spans := [⟨2 ^ l.tile, l.base, lineEnd l⟩] }
    | 7 => { holds := [⟨pay 17 1, pay 0 8, pay 8 8⟩] }
    | 8 => { holds := [⟨2 ^ pay 25 1, pay 0 8, pay 8 8⟩] }
    | 9 =>
      if pay 18 1 = 1 then { holds := [⟨2 ^ pay 17 1, pay 0 8, pay 8 8⟩] }
      else if closedSoon (pay 17 1) rest then {}
      else { holds := [⟨2 ^ pay 17 1, pay 0 8, ((nextTime rest).map prevTick).getD (2 ^ 64 - 1)⟩] }
    | _ => {}

/-- What a line whose header cannot be read leaves open: of each tile of the region, the ticks between its data before and its
data after. -/
def darkFacts (e : Eng) (g first upto : Nat) (spans : List Hold) (rest : List SrcLine) : Facts :=
  let hs := (List.range 8).filterMap fun k =>
    if regionMask e g k = 0 then none
    else
      let lo := match (spans.filter fun h => h.tiles == 2 ^ k).getLast? with
        | some h => (h.hi + 1) % 2 ^ 64
        | none => first
      let hi := untilNext upto k rest
      if tsBefore hi lo then none else some (⟨2 ^ k, lo, hi⟩ : Hold)
  match hs with
  | [] => {}
  | h :: r => ⟨[], hs, [(r.foldl (fun a x => if tsBefore x.lo a then x.lo else a) h.lo,
      r.foldl (fun a x => if tsBefore a x.hi then x.hi else a) h.hi)], []⟩

/-- What the lines of a region tell, read in order after what `acc` tells. -/
def readFacts (e : Eng) (m : Mems) (g first upto : Nat) : Facts → List SrcLine → Facts
  | acc, [] => acc
  | acc, x :: rest => match x.line with
    | some l => readFacts e m g first upto (acc.join (lineFacts e m g upto x l rest)) rest
    | none => readFacts e m g first upto (acc.join (darkFacts e g first upto acc.spans rest)) rest

/-- What the source region of the run tells. -/
def runFacts (e : Eng) (m : Mems) : Facts := readFacts e m e.rr.region e.rr.first e.rr.upto {} (runLines e m)

/-- The run reads on to the instant `t`, each line once: up to the first line whose BASE lies after `t` (R201, R261). -/
def runReads (t : Nat) (e : Eng) (m : Mems) : Eng :=
  let ls := ((srcLines e m e.rr.region).filter fun x => e.rr.seen ≤ x.k).takeWhile fun x => match x.line with
    | some l => !tsBefore t l.base
    | none => true
  let e1 := linesNoted 0 m (portLines e e.rr.region e.rr.start t ls) e
  { e1 with rr := { e1.rr with seen := (ls.getLast?.map (·.k + 1)).getD e1.rr.seen } }

/-! ### What a context of a run sees -/

/-- What a run has read of its region up to an instant: values, channels held at it and since the previous instant, holes. -/
structure Replay where
  vals : Nat := 0
  held : Nat := 0
  gap : Nat := 0
  holes : Nat := 0
  deriving DecidableEq, Repr

/-- The 32 channels of tiles in a mask. -/
def tilesMask (tiles : Nat) : Nat :=
  (List.range 8).foldl (fun a k => if natBit tiles k then a + (2 ^ 32 - 1) * 2 ^ (32 * k) else a) 0

/-- Give the channels of `mask` on tile `k` the values of `bits`. -/
def putTile (k mask bits vals : Nat) : Nat := natAndNot vals (mask * 2 ^ (32 * k)) + (bits &&& mask) * 2 ^ (32 * k)

/-- The tiles that some interval holds at a tick from `a` to `b`. -/
def heldTiles (hs : List Hold) (a b : Nat) : Nat := hs.foldl (fun x h => if h.meets a b then x ||| h.tiles else x) 0

/-- What the run sees at `t`, after a previous instant `p` (R201): a channel that the region does not hold is 0. -/
def replay (e : Eng) (m : Mems) (t : Nat) (p : Option Nat) : Replay :=
  let f := runFacts e m
  { vals := f.puts.foldl (fun v x => if tsBefore t x.t then v else putTile x.tile x.mask x.bits v) 0
    held := tilesMask (heldTiles f.holds t t)
    gap := tilesMask (heldTiles f.holds (match p with
      | some q => (q + 1) % 2 ^ 64
      | none => t) t)
    holes := f.holes.countP fun h => !tsBefore t h.1 && !tsBefore h.2 e.rr.start }

/-! ### The instants (R154, R201) -/

/-- The transfer times of DUT clock `c` that a region's records give in a span in STATE: the times of the units and items of the
lowest tile on that clock whose data spans them. -/
def recTransfers (f : Facts) (s : Seg) (c : Nat) : List Nat :=
  let on (k : Nat) : Bool := bitsOf s.clk (2 * k) 2 == c
  let covered (j t : Nat) : Bool := f.spans.any fun h => h.tiles == 2 ^ j && h.meets t t
  f.puts.filterMap fun x =>
    if on x.tile && !((List.range x.tile).any fun j => on j && covered j x.t) then some x.t else none

/-- The first instant at or after `x` of context `n` in a span. -/
def segNext (e : Eng) (f : Facts) (n : Nat) (s : Seg) (x : Nat) : Option Nat :=
  let grid (p : Nat) : Option Nat := if p = 0 then none else some (cdiv x p * p % 2 ^ 64)
  match s.mode with
  | 2 => tsLeast ((recTransfers f s (e.rd (TRIG_CTX_INFO_CLKDOM n))).filter fun t => !tsBefore t x)
  | 4 => grid s.div
  | _ => grid (if s.double then 1 else 2)

/-- The first instant at or after `x` in spans in order of time, before `upto`. -/
def segsNext (e : Eng) (f : Facts) (n x upto : Nat) : List Seg → Option Nat
  | [] => none
  | s :: rest =>
    let fin := (rest.head?.map (·.ts)).getD upto
    match segNext e f n s (tsMax x s.ts) with
    | some t => if tsBefore t fin && tsBefore t upto then some t else segsNext e f n x upto rest
    | none => segsNext e f n x upto rest

/-- The next instant of context `n` in the run. -/
def rrNext (e : Eng) (m : Mems) (n : Nat) : Option Nat :=
  let x := match (e.getCx n).last with
    | some l => (l + 1) % 2 ^ 64
    | none => e.rr.start
  segsNext e (runFacts e m) n x e.rr.upto (segsOf (runLines e m))

/-- The next instant of a context that evaluates, as far as it is known. -/
def nextInstant (e : Eng) (m : Mems) (n : Nat) : Option Nat :=
  if inRun e then (if natBit e.rr.ctx n then rrNext e m n else none) else if e.inAcq then ctxNext e n else none

/-- The stop tick of the run has not been reached (R44). -/
def beforeStop (e : Eng) (t : Nat) : Bool := match e.md.trans.bind (·.stop) with
  | some s => tsBefore t s
  | none => true

/-- Context `n` has an instant at `t`: it evaluates, and `t` is the next one (R154, R156). -/
def hasInstant (e : Eng) (m : Mems) (n t : Nat) : Bool :=
  evals e n && nextInstant e m n == some t && (inRun e || beforeStop e t)

/-- Context `n` has no instant at or before `t` left to judge. -/
def instantPast (e : Eng) (m : Mems) (n t : Nat) : Bool :=
  if inRun e then !evals e n || (match nextInstant e m n with
    | some x => tsBefore t x
    | none => true)
  else ctxClear e n t

/-- The contexts that evaluate the instant `t`: those of the mask `ctxs`, where no instant at or before `t` is left to another
one, and every tile has written the words that reach it. -/
def instantCtxs (e : Eng) (m : Mems) (ctxs t : Nat) : List Nat :=
  let here (n : Nat) : Bool := natBit ctxs n && hasInstant e m n t
  if ((List.range 4).all fun n => here n || instantPast e m n t) && (inRun e || allCovered e t) then indicesWhere 4 here else []

/-! ### RES_COMMIT_APPLY -/

/-- RES_COMMIT_APPLY (R174, R175): the oldest waiting commit is applied; while the context evaluates at `ic`, the first instant of
a step, one commit at each. -/
def resCommitApply (n ic : Nat) (e : Eng) (m : Mems) : Eng :=
  match (e.getCx n).commits with
  | [] => e
  | id :: rest =>
    if evals e n && ((e.getCx n).inst != 0 || !hasInstant e m n ic || (e.getCx n).cmtAt == some ic) then e
    else
      let e1 := resCommit n id (e.modCx n fun c => { c with commits := rest })
      let e2 := e1.wrb (TRIG_RES_STAT_PEND n) (!rest.isEmpty)
      if evals e n then (e2.wrq (TRIG_RES_CMT_TS n) ic).modCx n fun c => { c with cmtAt := some ic } else e2

/-- RES_COMMIT_APPLY. -/
def execResCommitApply (n ic : Nat) (s : State) : Result := onMem s (resCommitApply n ic)

end Machine
end Sys2Proof
end

