-- ==== Sys2Proof/Machine/TrigSeq.lean ====
section
/-!
DEFINITION. The trigger sequencer (R177 to R199): arming, decisions, actions, marks, retention and results, the Catalogue,
and the commands EVALUATION_INSTANT, RETENTION_END, ARM, DISARM, ARM_APPLY, DISARM_APPLY, SEQ_COMMIT, SEQ_COMMIT_APPLY and
SEQ_CFG_WRITE.
-/
namespace Sys2Proof
namespace Machine

/-- STATE of a context (R177). -/
def seqState (e : Eng) (n : Nat) : Nat := e.rd (TRIG_SEQ_STAT_STATE n)

/-- Set STATE. -/
def setSeq (n st : Nat) (e : Eng) : Eng := e.wr (TRIG_SEQ_STAT_STATE n) st

/-- The target regions of a context, ascending. -/
def targetsOf (e : Eng) (n : Nat) : List Nat := indicesWhere 16 (isTarget e n)

/-! ### Arming (R188, R193) -/

/-- Context `n` no longer freezes or protects any region; a region that no context freezes is released at `t` (R193). -/
def releaseFreeze (n t : Nat) (e : Eng) : Eng :=
  (List.range 16).foldl (fun a r =>
    let x := a.getRg r
    let left := x.frozenBy.filter (· != n)
    let free := a.on (ACC_CREG_STAT_FROZEN_NOW r) && x.frozenBy.contains n && left.isEmpty
    let b := a.modRg r fun y =>
      { y with
        frozenBy := left
        willFreeze := y.willFreeze.filter (·.1 != n)
        protect := y.protect.filter (·.1 != n)
        release := if free then some (y.frozenFrom, t) else y.release }
    if free then b.wr (ACC_CREG_STAT_FROZEN_NOW r) 0 else b) e

/-- Clear the rewind mark. -/
def clearMark (n : Nat) (e : Eng) : Eng :=
  ((e.modCx n fun c => { c with markBad := 0 }).wr (TRIG_SEQ_STAT_MARK_SET n) 0).wr (TRIG_SEQ_STAT_MARK_VALID n) 0

/-- Context `n` becomes armed at `t` (R188). -/
def armCtx (n t : Nat) (e : Eng) : Eng :=
  let e1 := (setSeq n 2 e).wr (TRIG_SEQ_STAT_LEVEL n) 0
  let e2 := (clearMark n e1).wrq (TRIG_SEQ_ARM_TS n) t
  releaseFreeze n t (e2.modCx n fun c => { c with trigd := false, halted := false })

/-- An arm or disarm that is ignored. -/
def armIgn (n : Nat) (e : Eng) : Eng := e.raise (TRIG_SEQ_EVT_ARM_IGN n)

/-! ### Retention and results (R190, R192, R194) -/

/-- The horizon that R191 refers to: in a run the first tick held in the source region (R202). -/
def horizonOf (e : Eng) (r : Nat) : Option Nat := if inRun e then some e.rr.first else regionHorizon e r

/-- What P_r of a trigger at `t` follows from for region `r` (R192): the mark, lost or valid, or T − PRE. -/
def preRef (e : Eng) (n r t : Nat) : PreRef :=
  if e.on (TRIG_SEQ_STAT_MARK_SET n) then
    (if natBit (e.getCx n).markBad r then ⟨2, 0⟩ else ⟨1, e.rdq (TRIG_SEQ_MARK n)⟩)
  else ⟨0, (t + 2 ^ 64 - e.rdqa (TRIG_SEQ_PRE n)) % 2 ^ 64⟩

/-- A target region of a trigger at `t`. P_r is determined when the region's TRIGGER record takes its place; at once in a run, and
where the region takes no record. -/
def targetAt (e : Eng) (n t r : Nat) : Target :=
  let p := preRef e n r t
  ⟨r, p, if inRun e then some (preFrom (some e.rr.first) p t)
    else if takesRecords e r then none else some (preFrom (regionHorizon e r) p t)⟩

/-- P_r and PRE_SHORT of a target region as they stand. -/
def targetStart (e : Eng) (t : Nat) (y : Target) : Nat × Bool := y.start.getD (preFrom (horizonAfter e y.region t) y.pre t)

/-- Does a trigger of context `n` freeze its regions (R193)? -/
def freezes (e : Eng) (n : Nat) : Bool :=
  !e.ona (TRIG_SEQ_CFG_MODE n) && e.ona (TRIG_SEQ_CFG_FREEZE n) && e.mode != .archive && !inRun e

/-- Write the result of a retention that ends at `fin` (R192, R194). -/
def writeResult (n : Nat) (x : Retention) (fin : Nat) (stopped : Bool) (e : Eng) : Eng :=
  let recheck := !freezes e n && !x.retrig
  let tg := x.targets.map fun y =>
    let s := targetStart e x.t y
    let h := if recheck then regionHorizon e y.region else none
    if (h.map (tsBefore s.1)).getD false then (h.getD 0, true) else s
  let pres := tg.map fun p => (x.t + 2 ^ 64 - p.1) % 2 ^ 64
  let pre := match pres with
    | [] => 0
    | a :: r => r.foldl min a
  let short := tsBefore fin x.due
  let post := if x.onFrozen then 0 else (fin + 2 ^ 64 - x.t) % 2 ^ 64
  let e1 := ((e.wrq (TRIG_SEQ_RES_T n) x.t).wrq (TRIG_SEQ_RES_PRE n) pre).wrq (TRIG_SEQ_RES_POST n) post
  let e2 := ((e1.wrb (TRIG_SEQ_RES_STAT_RETRIG n) x.retrig).wrb (TRIG_SEQ_RES_STAT_PRE_SHORT n) (tg.any (·.2))).wrb
    (TRIG_SEQ_RES_STAT_POST_SHORT n) (short || x.onFrozen)
  let e3 := ((e2.wrb (TRIG_SEQ_RES_STAT_MARK_LOST n) (x.targets.any fun y => y.pre.mark == 2)).wrb (TRIG_SEQ_RES_STAT_STOPPED n) stopped).wr
    (TRIG_SEQ_RES_STAT_LEVEL n) x.level
  let e4 := ((e3.wr (TRIG_SEQ_RES_STAT_BRANCH n) x.branch).addWrap (TRIG_SEQ_RES_STAT_GEN n) 1).wr (TRIG_SEQ_RES_STAT_VALID n) 1
  e4.raise (TRIG_SEQ_EVT_RESULT n)

/-- A retention of context `n` ends at `fin`: the regions it will freeze learn E, the result is written, and in single
mode the state becomes DONE (R190, R193). -/
def finishRetention (n : Nat) (x : Retention) (fin : Nat) (stopped : Bool) (e : Eng) : Eng :=
  let e1 := (List.range 16).foldl (fun a r =>
    if (a.getRg r).willFreeze.any (·.1 == n) then
      freezeCheck r (a.modRg r fun y => { y with willFreeze := y.willFreeze.map fun f => if f.1 == n then (n, fin) else f })
    else a) e
  let e2 := writeResult n x fin stopped e1
  if seqState e2 n = 3 then setSeq n 4 e2 else e2

/-- The end that a retention has reached at the instant `reached`, if it has: its limit (R193), or T + POST once an instant
at or after it has come (R190). -/
def retentionDue (reached : Option Nat) (x : Retention) : Option Nat :=
  match x.limit with
  | some l => some (if tsBefore x.due l then x.due else l)
  | none =>
    match reached with
    | none => none
    | some l => if tsBefore l x.due then none else some x.due

/-- End the retentions that are due at the instant `reached`, in the order of T. -/
def endDue (n : Nat) (reached : Option Nat) : Nat → Eng → Eng
  | 0, e => e
  | fuel + 1, e =>
    match (e.getCx n).rets with
    | [] => e
    | x :: rest =>
      match retentionDue reached x with
      | none => e
      | some fin => endDue n reached fuel (finishRetention n x fin false (e.modCx n fun c => { c with rets := rest }))

/-- End the retentions of context `n` that are due at instant `t`, before what applies at `t` (R190: the state becomes DONE
at the first instant at or after T + POST, and R180 takes a branch where it is ARMED or POST). -/
def retentionsAt (n t : Nat) (e : Eng) : Eng := endDue n (some t) (e.getCx n).rets.length e

/-- RETENTION_END (R190, R192, R194). -/
def execRetentionEnd (n : Nat) (s : State) : Result := onMem s fun e _ => endDue n (e.getCx n).last (e.getCx n).rets.length e

/-- End every retention of context `n` at the latest at `lim` (a stop, tile service, a disarm). -/
def cutRetentions (n lim : Nat) (stopped : Bool) (e : Eng) : Eng :=
  let xs := (e.getCx n).rets
  xs.foldl (fun a x =>
    let own := match x.limit with
      | some l => if tsBefore x.due l then x.due else l
      | none => x.due
    if tsBefore lim own then finishRetention n x lim stopped a else finishRetention n x own false a)
    (e.modCx n fun c => { c with rets := [] })

/-! ### Actions (R181, R182) -/

/-- The line that holds tick `t` in region `r`: its sequence and generation, searching the newest lines first; none where
no line holds it yet. -/
def lineHolding (e : Eng) (m : Mems) (r t : Nat) : Nat → Nat → Option Nat
  | 0, _ => none
  | fuel + 1, k =>
    match offsetOf e r k with
    | none => none
    | some o =>
      let l := parseLine (readLineAt e m r o)
      if isData l && !tsBefore t l.base && !tsBefore (spanEnd e m r k l) t then some (l.seq + l.gen * 2 ^ 24)
      else if k = 0 then none else lineHolding e m r t fuel (k - 1)

/-- LINE and REGION of an entry of a run (R198, R202): the line of the source region that holds the sample at `t`. -/
def entrySample (m : Mems) (t : Nat) (e : Eng) : Nat × Nat :=
  match lineHolding e m e.rr.region t (e.rd (ACC_CREG_SIZE_LINES e.rr.region)) ((e.getRg e.rr.region).lines - 1) with
  | some x => (x, e.rr.region)
  | none => (0xFFFFFFFF, 0xFF)

/-- A Catalogue entry of an acquisition, or an entry of a run's output (R198, R202). In an acquisition it waits for its record,
where it has one. -/
def entry (m : Mems) (n t kind pos code : Nat) (wait : Bool) (e : Eng) : Eng :=
  if inRun e then rrWrite n t kind pos code (entrySample m t e).1 (entrySample m t e).2 e else catAdd n t kind pos code wait e

/-- The lowest target region that takes a record now (R198). -/
def entryRegion (e : Eng) (n : Nat) : Option Nat := (targetsOf e n).find? (takesRecords e ·)

/-- A record of context `n` in every target region (R181, R190); the Catalogue entry that comes next names the one in the lowest
region that takes it, where it `cats`. -/
def putAll (n : Nat) (cats : Bool) (rec_ : Nat → HeldRec) (e : Eng) : Eng :=
  let home := if cats then entryRegion e n else none
  let ref := (n, (e.getCx n).catNext)
  (targetsOf e n).foldl (fun a r =>
    putDecision r { rec_ r with cat := if home == some r then some ref else none } a) e

/-- One operation on a resource (R169, R170, R171, R181). -/
def resOp (op i : Nat) (e : Eng) : Eng :=
  if 0x90 ≤ i ∧ i < 0xB0 then
    let c := i - 0x90
    let e1 := if op = 1 ∨ op = 4 then
        (e.wrq (TRIG_CNT_VAL c) (e.rdqa (TRIG_CNT_INIT c))).wrb (TRIG_CNT_STAT_SAT c) (e.rdqa (TRIG_CNT_INIT c) == 2 ^ 48 - 1)
      else e
    if op = 2 ∨ op = 4 then e1.wr (TRIG_CNT_STAT_RUN c) 1 else if op = 3 then e1.wr (TRIG_CNT_STAT_RUN c) 0 else e1
  else if 0xB0 ≤ i ∧ i < 0xC0 then
    let t := i - 0xB0
    let e1 := if op = 1 ∨ op = 4 then
        (e.wrq (TRIG_TMR_VAL t) (e.rdqa (TRIG_TMR_INIT t))).wrb (TRIG_TMR_STAT_SAT t) (e.rdqa (TRIG_TMR_INIT t) == 2 ^ 48 - 1)
      else e
    if op = 2 ∨ op = 4 then e1.wr (TRIG_TMR_STAT_RUN t) 1 else if op = 3 then e1.wr (TRIG_TMR_STAT_RUN t) 0 else e1
  else if 0xC0 ≤ i ∧ i < 0xD0 then
    if op = 5 then e.wrBit TRIG_FLG_VAL_F (i - 0xC0) true
    else if op = 6 then e.wrBit TRIG_FLG_VAL_F (i - 0xC0) false
    else e
  else e

/-- Both operations of a branch: on one resource a stop wins over a start and a clear over a set (R169, R171, R182). -/
def resOps (opA idA opB idB : Nat) (e : Eng) : Eng :=
  if idA = idB ∧ (opA = 3 ∨ opA = 6) then resOp opA idA (resOp opB idB e) else resOp opB idB (resOp opA idA e)

/-- Does any term, counter source or enabled retro term of any context read identifier `i` (R184)? -/
def readAnywhere (e : Eng) (i : Nat) : Bool :=
  ((List.range 32).any fun c => e.rda (TRIG_CNT_CFG_SRC c) == i && hasOwner e (0x90 + c)) ||
  (List.range 4).any fun n => ctxExists e n &&
    (((List.range 16).any fun k => e.ona (TRIG_RT_CFG_EN n k) && e.rda (TRIG_RT_CFG_RES n k) == i) ||
     (List.range 16).any fun l => (List.range 4).any fun b =>
       (e.rda (TRIG_LVL_BR_TERM_T0 n l b) == i || e.rda (TRIG_LVL_BR_TERM_T1 n l b) == i ||
        e.rda (TRIG_LVL_BR_TERM_T2 n l b) == i || e.rda (TRIG_LVL_BR_TERM_T3 n l b) == i))

/-- REWIND (R191): set the mark and check it in every target region. -/
def rewind (n t : Nat) (e : Eng) : Eng :=
  let mk := (t + 2 ^ 64 - e.rdqa (TRIG_SEQ_REW n)) % 2 ^ 64
  let e1 := (((e.modCx n fun c => { c with markBad := 0 }).wr (TRIG_SEQ_STAT_MARK_SET n) 1).wr (TRIG_SEQ_STAT_MARK_VALID n) 1).wrq
    (TRIG_SEQ_MARK n) mk
  (targetsOf e n).foldl (fun a r =>
    match horizonOf a r with
    | some h => if tsBefore mk h then markLose n r a else a
    | none => markLose n r a) e1

/-- A trigger of context `n` with retention end `due` will freeze its region `r`: the line that holds P_r is protected from now on
(R193). -/
def protectStart (n t due : Nat) (y : Target) (e : Eng) : Eng :=
  if e.on (ACC_CREG_STAT_FROZEN_NOW y.region) || !receives e y.region then e
  else
    let p := (targetStart e t y).1
    let k := (((e.getRg y.region).times.filter fun x => !tsBefore p x.2).getLast?).map (·.1)
    e.modRg y.region fun r =>
      { r with
        willFreeze := r.willFreeze ++ [(n, due)]
        protect := r.protect ++ (k.map fun i => (n, i)).toList }

/-- The TRIGGER record of context `n` for region `r` (R217); PSTART is filled in as it takes its place. -/
def triggerRec (e : Eng) (n t pos r : Nat) : HeldRec :=
  let p := preRef e n r t
  ⟨t, true, n, triggerLine t n pos ((if e.ona (TRIG_SEQ_CFG_MODE n) then 1 else 0) + (if p.mark = 1 then 2 else 0))
    (e.rd (TRIG_SEQ_TRIGCNT_CNT n)) 0 (e.rdqa (TRIG_SEQ_POST n)), some p, none⟩

/-- An accepted trigger (R190, R192, R193): records, event, Catalogue entry, count, hits, retention. -/
def acceptTrigger (m : Mems) (n t l b : Nat) (e : Eng) : Eng :=
  let pos := l + 16 * b
  let run := inRun e
  let single := !e.ona (TRIG_SEQ_CFG_MODE n)
  let due := (t + e.rdqa (TRIG_SEQ_POST n)) % 2 ^ 64
  let tg := (targetsOf e n).map (targetAt e n t)
  let e1 := e.addWrap (TRIG_SEQ_TRIGCNT_CNT n) 1
  let e2 := if run then e1 else putAll n true (triggerRec e1 n t pos) e1
  let e3 := entry m n t 0 pos 0 (entryRegion e n).isSome (e2.raise (TRIG_SEQ_EVT_TRIG n))
  let e4 := if e.mode = .archive ∧ ¬ run then tg.foldl (fun a y => keepHit y.region t a) e3 else e3
  let e5 := if freezes e n then tg.foldl (fun a y => protectStart n t due y a) e4 else e4
  let ret : Retention := ⟨t, due, l, b, single, run, tg, none, tg.any fun y => e.on (ACC_CREG_STAT_FROZEN_NOW y.region)⟩
  let e6 := clearMark n (e5.modCx n fun c => { c with trigd := true, rets := c.rets ++ [ret] })
  if single then setSeq n 3 (e6.wr (TRIG_SEQ_RES_STAT_VALID n) 0) else e6

/-- TRIGGER (R190): accepted in ARMED; ignored and counted in POST. -/
def actTrigger (m : Mems) (n t l b s0 : Nat) (e : Eng) : Eng :=
  if s0 = 2 then acceptTrigger m n t l b e else e.addSat (TRIG_SEQ_IGN_CNT n) 1

/-- MARK (R181): a MARK record in every target region; nothing in a run (R202). -/
def actMark (n t l b code : Nat) (cats : Bool) (e : Eng) : Eng :=
  if inRun e then e else putAll n cats (fun _ => ⟨t, false, n, markLine t n (l + 16 * b) code, none, none⟩) e

/-- CASC (R196, R197): the line counts locally; a TRIG frame is queued when the engine is master or member, not in a run. -/
def actCasc (n t line : Nat) (e : Eng) : Eng :=
  let e1 := (List.range 4).foldl (fun a j =>
    if ctxExists a j && (!inRun a || natBit a.rr.ctx j) then
      a.modCx j fun c => { c with casc := c.casc ++ [(line, (t + a.rda (TRIG_SEQ_CASC_DLY j)) % 2 ^ 64, t)] }
    else a) e
  if e.rd TIME_AQL_CTRL_ROLE ≠ 0 ∧ !inRun e then { e1 with aq := { e1.aq with trigQ := e1.aq.trigQ ++ [⟨t, n, line⟩] } } else e1

/-- HALT (R181): DISARMED in ARMED, no more branches in POST. -/
def actHalt (n s0 : Nat) (e : Eng) : Eng :=
  if s0 = 2 then setSeq n 1 e else e.modCx n fun c => { c with halted := true }

/-- The actions of branch `b` of level `l`, in the order of R182. -/
def takeBranch (m : Mems) (n t l b : Nat) (e : Eng) : Eng :=
  let s0 := seqState e n
  let opA := e.rda (TRIG_LVL_BR_OPS_OPA_OP n l b)
  let opB := e.rda (TRIG_LVL_BR_OPS_OPB_OP n l b)
  let idA := e.rda (TRIG_LVL_BR_OPS_OPA_ID n l b)
  let idB := e.rda (TRIG_LVL_BR_OPS_OPB_ID n l b)
  let code := e.rda (TRIG_LVL_BR_ACT_CODE n l b)
  let act (f : Nat → Nat → Nat → Fld) : Bool := e.ona (f n l b)
  let e0 := e.addSat (TRIG_LVL_BR_HIT_CNT n l b) 1
  let e1 := resOps opA idA opB idB e0
  let e2 := e1.when ((opA != 0 && readAnywhere e idA) || (opB != 0 && readAnywhere e idB)) fun a => a.addSat (TRIG_SEQ_REPLAY_CNT n) 1
  let e3 := e2.when (act TRIG_LVL_BR_ACT_REWIND) (rewind n t)
  let e4 := e3.when (act TRIG_LVL_BR_ACT_TRIGGER) (actTrigger m n t l b s0)
  let e5 := e4.when (act TRIG_LVL_BR_ACT_MARK) (actMark n t l b code (act TRIG_LVL_BR_ACT_CAT))
  let e6 := e5.when (act TRIG_LVL_BR_ACT_CAT)
    (entry m n t 1 (l + 16 * b) code (act TRIG_LVL_BR_ACT_MARK && (entryRegion e4 n).isSome))
  let e7 := e6.when (act TRIG_LVL_BR_ACT_CASC) (actCasc n t (e.rda (TRIG_LVL_BR_ACT_CASC_LINE n l b)))
  let e8 := e7.when (act TRIG_LVL_BR_ACT_IRQ) fun a => a.raise (TRIG_SEQ_EVT_IRQ n)
  let e9 := e8.when (act TRIG_LVL_BR_ACT_HALT) (actHalt n s0)
  e9.wr (TRIG_SEQ_STAT_LEVEL n)
    (if act TRIG_LVL_BR_ACT_HALT && s0 == 2 then 0 else e.rda (TRIG_LVL_BR_CTL_NEXT n l b))

/-! ### The decision (R179, R180) -/

/-- The condition of a branch. -/
def branchTrue (p : Pres) (n l b : Nat) : Bool :=
  let e := p.e0
  let v (f : Nat → Nat → Nat → Fld) : Nat := if idOut p idFuel n (e.rda (f n l b)) then 1 else 0
  natBit (e.rda (TRIG_LVL_BR_CTL_TRUTH n l b))
    (v TRIG_LVL_BR_TERM_T0 + 2 * v TRIG_LVL_BR_TERM_T1 + 4 * v TRIG_LVL_BR_TERM_T2 + 8 * v TRIG_LVL_BR_TERM_T3)

/-- The branch a context takes at an instant. -/
def decideBranch (p : Pres) (n : Nat) : Option (Nat × Nat) :=
  let st := seqState p.e0 n
  let l := p.e0.rd (TRIG_SEQ_STAT_LEVEL n)
  if (st = 2 ∨ st = 3) ∧ !(p.e0.getCx n).halted then
    ((List.range 4).find? fun b => branchTrue p n l b).map fun b => (l, b)
  else none

/-! ### Channel values (R155, R176) -/

/-- A tile's bits at `t` in acquisition: of its latest sample at or before `t`; only its enabled channels are seen other than as
0. -/
def tileBits (e : Eng) (k t : Nat) : Nat :=
  ((((viewInstants e k).filter fun p => !tsBefore t p.1).getLast?.map (·.2)).getD (bitsOf e.fe.lastVal (32 * k) 32)) &&& seenMask e k

/-- The end of the run of words that the fabric holds of tile `k` from tick `x` on. -/
def coverEnd (e : Eng) (k x : Nat) : Nat := (e.getEla k).view.foldl (fun a i => match i with
  | .word w => if !tsBefore a w.stamp && tsBefore a (itemNext e i) then itemNext e i else a
  | _ => a) x

/-- The tiles that contribute no word for some tick from `a` to `b`. -/
def bareTiles (e : Eng) (a b : Nat) : Nat := maskOf 8 fun k => !tsBefore b (coverEnd e k a)

/-- The first tick after an instant `p`, or the instant `t` itself where there is none before. -/
def sinceLast (p : Option Nat) (t : Nat) : Nat := match p with
  | some q => (q + 1) % 2 ^ 64
  | none => t

/-- What context `n` sees at `t` in acquisition (R155, R23, R24): a channel is held while its tile contributes no word. -/
def liveSeen (e : Eng) (n t caught : Nat) : Seen :=
  let c := e.getCx n
  ⟨t, (List.range 8).foldl (fun a k => a + tileBits e k t * 2 ^ (32 * k)) 0, tilesMask (bareTiles e t t),
    tilesMask (bareTiles e (sinceLast c.last t) t), c.last.map fun _ => (c.vals, c.held), caught⟩

/-- What context `n` sees at `t` in a run (R201): the pulse catcher takes no part. -/
def runSeen (e : Eng) (m : Mems) (n t : Nat) : Seen :=
  let c := e.getCx n
  let r := replay e m t c.last
  ⟨t, r.vals, r.held, r.gap, c.last.map fun _ => (c.vals, c.held), 0⟩

/-! ### EVALUATION_INSTANT -/

/-- Fields that the engine applies at the first instant of a step (R187). -/
def stepStart (n : Nat) (e : Eng) : Eng :=
  if (e.getCx n).inst = 0 then
    (((e.loadq (TRIG_SEQ_PRE n)).loadq (TRIG_SEQ_POST n)).loadq (TRIG_SEQ_REW n)).load (TRIG_SEQ_CASC_DLY n)
  else e

/-- Recognisers, detectors and comparators of context `n` (step 2 of R158). -/
def evalInputs (n : Nat) (s : Seen) (e : Eng) : Eng :=
  (ownedBy e n).foldl (fun a i =>
    if i < 0x40 then evalTest i (a.ona (TRIG_WR_CFG_EVT i)) (wrTest a s.vals i) a
    else if i < 0x80 then evalDetector (i - 0x40) s a
    else if i < 0x90 then evalTest i (a.ona (TRIG_RC_CFG_EVT (i - 0x80))) (rcTest a s.vals (i - 0x80)) a
    else a) e

/-- The outputs of timers and flags of context `n` at `t` join the output mask (steps 3 and 4 of R158). -/
def addTimerFlags (e0 : Eng) (n t out : Nat) : Nat :=
  (ownedBy e0 n).foldl (fun o i =>
    if 0xB0 ≤ i ∧ i < 0xC0 then putNatBit o i (tmrOut e0 (i - 0xB0) t (e0.getCx n).last)
    else if 0xC0 ≤ i then putNatBit o i (e0.bit TRIG_FLG_VAL_F (i - 0xC0))
    else o) out

/-- Note whether the terminal condition of resource `i` holds at this instant. -/
def setDue (i : Nat) (v : Bool) (e : Eng) : Eng := { e with tr := { e.tr with due := putNatBit e.tr.due i v } }

/-- Counters and timers of context `n` advance; outputs and occurrences are recorded (step 3 of R158, R172). -/
def advanceSeq (p : Pres) (n : Nat) (e : Eng) : Eng :=
  (ownedBy p.e0 n).foldl (fun a i =>
    let b := if 0x90 ≤ i ∧ i < 0xB0 then
        let c := i - 0x90
        let v := p.e0.rdq (TRIG_CNT_VAL c) + (if cntInc p n c then 1 else 0)
        setDue i (cntInc p n c && v == p.e0.rdqa (TRIG_CNT_TC c))
          ((a.wrq (TRIG_CNT_VAL c) v).wrb (TRIG_CNT_STAT_SAT c) (v == 2 ^ 48 - 1))
      else if 0xB0 ≤ i ∧ i < 0xC0 then
        let v := tmrNext p.e0 (i - 0xB0) p.t (p.e0.getCx n).last
        setDue i (tmrEvent p.e0 (i - 0xB0) p.t (p.e0.getCx n).last)
          ((a.wrq (TRIG_TMR_VAL (i - 0xB0)) v).wrb (TRIG_TMR_STAT_SAT (i - 0xB0)) (v == 2 ^ 48 - 1))
      else a
    let o := idOut p idFuel n i
    let d := { b with tr := { b.tr with out := putNatBit b.tr.out i o } }
    if o then occur i p.t d else d) e

/-- Terminal behaviour of the counters and timers of context `n` (step 6 of R158). -/
def terminals (n : Nat) (e : Eng) : Eng :=
  (ownedBy e n).foldl (fun a i =>
    if 0x90 ≤ i ∧ i < 0xB0 then counterTerminal (i - 0x90) a
    else if 0xB0 ≤ i ∧ i < 0xC0 then timerLimit (i - 0xB0) a
    else a) e

/-- Context `n` has had its instant: what it and other contexts see next. -/
def closeInstant (n : Nat) (s : Seen) (e : Eng) : Eng :=
  let first := (e.getCx n).last.isNone
  let e1 := if first && seqState e n == 2 then e.wrq (TRIG_SEQ_ARM_TS n) s.t else e
  let armed := seqState e1 n == 2 || seqState e1 n == 3
  e1.modCx n fun c =>
    { c with
      last := some s.t
      inst := (c.inst + 1) % 64
      vals := s.vals
      held := s.held
      xTrig := c.trigd
      xArmed := armed
      casc := c.casc.filter fun x => tsBefore s.t x.2.1 || !tsBefore x.2.2 s.t
      cascStep := if c.inst = 0 then [] else c.cascStep }

/-- The catcher works in TIMING and CHRONICLE without timing-double, on enabled channels (R166). -/
def caughtNow (e : Eng) (caught : Nat) : Nat :=
  if (e.mode == .timing || e.mode == .chronicle) && !e.double && !inRun e then
    maskOf 256 fun c => natBit caught c && e.ona (FE_CH_CFG_EN c)
  else 0

/-- The instant `t` of the contexts `cs` (R158): `seen` is what each sees, `dec` that the sequencers decide. -/
def instantAt (m : Mems) (t : Nat) (cs : List Nat) (seen : Nat → Seen) (dec : Bool) (e : Eng) : Eng :=
  let e1 := cs.foldl (fun a n => evalInputs n (seen n) a) e
  let p : Pres := ⟨e, cs.foldl (fun o n => addTimerFlags e n t o) e1.tr.out, t, maskOf 4 fun n => cs.contains n⟩
  let e2 := cs.foldl (fun a n => advanceSeq p n a) e1
  let e3 := cs.foldl (fun a n => terminals n a) e2
  let e4 := cs.foldl (fun a n =>
    match if dec then decideBranch p n else none with
    | some (l, br) => retentionsAt n t (takeBranch m n t l br a)
    | none => a) e3
  cs.foldl (fun a n => closeInstant n (seen n) a) e4

/-- The fabric reads what the tiles have written, and time has passed to `t`. -/
def fabricReads (t : Nat) (e : Eng) : Eng :=
  if inRun e then e else (List.range 8).foldl (fun a k => trigRead k a) (passTo t e)

/-- A run has come to the instant `t`: POS, HOLES (R201, R462), and the lines that it has read. -/
def runShow (m : Mems) (t : Nat) (e : Eng) : Eng :=
  runReads t ((e.wrq TRIG_RR_POS t).wr TRIG_RR_HOLES_CNT ((replay e m t none).holes + e.rr.lostSteps)) m

/-- EVALUATION_INSTANT (R154 to R199): the contexts in the mask `ctxs` have the instant `t`; `caught` are the channels that the
pulse catcher flagged in the interval before it. -/
def evaluationInstant (t ctxs caught : Nat) (e : Eng) (m : Mems) : Eng :=
  let e1 := fabricReads t e
  let cs := instantCtxs e1 m ctxs t
  if cs.isEmpty then e
  else
    let e2 := cs.foldl (fun a n => stepStart n (retentionsAt n t a)) e1
    if inRun e2 then
      runShow m t (instantAt m t cs (runSeen e2 m · t) true e2)
    else
      releaseReady ((List.range 8).foldl (fun a k => pruneView k a)
        (instantAt m t cs (liveSeen e2 · t (caughtNow e2 caught)) true e2))

/-- EVALUATION_INSTANT. -/
def execEvaluationInstant (t ctxs caught : Nat) (s : State) : Result := onMem s (evaluationInstant t ctxs caught)

/-! ### Commands -/

/-- ARM (R188): the command waits for the next step; a context that does not evaluate ignores it. -/
def seqCommand (n : Nat) (c : SeqCmd) (e : Eng) : Eng :=
  if evals e n && ctxExists e n then e.modCx n fun x => { x with cmds := x.cmds ++ [c] } else armIgn n e

/-- ARM. -/
def execArm (n : Nat) (s : State) : Result := onEng s (seqCommand n .arm)

/-- DISARM. -/
def execDisarm (n : Nat) (s : State) : Result := onEng s (seqCommand n .disarm)

/-- Is it a command of software? -/
def SeqCmd.isSw : SeqCmd → Bool
  | .arm | .disarm => true
  | .aql _ _ => false

/-- The command that applies next at instant `t`: software commands at a step start in the order written, then Aqurn
operations whose time has come (R188, R189). -/
def nextCmd (c : CtxSt) (t : Nat) : Option SeqCmd :=
  match (if c.inst = 0 then c.cmds.find? (·.isSw) else none) with
  | some x => some x
  | none => c.cmds.find? fun x => match x with
    | .aql _ ts => !tsBefore t ts
    | _ => false

/-- Remove the first occurrence of a command. -/
def dropCmd (n : Nat) (x : SeqCmd) (e : Eng) : Eng := e.modCx n fun c => { c with cmds := c.cmds.erase x }

/-- An arm meets its instant (R188). -/
def armAt (n t : Nat) (e : Eng) : Eng := if seqState e n = 1 ∨ seqState e n = 4 then armCtx n t e else armIgn n e

/-- A disarm meets its instant (R188, R192). -/
def disarmAt (n t : Nat) (e : Eng) : Eng :=
  if seqState e n = 2 ∨ seqState e n = 3 then
    let e1 := cutRetentions n t false e
    (setSeq n 1 e1).wr (TRIG_SEQ_STAT_LEVEL n) 0
  else e

/-- ARM_APPLY (R188, R189): the command that applies next at `t`, the context's next instant, is an arm. -/
def armApply (n t : Nat) (e : Eng) (m : Mems) : Eng :=
  if !hasInstant e m n t then e
  else
    match nextCmd (e.getCx n) t with
    | some .arm => armAt n t (dropCmd n .arm (retentionsAt n t e))
    | some (.aql true ts) => armAt n t (dropCmd n (.aql true ts) (retentionsAt n t e))
    | _ => e

/-- ARM_APPLY. -/
def execArmApply (n t : Nat) (s : State) : Result := onMem s (armApply n t)

/-- DISARM_APPLY (R188, R189): the command that applies next at `t`, the context's next instant, is a disarm. -/
def disarmApply (n t : Nat) (e : Eng) (m : Mems) : Eng :=
  if !hasInstant e m n t then e
  else
    match nextCmd (e.getCx n) t with
    | some .disarm => disarmAt n t (dropCmd n .disarm (retentionsAt n t e))
    | some (.aql false ts) => disarmAt n t (dropCmd n (.aql false ts) (retentionsAt n t e))
    | _ => e

/-- DISARM_APPLY. -/
def execDisarmApply (n t : Nat) (s : State) : Result := onMem s (disarmApply n t)

/-- SEQ_COMMIT (R185). -/
def execSeqCommit (n : Nat) (s : State) : Result :=
  onEng s fun e => if ctxExists e n then e.wr (TRIG_SEQ_STAT_CMT_PEND n) 1 else e

/-- The first check of R186 that a branch fails, 0 for none. -/
def branchWhy (e : Eng) (n l b : Nat) : Nat :=
  let bad (f : Nat → Nat → Nat → Fld) : Bool := !mayName e n (e.rd (f n l b))
  let opBad1 (o i : Nat) : Bool := o != 0 && !(0x90 ≤ i && owns e n i)
  let opBad2 (o i : Nat) : Bool := o == 7 || (o != 0 && (if 0xC0 ≤ i then o < 5 else 4 < o))
  let oa := e.rd (TRIG_LVL_BR_OPS_OPA_OP n l b)
  let ob := e.rd (TRIG_LVL_BR_OPS_OPB_OP n l b)
  let ia := e.rd (TRIG_LVL_BR_OPS_OPA_ID n l b)
  let ib := e.rd (TRIG_LVL_BR_OPS_OPB_ID n l b)
  if bad TRIG_LVL_BR_TERM_T0 || bad TRIG_LVL_BR_TERM_T1 || bad TRIG_LVL_BR_TERM_T2 || bad TRIG_LVL_BR_TERM_T3 then 1
  else if opBad1 oa ia || opBad1 ob ib then 2
  else if opBad2 oa ia || opBad2 ob ib then 3
  else 0

/-- The 64 branches of a context, in the order of R186. -/
def allBranches : List (Nat × Nat) := (List.range 16).flatMap fun l => (List.range 4).map fun b => (l, b)

/-- The fields of a branch. -/
def branchFlds (n l b : Nat) : List Fld :=
  [TRIG_LVL_BR_TERM_T0 n l b, TRIG_LVL_BR_TERM_T1 n l b, TRIG_LVL_BR_TERM_T2 n l b, TRIG_LVL_BR_TERM_T3 n l b,
   TRIG_LVL_BR_CTL_TRUTH n l b, TRIG_LVL_BR_CTL_NEXT n l b, TRIG_LVL_BR_ACT_TRIGGER n l b, TRIG_LVL_BR_ACT_REWIND n l b,
   TRIG_LVL_BR_ACT_MARK n l b, TRIG_LVL_BR_ACT_CAT n l b, TRIG_LVL_BR_ACT_IRQ n l b, TRIG_LVL_BR_ACT_CASC n l b,
   TRIG_LVL_BR_ACT_HALT n l b, TRIG_LVL_BR_ACT_CASC_LINE n l b, TRIG_LVL_BR_ACT_CODE n l b, TRIG_LVL_BR_OPS_OPA_ID n l b,
   TRIG_LVL_BR_OPS_OPA_OP n l b, TRIG_LVL_BR_OPS_OPB_ID n l b, TRIG_LVL_BR_OPS_OPB_OP n l b]

/-- SEQ_COMMIT_APPLY (R185, R186): at a step start, or at once while the context does not evaluate. -/
def seqCommitApply (n : Nat) (e : Eng) : Eng :=
  if !e.on (TRIG_SEQ_STAT_CMT_PEND n) || (evals e n && (e.getCx n).inst != 0) then e
  else
    let e1 := e.wr (TRIG_SEQ_STAT_CMT_PEND n) 0
    match allBranches.find? fun p => branchWhy e n p.1 p.2 != 0 with
    | some (l, b) =>
      (((e1.wr (TRIG_SEQ_REJ_LVL n) l).wr (TRIG_SEQ_REJ_BR n) b).wr (TRIG_SEQ_REJ_WHY n) (branchWhy e n l b)).raise
        (TRIG_SEQ_EVT_CMT_REJ n)
    | none => allBranches.foldl (fun a p => (branchFlds n p.1 p.2).foldl Eng.load a) e1

/-- SEQ_COMMIT_APPLY. -/
def execSeqCommitApply (n : Nat) (s : State) : Result := onEng s (seqCommitApply n)

/-- The fields of TRIG_SEQ_CFG. -/
def seqCfgFlds (n : Nat) : List Fld := [TRIG_SEQ_CFG_MODE n, TRIG_SEQ_CFG_AUTOARM n, TRIG_SEQ_CFG_FREEZE n, TRIG_SEQ_CFG_TGT n]

/-- SEQ_CFG_WRITE (R187): held with CFG_PEND while EVAL is 1. -/
def seqCfgWrite (n : Nat) (cont auto frz : Bool) (tgt : Nat) (e : Eng) : Eng :=
  if !ctxExists e n then e
  else
    let e1 := (((e.wrb (TRIG_SEQ_CFG_MODE n) cont).wrb (TRIG_SEQ_CFG_AUTOARM n) auto).wrb (TRIG_SEQ_CFG_FREEZE n) frz).wr
      (TRIG_SEQ_CFG_TGT n) tgt
    if evals e n then e1.wr (TRIG_SEQ_STAT_CFG_PEND n) 1 else (seqCfgFlds n).foldl Eng.load e1

/-- SEQ_CFG_WRITE. -/
def execSeqCfgWrite (n : Nat) (cont auto frz : Bool) (tgt : Nat) (s : State) : Result := onEng s (seqCfgWrite n cont auto frz tgt)

/-! ### Beginning and end of evaluation -/

/-- EVAL becomes 0: commands that still wait are ignored with ARM_IGN (R188), a held TRIG_SEQ_CFG is applied (R187). -/
def endEval (n : Nat) (e : Eng) : Eng :=
  let e1 := if (e.getCx n).cmds.isEmpty then e else armIgn n (e.modCx n fun c => { c with cmds := [] })
  ((seqCfgFlds n).foldl Eng.load (e1.wr (TRIG_SEQ_STAT_EVAL n) 0)).wr (TRIG_SEQ_STAT_CFG_PEND n) 0

/-- Reset a context as in step 3 of R43: level 0, DISARMED, resources, occurrences, HIT counts. -/
def resetCtx (n : Nat) (e : Eng) : Eng :=
  let e1 := resetResources n e
  let e2 := allBranches.foldl (fun a p => a.wr (TRIG_LVL_BR_HIT_CNT n p.1 p.2) 0) e1
  let e3 := (setSeq n 1 e2).wr (TRIG_SEQ_STAT_LEVEL n) 0
  e3.modCx n fun c =>
    { c with last := none, inst := 0, cmtAt := none, vals := 0, held := 0, trigd := false, xTrig := false, xArmed := false, casc := [],
             cascStep := [], halted := false, rets := [], cmds := [] }

/-- A context begins to evaluate at `t0`, armed when it is to be armed at its first instant (R177, R188). As the initial
values of the flags (R171), that is what other contexts read at `t0`, before which there is no instant (R195). -/
def beginEval (n t0 : Nat) (arm : Bool) (e : Eng) : Eng :=
  let e1 := ((resetCtx n e).wr (TRIG_SEQ_STAT_EVAL n) 1).modCx n fun c => { c with start := t0 }
  if arm then (armCtx n t0 e1).modCx n fun c => { c with xArmed := true } else e1

end Machine
end Sys2Proof
end

