-- ==== Sys2Proof/Machine/ModeBase.lean ====
section
/-!
DEFINITION. Mode changes (R37 to R48) and tile-service requests (R49, R50, R53), as far as the end of a retriggering run
needs them: putting a mode in force, the clocks of an entry, writes that were held while BUSY.
-/
namespace Sys2Proof
namespace Machine

/-- Add an item to the event FIFO, reporting an overflow (R341). -/
def evqAdd (item : Nat) (e : Eng) : Eng :=
  if evqRoom e then evqPush item e else raiseAt 3 HOST_EVT_EVQ_OVF 0 [] (evqPush item e)

/-- A mode request is rejected (R42). -/
def modeReject (code : Nat) (e : Eng) : Eng := (e.wr GLB_MODE_STAT_REJ_CODE code).raise GLB_MODE_STAT_REJ

/-! ### Tile service requests -/

/-- Entry of tile `k` is accepted (R49). -/
def svcAccepts (e : Eng) (k : Nat) : Bool :=
  if k = 12 then
    !((List.range 16).any fun n => e.inAcq && receives e n && regionForm e n == 2) &&
    !((List.range 4).any fun q => (jobState e q == 1 || jobState e q == 2) && e.rd (CMP_JOB_CTRL_OP q) == 1)
  else if k = 14 then
    (e.mode == .service || e.mode == .review) && (List.range 8).all fun c => e.rd (HOST_DMA_STAT_STATE c) != 1
  else true

/-- A front-end, trigger-context, compressor or Vitrine tile that is not configured stays in service (R424). -/
def svcPinned (e : Eng) (k : Nat) : Bool := k < 14 && e.rd CFG_STATUS_STATE == 2 && !e.on (CFG_TILE_INFO_CONF k)

/-- One bit of a GLB_TILE_SVC write: a set bit asks for entry, or withdraws an exit that has not taken place; a clear bit
asks for the exit; an entry that is refused clears the bit and sets REJ (R50), and so does clearing the bit of a tile that
is not configured (R424). -/
def svcBit (req : Nat) (e : Eng) (k : Nat) : Eng :=
  let want := natBit req k
  let act := e.inService k
  let ent := natBit e.md.entering k
  if want then
    if act ∨ ent then { e.wrBit GLB_TILE_SVC_REQ k true with md := { e.md with leaving := clrNatBit e.md.leaving k } }
    else if svcAccepts e k then { e.wrBit GLB_TILE_SVC_REQ k true with md := { e.md with entering := setNatBit e.md.entering k } }
    else (e.wrBit GLB_TILE_SVC_REQ k false).raise GLB_TILE_SVC_STAT_REJ k
  else if svcPinned e k then (if e.bit GLB_TILE_SVC_REQ k then e.raise GLB_TILE_SVC_STAT_REJ k else e)
  else if act ∨ ent then { e.wrBit GLB_TILE_SVC_REQ k false with md := { e.md with leaving := setNatBit e.md.leaving k } }
  else e.wrBit GLB_TILE_SVC_REQ k false

/-- A write of GLB_TILE_SVC takes effect. -/
def applySvc (req : Nat) (e : Eng) : Eng := (List.range 15).foldl (svcBit req) e

/-! ### A mode comes into force, or a transition is abandoned -/

/-- BUSY returns to 0: the writes of GLB_TILE_SVC held meanwhile apply in order (R53), and the power state follows. -/
def notBusy (e : Eng) : Eng :=
  let held := e.md.heldSvc
  let e1 := { e.wr GLB_MODE_STAT_BUSY 0 with md := { e.md with trans := none, heldSvc := [] } }
  joinAgain (scanRecheck (powerPolicy (held.foldl (fun a r => applySvc r a) e1)))

/-- Step 6 of R43 or R44: CUR = target, BUSY = 0, GEN + 1, the MODE item of the event FIFO (R339). -/
def modeInForce (target : Nat) (e : Eng) : Eng :=
  let prev := match e.md.trans with
    | some tr => tr.prev
    | none => e.rd GLB_MODE_STAT_CUR
  let e1 := (e.wr GLB_MODE_STAT_CUR target).addWrap GLB_MODE_STAT_GEN 1
  notBusy (evqAdd (4 * 2 ^ 29 + target * 2 ^ 26 + prev * 2 ^ 23 + e1.rd GLB_MODE_STAT_GEN) e1)

/-- Abandon a transition with a code. -/
def abandonMode (code : Nat) (e : Eng) : Eng := notBusy (modeReject code e)

/-! ### Step 2 of R43 -/

/-- The loops a mode needs LOCKED (R41 code 3). -/
def modeLoops (e : Eng) (target : Nat) : List Nat :=
  if target = 2 then (List.range 4).filterMap fun m => if e.ona (FE_STCLK_EN m) then some (m + 1) else none else [0]

/-- The values of a loop in the image's clock plan; its active values where no image has given one. -/
def planVals (e : Eng) (n : Nat) : LoopVals := e.clk.plan.getD n (loopActive e n)

/-- SPLL goes to 6.4 or 12.8 GHz with only ODIV changed; for STATE the assigned TPLLs go to the clock plan of the image, and
relock where their values change. Values beyond a limit abandon the request with code 3. -/
def entryClocks (tr : Trans) (e : Eng) : Eng :=
  if tr.target = 2 then
    let ns := modeLoops e 2
    if ns.all fun n => loopLegal e n (planVals e n) then
      loopWake 0 (ns.foldl (fun a n =>
        if loopState a n ≠ 0 ∧ planVals a n = loopActive a n then a else startLoop n (planVals a n) a) e)
    else abandonMode 3 e
  else
    let v := { loopActive e 0 with odiv := if tr.double then 0 else 1 }
    if loopState e 0 ≠ 0 ∧ v.odiv = (loopActive e 0).odiv then e
    else if loopLegal e 0 v then startLoop 0 v e
    else abandonMode 3 e

/-- The steps of a transition that begin when no retriggering run is active (R47): a target SERVICE or REVIEW is in force
at once, an acquisition mode begins with its clocks. -/
def beginTrans (tr : Trans) (e : Eng) : Eng :=
  if OpMode.acq (.ofCode tr.target) then scanRecheck (powerCheck (entryClocks tr e)) else modeInForce tr.target e

/-- A retriggering run has ended: a transition that waited for it goes on (R47). -/
def afterRun (e : Eng) : Eng :=
  match e.md.trans with
  | some tr => if e.mode = .review then beginTrans tr e else e
  | none => e

end Machine
end Sys2Proof
end

