-- ==== Sys2Proof/Machine/Retrig.lean ====
section
/-!
DEFINITION. Retriggering runs in REVIEW (R200 to R203): the commands RR_START, RR_STOP and RR_END.
-/
namespace Sys2Proof
namespace Machine

/-- The contexts selected in TRIG_RR_CTRL.CTX. -/
def rrSelected (e : Eng) : List Nat := indicesWhere 4 fun n => natBit (e.rd TRIG_RR_CTRL_CTX) n

/-- Does the region hold a data line that meets FROM … TO − 1? -/
def rangeHeld (e : Eng) (m : Mems) (g lo hi : Nat) : Bool :=
  (srcLines e m g).any fun x => match x.line with
    | some l => !x.pois && isData l && tsBefore l.base hi && !tsBefore (spanEnd e m g x.k l) lo
    | none => false

/-- A run ends with a code (R203): GEN, VALID, BUSY and the events of the contexts `ctxs`. -/
def rrFinish (code : Nat) (ctxs : List Nat) (e : Eng) : Eng :=
  let e1 := (((e.wr TRIG_RR_STAT_END code).addWrap TRIG_RR_STAT_GEN 1).wr TRIG_RR_STAT_VALID 1).wr TRIG_RR_STAT_BUSY 0
  ctxs.foldl (fun a n => a.raise (TRIG_SEQ_EVT_RR_END n)) e1

/-- RR_START (R200, R203): a START is ignored while a run is active; it ends at once with RANGE where a condition fails;
otherwise the selected contexts begin. -/
def rrStart (e : Eng) (m : Mems) : Eng :=
  if inRun e then e
  else
    let g := e.rd TRIG_RR_CTRL_REG
    let lo := e.rdq TRIG_RR_FROM
    let hi := e.rdq TRIG_RR_TO
    let sel := rrSelected e
    let e0 := e.wr TRIG_RR_STAT_VALID 0
    if hi ≤ lo || !rangeHeld e m g lo hi || sel.any (fun n => !ctxExists e n || e.inService (8 + n)) || e.mode != .review then
      rrFinish 3 sel e0
    else
      let first := if e.on (ACC_CREG_STAT_HVALID g) then e.rdq (ACC_CREG_HOR g) else lo
      let run : RrSt :=
        { ctx := e.rd TRIG_RR_CTRL_CTX, region := g, start := lo, upto := hi, first := first, out := e.rd TRIG_RR_OUT_OFFS,
          outLen := e.rd TRIG_RR_OUTLEN_LEN }
      let e1 := (((e0.wr TRIG_RR_HOLES_CNT 0).wr TRIG_RR_NENT_CNT 0).wr TRIG_RR_DROP_CNT 0).wr TRIG_RR_STAT_BUSY 1
      sel.foldl (fun a n => beginEval n lo (e.on TRIG_RR_CTRL_ARM || e.ona (TRIG_SEQ_CFG_AUTOARM n)) a) { e1 with rr := run }

/-- RR_START. -/
def execRrStart (s : State) : Result := onMem s rrStart

/-- RR_STOP (R203): the run ends with STOPPED at the next step boundary. -/
def execRrStop (s : State) : Result :=
  onEng s fun e => if inRun e && e.rr.req.isNone then { e with rr := { e.rr with req := some 1 } } else e

/-- The contexts of the run that still evaluate. -/
def rrLive (e : Eng) : List Nat := indicesWhere 4 fun n => natBit e.rr.ctx n && evals e n

/-- No instant before TO is left to any of them. -/
def rrExhausted (e : Eng) (m : Mems) : Bool := (rrLive e).all fun n => (rrNext e m n).isNone

/-- Every context of the run that still evaluates stands at a step boundary; the end of the instants ends a step. -/
def rrBoundary (e : Eng) (m : Mems) : Bool := ((rrLive e).all fun n => (e.getCx n).inst == 0) || rrExhausted e m

/-- Every context of the run has reached DONE. -/
def rrAllDone (e : Eng) : Bool := e.rr.ctx != 0 && (List.range 4).all fun n => !natBit e.rr.ctx n || seqState e n == 4

/-- The code a run ends with now, if it does (R203). -/
def rrCode (e : Eng) (m : Mems) : Option Nat :=
  match e.rr.req with
  | some c => if rrBoundary e m then some c else none
  | none => if rrAllDone e && rrBoundary e m then some 4 else if rrExhausted e m then some 0 else none

/-- End the active run with a code: retentions that run on end at TO − 1 when the run is exhausted (R202), at the last instant
otherwise; the contexts stop evaluating. -/
def rrStopRun (code : Nat) (e : Eng) : Eng :=
  let lim := if code = 0 then e.rr.upto - 1 else e.rdq TRIG_RR_POS
  let e1 := (List.range 4).foldl (fun a n =>
    if natBit a.rr.ctx n && evals a n then
      endEval n (cutRetentions n lim false (endDue n (a.getCx n).last (a.getCx n).rets.length a))
    else a) e
  let e2 := rrFinish code (indicesWhere 4 (natBit e.rr.ctx)) e1
  { e2 with rr := { e2.rr with req := none } }

/-- RR_END (R203). -/
def rrEnd (e : Eng) (m : Mems) : Eng :=
  if inRun e then (match rrCode e m with
    | some c => afterRun (rrStopRun c e)
    | none => e)
  else e

/-- RR_END. -/
def execRrEnd (s : State) : Result := onMem s rrEnd

end Machine
end Sys2Proof
end

