-- ==== Sys2Proof/Machine/Mode.lean ====
section
/-!
DEFINITION. Operating modes (chapter 2): the commands MODE_REQUEST, ACQUISITION_ENTRY, MODE_LOCK_FAIL, ACQUISITION_STOP,
FORCED_STOP, TILE_SVC_REQUEST, TILE_SERVICE_ENTRY and TILE_SERVICE_EXIT.
-/
namespace Sys2Proof
namespace Machine

/-! ### Mode requests (R37 to R42, R446, R468) -/

/-- The modes that the life-cycle and debug states permit (R446); acquisition also needs LATCH = 0 (R442). -/
def securityPermits (e : Eng) (target : Nat) : Bool :=
  let lc := e.rd SEC_LC_STAT_STATE
  let acq := OpMode.acq (.ofCode target)
  (if lc = 3 then !acq || e.rd SEC_DBG_STAT_STATE == 1 else if lc = 4 then target == 0 else true) &&
    (!acq || !e.on SEC_TAMPER_STAT_LATCH)

/-- The first condition of R41 that a request fails. DESIGN CHOICE (log entry 150): code 6 needs a target other than the mode in
force, so that a repeated request while one is in progress gives code 7. -/
def modeCheck (e : Eng) (target : Nat) : Option Nat :=
  let m := OpMode.ofCode target
  let acq := m.acq
  if acq ∧ !((e.rd CFG_STATUS_STATE == 2 && !e.on CFG_STATUS_DEFAULTED) ||
      (e.rd CFG_STATUS_ACT_SLOT == 0 && e.rd CFG_STATUS_STATE == 2 && e.rd SEC_LC_STAT_STATE == 0)) then some 1
  else if acq ∧ !e.on MEM_TRN_STAT_INIT_DONE then some 2
  else if acq ∧ !((List.range 8).any fun t => !e.inService t && e.on (POD_STAT_PRSNT t)) then some 4
  else if acq ∧ !((List.range 16).any fun n =>
      (regionKind e n == 1 || regionKind e n == 2) && formPermitted m (regionForm e n)) then some 5
  else if acq ∧ e.inAcq ∧ target ≠ e.rd GLB_MODE_STAT_CUR then some 6
  else if e.on GLB_MODE_STAT_BUSY ∨ e.on TIME_CMD_BUSY ∨ e.on MEM_BIN_STAT_BUSY then some 7
  else if !securityPermits e target then some 8
  else none

/-- The latest of TS64 and the ends of the words that the tiles have written. -/
def wordsNow (e : Eng) : Nat :=
  (List.range 8).foldl (fun a t => if tileSamples e t then tsMax a (e.getEla t).wPos else a) e.ts

/-- A request passes its checks: BUSY, TARGET; an acquisition mode begins to stop at tick S, a retriggering run is asked
to end first (R47), anything else begins. -/
def modeAccept (target : Nat) (dbl : Bool) (stop : Nat) (e : Eng) : Eng :=
  let s := if e.mode == .state then tsMax stop (wordsNow e) else boundaryAt e (wordsNow e)
  let tr : Trans :=
    ⟨target, dbl && (target == 1 || target == 3), e.rd GLB_MODE_STAT_CUR, if e.inAcq then some s else none⟩
  let e1 := joinAgain { (e.wr GLB_MODE_STAT_BUSY 1).wr GLB_MODE_STAT_TARGET target with
    md := { e.md with trans := some tr, div := if e.inAcq then e.md.div else e.rd GLB_ARC_CTRL_DIV } }
  if e.inAcq then e1
  else if inRun e then { e1 with rr := { e1.rr with req := some 2 } }
  else beginTrans tr e1

/-- A mode request is checked (R40, R41); until FILL_DONE one for an acquisition mode is held with BUSY = 1 (R468). -/
def modeRequest (target : Nat) (dbl : Bool) (stop : Nat) (e : Eng) : Eng :=
  if target = e.rd GLB_MODE_STAT_CUR ∧ !e.on GLB_MODE_STAT_BUSY then e
  else if OpMode.acq (.ofCode target) ∧ !e.on PWR_STRT_FILL_DONE ∧ !e.on GLB_MODE_STAT_BUSY then
    { (e.wr GLB_MODE_STAT_BUSY 1).wr GLB_MODE_STAT_TARGET target with md := { e.md with heldReq := some (target, dbl) } }
  else match modeCheck e target with
    | some c => modeReject c e
    | none => modeAccept target dbl stop e

/-- FILL_DONE: the held request is checked (R468). -/
def heldRequest (e : Eng) : Eng :=
  match e.md.heldReq with
  | none => e
  | some (t, d) =>
    let e1 := { e.wr GLB_MODE_STAT_BUSY 0 with md := { e.md with heldReq := none } }
    let e2 := modeRequest t d e.ts e1
    if e2.on GLB_MODE_STAT_BUSY then e2 else notBusy e2

/-- MODE_REQUEST: a write of GLB_MODE. A reserved encoding is no request (R37). `stop` is the next word boundary of the
tiles. -/
def execModeRequest (master mode : Nat) (dbl : Bool) (stop : Nat) (s : State) : Result :=
  onEng s fun e =>
    let e1 := (e.wrb GLB_MODE_DOUBLE dbl).wrEnc master GLB_MODE_MODE mode (mode < 6)
    if mode < 6 then modeRequest mode dbl stop e1 else e1

/-! ### Entry (R43) -/

/-- A tile that the entry would make sample is calibrating: the request is held until it finishes (R86). -/
def calHolds (e : Eng) : Bool :=
  (List.range 8).any fun t => calBusy e t && !e.inService t && e.rd (POD_STAT_STATE t) == 5

/-- What has to hold for step 4 of R43 at T0: loops LOCKED, no run, no tile that would sample calibrating (R86), T0 on the
grid of the mode. -/
def entryReady (e : Eng) (tr : Trans) (t0 : Nat) : Bool :=
  OpMode.acq (.ofCode tr.target) && !e.inAcq && !inRun e && (modeLoops e tr.target).all (loopLocked e) && !calHolds e &&
  (if tr.target = 1 ∨ tr.target = 3 then t0 % 128 == 0 else if tr.target = 4 then t0 % (64 * e.md.div) == 0 else true)

/-- A region that receives data begins its run (R43 step 5): TIME, then the GAP of the stop where it holds earlier lines.
A frozen region waits for its release. -/
def regionStart (t0 : Nat) (e : Eng) (n : Nat) : Eng :=
  let r := e.getRg n
  let e1 := e.modRg n fun r =>
    { r with streams := List.replicate 8 {}, outQ := [], started := false, causes := [], willFreeze := [], protect := [],
             held := [], lastTick := prevTick t0, lineTick := prevTick t0, wordTs := none }
  if !receives e1 n ∨ e1.on (ACC_CREG_STAT_FROZEN_NOW n) then e1
  else
    let e2 := writeTime n t0 0 (if r.release.isSome then releaseFrozen n t0 e1 else e1)
    if 0 < r.lines then putLine n (gapLine (e.rdq GLB_MODE_STOP) (prevTick t0) 1 (regionTiles e n) 0) e2 else e2

/-- Each context: reset, and evaluating from T0 unless it is in tile service (R43 step 3, R177). -/
def contextStart (t0 : Nat) (e : Eng) (n : Nat) : Eng :=
  if !ctxExists e n then e
  else if e.inService (8 + n) then resetCtx n e
  else beginEval n t0 (e.ona (TRIG_SEQ_CFG_AUTOARM n)) e

/-- COMPRESS jobs stop where the lanes are needed for capture (R253). -/
def stopCompress (e : Eng) : Eng :=
  if compressBarred e then
    (List.range 4).foldl (fun a q =>
      if (jobState a q = 1 ∨ jobState a q = 2) ∧ a.rd (CMP_JOB_CTRL_OP q) = 1 then jobStop q 1 a else a) e
  else e

/-- ACQUISITION_ENTRY (R43 steps 3 to 6). -/
def acquisitionEntry (t0 : Nat) (e : Eng) : Eng :=
  match e.md.trans with
  | none => e
  | some tr =>
    if !entryReady e tr t0 then e
    else
      let e1 := ((e.wr GLB_MODE_STAT_CUR tr.target).wrb GLB_MODE_STAT_DOUBLE_ACT tr.double).wrq GLB_MODE_START t0
      let e2 := { e1 with
        ela := List.replicate 8 { aPos := t0, wPos := t0, resume := t0 }
        fe := { e1.fe with lastVal := 0, comp := 0 }
        pod := { e1.pod with absent := List.replicate 8 none, svcCause := List.replicate 8 none, rejoin := 0 } }
      let e3 := (List.range 8).foldl (fun a t => ebShow t a) e2
      let e4 := (List.range 4).foldl (contextStart t0) (emptyAll e3)
      let e5 := (List.range 16).foldl (regionStart t0) e4
      let e6 := (List.range 8).foldl (fun a p =>
        let st := a.rd (POD_STAT_STATE p)
        if st = 5 then tileBack p t0 a else openAbsent p (if st = 0 then 4 else 3) t0 a) e5
      modeInForce tr.target (stopCompress e6)

/-- ACQUISITION_ENTRY. -/
def execAcquisitionEntry (t0 : Nat) (s : State) : Result := onMem s fun e _ => acquisitionEntry t0 e

/-- MODE_LOCK_FAIL (R41 code 3, R43 step 2): lock was not reached within 2 ms. -/
def modeLockFail (e : Eng) : Eng :=
  match e.md.trans with
  | none => e
  | some tr =>
    if OpMode.acq (.ofCode tr.target) ∧ !e.inAcq ∧ !inRun e ∧ !(modeLoops e tr.target).all (loopLocked e) then abandonMode 3 e
    else e

/-- MODE_LOCK_FAIL. -/
def execModeLockFail (s : State) : Result := onEng s modeLockFail

/-! ### What is left to judge -/

/-- Has context `n` judged every instant below S (R44 step 3)? -/
def ctxDrained (e : Eng) (s n : Nat) : Bool := ctxClear e n (prevTick s)

/-! ### The stop (R44) -/

/-- The intervals of a tile that are open at the stop end at S − 1: drops, unlock (R118), port absence (R99, X4), tile
service (R24). -/
def closeTile (s : Nat) (e : Eng) (t : Nat) : Eng :=
  let el := e.getEla t
  let e1 := match el.dropping with
    | some (a, b, k) => if k = 0 then e else ((gapRecord t a b 0 k e).addSat (GLB_EB_OVF_CNT t) 1).addSat (GLB_EB_DROP_WORDS t) k
    | none => e
  let e2 := match el.unlock with
    | some (a, q, l) =>
      if tsBefore a s then (receivers e1 t).foldl (fun x n => putTileRecord n t a (unlockLine t a (prevTick s) q l) x) e1 else e1
    | none => e1
  let e3 := closeAbsent t (prevTick s) (e2.modEla t fun el => { el with dropping := none, unlock := none })
  if e3.inService t then
    match e3.md.svcStart.getD (t % 15) none with
    | some u => gapRecord t (tsMax u (e3.rdq GLB_MODE_START)) (prevTick s) 3 0 e3
    | none => e3
  else e3

/-- A region at the end of the run: streams and containers closed, lines in place, records that were held back written, a
freeze that waited is done. -/
def regionStop (s : Nat) (e : Eng) (n : Nat) : Eng :=
  if !receives e n then e
  else
    let e1 := (List.range 8).foldl (fun a t => if regionMask a n t = 0 then a else cutStream n t s a) e
    releaseAll n (commitAll n ((e1.getRg n).outQ.length + 1) e1)

/-- The freezes that wait for the end of a retention are done at the stop (R193, R224). -/
def regionFreeze (e : Eng) (n : Nat) : Eng :=
  let cs := (e.getRg n).willFreeze.map (·.1)
  if cs.isEmpty then e else freezeNow n (((e.getRg n).lastTick + 1) % 2 ^ 64) cs e

/-- A tile has stopped sampling: held fields apply, a power-off that waited goes on (R78, R99). -/
def tileStopped (e : Eng) (t : Nat) : Eng :=
  let e1 := autoCal t (heldApply t e)
  if natBit e1.pod.offWait t then offDone t e1 else e1

/-- Steps 4 to 6 of R44, every word below S having been processed. -/
def finishStop (tr : Trans) (s : Nat) (e : Eng) (m : Mems) : Eng :=
  let e1 := (List.range 8).foldl (closeTile s) e
  let e2 := (List.range 16).foldl (regionStop s) e1
  let e3 := (List.range 4).foldl (fun a n => if evals a n then endEval n (cutRetentions n (prevTick s) true a) else a) e2
  let e4 := (List.range 16).foldl regionFreeze e3
  let e5 := truncateWindows s e4
  let e6 := (List.range 16).foldl (fun a n =>
    sealAll n m ((a.getRg n).lines + 2 * (a.getKr n).wins.length + 4) a) e5
  let e7 := ((e6.wr GLB_MODE_STAT_CUR tr.target).wr GLB_MODE_STAT_DOUBLE_ACT 0).wrq GLB_MODE_STOP s
  let e8 := (List.range 8).foldl tileStopped { e7 with ela := List.replicate 8 {} }
  let e9 := (List.range 8).foldl (fun a t => ebShow t a) e8
  let e10 := (List.range 16).foldl (fun a n =>
    [ACC_CREG_CFG_EN n, CMP_REG_CFG_TBL n, CMP_REG_CFG_CLASS n, CMP_REG_CFG_NBR n].foldl Eng.load a) e9
  modeInForce tr.target e10

/-- A word of the tile that begins before the stop is still to come: outside STATE up to S, in STATE the one in progress. -/
def tileAwaited (e : Eng) (t : Nat) : Bool := tileWrites e t && (e.mode != .state || (e.getEla t).inSeq)

/-- ACQUISITION_STOP (R44): once every context has decided the instants below S, the rest drains and the run ends. -/
def acquisitionStop (e : Eng) (m : Mems) : Eng :=
  match e.md.trans with
  | none => e
  | some tr =>
    match tr.stop with
    | none => e
    | some s =>
      let e1 := drainNow e
      if memRuns e1 && (List.range 4).all (ctxDrained e1 s) && (List.range 8).all (fun t => drained e1 t && !tileAwaited e1 t) then finishStop tr s e1 m
      else e

/-! ### The forced stop (R45) -/

/-- The stamp of the first word of a tile that Accession or a context has not processed. -/
def firstDiscarded (e : Eng) (t : Nat) : Option Nat :=
  let el := e.getEla t
  let words (is : List EbItem) : List SampleWord := is.filterMap fun i => match i with
    | .word w => some w
    | _ => none
  let open_ (w : SampleWord) : Bool := (wordInstants e w).any fun p => (List.range 4).any fun n => evals e n &&
    (match (e.getCx n).last with
     | some l => tsBefore l p.1
     | none => true)
  tsLeast (((words (el.items.drop el.aRead)) ++ (words el.view).filter open_).map (·.stamp))

/-- Streams keep only what lies below the first discarded tick. -/
def trimStream (f : Nat) (s : StreamSt) : StreamSt :=
  let k := (s.ticks.takeWhile fun t => tsBefore t f).length
  { s with
    units := s.units.take k
    ticks := s.ticks.take k
    next := if k < s.ticks.length then f else s.next
    tail := []
    cont := s.cont.map fun c => { c with edges := c.edges.filter fun i => tsBefore i.t f } }

/-- A tile's unprocessed words are discarded; its streams keep what lies below the first discarded tick. -/
def discardTile (e : Eng) (t : Nat) : Eng :=
  match firstDiscarded e t with
  | none => e
  | some f =>
    (receivers e t).foldl (fun a n => a.modRg n fun r => r.modStream t (trimStream f))
      (e.modEla t fun el => { el with items := [], tRead := 0, aRead := 0, view := [] })

/-- The partial lines of every stream of a region are written and its containers closed: of a tile with a discarded word
below that, of the others up to S (R45 item 2). -/
def forcedLines (fs : List (Nat × Nat)) (s : Nat) (e : Eng) (n : Nat) : Eng :=
  if !receives e n then e
  else (List.range 8).foldl (fun a t =>
    if regionMask a n t = 0 then a else cutStream n t (((fs.find? fun p => p.1 == t).map (·.2)).getD s) a) e

/-- The GAP records of cause FORCED of a region: one for each set of tiles that share a first discarded tick. -/
def forcedGaps (fs : List (Nat × Nat)) (s : Nat) (e : Eng) (n : Nat) : Eng :=
  if !receives e n then e
  else
    let mine := fs.filter fun p => regionMask e n p.1 != 0
    (mine.map (·.2)).eraseDups.foldl (fun a f =>
      putLine n (gapLine f (prevTick s) 2 (maskOf 8 fun t => mine.contains (t, f)) 0) a) e

/-- FORCED_STOP (R45): 2 ms after acceptance the words not processed are discarded; `stages` has bit n set for each stage
n of R27 that had not drained. -/
def forcedStop (stages : Nat) (e : Eng) (m : Mems) : Eng :=
  match e.md.trans with
  | none => e
  | some tr =>
    match tr.stop with
    | none => e
    | some s =>
      let e1 := takeHeads e
      let fs := (List.range 8).filterMap fun t => (firstDiscarded e1 t).map fun f => (t, f)
      let e2 := (List.range 8).foldl discardTile e1
      let e3 := (List.range 16).foldl (fun a n => forcedGaps fs s (forcedLines fs s a n) n) e2
      finishStop tr s (e3.raisePost GLB_MODE_STAT_FORCED 0 (leBytes 2 stages)) m

/-! ### Tile service (R49 to R53, R508) -/

/-- TILE_SVC_REQUEST: a write of GLB_TILE_SVC, held while BUSY is 1 (R53). -/
def execTileSvcRequest (req : Nat) (s : State) : Result :=
  onEng s fun e =>
    if e.on GLB_MODE_STAT_BUSY then { e with md := { e.md with heldSvc := e.md.heldSvc ++ [req] } }
    else scanRecheck (powerPolicy (applySvc req e))

/-- The tick at which a service change counts (R508): the boundary given, in acquisition, for a front-end tile or a
context; otherwise TS64. -/
def svcTick (e : Eng) (k u : Nat) : Nat := if e.inAcq ∧ k < 12 then u else e.ts

/-- A word of the tile that begins below `u` is still to come. -/
def tileAwaits (e : Eng) (t u : Nat) : Bool := tileAwaited e t && tsBefore (e.getEla t).wPos u

/-- In acquisition a front-end tile enters service at its next word boundary, once the words before it are written; a context at
a word boundary whose earlier instants it has judged (R51, R52). -/
def entryReadyAt (e : Eng) (k u : Nat) : Bool :=
  !e.inAcq || 12 ≤ k ||
    (if k < 8 then stopBoundary e k u == u && !tileAwaits e k u
     else (e.mode == .state || boundaryAt e u == u) &&
       (!evals e (k - 8) || (ctxClear e (k - 8) (prevTick u) && ((e.getCx (k - 8)).last.all fun l => tsBefore l u))))

/-- In acquisition a front-end tile leaves service at its next word boundary, once Accession has read what it held and its
calibration has ended; a context at a word boundary that no word at hand reaches beyond (R51, R52, R86). -/
def exitReadyAt (e : Eng) (k v : Nat) : Bool :=
  !e.inAcq || 12 ≤ k ||
    (if k < 8 then stopBoundary e k v == v && drained e k && !calBusy e k
     else (e.mode == .state || boundaryAt e v == v) && !tsBefore v (wordsNow e))

/-- Put a tile in service from tick `u`. -/
def putInService (k u : Nat) (e : Eng) : Eng :=
  { e.wrBit GLB_TILE_SVC_STAT_ACT k true with
    md := { e.md with entering := clrNatBit e.md.entering k, svcStart := putAt e.md.svcStart (k % 15) (some u) none } }

/-- A front-end tile stops at `u`: open drops and unlock intervals end, port absence gives way (R100) and an
orderly power-off that waited for it is done (R99). -/
def feEnter (t u : Nat) (e : Eng) : Eng :=
  let e1 := e.modEla t fun el => { closeUnlock (closeDrop el) u with dropping := none, upTo := none, inSeq := false }
  let cause := (getAbsent e1 t).map (·.cause)
  let e2 := closeAbsent t (prevTick u) { e1 with pod := { e1.pod with svcCause := putAt e1.pod.svcCause (t % 8) cause none } }
  let e3 := if natBit e2.pod.offWait t then offDone t e2 else e2
  autoCal t (heldApply t (putInService t u e3))

/-- A context enters service in a run, of an acquisition or a retriggering one: its retentions end before `u`, and it stops
judging (R52, R157, R192). -/
def ctxEnter (n u : Nat) (e : Eng) : Eng := if evals e n then endEval n (cutRetentions n (prevTick u) true e) else e

/-- The tick at which a context's judging ends: `u` in acquisition, the instant after its latest in a retriggering run. -/
def ctxEdge (e : Eng) (n u : Nat) : Nat :=
  if e.inAcq then u else match (e.getCx n).last with
    | some l => (l + 1) % 2 ^ 64
    | none => (e.getCx n).start

/-- TILE_SERVICE_ENTRY (R51, R52). A render in progress ends with ERR 4 (R380). -/
def tileServiceEntry (k u : Nat) (e0 : Eng) : Eng :=
  let e := if e0.inAcq ∧ k < 8 then drainNow e0 else e0
  if !natBit e.md.entering k ∨ !entryReadyAt e k u then e0
  else
    let t := svcTick e k u
    let e1 :=
      if e.inAcq ∧ k < 8 then feEnter k t e
      else if 8 ≤ k ∧ k < 12 then putInService k t (ctxEnter (k - 8) (ctxEdge e (k - 8) t) e)
      else if k = 13 then renderStop 4 (putInService k t e)
      else putInService k t e
    joinAgain (scanRecheck (powerCheck e1))

/-- TILE_SERVICE_ENTRY. -/
def execTileServiceEntry (k u : Nat) (s : State) : Result := onMem s fun e _ => tileServiceEntry k u e

/-- A front-end tile leaves service at `v` in acquisition, Accession having read all it held of it: the GAP of cause tile
service, and port absence from `v` where the port is not READY (R24, R100). -/
def feLeave (t u v : Nat) (e : Eng) : Eng :=
  let e2 := gapRecord t (tsMax u (e.rdq GLB_MODE_START)) (prevTick v) 3 0 e
  let e3 := e2.wrBit GLB_TILE_SVC_STAT_ACT t false
  let st := e3.rd (POD_STAT_STATE t)
  if st = 5 then tileBack t v e3
  else openAbsent t ((e3.pod.svcCause.getD (t % 8) none).getD (if st = 0 then 4 else 3)) v e3

/-- A context leaves service at `v` (R52, R157): it restarts at level 0, disarmed, with its resources reset, and judges from `v`
on in acquisition; outside one it does not judge. -/
def ctxLeave (n v : Nat) (e : Eng) : Eng :=
  if !ctxExists e n then e else if e.inAcq then beginEval n v false e else resetCtx n e

/-- TILE_SERVICE_EXIT (R51, R52, R508). A tile load holds the tile in service (chapter 17). -/
def tileServiceExit (k v : Nat) (e0 : Eng) : Eng :=
  let e := if e0.inAcq ∧ k < 8 then drainNow e0 else e0
  if !natBit e.md.leaving k ∨ !e.inService k ∨ natBit e.md.entering k ∨ !exitReadyAt e k v ∨
      (e.on CFG_TILE_STAT_BUSY ∧ e.rd CFG_CMD_TILE = k) then e0
  else
    let t := svcTick e k v
    let u := (e.md.svcStart.getD (k % 15) none).getD t
    let e1 := { e with md := { e.md with leaving := clrNatBit e.md.leaving k } }
    let e2 :=
      if e.inAcq ∧ k < 8 then feLeave k u t e1
      else
        let a := e1.wrBit GLB_TILE_SVC_STAT_ACT k false
        if 8 ≤ k ∧ k < 12 then ctxLeave (k - 8) t a else a
    let e3 := { e2 with md := { e2.md with svcStart := putAt e2.md.svcStart (k % 15) none none } }
    scanRecheck (powerCheck (e3.postCur 0x20 0 ([BitVec.ofNat 8 k] ++ leBytes 8 u ++ leBytes 8 (prevTick t))))

/-- TILE_SERVICE_EXIT. -/
def execTileServiceExit (k v : Nat) (s : State) : Result := onMem s fun e _ => tileServiceExit k v e

end Machine
end Sys2Proof
end

