-- ==== Sys2Proof/Machine/SecBase.lean ====
section
/-!
DEFINITION. The security block, the parts that several commands share: key slots (R431), the nonce (R436), the end of a
debug session (R445), the wipes (R440), tamper detection and the tamper event (R439, R441).
-/
namespace Sys2Proof
namespace Machine

def Eng.modSe (e : Eng) (f : SecSt → SecSt) : Eng := { e with se := f e.se }
def Eng.modNv (e : Eng) (f : NvSt → NvSt) : Eng := { e with nv := f e.nv }

/-! ### Keys (R431) -/

/-- A key slot. -/
def keySlot (e : Eng) (k : Nat) : KeySlot := e.nv.keys.getD k {}

/-- The public key of a slot; none when it is empty. -/
def slotKey (e : Eng) (k : Nat) : Option (List Byte) :=
  if k = 0 ∨ (keySlot e k).key.isEmpty then none else some (keySlot e k).key

/-- Show SEC_KEY_STAT and SEC_MINVER. -/
def keyShow (e : Eng) : Eng :=
  ((e.wr SEC_KEY_STAT_LOADED (maskOf 7 fun i => (slotKey e (i + 1)).isSome)).wr SEC_KEY_STAT_SEAL_ACT e.nv.sealAct).wr
    SEC_MINVER_VER e.nv.minver

/-- Show the public key that SEC_PUB_SEL selects. -/
def pubShow (e : Eng) : Eng :=
  let k := (slotKey e (e.rd SEC_PUB_SEL_SLOT)).getD []
  (List.range 24).foldl (fun a i => a.wr (SEC_PUB_BYTES i) (leNat ((k.drop (4 * i)).take 4))) e

/-- A slot takes a public key, or none. -/
def setKey (k : Nat) (key : List Byte) (e : Eng) : Eng :=
  pubShow (keyShow (e.modNv fun v => { v with keys := putAt v.keys (k % 8) { v.keys.getD (k % 8) {} with key := key, priv := 0 } {} }))

/-- The sealing keys are erased; no slot is active. -/
def eraseSeals (e : Eng) : Eng := pubShow (keyShow ((setKey 6 [] (setKey 5 [] e)).modNv fun v => { v with sealAct := 0 }))

/-! ### Nonce, session -/

/-- The bytes of SEC_NONCE, SEC_BUF. -/
def nonceBytes (e : Eng) : List Byte := (List.range 8).flatMap fun k => leBytes 4 (e.rd (SEC_NONCE_BYTES k))
def bufBytes (e : Eng) : List Byte := (List.range 64).flatMap fun w => leBytes 4 (e.rd (SEC_BUF_BYTES w))

/-- A new nonce is drawn from the random source; while a health test fails the nonce in force stays (R436, R437). -/
def newNonce (e : Eng) : Eng :=
  if e.se.rngBad then e
  else
    let v := e.freeVal 256
    ((List.range 8).foldl (fun a k => a.wr (SEC_NONCE_BYTES k) (bitsOf v (32 * k) 32)) e).drawn

/-- SEC_BUF is cleared. -/
def clearBuf (e : Eng) : Eng := (List.range 64).foldl (fun a w => a.wr (SEC_BUF_BYTES w) 0) e

/-- A debug session ends (R445): CLOSED, no scope, a Curator halted by the port goes on, DBG_END. -/
def sessionEnd (e : Eng) : Eng :=
  if e.rd SEC_DBG_STAT_STATE = 0 then e
  else
    let e1 := (((e.wr SEC_DBG_STAT_STATE 0).wr SEC_DBG_STAT_SCOPE 0).wr SEC_DBG_REMAIN_SEC 0).wr SEC_DBG_STAT_CUR_HALT 0
    guarCheck ((e1.modSe fun x => { x with dbgEnd := none }).raise SEC_EVT_DBG_END)

/-! ### Stopping for SERVICE -/

/-- A transition that has not put its mode in force goes to SERVICE: from REVIEW while a retriggering run still ends, by its
target; a mode entry in progress is abandoned with code 8 (R441, R442). -/
def divertTrans (tr : Trans) (e : Eng) : Eng :=
  if e.inAcq ∨ inRun e then
    { e.wr GLB_MODE_STAT_TARGET 0 with md := { e.md with trans := some { tr with target := 0, double := false } } }
  else abandonMode 8 e

/-- The engine goes to SERVICE (R38, R441 step 3): an acquisition ends there under R44, and REVIEW is left. -/
def forceService (e : Eng) : Eng :=
  let e1 := match e.md.trans with
    | some tr => divertTrans tr e
    | none => e
  if e1.md.trans.isNone ∧ e1.mode ≠ .service then modeAccept 0 false e1.ts e1 else e1

/-- An acquisition ends under R44 with target SERVICE, and an entry in progress is abandoned (R470 step 1). -/
def stopForOff (e : Eng) : Eng :=
  if e.inAcq then forceService e
  else match e.md.trans with
    | some tr => if OpMode.acq (.ofCode tr.target) then divertTrans tr e else e
    | none => e

/-! ### Wipes (R440) -/

/-- The items that every column holds: banks 28 to 31, SEC_BUF, the nonce. -/
def wipeCommon (e : Eng) : Eng := newNonce (clearBuf (wipeStart e))

/-- The sealed windows of a ring have all been written. -/
def sealsDone (e : Eng) : Bool := e.kr.all fun k => k.wins.isEmpty

/-- The further items of the columns RETURNED and DECOMMISSIONED. -/
def wipeData (m : Mems) (e : Eng) : Eng :=
  let e1 := [2, 3, 4, 7].foldl (fun a k => setKey k [] a) (eraseSeals e)
  let e2 := (e1.modNv fun v => { v with revoked := true }).emit (.scrClear 0 (28 * 2 ^ 20)) |>.emit .ramClear |>.emit (.capClear 0 (2 ^ 37))
  let e3 := (List.range 16).foldl (fun a n => if regionKind a n = 0 then a else clearRegion n a) e2
  let e4 := (e3.emit (.vltClear (vltSlot 1) (2 ^ 24))).emit (.vltClear (vltSlot 2) (2 ^ 24))
  ([1, 2].foldl (fun a x => setSlot x 0 m a) { e4 with cu := { e4.cu with trialEnd := none } }).wr CUR_STAT_TRIAL 0

/-- The further items of the column DECOMMISSIONED: the Ledger and SEC_MINVER. -/
def wipeLast (e : Eng) : Eng :=
  let e1 := (e.emit (.vltClear vltLedger (2 ^ 23))).modNv fun v => { v with minver := 0 }
  keyShow ((e1.wr CUR_LDG_NEXT_SEQ 0).wr CUR_LDG_OLDEST_SEQ 0)

/-- The wipes of a life-cycle transition. -/
def wipeFor (target : Nat) (m : Mems) (e : Eng) : Eng :=
  let e1 := wipeCommon e
  let e2 := if target = 3 ∨ target = 4 then wipeData m e1 else e1
  if target = 4 then wipeLast e2 else e2

/-! ### Tamper (R439, R441) -/

/-- ACT of a source. -/
def tamperAct (e : Eng) (s : Nat) : Nat := bitsOf (e.rd SEC_TAMPER_CFG_ACT) (2 * s) 2

/-- The event TAMPER with its Ledger entry; the entry is written for each detection. -/
def tamperReport (e : Eng) (s : Nat) : Eng := (e.raise SEC_EVT_TAMPER).postEv SEC_EVT_TAMPER 0 [BitVec.ofNat 8 s]

/-- The tamper sequences end (R441 steps 4 and 5): the wipe is done, SERVICE is in force and every seal written; with ACT 3
the sealing keys are erased; the events are reported. -/
def tamperGo (e : Eng) : Eng :=
  if e.se.events.isEmpty ∨ e.on SCR_STAT_WIPING ∨ e.mode ≠ .service ∨ !sealsDone e then e
  else
    let e1 := if e.se.erase then eraseSeals e else e
    e.se.events.foldl tamperReport (e1.modSe fun x => { x with events := [], erase := false })

/-- A tamper event (R441 steps 1 and 2): LATCH; the session ends, the wipe starts, an acquisition stops. -/
def tamperEvent (s act : Nat) (e : Eng) : Eng :=
  let e1 := wipeCommon (sessionEnd (e.wr SEC_TAMPER_STAT_LATCH 1))
  tamperGo (forceService (e1.modSe fun x => { x with events := x.events ++ [s], erase := x.erase || act == 3 }))

/-- A detection of a tamper source (R439). -/
def tamperDetect (s : Nat) (e : Eng) : Eng :=
  let e1 := (e.addSat SEC_TAMPER_CNT_CNT 1).wrBit SEC_TAMPER_STAT_SEEN s true
  let a := tamperAct e s
  if a = 0 then e1 else if a = 1 then tamperReport e1 s else tamperEvent s a e1

end Machine
end Sys2Proof
end

