-- ==== Sys2Proof/Machine/Curator.lean ====
section
/-!
DEFINITION. Curator's processor, sensors, Ledger and Vault patrol (R381 to R401, R404, R407): the commands
LOCKSTEP_MISMATCH, WATCHDOG_EXPIRY, CUR_RAM_PATROL, CUR_WINDOW_ACCESS, TEMP_SAMPLE, VOLT_SAMPLE, TAMPER_DETECTION, LIFE_HOUR,
LEDGER_WRITE, LEDGER_SECOND, LEDGER_READ, TRIAL_EXPIRY, VAULT_PATROL and POWER_FAULT, with what they share: leaving the powered
state (R389, R407, R470).
-/
namespace Sys2Proof
namespace Machine

def Eng.modCu (e : Eng) (f : CurSt → CurSt) : Eng := { e with cu := f e.cu }
def Eng.modPw (e : Eng) (f : PwrSt → PwrSt) : Eng := { e with pw := f e.pw }

/-! ### Processor and memory (R381 to R384) -/

/-- LOCKSTEP_MISMATCH (R381). -/
def execLockstepMismatch (s : State) : Result := onMem s fun e _ => if curRuns e then curRestart 1 e else e

/-- Curator restarts for a cause, if it runs. -/
def restartNow (why : Nat) (s : State) : Result := onMem s fun e _ => if curRuns e then curRestart why e else e

/-- WATCHDOG_EXPIRY (R384): the watchdog is suspended while the debug port holds Curator (R445). -/
def execWatchdogExpiry (s : State) : Result := restartNow 2 s

/-- CUR_RAM_PATROL (R382): a word of Curator RAM is read; a corrected bit is counted, an uncorrectable word restarts
Curator. -/
def curRamPatrol (resp : ScrResp) (e : Eng) : Eng :=
  match resp with
  | .clean => e
  | .corrected _ => e.addSat CUR_RAM_CE_CNT 1
  | .uncorrectable => if e.cu.restarting then e else curRestart 3 e

/-- CUR_RAM_PATROL. -/
def execCurRamPatrol (resp : ScrResp) (s : State) : Result := onMem s fun e _ => curRamPatrol resp e

/-- The CUR port of the memory fabric. -/
def curPort : Nat := 4

/-- CUR_WINDOW_ACCESS (R383): an aligned load or store of 1, 2 or 4 bytes at window offset `a` is one request of the CUR port:
a line read, or a masked write. -/
def curWindowAccess (a n : Nat) (wr : Option Nat) (resp : List SecResp) (lat : Nat) (e : Eng) (m : Mems) : Eng :=
  if !curRuns e ∨ 2 ^ 16 ≤ a ∨ !(n == 1 || n == 2 || n == 4) ∨ a % n ≠ 0 then e
  else
    let ca := e.rd CUR_WIN_BASE * 2 ^ 16 + a
    let o := ca % 256
    let store := wr.map fun v => ((2 ^ n - 1) * 2 ^ o, List.replicate o (0 : Byte) ++ leBytes n v)
    fabRequest { port := curPort, line := ca / 256, wr := store, resp := resp, lat := lat, since := e.now, want := 2 ^ (o / 32) } e m

/-- CUR_WINDOW_ACCESS. -/
def execCurWindowAccess (a n : Nat) (wr : Option Nat) (resp : List SecResp) (lat : Nat) (s : State) : Result :=
  onMem s (curWindowAccess a n wr resp lat)

/-! ### Leaving the powered state (R389, R407, R470) -/

/-- Every channel is off; the sequencer shows a state. -/
def railsOff (st : Nat) (e : Eng) : Eng :=
  (((e.wr CUR_PWR_STAT_EN 0).wr CUR_PWR_STAT_PG 0).wr CUR_PWR_STAT_STATE st).wr CUR_PWR_DOM_ON 0

/-- The down table has run: the engine is OFF, WAKE_N is released, the link is down; `latch`: only a power-on reset leaves
the state (R471). -/
def enterOff (st : Nat) (latch : Bool) (e : Eng) : Eng :=
  let e1 := linkDown (loopsOff (List.range 8) (railsOff st e))
  { e1 with
    wakeLow := false
    pw := { e1.pw with off := true, latched := latch, offPend := false, start := none }
    hl := { e1.hl with ready := false } }

/-- The queue of causes drains before a down table runs (R395), while Curator runs. -/
def drainQueue (e : Eng) : Eng := if curRuns e then ldgDrain 512 e else e

/-- R389: the hardware trips: the record, the down table, OFF. -/
def thermTrip (i reading : Nat) (e : Eng) : Eng :=
  enterOff 0 true (sessionEnd (drainQueue (recWrite (fun r => { r with therm := some (i, reading) }) e)))

/-- R407: a power fault of a channel at a step of the up table: the record, the count, the down table, OFF as FAILED. -/
def powerFail (ch step : Nat) (e : Eng) : Eng :=
  let n := min (e.nv.srec.faults + 1) (2 ^ 32 - 1)
  let e1 := recWrite (fun r => { r with pwr := some (ch, step), faults := n }) e
  enterOff 4 true (sessionEnd (drainQueue ((e1.wr CUR_PWR_FAULTS_CNT n).wr CUR_PWR_STAT_FAULT_CH ch)))

/-- POWER_FAULT (R407): a channel that is ON with WAIT_PG has seen PG low for 50 µs. -/
def powerFault (ch : Nat) (e : Eng) : Eng :=
  match e.cf.up.findIdx? fun x => x.ch == ch && x.on && x.pg with
  | some k => if e.bit CUR_PWR_STAT_EN ch then powerFail ch k (e.wrBit CUR_PWR_STAT_PG ch false) else e
  | none => e

/-- POWER_FAULT. -/
def execPowerFault (ch : Nat) (s : State) : Result := onMem s fun e _ => powerFault (ch % 8) e

/-! ### Sensors (R387 to R389, R439) -/

/-- The logic die points. -/
def logicPoint (i : Nat) : Bool := i < 8 || (13 ≤ i && i < 24)

/-- A limit with a return 2 °C below it: is the point beyond it now? -/
def beyond (was : Bool) (limit v : Int) : Bool := if was then limit - 8 < v else limit ≤ v

/-- A crossing of WARN or CRIT, or a return. -/
def tempCross (i : Nat) (was is : Bool) (evt : Fld) (e : Eng) : Eng :=
  if was = is then e
  else
    let e1 := e.wrBit CUR_TEVT_PT i true
    if is then e1.raisePost evt 0 (leBytes 2 (e.rd (CUR_TEMP_VAL i))) else e1

/-- The calibration of a tile becomes stale (R88): the reading differs from CAL_TEMP by more than DRIFT. DESIGN CHOICE (log entry 136):
the entry at the rise is the EVENT item of FE_TILE_STAT_t bit 1, of severity 0, without payload. -/
def staleCheck (t : Nat) (e : Eng) : Eng :=
  let d := tempOf e t - 4 * signed 8 (e.rd (FE_TILE_STAT_CAL_TEMP t))
  let e1 :=
    if e.on (CUR_TEMP_VALID t) && !e.on (FE_TILE_STAT_CAL_STALE t) && decide (4 * e.rd FE_CAL_CFG_DRIFT < d.natAbs) then
      (e.wr (FE_TILE_STAT_CAL_STALE t) 1).postEv (FE_TILE_STAT_CAL_STALE t) 0 []
    else e
  autoCal t e1

/-- TEMP_SAMPLE (R387 to R389, R439, R88, R286): point `i` reads `v` in 0.25 °C. -/
def tempSample (i : Nat) (v : Int) (e : Eng) : Eng :=
  let x := clampInt (-2048) 2047 v
  let prev := if e.on (CUR_TEMP_VALID i) then some (tempOf e i) else none
  let was (p : Int → Bool) : Bool := match prev with
    | some y => p y
    | none => false
  let e1 := (e.wr (CUR_TEMP_VAL i) (toField 12 x)).wr (CUR_TEMP_VALID i) 1
  let w := beyond (natBit e.cu.warn i) (signed 12 (e.rd (CUR_TLIM_WARN i))) x
  let c := beyond (natBit e.cu.crit i) (signed 12 (e.rd (CUR_TLIM_CRIT i))) x
  let hot := logicPoint i && decide (600 ≤ x)
  let cold := logicPoint i && decide (x < -220)
  let found := cold && was fun y => y < -220
  let e2 := tempCross i (natBit e.cu.crit i) c CUR_EVT_T_CRIT (tempCross i (natBit e.cu.warn i) w CUR_EVT_T_WARN e1)
  let e3 := e2.modCu fun k =>
    { k with
      warn := putNatBit k.warn i w
      crit := putNatBit k.crit i c
      hot := putNatBit k.hot i hot
      cold := putNatBit k.cold i (cold && (natBit k.cold i || found)) }
  let e4 := if 8 ≤ i ∧ i < 12 then stackTemp (i - 8) x e3 else if i < 8 then staleCheck i e3 else e3
  let e5 := guarCheck e4
  let e6 := if found && !natBit e.cu.cold i then tamperDetect 3 e5 else e5
  if hot && natBit e.cu.hot i then thermTrip i (toField 12 x) e6 else e6

/-- A crossing of a voltage limit, or a return. -/
def voltCross (j : Nat) (cross back : Bool) (e : Eng) : Eng :=
  let e1 := if cross ∨ back then e.wrBit CUR_VEVT_MON j true else e
  if cross then e1.raisePost CUR_EVT_V_OUT 0 (leBytes 2 (e.rd (CUR_VOLT_MV j))) else e1

/-- VOLT_SAMPLE (R387, R388, R439): monitor `j` reads `mv`. -/
def voltSample (j mv : Nat) (e : Eng) : Eng :=
  let x := min mv (2 ^ 14 - 1)
  let lo := e.rd (CUR_VLIM_LO j)
  let hi := e.rd (CUR_VLIM_HI j)
  let far (y : Nat) : Bool := y * 10 < lo * 9 || hi * 11 < y * 10
  let again := e.on (CUR_VOLT_VALID j) && far (e.rd (CUR_VOLT_MV j))
  let e1 := (e.wr (CUR_VOLT_MV j) x).wr (CUR_VOLT_VALID j) 1
  let low := if x < lo then min (e.cu.low.getD (j % 16) 0 + 1) 5 else 0
  let high := if hi < x then min (e.cu.high.getD (j % 16) 0 + 1) 5 else 0
  let out := natBit e.cu.vout j
  let cross := (low = 4 ∨ high = 4)
  let back := out && decide (lo ≤ x ∧ x ≤ hi)
  let found := far x && again
  let e2 := voltCross j cross back e1
  let e3 := e2.modCu fun k =>
    { k with
      low := putAt k.low (j % 16) low 0
      high := putAt k.high (j % 16) high 0
      vout := putNatBit k.vout j ((out || cross) && !back)
      vfar := putNatBit k.vfar j (far x && (natBit k.vfar j || found)) }
  let e4 := guarCheck e3
  if found && !natBit e.cu.vfar j then tamperDetect 1 e4 else e4

/-- The hour's counters (R391, R461): `t` is the hourly mean of the hottest logic die point in 0.1 °C. -/
def lifeCount (t : Int) (b3 np : Bool) (l : Life) : Life :=
  let b := (clampInt 0 15 ((t + 400) / 100)).toNat
  let up (x : Nat) : Nat := min (x + 1) (2 ^ 32 - 1)
  { l with
    hours := up l.hours
    tsum := l.tsum + t
    bands := putAt l.bands b (up (l.bands.getD b 0)) 0
    bin3 := if b3 then up l.bin3 else l.bin3
    nopat := if np then up l.nopat else l.nopat }

/-- LIFE_HOUR (R391, R461): the counters are written to the state record, then the profile is checked. -/
def lifeHour (t : Int) (e : Eng) : Eng :=
  let e0 := guarCheck e
  let e1 := lifeShow (recWrite (fun r => { r with life := lifeCount t e0.cu.bin3 e0.cu.nopat r.life }) e0)
  let l := e1.nv.srec.life
  let bad : List Nat :=
    (if 8760 ≤ l.hours ∧ 950 < l.tsum / (l.hours : Int) then [0] else []) ++ (if 20000 < l.bands.getD 15 0 then [1] else []) ++
    (if 0 < l.bin3 then [2] else []) ++ (if 0 < l.nopat then [3] else [])
  let e2 := bad.foldl (fun a b => profileFail b a) e1
  e2.modCu fun k => { k with bin3 := e2.rd MEM_BIN_STAT_CUR == 3, nopat := !condPatrol e2 }

/-- LIFE_HOUR. -/
def execLifeHour (t : Int) (s : State) : Result := onMem s fun e _ => lifeHour t e

/-! ### Ledger (R392 to R396) -/

/-- LEDGER_WRITE (R394, R395): Curator takes the oldest cause. -/
def ledgerWrite (e : Eng) : Eng := if curRuns e then ldgService e else e

/-- LEDGER_SECOND (R394): the current Ledger second, in which entries were suppressed, ends. -/
def ledgerSecond (e : Eng) : Eng :=
  if !curRuns e ∨ e.ldg.suppressed = 0 then e
  else if e.ldg.cut ∨ e.ldg.sec ≠ e.ts / tps then ldgNewSecond e
  else ldgNewSecond (passBy (tps - e.ts % tps) e)

/-- LEDGER_SECOND. -/
def execLedgerSecond (s : State) : Result := onMem s fun e _ => ledgerSecond e

/-- Is entry `seq` held? -/
def ldgHeld (e : Eng) (seq : Nat) : Bool :=
  (seq + 2 ^ 32 - e.rd CUR_LDG_OLDEST_SEQ) % 2 ^ 32 < (e.rd CUR_LDG_NEXT_SEQ + 2 ^ 32 - e.rd CUR_LDG_OLDEST_SEQ) % 2 ^ 32

/-- The result of a Ledger read: ERR and the 32 bytes. -/
def ldgResult (e : Eng) (m : Mems) : Nat × List Byte :=
  let seq := e.rd CUR_LDG_RDSEQ_SEQ
  let a := vltLedger + seq % 2 ^ 18 * 32
  let b := memRead m.vlt a 32
  if !ldgHeld e seq then (1, List.replicate 32 0)
  else if idxMem m.vltBad (a / 64) ∨ leNat ((b.drop 28).take 4) ≠ crc32c (b.take 28) then (2, b)
  else (0, b)

/-- LEDGER_READ (R396): CUR_LDG_RD.GO; the answer is written in one update. -/
def ledgerRead (e : Eng) (m : Mems) : Eng :=
  if e.on CUR_LDG_RDSTAT_BUSY then e
  else
    let r := ldgResult e m
    let e1 := (List.range 8).foldl (fun a k => a.wr (CUR_LDG_DATA_BYTES k) (leNat ((r.2.drop (4 * k)).take 4))) e
    ((e1.wr CUR_LDG_RDSTAT_ERR r.1).addWrap CUR_LDG_RDSTAT_GEN 1).wr CUR_LDG_RDSTAT_VALID 1

/-- LEDGER_READ. -/
def execLedgerRead (s : State) : Result := onMem s ledgerRead

/-! ### Trial and Vault patrol (R401, R404) -/

/-- The slot that is TRIAL. -/
def trialSlot (e : Eng) : Option Nat := (List.range 3).find? fun x => slotState e x == 3

/-- TRIAL_EXPIRY (R404): the trial timer expires without confirmation. -/
def trialExpiry (e : Eng) (m : Mems) : Eng :=
  match e.cu.trialEnd, trialSlot e with
  | some t, some x => revert x 2 true m (advanceTo t e)
  | _, _ => e

/-- TRIAL_EXPIRY. -/
def execTrialExpiry (s : State) : Result := onMem s trialExpiry

/-- What an uncorrectable Vault block does to its area (R401, R431): a slot becomes BAD; a key slot is emptied with KEY_BAD. -/
def vaultLost (b : Nat) (key : Option Nat) (m : Mems) (e : Eng) : Eng :=
  let a := 64 * b
  if a < vltLedger then setSlot (a / 2 ^ 24) 5 m e
  else if vltKeys ≤ a ∧ a < vltKeys + 2 ^ 20 then
    match key with
    | some k => if 1 ≤ k ∧ k < 8 then (setKey k [] e).raise SEC_EVT_KEY_BAD else e
    | none => e
  else e

/-- VAULT_PATROL (R401): the next block is read; `key` names the key slot that the block holds. -/
def vaultPatrol (resp : ScrResp) (key : Option Nat) (e : Eng) (m : Mems) : Eng :=
  let b := e.cu.vp % 2 ^ 20
  let e1 := e.modCu fun k => { k with vp := (b + 1) % 2 ^ 20 }
  let e2 := if b + 1 = 2 ^ 20 then e1.addWrap CUR_VLT_PASS_CNT 1 else e1
  if resp = .uncorrectable ∨ idxMem m.vltBad b then
    vaultLost b key m (((e2.addSat CUR_VLT_UE_CNT 1).raise CUR_EVT_VLT_UE).emit (.vltBad b true))
  else if resp = .clean then e2
  else (e2.addSat CUR_VLT_CE_CNT 1).raise CUR_EVT_VLT_CE

/-- VAULT_PATROL. -/
def execVaultPatrol (resp : ScrResp) (key : Option Nat) (s : State) : Result := onMem s (vaultPatrol resp key)

end Machine
end Sys2Proof
end

