-- ==== Sys2Proof/Machine/Time.lean ====
section
/-!
DEFINITION. Timebase and time service (chapter 6): the commands TS64_WRAP, SET, STEP, TOD_SET, TOD_STEP,
TIME_CMD_ABANDON, TOD_SECOND, PPS_OUT_PULSE_END, PPS_IN_EDGE, TREF_UPDATE, PPS_MISS, HO_LIMIT, RATE_WRITE,
STEER_MODE_WRITE and TIME_TS_READ.
-/
namespace Sys2Proof
namespace Machine

/-! ### TIME_CMD (R129 to R131) -/

/-- A TIME_CMD is rejected. -/
def timeRej (e : Eng) : Eng := e.raise TIME_EVT_CMD_REJ

/-- TS64 may be changed: SERVICE or REVIEW and no transition (R129). -/
def tsChangeable (e : Eng) : Bool := (e.mode == .service || e.mode == .review) && !e.on GLB_MODE_STAT_BUSY

/-- Apply a command whose instant is tick `p`: SET 1, STEP 2, TOD_SET 3, TOD_STEP 4. -/
def timeApply (c : TimeCmd) (p : Nat) (e : Eng) : Eng :=
  let e1 := { e.wr TIME_CMD_BUSY 0 with steer := { e.steer with pend := none } }
  match c.op with
  | 1 => timeShow (stepTs ((c.a + 2 ^ 64 - p % 2 ^ 64) % 2 ^ 64) e1)
  | 2 => timeShow (stepTs (c.a % 2 ^ 64) e1)
  | 3 => (todLoad p c.a c.b e1).raise TIME_EVT_CMD_DONE
  | 4 => (todStep (signed 64 c.a) e1).raise TIME_EVT_CMD_DONE
  | _ => e1

/-- The checks at the write of TIME_CMD (R131), then the command at once, or held for the next qualified PPS_IN edge. -/
def timeCmd (op : Nat) (atPps : Bool) (e : Eng) : Eng :=
  let ok := if op = 1 ∨ op = 2 then tsChangeable e else if op = 3 then e.rdq TIME_TODSET_TICK < tps else true
  if !ok then timeRej e
  else
    let c : TimeCmd := if op = 3 then ⟨3, e.rdq TIME_TODSET_SEC, e.rdq TIME_TODSET_TICK, e.now⟩ else ⟨op, e.rdq TIME_SET, 0, e.now⟩
    if atPps then { e.wr TIME_CMD_BUSY 1 with steer := { e.steer with pend := some c } } else timeApply c e.ts e

/-- SET (R129 to R131). -/
def execSet (atPps : Bool) (s : State) : Result := onEng s (timeCmd 1 atPps)

/-- STEP (R129 to R131). -/
def execStep (atPps : Bool) (s : State) : Result := onEng s (timeCmd 2 atPps)

/-- TOD_SET (R131, R133). -/
def execTodSet (atPps : Bool) (s : State) : Result := onEng s (timeCmd 3 atPps)

/-- TOD_STEP (R131, R133). -/
def execTodStep (atPps : Bool) (s : State) : Result := onEng s (timeCmd 4 atPps)

/-- TIME_CMD_ABANDON (R131): 2 s after its write, a command no edge has qualified for is abandoned with CMD_REJ. -/
def timeAbandon (e : Eng) : Eng :=
  match e.steer.pend with
  | none => e
  | some c =>
    let e1 := advanceTo (c.since + 2 * tps) e
    timeRej { e1.wr TIME_CMD_BUSY 0 with steer := { e1.steer with pend := none } }

/-- TIME_CMD_ABANDON. -/
def execTimeCmdAbandon (s : State) : Result := onEng s timeAbandon

/-! ### Time passes -/

/-- TS64_WRAP (R128): time passes up to the wrap of TS64. -/
def execTs64Wrap (s : State) : Result := onEng s fun e => passBy (2 ^ 64 - e.ts % 2 ^ 64) e

/-- TOD_SECOND (R132, R139 to R143): time passes up to the next TOD second boundary, which does its work. -/
def execTodSecond (s : State) : Result := onEng s fun e => passBy (toNextSecond e) e

/-- PPS_OUT_PULSE_END (R140): the pulse ends WIDTH_MS after its leading edge. -/
def ppsOutEnd (e : Eng) : Eng :=
  if e.tout.pulse then
    pulseOver (advanceTo (ppsEnd e) e)
  else e

/-- PPS_OUT_PULSE_END. -/
def execPpsOutPulseEnd (s : State) : Result := onEng s ppsOutEnd

/-- TIME_TS_READ: a read of TIME_TS_LO captures TS64 and TOD at one tick for its master. -/
def tsRead (master : Nat) (e : Eng) : Eng :=
  let tod := todAt e e.ts
  let e1 := ((e.wrq TIME_TS e.ts).wrq TIME_TOD_SEC tod.1).wrq TIME_TOD_TICK tod.2
  [TIME_TS.hi, TIME_TOD_SEC.lo, TIME_TOD_SEC.hi, TIME_TOD_TICK.lo, TIME_TOD_TICK.hi].foldl (fun a f => latchFld master f a) e1

/-- TIME_TS_READ. -/
def execTimeTsRead (master : Nat) (s : State) : Result := onEng s (tsRead master)

/-! ### Steering (R135 to R138) -/

/-- The engine's own steering is frozen or suspended: QUAL 3 or 4 (R137), or it follows an Aqurn master (R150). -/
def steerOff (e : Eng) : Bool :=
  e.rd TIME_STEER_STAT_QUAL == 3 || e.rd TIME_STEER_STAT_QUAL == 4 || aqFollows e

/-- A steering state change (R138): it raises vector 58, and the Ledger entry carries the old and the new state. -/
def setSteer (st : Nat) (f : Fld) (e : Eng) : Eng :=
  let old := e.rd TIME_STEER_STAT_STATE
  let e1 := { e.wr TIME_STEER_STAT_STATE st with steer := { e.steer with near := 0 } }
  timeShow (if old = st then e1 else irqMessage 58 (e1.postEv f 0 [BitVec.ofNat 8 old, BitVec.ofNat 8 st]))

/-- The new RATE from a phase error and f_int (R137), both in 2^-32 ticks per second, to the nearest. -/
def steerRate (corr : Int) : Int := clampInt (-858993) 858993 ((-2 * corr + tps) / (2 * tps))

/-- e at a tick: the TOD tick-of-second, in the range ± half a second (R137). -/
def phaseErr (e : Eng) (p : Nat) : Int :=
  let k := (todAt e p).2
  if k < 6400000000 then k else (k : Int) - tps

/-- The update at a qualified edge (R137). `tref` is the frequency error of TREF_IN in 2^-32 ticks per second. -/
def steerUpdate (p : Nat) (tref : Int) (e : Eng) : Eng :=
  let x := phaseErr e p
  let e0 := { e.wr TIME_PHASE_ERR_E (toField 32 (clampInt (-2 ^ 31) (2 ^ 31 - 1) x)) with steer := { e.steer with eLast := x } }
  if e.rd TIME_STEER_STAT_STATE = 1 ∧ e.on TIME_STEER_CFG_STEP_EN ∧ 12800 < x.natAbs then
    todStep (-x) { e0 with steer := { e0.steer with near := 0 } }
  else
    let tau := e.rd TIME_STEER_CFG_TAU
    let fi := if e.rd TIME_STEER_CFG_MODE = 2 then -tref else e.steer.fInt + x * (2 ^ 32 / 2 ^ (2 + 2 * tau))
    let r := steerRate (x * (2 ^ 32 / 2 ^ tau) + fi)
    let near := if x.natAbs ≤ 128 then e.steer.near + 1 else 0
    let e1 := setRate p r { e0 with steer := { e0.steer with fInt := fi, near := near, rates := (r :: e0.steer.rates).take 4096 } }
    if e.rd TIME_STEER_STAT_STATE = 1 ∧ 16 ≤ near then setSteer 2 TIME_EVT_LOCKED (e1.raise TIME_EVT_LOCKED) else e1

/-- Does an edge lie in the window of R135 after an earlier one? -/
def ppsWindow (e : Eng) (p q : Nat) : Bool := (tsDiff p q - tps).natAbs ≤ e.rd TIME_PPS_QUAL_TOL * 128

/-- The miss interval of R138 in ticks. -/
def missTicks (e : Eng) : Nat := 2 * (tps + e.rd TIME_PPS_QUAL_TOL * 128)

/-- A qualified edge at tick `p`: it is shown, a waiting command applies (R131), the steering goes on (R137, R138). -/
def qualified (p : Nat) (tref : Int) (e : Eng) : Eng :=
  let e0 := { (e.wrq TIME_PPSIN p).addSat TIME_STEER_STAT_GOOD 1 with steer := { e.steer with prev := some p, cand := none } }
  let e1 := e0.raise TIME_EVT_PPS_IN
  let e2 := match e1.steer.pend with
    | some c => timeApply c p e1
    | none => e1
  let p2 := e2.rdq TIME_PPSIN
  if steerOff e2 ∨ !(e2.rd TIME_STEER_CFG_MODE = 1 ∨ e2.rd TIME_STEER_CFG_MODE = 2) ∨ e2.steer.stepSec = some (todAt e2 p2).1 then e2
  else
    let st := e2.rd TIME_STEER_STAT_STATE
    steerUpdate p2 tref (if st = 0 ∨ st = 3 then setSteer 1 TIME_EVT_PPS_IN e2 else e2)

/-- PPS_IN_EDGE (R135): an edge of the selected polarity at TS64 `t`, less TIME_PPS_DLY. It qualifies one second after the
previous qualified edge; after start or loss the first edge is a candidate and the next one in its window confirms it. -/
def ppsInEdge (t : Nat) (tref : Int) (e : Eng) : Eng :=
  let p := (t + 2 ^ 64 - e.rd TIME_PPS_DLY_DLY) % 2 ^ 64
  let live := match e.steer.prev with
    | some q => decide ((tsDiff p q).natAbs ≤ missTicks e)
    | none => false
  if live then
    (match e.steer.prev with
      | some q => if ppsWindow e p q then qualified p tref e else e
      | none => e)
  else
    match e.steer.cand with
    | some q =>
      if ppsWindow e p q then qualified p tref (e.wr TIME_STEER_STAT_GOOD 0)
      else { e.wr TIME_STEER_STAT_GOOD 0 with steer := { e.steer with prev := none, cand := some p } }
    | none => { e.wr TIME_STEER_STAT_GOOD 0 with steer := { e.steer with prev := none, cand := some p } }

/-- PPS_IN_EDGE. -/
def execPpsInEdge (t : Nat) (tref : Int) (s : State) : Result := onEng s (ppsInEdge t tref)

/-- TREF_UPDATE (R137): the update of MODE 3, with e = 0 and f_int from TREF_IN. -/
def trefUpdate (tref : Int) (e : Eng) : Eng :=
  if e.rd TIME_STEER_CFG_MODE ≠ 3 ∨ steerOff e then e
  else setRate e.ts (steerRate (-tref)) { e with steer := { e.steer with fInt := -tref } }

/-- TREF_UPDATE. -/
def execTrefUpdate (tref : Int) (s : State) : Result := onEng s (trefUpdate tref)

/-- The mean of the RATE values of the last 2^TAU s (R138), to the nearest. -/
def meanRate (e : Eng) : Int :=
  let l := e.steer.rates.take (2 ^ e.rd TIME_STEER_CFG_TAU)
  if l.isEmpty then signed 22 (e.rd TIME_RATE_RATE) else (2 * l.sum + l.length) / (2 * l.length)

/-- PPS_MISS (R138): no qualified edge for the miss interval, LOCKED or ACQUIRE becomes HOLDOVER; RATE stays where QUAL is 3 or 4
(R137), and nothing comes of it while an Aqurn master is followed, which suspends the own steering (R150). -/
def ppsMiss (e : Eng) : Eng :=
  let st := e.rd TIME_STEER_STAT_STATE
  if (st ≠ 1 ∧ st ≠ 2) ∨ aqFollows e then e
  else
    let gone := tsDiff e.ts (e.rdq TIME_PPSIN)
    let e0 := passBy ((missTicks e : Int) - gone).toNat e
    let e1 := (e0.raise TIME_EVT_PPS_MISS).raise TIME_EVT_HOLDOVER
    let e2 := (e1.wr TIME_STEER_STAT_GOOD 0).when (!steerOff e1) (setRate e1.ts (meanRate e1))
    setSteer 3 TIME_EVT_HOLDOVER { e2 with steer := { e2.steer with
      prev := none
      cand := none
      hoAt := e2.now
      hoDone := false } }

/-- PPS_MISS. -/
def execPpsMiss (s : State) : Result := onEng s ppsMiss

/-- HO_LIMIT (R138): time passes until the holdover estimate exceeds LIMIT_US; QUAL becomes FREE. -/
def hoLimit (e : Eng) : Eng :=
  if e.rd TIME_STEER_STAT_STATE ≠ 3 ∨ e.steer.hoDone ∨ aqFollows e then e
  else
    let lim := e.rd TIME_HO_CFG_LIMIT_US * 1000
    let base := e.steer.eLast.natAbs * 5 / 64
    let stab := e.rd TIME_HO_CFG_STAB_PPB
    if base ≤ lim ∧ stab = 0 then e
    else
      let secs := if lim < base then 0 else (lim - base) / stab + 1
      let e1 := timeShow (advanceTo (e.steer.hoAt + secs * tps) e)
      { e1 with steer := { e1.steer with hoDone := true } }.raise TIME_EVT_HO_LIMIT

/-- HO_LIMIT. -/
def execHoLimit (s : State) : Result := onEng s hoLimit

/-- RATE_WRITE: RATE in MODE 0, discarded otherwise. -/
def execRateWrite (v : Nat) (s : State) : Result :=
  onEng s fun e => if e.rd TIME_STEER_CFG_MODE = 0 then setRate e.ts (signed 22 (v % 2 ^ 22)) e else e

/-- STEER_MODE_WRITE (R138): MODE written, the steering goes to FREE. The field is RWL (R10). -/
def execSteerModeWrite (mode : Nat) (s : State) : Result :=
  onEng s fun e => if e.on TIME_GCTRL_LOCK then e else setSteer 0 TIME_EVT_PPS_IN (e.wr TIME_STEER_CFG_MODE mode)

end Machine
end Sys2Proof
end

