-- ==== Sys2Proof/Machine/Aqurn.lean ====
section
/-!
DEFINITION. The Aqurn link (R144 to R151, R196, R197): frames, receivers and senders; the commands AQL_FRAME_RX,
AQL_FRAME_TX, ENUM, ADOPT, AQL_ARM and AQL_OFFSET_AVERAGE.
-/
namespace Sys2Proof
namespace Machine

/-! ### Frames (R145) -/

/-- One bit of the additive scrambler x^23 + x^18 + 1. -/
def scrBit (st : Nat) : Nat × Nat :=
  let b := (st / 2 ^ 22 + st / 2 ^ 17) % 2
  ((st * 2 + b) % 2 ^ 23, b)

/-- One byte of the scrambler's output, least significant bit first. -/
def scrByte (st : Nat) : Nat × Nat :=
  (List.range 8).foldl (fun a i => let r := scrBit a.1; (r.1, a.2 + r.2 * 2 ^ i)) (st, 0)

/-- Scramble or descramble bytes 2 to 15 of a frame; the scrambler is reset to all ones at each frame. -/
def scramble (f : List Byte) : List Byte :=
  f.take 2 ++ ((f.drop 2).foldl (fun (a : Nat × List Byte) b =>
    let r := scrByte a.1
    (r.1, a.2 ++ [BitVec.ofNat 8 (b.toNat ^^^ r.2)])) (2 ^ 23 - 1, [])).2

/-- The unscrambled bytes 0 to 13 of a frame. -/
def frameBody (f : AqFrame) : List Byte :=
  [BitVec.ofNat 8 (f.ty + 16 * f.src), BitVec.ofNat 8 (f.hop % 16)] ++ f.payload ++ List.replicate (12 - f.payload.length) 0

/-- The bytes a frame sends. -/
def frameBytes (f : AqFrame) : List Byte :=
  let b := frameBody f
  scramble (b ++ leBytes 2 (crc16 0x1021 0xFFFF b))

/-- A received frame, when its CRC is right. -/
def parseFrame (raw : List Byte) : Option AqFrame :=
  let b := scramble raw
  if b.length = 16 ∧ leNat (b.drop 14) = crc16 0x1021 0xFFFF (b.take 14) then
    some ⟨(b.getD 0 0).toNat % 16, (b.getD 0 0).toNat / 16, (b.getD 1 0).toNat % 16, (b.take 14).drop 2⟩
  else none

/-- Bytes of a payload as a number. -/
def AqFrame.num (f : AqFrame) (byte n : Nat) : Nat := leNat ((f.payload.drop (byte - 2)).take n)

/-! ### Ports -/

def aqPort (down : Bool) (e : Eng) : AqPort := if down then e.aq.dn else e.aq.up
def modPort (down : Bool) (f : AqPort → AqPort) (e : Eng) : Eng :=
  if down then { e with aq := { e.aq with dn := f e.aq.dn } } else { e with aq := { e.aq with up := f e.aq.up } }
def portState (down : Bool) : Fld := if down then TIME_AQL_STAT_DN_STATE else TIME_AQL_STAT_UP_STATE
def sendFrame (down : Bool) (f : AqFrame) (e : Eng) : Eng := modPort down (fun p => { p with txq := p.txq ++ [f] }) e
def isMaster (e : Eng) : Bool := e.rd TIME_AQL_CTRL_ROLE == 1
def isMember (e : Eng) : Bool := e.rd TIME_AQL_CTRL_ROLE == 2
def ownId (e : Eng) : Nat := e.rd TIME_AQL_STAT_ID

/-- A trigger of another engine (R197): CASC_k becomes true at the first instant at or after D + DLY, or, when the context
has passed that instant, at the next step, which is counted as late. -/
def cascRx (d line : Nat) (e : Eng) : Eng :=
  if !e.on TIME_AQL_CTRL_TRIG_RX then e
  else (List.range 4).foldl (fun a n =>
    if !ctxExists a n then a
    else
      let u := (d + a.rda (TRIG_SEQ_CASC_DLY n)) % 2 ^ 64
      let late := match (a.getCx n).last with
        | some l => evals a n && !tsBefore l u && tsBefore d l
        | none => false
      if late then
        ((a.modCx n fun c => { c with cascStep := c.cascStep ++ [line] }).addSat (TRIG_SEQ_LATE_CNT n) 1).raise (TRIG_SEQ_EVT_CASC_LATE n)
      else a.modCx n fun c => { c with casc := c.casc ++ [(line, u, d)] }) e

/-- An ARM frame names this engine and contexts (R147, R148). -/
def armRx (ts mask op ctx : Nat) (e : Eng) : Eng :=
  if !natBit mask (ownId e) then e
  else if tsBefore ts e.ts then e.raisePost TIME_EVT_ARM_LATE 0 (leBytes 8 ts)
  else (List.range 4).foldl (fun a n => if natBit ctx n then seqCommand n (.aql (op == 1) ts) a else a) e

/-- A TIME group is complete (R146, R150): TOD follows the master's anchor and rate, which has the limits of R132; the sender's stamp
less OFS is the own tick. A TIME record is due when the anchor or TOD changed by it (R133), and TREF_OUT follows (R141). DESIGN
CHOICE (log entry 140): it is no TOD step, so that the IRIG frame goes on. -/
def groupRx (rate : Nat) (e : Eng) : Eng :=
  match e.aq.timeRx, e.aq.todaRx with
  | some (ts, _, _), some (sec, tk) =>
    let own := (((ts : Int) - (signed 32 (e.rd TIME_AQL_OFS_OFS) + 32) / 64) % ((2 ^ 64 : Nat) : Int)).toNat
    let e1 := { e with
      tod := { e.tod with anchorTs := own, anchorSec := sec, anchorTick := tk, anchorFrac := 0, isSet := true }
      aq := { e.aq with timeRx := none, todaRx := none } }
    let e2 := trefShift e (timeShow (e1.wr TIME_RATE_RATE (toField 22 (clampInt (-858993) 858993 (signed 24 rate)))))
    if e2.tod = e.tod then e2 else timeCause 2 e2.ts e2
  | _, _ => { e with aq := { e.aq with timeRx := none, todaRx := none } }

/-- A sum of `n` values of twice a time in 1/64 tick as their mean, to the nearest. -/
def halfMean (n : Nat) (sum : Int) : Int := (sum + n) / (2 * n : Nat)

/-- 1,024 exchanges are averaged (R150), in 1/64 tick. Four averages in a row beyond one tick clear OFS_VALID and raise AQL_OFS. -/
def aqlAverage (e : Eng) : Eng :=
  if e.aq.exN < 1024 then e
  else
    let ofs := halfMean e.aq.exN e.aq.exOfs
    let e1 := (e.wr TIME_AQL_OFS_OFS (toField 32 ofs)).wr TIME_AQL_DLY_DLY (toField 32 (halfMean e.aq.exN e.aq.exDly))
    let bad := if 64 < ofs.natAbs then e.aq.ofsBad + 1 else 0
    let e2 := { e1 with aq := { e1.aq with ofsBad := bad, exN := 0, exOfs := 0, exDly := 0 } }
    timeShow (if 4 ≤ bad then (if bad = 4 then (e2.wr TIME_AQL_STAT_OFS_VALID 0).raise TIME_EVT_AQL_OFS else e2)
      else e2.wrb TIME_AQL_STAT_OFS_VALID (!e.aq.unnumbered))

/-- The answer to the member's own DLY_REQ (R150): T2 and T3 − T2 from the frame, T4 its arrival at tick `t` and `ph` / 64. An average
that is due is taken first. -/
def exchange (t2 d t ph : Nat) (e : Eng) : Eng :=
  match e.aq.t1 with
  | none => e
  | some t1 =>
    let e1 := aqlAverage e
    let there := 64 * tsDiff t2 t1
    let back := 64 * tsDiff t (t2 + d) + ph
    { e1 with aq := { e1.aq with
        t1 := none
        exN := e1.aq.exN + 1
        exOfs := e1.aq.exOfs + (there - back)
        exDly := e1.aq.exDly + (there + back) } }

/-- A good frame in state UP acts by its TYPE (R145 to R150). It arrives at tick `t` and `ph` / 64. -/
def frameAct (down : Bool) (f : AqFrame) (t ph : Nat) (e : Eng) : Eng :=
  let relay : AqFrame := { f with hop := (f.hop + 1) % 16 }
  match f.ty with
  | 0 => e
  | 1 => if down ∨ !isMember e then e
    else timeShow { e.wr TIME_AQL_STAT_QUAL_M (f.num 12 1 % 8) with
      aq := { e.aq with timeRx := some (f.num 2 8, f.num 10 2, f.num 12 1 % 8), todaRx := none } }
  | 2 => if down ∨ !isMember e then e
    else if e.aq.timeRx.isSome then { e with aq := { e.aq with todaRx := some (f.num 2 6, f.num 8 5 % 2 ^ 34) } }
    else e
  | 8 => if down ∨ !isMember e then e else groupRx (f.num 2 3) e
  | 3 => if down ∨ !isMember e then e
    else armRx (f.num 2 8) (f.num 10 2) (f.num 12 1 % 4) (f.num 12 1 / 16) (sendFrame true relay e)
  | 4 =>
    if f.src = ownId e then e
    else if isMember e then
      (if down then sendFrame false relay e
       else cascRx (f.num 2 8) (f.num 10 1 / 4 % 8) (sendFrame true relay e))
    else cascRx (f.num 2 8) (f.num 10 1 / 4 % 8) (sendFrame true relay e)
  | 5 => if down then
      sendFrame true ⟨6, ownId e, 0, leBytes 8 t ++ leBytes 3 0 ++ [BitVec.ofNat 8 f.src]⟩ e
    else e
  | 6 => if down ∨ !isMember e ∨ f.num 13 1 % 16 ≠ ownId e then e else exchange (f.num 2 8) (f.num 10 3) t ph e
  | 7 =>
    if isMaster e then (if down then e.wr TIME_AQL_STAT_COUNT (max (e.rd TIME_AQL_STAT_COUNT) (f.num 2 1 % 16)) else e)
    else if down then sendFrame false relay e
    else
      let id := f.num 2 1 % 16 + 1
      if 15 < id then
        timeShow { (e.wr TIME_AQL_STAT_ID 15).wr TIME_AQL_STAT_OFS_VALID 0 with aq := { e.aq with unnumbered := true } }
      else
        let e1 := { e.wr TIME_AQL_STAT_ID id with aq := { e.aq with unnumbered := false } }
        let g : AqFrame := ⟨7, id, 0, [BitVec.ofNat 8 id]⟩
        sendFrame false g (sendFrame true g e1)
  | _ => e.addSat TIME_AQL_ERR_TYPE 1

/-- Is a TRIG or ARM frame a repetition of one that arrived within 8 slots (R147)? -/
def repeated (p : AqPort) (f : AqFrame) (t : Nat) : Bool :=
  p.recent.any fun r => r.1.ty == f.ty && r.1.src == f.src && r.1.payload == f.payload && (t + 2 ^ 64 - r.2) % 2 ^ 64 ≤ 8 * 256

/-- AQL_FRAME_RX (R146): a frame of 16 bytes as received arrives at TS64 `t` and `ph` / 64 tick at the upstream or downstream port. A
frame lost from downstream may be one of the TIME group being received, or the TIME frame of the next: the group is given up
(DEDUCED, log entry 141). -/
def aqlFrameRx (down : Bool) (raw : List Byte) (t ph : Nat) (e : Eng) : Eng :=
  if e.rd TIME_AQL_CTRL_ROLE = 0 then e
  else
    let st := e.rd (portState down)
    match parseFrame raw with
    | none =>
      let e0 := if down then e else { e with aq := { e.aq with timeRx := none, todaRx := none } }
      let e1 := modPort down (fun p => { p with good := 0, bad := p.bad + 1 }) (e0.addSat TIME_AQL_ERR_CRC 1)
      if st = 2 ∧ 4 ≤ (aqPort down e1).bad then timeShow ((e1.wr (portState down) 1).raise TIME_EVT_AQL_DOWN) else e1
    | some f =>
      let e1 := modPort down (fun p => { p with good := p.good + 1, bad := 0 }) e
      if st ≠ 2 then
        (if 8 ≤ (aqPort down e1).good then timeShow ((e1.wr (portState down) 2).raise TIME_EVT_AQL_UP)
         else e1.wr (portState down) 1)
      else if f.ty = 3 ∨ f.ty = 4 then
        let p := aqPort down e1
        let near := (aqPort down e1).recent.filter fun r => (t + 2 ^ 64 - r.2) % 2 ^ 64 ≤ 8 * 256
        let e2 := modPort down (fun q => { q with recent := (f, t) :: near }) e1
        if repeated p f t then e1 else frameAct down f t ph e2
      else frameAct down f t ph e1

/-- AQL_FRAME_RX. -/
def execAqlFrameRx (down : Bool) (raw : List Byte) (t ph : Nat) (s : State) : Result := onEng s (aqlFrameRx down raw t (ph % 64))

/-! ### The sender -/

/-- The engine's own triggers enter the queue of the lane they leave by, three frames each (R147, R196). -/
def ownTriggers (down : Bool) (e : Eng) : Eng :=
  if (down && isMaster e) || (!down && isMember e) then
    let fs := e.aq.trigQ.flatMap fun x =>
      List.replicate 3 (⟨4, ownId e, 0, leBytes 8 x.stamp ++ [BitVec.ofNat 8 (x.ctx + 4 * x.line)]⟩ : AqFrame)
    modPort down (fun p => { p with txq := p.txq ++ fs }) { e with aq := { e.aq with trigQ := [] } }
  else e

/-- The TIME frame of this slot and the TODA and RATE frames that follow it (R145, R146). -/
def timeGroup (e : Eng) : AqFrame × List AqFrame :=
  let tod := todAt e e.ts
  (⟨1, ownId e, 0, leBytes 8 e.ts ++ leBytes 2 (e.rd TIME_EPOCH_GEN) ++ [BitVec.ofNat 8 (e.rd TIME_STEER_STAT_QUAL)]⟩,
   [⟨2, ownId e, 0, leBytes 6 tod.1 ++ leBytes 5 tod.2⟩,
    ⟨8, ownId e, 0, leBytes 3 (toField 24 (signed 22 (e.rd TIME_RATE_RATE)))⟩])

/-- The first frame of a type in a queue, and the queue without it. -/
def takeType (ty : Nat) (q : List AqFrame) : Option (AqFrame × List AqFrame) :=
  (q.find? (·.ty == ty)).map fun f => (f, q.erase f)

/-- The frame of this slot by the priority order of R146, with the port as the frame leaves it. -/
def pickFrame (e : Eng) (down : Bool) (p : AqPort) : AqFrame × AqPort × Bool :=
  match takeType 4 p.txq with
  | some (f, q) => (f, { p with txq := q }, false)
  | none =>
  match takeType 3 p.txq with
  | some (f, q) => (f, { p with txq := q }, false)
  | none =>
  match p.group with
  | g :: rest => (g, { p with group := rest }, false)
  | [] =>
  match takeType 6 p.txq with
  | some (f, q) => (f, { p with txq := q }, false)
  | none =>
  if down && p.timeDue then ((timeGroup e).1, { p with timeDue := false, group := (timeGroup e).2 }, false)
  else
  match takeType 7 p.txq with
  | some (f, q) => (f, { p with txq := q }, false)
  | none =>
  if !down && p.reqDue && isMember e then (⟨5, ownId e, 0, leBytes 8 e.ts⟩, { p with reqDue := false }, true)
  else (⟨0, ownId e, 0, []⟩, p, false)

/-- The frame that leaves at tick `t`: a DLY_RESP carries T3 − T2 with T3 its own departure. -/
def stampFrame (t : Nat) (f : AqFrame) : AqFrame :=
  if f.ty = 6 then
    { f with payload := f.payload.take 8 ++ leBytes 3 (ticksFrom (leNat (f.payload.take 8)) t) ++ f.payload.drop 11 }
  else f

/-- The next frame slot of a port, which starts at a multiple of 256 (R145): time passes up to it. -/
def toSlot (down : Bool) (e : Eng) : Eng :=
  let gap := (256 - e.ts % 256) % 256
  let e1 := passBy gap e
  if (aqPort down e1).sent = some e1.ts then passBy 256 e1 else e1

/-- AQL_FRAME_TX (R145, R146): at a frame slot the sender of a port transmits the frame of the highest priority that is due. -/
def aqlFrameTx (down : Bool) (e : Eng) : Eng :=
  if e.rd TIME_AQL_CTRL_ROLE = 0 then e
  else
    let e0 := ownTriggers down (toSlot down e)
    let p0 := aqPort down e0
    let p := { p0 with
      sent := some e0.ts
      slots := p0.slots + 1
      timeDue := p0.timeDue || p0.slots % 1024 == 0
      reqDue := p0.reqDue || p0.slots % 4096 == 0 }
    let r := pickFrame e0 down p
    let e1 := (modPort down (fun _ => r.2.1) e0).send (.aql down (frameBytes (stampFrame e0.ts r.1)))
    if r.2.2 then { e1 with aq := { e1.aq with t1 := some e1.ts } } else e1

/-- AQL_FRAME_TX. -/
def execAqlFrameTx (down : Bool) (s : State) : Result := onEng s (aqlFrameTx down)

/-! ### TIME_AQL_CMD -/

/-- ENUM (R149): the master sends ENUM with ID 0. -/
def execEnum (s : State) : Result :=
  onEng s fun e => if isMaster e then sendFrame true ⟨7, 0, 0, [0]⟩ ((e.wr TIME_AQL_STAT_ID 0).wr TIME_AQL_STAT_COUNT 0) else e

/-- ADOPT (R129, R151): TS64 steps by the integer part of OFS, the remaining fraction trims the BPLL phase, and SPLL
realigns under step 4 of R107. A member in SERVICE with no transition accepts it. -/
def adopt (e : Eng) : Eng :=
  if !isMember e ∨ e.mode ≠ .service ∨ e.on GLB_MODE_STAT_BUSY then timeRej e
  else
    let o := signed 32 (e.rd TIME_AQL_OFS_OFS)
    let k := o.tdiv 64
    let e1 := stepTs (k % ((2 ^ 64 : Nat) : Int)).toNat e
    let e2 := { e1 with tout := { e1.tout with trim := e1.tout.trim + (o - 64 * k) } }
    scanRecheck (loopsShow (if loopLocked e2 0 then setLoop 0 4 e2 else e2))

/-- ADOPT. -/
def execAdopt (s : State) : Result := onEng s adopt

/-- AQL_ARM (R148): the master sends the ARM frame, three times (R147), when ARM_TS lies at least 1,280,000 ticks ahead; an
own bit in the mask arms the master's contexts too. -/
def aqlArm (e : Eng) : Eng :=
  let ts := e.rdq TIME_AQL_ARM
  let op := e.rd TIME_AQL_ARM_CFG_OP
  let ctx := e.rd TIME_AQL_ARM_CFG_CTX
  let mask := e.rd TIME_AQL_ARM_CFG_MASK
  if !isMaster e ∨ tsDiff ts e.ts < 1280000 then timeRej e
  else if op ≠ 1 ∧ op ≠ 2 then e
  else
    let f : AqFrame := ⟨3, ownId e, 0, leBytes 8 ts ++ leBytes 2 mask ++ [BitVec.ofNat 8 (op + 16 * ctx)]⟩
    armRx ts mask op ctx (sendFrame true f (sendFrame true f (sendFrame true f e)))

/-- AQL_ARM. -/
def execAqlArm (s : State) : Result := onEng s aqlArm

/-- AQL_OFFSET_AVERAGE (R150): the member writes OFS and DLY once 1,024 exchanges have been measured. -/
def execAqlOffsetAverage (s : State) : Result := onEng s fun e => if aqFollows e then aqlAverage e else e

end Machine
end Sys2Proof
end

