-- ==== Sys2Proof/Machine/ImageParse.lean ====
section
/-!
DEFINITION. The container of a configuration image (R409 to R414): its header and directory, the runs of a section with
their scope (R411, R412), the fixed records (R413), the signature (R414, R432), and the steps of R415 that need nothing but the
image and the security state.
-/
namespace Sys2Proof
namespace Machine

/-- `n` bytes of an image from an offset. -/
def imgBytes (b : List Byte) (off n : Nat) : List Byte := (b.drop off).take n

/-- A little-endian number in an image. -/
def imgNum (b : List Byte) (off n : Nat) : Nat := leNat (imgBytes b off n)

/-- Are `n` bytes from an offset zero? -/
def imgZero (b : List Byte) (off n : Nat) : Bool := (imgBytes b off n).all fun x => x == 0

/-- A section of an image: its directory index, TYPE, INDEX, ENABLE, CHK, DEMAND, and its body. -/
structure Sect where
  dir : Nat
  ty : Nat
  idx : Nat
  en : Bool
  chk : Nat
  demand : List Nat
  body : List Byte
  deriving DecidableEq, Repr

/-- An image that has been taken apart: IMG_VER, SEC_VER, BUILD_ID, the sections. -/
structure Image where
  ver : Nat
  sec : Nat
  id : Nat
  sects : List Sect
  deriving DecidableEq, Repr

/-- Does a check hold? The first that fails gives its code and directory index. -/
abbrev Checked (α : Type) := Except (Nat × Nat) α

/-- Pass when a condition holds, else the code. -/
def pass (ok : Bool) (code sect : Nat) : Checked Unit := if ok then .ok () else .error (code, sect)

/-- LENGTH of the header. -/
def imgLength (b : List Byte) : Nat := imgNum b 8 4

/-- FLAGS.SIGNED and FLAGS.FACTORY. -/
def imgSigned (b : List Byte) : Bool := imgNum b 24 4 % 2 == 1
def imgFactory (b : List Byte) : Bool := imgNum b 24 4 / 2 % 2 == 1

/-! ### Header and directory (steps 1 and 2 of R415) -/

/-- Step 1: the header; `kind` is the kind wanted, `space` the size of the slot or package, `rev` the silicon revision. -/
def headerOk (kind space rev : Nat) (b : List Byte) : Bool :=
  imgNum b 0 4 == 0x4D495754 && imgNum b 4 2 == 1 && imgNum b 20 2 == 0x1600 && imgNum b 23 1 == kind &&
  imgNum b 22 1 ≤ rev && imgLength b ≤ (if kind = 0 then 2 ^ 24 else 2 ^ 20) && imgLength b ≤ space &&
  imgNum b 124 4 == crc32c (imgBytes b 0 124)

/-- The end of the space for bodies: LENGTH less the signature block. -/
def bodyEnd (b : List Byte) : Nat := imgLength b - (if imgSigned b then 256 else 0)

/-- Directory entry `k`, with its body. -/
def dirEntry (b : List Byte) (k : Nat) : Sect :=
  let o := 128 + 64 * k
  { dir := k
    ty := imgNum b o 2
    idx := imgNum b (o + 2) 1
    en := imgNum b (o + 3) 1 % 2 == 1
    chk := imgNum b (o + 12) 4
    demand := (List.range 16).map fun n => imgNum b (o + 32 + 2 * n) 2
    body := imgBytes b (imgNum b (o + 4) 4) (imgNum b (o + 8) 4) }

/-- INDEX lies within the type. -/
def indexOk (ty idx : Nat) : Bool := if ty = 7 then idx < 8 else if ty = 8 then idx < 4 else idx == 0

/-- Do the bodies of two entries share a byte? -/
def bodiesMeet (b : List Byte) (j k : Nat) : Bool :=
  let o (x : Nat) : Nat := imgNum b (128 + 64 * x + 4) 4
  let l (x : Nat) : Nat := imgNum b (128 + 64 * x + 8) 4
  o j < o k + l k && o k < o j + l j

/-- Entry `k` obeys R410. -/
def entryOk (b : List Byte) (nsect k : Nat) : Bool :=
  let o := 128 + 64 * k
  let off := imgNum b (o + 4) 4
  let len := imgNum b (o + 8) 4
  1 ≤ imgNum b o 2 && imgNum b o 2 ≤ 11 && indexOk (imgNum b o 2) (imgNum b (o + 2) 1) && imgNum b (o + 3) 1 < 2 &&
  off % 256 == 0 && 128 + 64 * nsect ≤ off && off + len ≤ bodyEnd b && len % 4 == 0 && imgNum b (o + 16) 2 == 1 &&
  imgZero b (o + 18) 14 && !((List.range k).any fun j => bodiesMeet b j k)

/-- The types that a full image must hold once. -/
def requiredTypes : List Nat := [1, 2, 3, 4, 5, 6, 11]

/-- The tile of R49 that a section belongs to. -/
def sectTile (ty idx : Nat) : Option Nat :=
  if ty = 7 then some idx else if ty = 8 then some (8 + idx) else if ty = 9 then some 12 else if ty = 10 then some 13
  else if ty = 11 then some 14 else none

/-- The sections of a full image obey R411. -/
def setOk (ss : List Sect) : Bool :=
  (requiredTypes.all fun t => ss.any fun x => x.ty == t) && (ss.map fun x => (x.ty, x.idx)).Nodup &&
  (ss.any fun x => x.ty == 7) && (ss.any fun x => x.ty == 8 && x.en)

/-- The sections of a tile package for tile `k` obey R411. -/
def packOk (k : Nat) (ss : List Sect) : Bool :=
  match ss with
  | [x] => sectTile x.ty x.idx == some k
  | _ => false

/-! ### The signature (step 4: R414, R432, R446) -/

/-- The signature block is laid out as R414 says. -/
def sigBlockOk (s : List Byte) : Bool :=
  imgNum s 0 4 == 0x47535754 && imgNum s 5 1 == 1 && imgZero s 6 2 && imgZero s 104 152

/-- The image key of the block, for the life-cycle state. -/
def imageKey (e : Eng) (factory : Bool) (k : Nat) : Option (List Byte) :=
  if factory then (if k = 1 then slotKey e 1 else none)
  else if 2 ≤ k ∧ k ≤ 4 ∧ e.nv.lc ≠ 3 then slotKey e k
  else none

/-- Step 4 of R415. -/
def signatureOk (e : Eng) (b : List Byte) : Bool :=
  let s := imgBytes b (imgLength b - 256) 256
  if imgSigned b then
    sigBlockOk s &&
      (match imageKey e (imgFactory b) (imgNum s 4 1) with
        | none => false
        | some key => ecdsaVerify key (sha384 (imgBytes b 0 (imgLength b - 256))) (imgBytes s 8 96))
  else e.nv.lc == 0

/-! ### Runs (step 6: R411, R412) -/

/-- The words of a run body as (BAR 0 offset, word), offsets rising; none when the runs do not obey R412. -/
def parseRuns : Nat → Nat → List Byte → Option (List (Nat × Nat))
  | _, _, [] => some []
  | 0, _, _ => none
  | fuel + 1, low, b =>
    let off := imgNum b 0 4
    let cnt := imgNum b 4 2
    if b.length < 8 + 4 * cnt ∨ off % 4 ≠ 0 ∨ off < low ∨ cnt = 0 ∨ 4096 < cnt ∨ !imgZero b 6 2 then none
    else
      match parseRuns fuel (off + 4 * cnt) (b.drop (8 + 4 * cnt)) with
      | none => none
      | some r => some ((List.range cnt).map (fun k => (off + 4 * k, imgNum b (8 + 4 * k) 4)) ++ r)

/-- Does an offset lie in a row of `n` registers? -/
def inRow (off base stride n : Nat) : Bool := base ≤ off && (off - base) % stride == 0 && (off - base) / stride < n

/-- The base of the window of a context. -/
def ctxWin (n : Nat) : Nat := 0x500000 + 0x80000 * n

/-- The resource that a window offset of R411's TC section belongs to. -/
def claimAt (o : Nat) : Option Nat := if inRow o 0x1000 4 208 then some ((o - 0x1000) / 4) else none

/-- The resources that the runs of TC_n claim (R412). -/
def claimsOf (n : Nat) (runs : List (Nat × Nat)) : List Nat :=
  runs.filterMap fun r => if ctxWin n ≤ r.1 ∧ r.1 < ctxWin (n + 1) ∧ r.2 % 8 = n then claimAt (r.1 - ctxWin n) else none

/-- The scope of a TC section: private registers of its window, its own claims, registers of resources that it claims. -/
def tcScope (n : Nat) (claims : List Nat) (off word : Nat) : Bool :=
  let o := off - ctxWin n
  if off < ctxWin n ∨ ctxWin (n + 1) ≤ off then false
  else match claimAt o with
    | some _ => word == n
    | none =>
      match resourceAt o with
      | some i => claims.contains i
      | none => o == 0x15004 || (o != 0x40200 && o != 0x40204 && (findReg off).any fun r => !r.shared)

/-- The registers that a run of a section may address (R411). -/
def inScope (ty idx : Nat) (claims : List Nat) (off word : Nat) : Bool :=
  match ty with
  | 1 => off < 0x100000 || off == 0xB00008 || off == 0x100608 || off == 0x100408 || off == 0x1000004
  | 2 => off / 0x100000 == 3 || inRow off 0x100500 16 4 || inRow off 0x100504 16 4
  | 3 => off / 0x100000 == 4
  | 4 => inRow off 0xD00500 4 24 || inRow off 0xD00580 4 16 || off == 0xD00200
  | 6 => (0x502000 ≤ off && off < 0x503000) || off == 0x560024 || off == 0x560028
  | 7 => off == 0x100000 + 64 * idx || (0x101000 + 1024 * idx ≤ off && off < 0x101000 + 1024 * (idx + 1)) ||
      off == 0x200000 + 4096 * idx || off == 0x200010 + 4096 * idx
  | 8 => tcScope idx claims off word
  | 9 => off / 0x100000 == 8
  | 10 => off / 0x100000 == 12
  | 11 => off / 0x100000 == 7 || inRow off 0x540200 0x80000 4 || inRow off 0x540204 0x80000 4 || inRow off 0x900100 4 6 ||
      inRow off 0x904000 4 6 || off == 0x908000 || (0x908100 ≤ off && off < 0x908140) || inRow off 0xA00100 4 32 ||
      (0xA01000 ≤ off && off < 0xA01300) || (0xB02100 ≤ off && off < 0xB02200)
  | _ => false

/-- Encodings that the tables mark reserved, of fields whose write rule is kept by a command of their own. -/
def reservedEnc (off lsb v : Nat) : Bool :=
  (inRow off 0x100500 16 4 && lsb == 8 && v == 3) ||
  (inRow off 0x302000 32 4 && ((lsb == 1 && 5 ≤ v) || (lsb == 4 && v == 7) || (lsb == 24 && v == 3))) ||
  (inRow off 0x701000 64 16 && lsb == 2 && v == 3) ||
  (inRow off 0x800200 4 16 && lsb == 0 && v == 3) ||
  (inRow off 0xA00100 4 32 && v == 6) ||
  (0x541000 ≤ off && off < 0x700000 && 0x41000 ≤ (off - 0x500000) % 0x80000 && (off - 0x500000) % 0x80000 < 0x42000 &&
    off % 32 == 12 && (lsb == 8 || lsb == 24) && v == 7)

/-- Is a value of a field legal in an image? -/
def imgLegal (off : Nat) (f : FieldRow) (v : Nat) : Bool :=
  (match f.rule with
    | .legal rs => rs.any fun r => r.1 ≤ v && v ≤ r.2
    | .even lo hi => lo ≤ v && v ≤ hi && v % 2 == 0
    | _ => true) && !reservedEnc off f.lsb v

/-- A word of a run obeys R412: the register holds an "img" field, the bits of other fields are zero, no encoding is
reserved. -/
def wordOk (off word : Nat) : Bool :=
  match findReg off with
  | none => false
  | some row =>
    let fs := row.fields.filter fun f => f.img
    !fs.isEmpty && natAndNot word (fs.foldl (fun a f => a + (2 ^ f.width - 1) * 2 ^ f.lsb) 0) == 0 &&
      fs.all fun f => imgLegal off f (bitsOf word f.lsb f.width)

/-! ### The fixed records (R413) -/

/-- HOSTCFG. -/
def hostCfgOk (b : List Byte) : Bool := 16 ≤ b.length && 30 ≤ imgNum b 4 1 && imgNum b 4 1 ≤ 37 && imgZero b 5 11

/-- The number of bytes of the power tables. -/
def powerLen (b : List Byte) : Nat := 8 + 8 * (imgNum b 0 1 + imgNum b 1 1)

/-- Step `k` of the power tables. -/
def powerStep (b : List Byte) (k : Nat) : PwrStep :=
  let o := 8 + 8 * k
  let x := imgNum b o 1
  { ch := x % 8, on := natBit x 3, pg := natBit x 4, tmo := imgNum b (o + 1) 1, dly := imgNum b (o + 2) 2 }

/-- The up and the down table. -/
def powerTables (b : List Byte) : List PwrStep × List PwrStep :=
  let n := imgNum b 0 1
  ((List.range n).map (powerStep b), (List.range (imgNum b 1 1)).map fun k => powerStep b (n + k))

/-- The power tables obey R413. -/
def powerOk (b : List Byte) : Bool :=
  let nup := imgNum b 0 1
  let ndn := imgNum b 1 1
  1 ≤ nup && nup ≤ 16 && 1 ≤ ndn && ndn ≤ 16 && imgZero b 2 6 && powerLen b ≤ b.length &&
    (List.range (nup + ndn)).all fun k =>
      imgNum b (8 + 8 * k) 1 < 32 && 1 ≤ imgNum b (9 + 8 * k) 1 && imgZero b (12 + 8 * k) 4

/-- The firmware record. -/
def firmwareOk (b : List Byte) : Bool :=
  16 ≤ b.length && imgNum b 4 4 ≤ 3 * 2 ^ 19 && imgZero b 8 8 && b.length == 16 + cdiv (imgNum b 4 4) 4 * 4 && imgNum b 0 4 < imgNum b 4 4

/-- The run body of a section: what follows its fixed record. -/
def runBody (x : Sect) : List Byte :=
  if x.ty = 1 then x.body.drop 16 else if x.ty = 4 then x.body.drop (powerLen x.body) else if x.ty = 5 then [] else x.body

/-- The words of a section's runs. -/
def sectRuns (x : Sect) : List (Nat × Nat) := (parseRuns (runBody x).length 0 (runBody x)).getD []

/-- The resources a section claims. -/
def sectClaims (x : Sect) : List Nat := if x.ty = 8 then claimsOf x.idx (sectRuns x) else []

/-- Step 6 of R415 for one section. -/
def scopeOk (x : Sect) : Bool :=
  let rec1 := if x.ty = 1 then hostCfgOk x.body else if x.ty = 4 then powerOk x.body else if x.ty = 5 then firmwareOk x.body else true
  rec1 && (parseRuns (runBody x).length 0 (runBody x)).isSome &&
    (sectRuns x).all fun r => inScope x.ty x.idx (sectClaims x) r.1 r.2 && wordOk r.1 r.2

end Machine
end Sys2Proof
end

