-- ==== Sys2Proof/Machine/ImageApply.lean ====
section
/-!
DEFINITION. Applying the sections of an image (R412, R418, R419 step 3, R423, R424): the "img" fields of a section's scope take
the values of its runs, and what depends on them follows.
-/
namespace Sys2Proof
namespace Machine

/-! ### Fields with Reset "img" -/

/-- Is a key of the register file that of an "img" field? -/
def imgKey (key : Nat) : Bool :=
  match findReg (key / 32 * 4) with
  | none => false
  | some row => row.fields.any fun f => f.img && key % 32 == f.lsb

/-- The "img" fields at the offsets of an area read zero. -/
def clearImg (area : Nat → Bool) (e : Eng) : Eng :=
  let keep (p : Nat × Nat) : Bool := !(area (p.1 / 32 * 4) && imgKey p.1)
  { e with regs := e.regs.filter keep, act := e.act.filter keep, img := e.img.filter keep }

/-- Registers whose active values change otherwise than by a load of their section: loop shadows (R419) and timing sets
(R300). -/
def loadsLater (off : Nat) : Bool := (0x300100 ≤ off && off < 0x300300) || (0x908100 ≤ off && off < 0x908140)

/-- The value that a field takes from an image: as a write of it would be limited. -/
def imgValue (off : Nat) (f : FieldRow) (v : Nat) : Nat :=
  match f.rule with
  | .clamp lo hi => clampNat lo hi v
  | .low k => v / 2 ^ k * 2 ^ k
  | _ =>
    if 0x101000 ≤ off ∧ off < 0x103000 ∧ off % 32 = 12 then min 819 v
    else if 0x301100 ≤ off ∧ off < 0x302000 ∧ f.lsb = 0 then max 1 v
    else if 0x301100 ≤ off ∧ off < 0x302000 then toField 16 (clampInt (-10000) 10000 (signed 16 v))
    else v

/-- Store one word of a run in the "img" fields of its register. -/
def storeRun (e : Eng) (r : Nat × Nat) : Eng :=
  match findReg r.1 with
  | none => e
  | some row => (row.fields.filter fun f => f.img).foldl (fun a f =>
      let x := rowFld row r.1 f
      let v := imgValue r.1 f (bitsOf r.2 f.lsb f.width)
      let b := { a with img := rfSet a.img x v }
      if loadsLater r.1 then b.wr x v else b.wrBoth x v) e

/-! ### Sections -/

/-- The configuration registers of a resource, at window offsets. -/
def resourceArea (ids : List Nat) (off : Nat) : Bool :=
  0x500000 ≤ off && (match resourceAt (off - 0x500000) with
    | some i => ids.contains i
    | none => false)

/-- The private registers of the window of context `n` that a TC section fills. -/
def tcArea (n off : Nat) : Bool := tcScope n [] off n && (claimAt (off - ctxWin n)).isNone && off - ctxWin n != 0x15004

/-- Apply the registers of a TC section (R412, R423): the resources it does not claim lose their owner. -/
def applyTc (x : Sect) (e : Eng) : Eng :=
  let n := x.idx
  let runs := sectRuns x
  let claims := claimsOf n runs
  let lost := indicesWhere 208 fun i => e.rd (TRIG_OWN_CTX i) == n && !claims.contains i
  let e1 := clearImg (fun off => tcArea n off || resourceArea (claims ++ lost) off) e
  let e2 := claims.foldl (fun a i => a.wrBoth (TRIG_OWN_CTX i) n) (lost.foldl (fun a i => a.wrBoth (TRIG_OWN_CTX i) 7) e1)
  let init := ((runs.find? fun r => r.1 == ctxWin n + 0x15004).map (·.2)).getD 0
  let flags (ids : List Nat) : Nat := maskOf 16 fun f => ids.contains (0xC0 + f)
  let fi := natAndNot (e2.rd TRIG_FLG_INIT_INIT) (flags (claims ++ lost)) + (init &&& flags claims)
  let plain := runs.filter fun r => (claimAt (r.1 - ctxWin n)).isNone && r.1 != ctxWin n + 0x15004
  let e3 := lost.foldl (fun a i => setEmpty i a) (plain.foldl storeRun (e2.wrBoth TRIG_FLG_INIT_INIT fi))
  e3.wrBoth (TRIG_CTX_INFO_EXISTS n) (if x.en then 1 else 0)

/-- Apply the registers of a section. -/
def applySect (e : Eng) (x : Sect) : Eng :=
  if x.ty = 8 then applyTc x e
  else (sectRuns x).foldl storeRun (clearImg (fun off => inScope x.ty x.idx [] off 0 && off != 0x908004) e)

/-- What is kept of a section in force. -/
def Sect.info (x : Sect) : SectInfo := ⟨x.ty, x.idx, x.en, x.chk, x.demand⟩

/-- No image: every "img" field reads zero (R421). -/
def clearImage (e : Eng) : Eng := { clearImg (fun _ => true) e with cf := {} }

/-- CMP_MAP_n of an image without a CMP section: no tile of region `n` has a lane (R246). -/
def noLanes (e : Eng) (n : Nat) : Eng :=
  let none8 := 2 ^ 32 - 1
  { e with img := rfSet e.img (CMP_MAP_LANE n) none8 }.wrBoth (CMP_MAP_LANE n) none8

/-- The registers and tables of a full image: every section is replaced; MEM_BIN_STAT.CUR stays in force. -/
def applyFull (ss : List Sect) (e : Eng) : Eng :=
  let e1 := clearImg (fun off => off != 0x908004) e
  let e2 := (List.range 208).foldl (fun a i => a.wrBoth (TRIG_OWN_CTX i) 7) e1
  let e3 := ss.foldl applySect (if ss.any fun x => x.ty == 9 then e2 else (List.range 16).foldl noLanes e2)
  let t := match ss.find? fun x => x.ty == 4 with
    | some x => powerTables x.body
    | none => ([], [])
  { e3 with cf := { e3.cf with sects := ss.map Sect.info, up := t.1, down := t.2 } }

/-- The registers of one tile's section: it replaces the one in force. -/
def applyOne (x : Sect) (e : Eng) : Eng :=
  let e1 := applySect e x
  { e1 with cf := { e1.cf with sects := (e1.cf.sects.filter fun y => !(y.ty == x.ty && y.idx == x.idx)) ++ [x.info] } }

/-! ### What depends on the sections -/

/-- The demand sum of a stage (R418). -/
def demandSum (ss : List SectInfo) (n : Nat) : Nat := (ss.map fun x => x.demand.getD n 0).sum

/-- Show the demand sums and BUDGET; MIN of the affected stages starts again at 100 (R36, R418). -/
def budgetShow (affected : Nat → Bool) (e : Eng) : Eng :=
  (List.range 16).foldl (fun a n =>
    let s := demandSum e.cf.sects n
    let b := (a.wr (CFG_DEMAND_SUM n) s).wrBoth (GLB_SLK_MARGIN_BUDGET n) (100 - cdiv s 10)
    if affected n then b.wr (GLB_SLK_MARGIN_MIN n) 100 else b) e

/-- KIND, FORM, BASE and SIZE of a region. -/
def regionShape (e : Eng) (n : Nat) : List Nat :=
  [regionKind e n, regionForm e n, e.rd (ACC_CREG_BASE_LINE n), e.rd (ACC_CREG_SIZE_LINES n)]

/-- A region that no image defines holds nothing. -/
def dropRegion (n : Nat) (e : Eng) : Eng :=
  let e1 := ((e.wr (ACC_CREG_POS_WPTR n) 0).wr (ACC_CREG_GS_GEN n) 0).wr (ACC_CREG_GS_SEQ n) 0
  let e2 := ((e1.wr (ACC_CREG_STAT_HVALID n) 0).wr (ACC_CREG_STAT_FULL_NOW n) 0).wr (ACC_CREG_STAT_FROZEN_NOW n) 0
  (e2.setRg n {}).modKr n fun _ => {}

/-- Clear every region whose KIND, FORM, BASE or SIZE has changed (R419 step 3). -/
def clearChanged (before e : Eng) : Eng :=
  (List.range 16).foldl (fun a n =>
    if regionShape before n = regionShape e n then a
    else if regionKind e n = 0 then dropRegion n a
    else clearRegion n a) e

/-- The Aqurn ports follow ROLE (R144, R146): a master aligns downstream, a member both ways. -/
def aqlRole (before e : Eng) : Eng :=
  let r := e.rd TIME_AQL_CTRL_ROLE
  if before.rd TIME_AQL_CTRL_ROLE = r then e
  else timeShow (({ e with aq := {} }.wr (portState true) (if r = 0 then 0 else 1)).wr (portState false) (if r = 2 then 1 else 0))

/-- A steering source chosen by the image (R136, R138). -/
def steerMode (before e : Eng) : Eng :=
  if before.rd TIME_STEER_CFG_MODE = e.rd TIME_STEER_CFG_MODE then e else setSteer 0 TIME_EVT_PPS_IN e

/-- The bin changes under R301 when BIN differs (R419 step 3). -/
def binFollow (e : Eng) : Eng :=
  let b := e.rd MEM_BIN_CTRL_BIN
  if b = e.rd MEM_BIN_STAT_CUR ∨ e.on MEM_BIN_STAT_BUSY ∨ !e.on MEM_TRN_STAT_INIT_DONE then e
  else
    { e.wr MEM_BIN_STAT_BUSY 1 with
      mc := { e.mc with bin := some { bin := b, prev := e.rd MEM_BIN_STAT_CUR, prevNint := (loopActive e 5).nint, since := e.now } } }

/-- Start-up commits MPLL at once at MEM_BIN_CTRL.BIN (R466 step 5). -/
def binStart (e : Eng) : Eng :=
  let b := e.rd MEM_BIN_CTRL_BIN
  let e1 := setLoopActive 5 (loopShadow e 5) (loadTiming b (e.wr MEM_BIN_STAT_CUR b))
  startLoop 5 { loopShadow e1 5 with nint := binNint e1 b } e1

/-- Commit the clock plans of every loop except MPLL; in IDLE the loops of the front end stay OFF (R474). -/
def commitPlans (e : Eng) : Eng :=
  let e0 := { e with clk := { e.clk with plan := (List.range 8).map (loopShadow e) } }
  let e1 := [7, 0, 1, 2, 3, 4, 6].foldl (fun a n => startLoop n (loopShadow a n) a) e0
  if e1.rd PWR_STAT_STATE = 1 then loopsOff [0, 1, 2, 3, 4] e1 else e1

/-- The HOSTCFG record: subsystem identity and the size of BAR 2, at once at start-up, otherwise pending (R322, R323). -/
def hostCfg (start : Bool) (ss : List Sect) (e : Eng) : Eng :=
  match ss.find? fun x => x.ty == 1 with
  | none => e
  | some x =>
    let e1 := ((e.wr CS_SVID (imgNum x.body 0 2)).wr CS_SID (imgNum x.body 2 2)).wr HOST_BAR2_PEND (imgNum x.body 4 1)
    if start then e1.wr HOST_BAR2_LOG2 (imgNum x.body 4 1) else e1

/-- A tile that is not configured enters tile service and stays there (R424). -/
def pinTiles (e : Eng) : Eng :=
  (List.range 14).foldl (fun a k =>
    if a.on (CFG_TILE_INFO_CONF k) || a.inService k then a
    else { (a.wrBit GLB_TILE_SVC_REQ k true).wrBit GLB_TILE_SVC_STAT_ACT k true with
      md := { a.md with svcStart := putAt a.md.svcStart k (some a.ts) none } }) e

/-- Record the section of a tile: configured, source, sections applied, check word. -/
def tileInfo (k src : Nat) (x : Sect) (e : Eng) : Eng :=
  (((e.wr (CFG_TILE_INFO_CONF k) (if x.en || k == 14 then 1 else 0)).wr (CFG_TILE_INFO_SRC k) src).addWrap (CFG_TILE_INFO_GEN k) 1).wr
    (CFG_TILE_CHK_CHK k) x.chk

/-- Record the tiles of a full image; a tile without a section is not configured. -/
def tilesInfo (ss : List Sect) (e : Eng) : Eng :=
  (List.range 15).foldl (fun a k =>
    match ss.find? fun x => sectTile x.ty x.idx == some k with
    | some x => tileInfo k 0 x a
    | none => ((a.wr (CFG_TILE_INFO_CONF k) 0).wr (CFG_TILE_INFO_SRC k) 0).wr (CFG_TILE_CHK_CHK k) 0) e

/-- Step 3 of R419, or step 5 of R466 with its two exceptions: apply every section. -/
def applyImage (start : Bool) (ss : List Sect) (e : Eng) : Eng :=
  let e1 := budgetShow (fun _ => true) (showShared (applyFull ss e))
  let e2 := steerMode e (aqlRole e (hostCfg start ss e1))
  let e3 := (((e2.load CLK_LD_AN_EN).load CLK_LD_AN_LOOP).load CLK_LD_AN_WIN).wr CLK_LD_AN_DECL 0
  let e4 := commitPlans e3
  let e5 := if start then binStart e4 else clearChanged e (binFollow e4)
  let e6 := (List.range 4).foldl (fun a n => resetResources n a) e5
  pinTiles (tilesInfo ss { e6 with cf := { e6.cf with mism := 0 } })

/-- R423: apply the section of tile `k`, limited to the tile's scope. -/
def applyTile (k src : Nat) (x : Sect) (e : Eng) : Eng :=
  let old := e.cf.sects.find? fun y => y.ty == x.ty && y.idx == x.idx
  let touched (n : Nat) : Bool := x.demand.getD n 0 != 0 || (old.any fun y => y.demand.getD n 0 != 0)
  let e1 := budgetShow touched (applyOne x e)
  let e2 := if x.ty = 8 then resetIds (sectClaims x) e1
    else if x.ty = 11 then clearChanged e (binFollow (showShared e1))
    else e1
  tileInfo k src x { e2 with cf := { e2.cf with mism := clrNatBit e2.cf.mism k } }

end Machine
end Sys2Proof
end

