-- ==== Sys2Proof/Machine/ImageCheck.lean ====
section
/-!
DEFINITION. Checking an image (R415, R416, R418, R423): the steps in their order, each with its code and the directory index of
the failure.
-/
namespace Sys2Proof
namespace Machine

/-! ### The structure (step 7: R416) -/

/-- First and last line plus one of a region; none where KIND is NONE. -/
def regionSpan (e : Eng) (n : Nat) : Option (Nat × Nat) :=
  if regionKind e n = 0 then none else some (e.rd (ACC_CREG_BASE_LINE n), e.rd (ACC_CREG_BASE_LINE n) + e.rd (ACC_CREG_SIZE_LINES n))

/-- The lines of a context's Catalogue (R199). -/
def catSpan (e : Eng) (n : Nat) : Option (Nat × Nat) :=
  let lg := e.rd (TRIG_CAT_SIZE_LOG2 n)
  if lg = 0 then none else some (e.rd (TRIG_CAT_BASE_LINE n), e.rd (TRIG_CAT_BASE_LINE n) + 2 ^ lg / 8)

/-- Do two spans share a line? -/
def spansMeet (a b : Option (Nat × Nat)) : Bool :=
  match a, b with
  | some x, some y => x.1 < y.2 && y.1 < x.2
  | _, _ => false

/-- Regions obey R220, Catalogues lie outside them (R199). -/
def regionsOk (e : Eng) : Bool :=
  ((List.range 16).all fun n => regionKind e n == 0 ||
    (1024 ≤ e.rd (ACC_CREG_SIZE_LINES n) && e.rd (ACC_CREG_SIZE_LINES n) ≤ 2 ^ 29 &&
      e.rd (ACC_CREG_BASE_LINE n) + e.rd (ACC_CREG_SIZE_LINES n) ≤ 2 ^ 29)) &&
  ((List.range 16).all fun n => (List.range n).all fun k => !spansMeet (regionSpan e k) (regionSpan e n)) &&
  ((List.range 4).all fun n =>
    (e.rd (TRIG_CAT_SIZE_LOG2 n) == 0 || (3 ≤ e.rd (TRIG_CAT_SIZE_LOG2 n) && e.rd (TRIG_CAT_SIZE_LOG2 n) ≤ 24)) &&
    ((catSpan e n).all fun x => x.2 ≤ 2 ^ 29) && (List.range 16).all fun k => !spansMeet (catSpan e n) (regionSpan e k))

/-- Every ACC_KEEP_CTRL_n with EN = 1 obeys R59. -/
def keepsOk (e : Eng) : Bool :=
  (List.range 16).all fun n => !e.on (ACC_KEEP_CTRL_EN n) || (regionKind e n == 1 && regionKind e (e.rd (ACC_KEEP_CTRL_DEST n)) == 3)

/-- A section of a type is in force with ENABLE = 1. -/
def typeOn (e : Eng) (ty : Nat) : Bool := e.cf.sects.any fun x => x.ty == ty && x.en

/-- Scratch owners obey R307; the result block, the run output and the cursor lie in their partitions. -/
def scratchOk (e : Eng) : Bool :=
  ((List.range 32).all fun b => if 28 ≤ b then e.rd (SCR_BANK_OWN_OWN b) == 7 else e.rd (SCR_BANK_OWN_OWN b) ≤ 5) &&
  inPartition e 1 (e.rd FE_ES_BASE_OFFS) 32800 &&
  (e.rd TRIG_RR_OUTLEN_LEN == 0 || inPartition e 2 (e.rd TRIG_RR_OUT_OFFS) (32 * e.rd TRIG_RR_OUTLEN_LEN)) &&
  (!typeOn e 10 || inPartition e 4 (e.rd VIT_CUR_IMG_OFFS * 2 ^ 14) (2 ^ 14))

/-- MEM_FAB_RSV_p obeys R33. -/
def fabOk (e : Eng) : Bool :=
  rsvSum e ≤ 1024 && (List.range 6).all fun p =>
    e.rd (MEM_FAB_RSV_RSV_REQ p) ≤ e.rd (MEM_FAB_RSV_MAX_REQ p) && e.rd (MEM_FAB_RSV_MAX_REQ p) ≤ 1024 &&
      (p < 4 || 8 ≤ e.rd (MEM_FAB_RSV_RSV_REQ p))

/-- Every resource, retro term and branch of an existing context passes R175 and R186; at least one context exists; groups
are at most 64 wide. -/
def triggersOk (e : Eng) : Bool :=
  ((List.range 4).any (ctxExists e)) && ((List.range 32).all fun g => e.rd (TRIG_GRP_INFO_WIDTH g) ≤ 64) &&
  (List.range 4).all fun n => !ctxExists e n ||
    (((commitIds e n none).all fun i => commitWhy e n (commitIds e n none) i == 0) &&
      allBranches.all fun b => branchWhy e n b.1 b.2 == 0)

/-- CMP_MAP names a lane for every pair of a FORM 2 region and a tile with a channel in it, and for no other (R246). Without
a CMP section there may be no such pair. -/
def mapOk (e : Eng) : Bool :=
  let present := e.cf.sects.any fun x => x.ty == 9
  (List.range 16).all fun n => (List.range 8).all fun t =>
    let need := regionForm e n == 2 && regionMask e n t != 0
    if present then (if need then laneOf e n t < 8 else laneOf e n t == 15) else !need

/-- Clock plans, the timing set of the bin, latency targets. -/
def plansOk (e : Eng) : Bool :=
  ((List.range 8).all fun n => loopLegal e n (loopShadow e n)) && e.on (MEM_TIM_C_VALID (e.rd MEM_BIN_CTRL_BIN)) &&
  (List.range 6).all fun p => 100 ≤ e.rd (MEM_QOS_TARGET_NS p)

/-- R416 on the state that would result from the load. -/
def consistent (e : Eng) : Bool :=
  regionsOk e && keepsOk e && scratchOk e && fabOk e && triggersOk e && mapOk e && plansOk e

/-- No resource is claimed by two contexts; `e` is the state before the load. -/
def claimsOk (full : Bool) (e : Eng) (ss : List Sect) : Bool :=
  let all := ss.flatMap fun x => (sectClaims x).map fun i => (i, x.idx)
  (all.all fun a => all.all fun b => a.1 != b.1 || a.2 == b.2) &&
    (full || all.all fun a => 4 ≤ e.rd (TRIG_OWN_CTX a.1) || e.rd (TRIG_OWN_CTX a.1) == a.2)

/-- The state that the load of sections would give, as far as R416 and R418 look at it. -/
def loaded (full : Bool) (ss : List Sect) (e : Eng) : Eng := if full then applyFull ss e else ss.foldl (fun a x => applyOne x a) e

/-- Steps 7 and 8 of R415. -/
def structureCheck (full : Bool) (ss : List Sect) (e : Eng) : Checked Unit := do
  let r := loaded full ss e
  pass (claimsOk full e ss && consistent r) 7 0
  pass ((List.range 16).all fun n => demandSum r.cf.sects n ≤ 850) 8 0

/-- The first section that fails a test, in directory order. -/
def eachSect (ss : List Sect) (code : Nat) (ok : Sect → Bool) : Checked Unit :=
  match ss.find? fun x => !ok x with
  | some x => .error (code, x.dir)
  | none => .ok ()

/-- A body's CRC-32C equals CHK. -/
def sectCrcOk (x : Sect) : Bool := crc32c x.body == x.chk

/-! ### The whole check -/

/-- The bytes of an image source that the check reads; whether a block of the header, or of the whole, cannot be corrected;
the bytes of the slot or package. -/
structure ImageSrc where
  bytes : List Byte
  head : Bool
  media : Bool
  space : Nat
  deriving DecidableEq, Repr

/-- Does a block of a slot's bytes `off ..< off + n` not correct (R401)? -/
def slotBad (m : Mems) (x off n : Nat) : Bool :=
  m.vltBad.any fun b => vltSlot x + off < (b + 1) * 64 && b * 64 < vltSlot x + off + n

/-- The image in a Vault slot (R400, R401): as many bytes as its header says. -/
def slotSrc (m : Mems) (x : Nat) : ImageSrc :=
  let n := max 128 (min (slotLength m x) (2 ^ 24))
  ⟨memRead m.vlt (vltSlot x) n, slotBad m x 0 128, slotBad m x 0 n, 2 ^ 24⟩

/-- The tile package in capture memory (R422). -/
def packSrc (e : Eng) (m : Mems) : ImageSrc :=
  let a := e.rdq CFG_PKG_ADDR
  let n := e.rd CFG_PKG_LEN_LEN
  let r := capBytes e m a n
  ⟨r.1, (capBytes e m a (min 128 n)).2, r.2, n⟩

/-- The directory: every entry obeys R410, the set R411 (`tile` none: a full image). -/
def directory (b : List Byte) (tile : Option Nat) : Checked (List Sect) := do
  let n := imgNum b 6 2
  pass (1 ≤ n && n ≤ 64) 2 0
  match (List.range n).find? fun k => !entryOk b n k with
  | some k => .error (2, k)
  | none => pure ()
  let ss := (List.range n).map (dirEntry b)
  pass (match tile with
    | none => setOk ss
    | some k => packOk k ss) 2 0
  pure ss

/-- R415: a whole image against the state `e`. -/
def checkImage (e : Eng) (src : ImageSrc) (tile : Option Nat) : Checked Image := do
  let b := src.bytes
  pass (!src.head) 9 0
  pass (128 ≤ b.length && headerOk (if tile.isNone then 0 else 1) src.space e.nv.rev b) 1 0
  pass (!src.media) 9 0
  let ss ← directory b tile
  eachSect ss 3 sectCrcOk
  pass (signatureOk e b) 4 0
  pass (e.nv.lc == 0 || e.nv.minver ≤ imgNum b 16 4) 5 0
  eachSect ss 6 scopeOk
  structureCheck tile.isNone ss e
  pure ⟨imgNum b 12 4, imgNum b 16 4, imgNum b 28 8, ss⟩

/-- R423, SRC = 0: the section of tile `k` in a slot's image under steps 3, 6, 7 and 8. -/
def checkSlotSect (e : Eng) (src : ImageSrc) (k : Nat) : Checked Sect := do
  let b := src.bytes
  let n := imgNum b 6 2
  pass (!src.media) 9 0
  match ((List.range n).map (dirEntry b)).find? fun x => sectTile x.ty x.idx == some k with
  | none => .error (2, 0)
  | some x =>
    pass (sectCrcOk x) 3 x.dir
    pass (scopeOk x) 6 x.dir
    structureCheck false [x] e
    pure x

end Machine
end Sys2Proof
end

