-- ==== Sys2Proof/Machine/Load.lean ====
section
/-!
DEFINITION. Loading an image (R419 to R426): the commands LOAD, TILE_LOAD and READBACK_SCAN; choosing the slot, falling back to
slot F, ending without an image, loading Curator's firmware.
-/
namespace Sys2Proof
namespace Machine

/-! ### Choosing a slot -/

/-- The slot that a full load chooses: BOOT_SLOT; in DECOMMISSIONED only F is loaded (R432). -/
def loadSlot (e : Eng) : Nat := if e.nv.lc = 4 then 0 else e.nv.srec.bootSlot

/-- Steps 2 and 3 of R419 on slot `x`: TRIAL or CONFIRMED (R403), checked under R415, and every body re-read as it was checked;
`bad` lists the (slot, directory index) of bodies whose re-read does not match. Code 0: the slot may not be chosen. -/
def trySlot (x : Nat) (bad : List (Nat × Nat)) (e : Eng) (m : Mems) : Checked Image := do
  pass (slotState e x == 3 || slotState e x == 4) 0 0
  let i ← checkImage e (slotSrc m x) none
  match bad.find? fun b => b.1 == x && decide (b.2 < i.sects.length) with
  | some b => .error (11, b.2)
  | none => pure i

/-- R420: FAIL_WHY and FAIL_SECT; a TRIAL slot becomes BAD and BOOT_SLOT returns to PREV. -/
def slotFailed (x : Nat) (why : Nat × Nat) (m : Mems) (e : Eng) : Eng :=
  let e1 := if why.1 = 0 then e else (e.wr CFG_STATUS_FAIL_WHY why.1).wr CFG_STATUS_FAIL_SECT why.2
  if slotState e1 x = 3 then revert x 5 false m e1 else e1

/-! ### Firmware (R384, R413, R419) -/

/-- The CURATOR section of a slot, when its CRC-32C holds. -/
def firmwareOf (m : Mems) (x : Nat) : Option Sect :=
  let s := slotSrc m x
  let n := imgNum s.bytes 6 2
  if s.media then none
  else (((List.range n).map (dirEntry s.bytes)).find? fun y => y.ty == 5).filter fun y => sectCrcOk y && firmwareOk y.body

/-- Curator RAM is loaded with the firmware of the running slot, or of slot F; without one Curator runs from its boot ROM. -/
def loadFirmware (m : Mems) (e : Eng) : Eng :=
  let x := e.rd CUR_STAT_RUN_SLOT
  let f := if x = 3 then none else (firmwareOf m x).or (firmwareOf m 0)
  match f with
  | some y => (e.emit (.ram 0 (imgBytes y.body 16 (imgNum y.body 4 4)))).modCu fun k => { k with rom := false }
  | none => e.modCu fun k => { k with rom := true }

/-! ### Ends of a full load -/

/-- The image of slot `x` is in force (R419 steps 3 to 5; at start-up Curator is started by R466); `fell`: F in place of the chosen slot (R420). -/
def imageActive (start fell : Bool) (x : Nat) (i : Image) (e : Eng) : Eng :=
  let e1 := applyImage start i.sects e
  let e2 := (((e1.wr CFG_IMG_VER_VER i.ver).wr CFG_IMG_SECVER_VER i.sec).wrq CFG_IMG_ID i.id).wr CUR_STAT_RUN_SLOT x
  let e2 := if start then e2 else curRestart 4 e2
  let e3 := (((e2.wr CFG_STATUS_STATE 2).wr CFG_STATUS_ACT_SLOT x).wrb CFG_STATUS_DEFAULTED fell).wr CFG_STATUS_MODIFIED 0
  let e4 := if slotState e3 x = 3 then
      (e3.modCu fun k => { k with trialEnd := some (e3.now + e3.nv.srec.trialSec * tps) }).wr CUR_STAT_TRIAL 1
    else e3
  let e5 := if fell then e4.raise CFG_EVT_DEFAULTED else e4
  ((e5.modCu fun k => { k with rom := false }).raise CFG_EVT_LOADED).postCur 3 0 [BitVec.ofNat 8 x, if fell then 1 else 0]

/-- R421: no image: every "img" field reads zero, the loops are in bypass, Curator runs from its boot ROM. The power tables
that ran stay with the sequencer. -/
def imageNone (e : Eng) : Eng :=
  let t := (e.cf.up, e.cf.down)
  let e1 := loopsOff (List.range 8) (clearImage e)
  let e2 := tilesInfo [] { e1 with cf := { e1.cf with up := t.1, down := t.2 } }
  let e3 := (((e2.wr CFG_STATUS_STATE 0).wr CFG_STATUS_ACT_SLOT 3).wr CUR_STAT_RUN_SLOT 3).wr CFG_STATUS_MODIFIED 0
  e3.modCu fun k => { k with rom := true }

/-- The load falls back to slot F, or ends without an image. -/
def loadFactory (start : Bool) (bad : List (Nat × Nat)) (m : Mems) (e : Eng) : Eng :=
  match trySlot 0 bad e m with
  | .ok i => imageActive start true 0 i e
  | .error w => imageNone (slotFailed 0 w m e)

/-- Steps 2, 3 and 5 of a full load of a slot, with the fallback of R420. -/
def loadImage (start : Bool) (x : Nat) (bad : List (Nat × Nat)) (m : Mems) (e : Eng) : Eng :=
  match trySlot x bad e m with
  | .ok i => imageActive start false x i e
  | .error w =>
    let e1 := slotFailed x w m e
    if x = 0 then imageNone e1 else loadFactory start bad m e1

/-! ### LOAD -/

/-- The conditions of R419. -/
def loadAccepts (e : Eng) : Bool :=
  e.rd GLB_MODE_STAT_CUR == 0 && !e.on GLB_MODE_STAT_BUSY && e.rd CFG_STATUS_STATE != 1 && !e.on CFG_TILE_STAT_BUSY &&
  !e.on SEC_LC_STAT_BUSY

/-- A tile load ends (R422, R423). -/
def tileEnd (err sect : Nat) (e : Eng) : Eng :=
  (((((e.wr CFG_TILE_STAT_ERR err).wr CFG_TILE_STAT_SECT sect).addWrap CFG_TILE_STAT_GEN 1).wr CFG_TILE_STAT_VALID 1).wr
    CFG_TILE_STAT_BUSY 0).raise CFG_EVT_TILE_END

/-- The channels of DMA stop after their current descriptors (R345, first row). -/
def dmaStopAll (e : Eng) : Eng := (List.range 8).foldl (fun a c => dmaDisable c a) e

/-- R419: a full load of BOOT_SLOT. -/
def fullLoad (bad : List (Nat × Nat)) (e : Eng) (m : Mems) : Eng :=
  if !loadAccepts e then e.wr CFG_STATUS_FAIL_WHY 10
  else
    let e1 := guarCheck (dmaStopAll (e.wr CFG_STATUS_STATE 1))
    guarCheck (scanRecheck (powerPolicy (loopsShow (loadImage false (loadSlot e) bad m e1))))

/-- LOAD (R419 to R421): `bad` as for `trySlot`; `both`: the same write asks for a tile load, which is refused (R426). -/
def execLoad (bad : List (Nat × Nat)) (both : Bool) (s : State) : Result :=
  onMem s fun e m => fullLoad bad (if both then tileEnd 10 0 e else e) m

/-! ### TILE_LOAD -/

/-- A package lies in capture memory, outside every region with EN = 1 and every Catalogue (R422). -/
def packageOk (e : Eng) : Bool :=
  let a := e.rdq CFG_PKG_ADDR
  let n := e.rd CFG_PKG_LEN_LEN
  let span := some (a / 256, cdiv (a + n) 256)
  a + n ≤ 2 ^ 37 && ((List.range 16).all fun r => !e.on (ACC_CREG_CFG_EN r) || !spansMeet span (regionSpan e r)) &&
    (List.range 4).all fun c => !spansMeet span (catSpan e c)

/-- The conditions of R422; a life-cycle change ends the load (R426). -/
def tileAccepts (e : Eng) : Bool :=
  !e.on CFG_TILE_STAT_BUSY && e.rd CFG_STATUS_STATE == 2 && e.inService (e.rd CFG_CMD_TILE) && !e.on SEC_LC_STAT_BUSY &&
  (!e.on CFG_CMD_SRC || packageOk e)

/-- The section of a tile load that passes every check (R423); `bad`: the re-read before applying does not match. -/
def tileSection (bad : Bool) (e : Eng) (m : Mems) : Checked Sect := do
  let k := e.rd CFG_CMD_TILE
  let x ← if e.on CFG_CMD_SRC then
      (do
        let i ← checkImage e (packSrc e m) (some k)
        match i.sects with
        | x :: _ => pure x
        | [] => .error (2, 0))
    else checkSlotSect e (slotSrc m (e.rd CUR_STAT_RUN_SLOT)) k
  pass (!bad) 11 x.dir
  pure x

/-- A package is read through port CUR (R261). -/
def packRead (e : Eng) (m : Mems) : Eng :=
  if e.on CFG_CMD_SRC then linesNoted 4 m (capLines (e.rdq CFG_PKG_ADDR) (e.rd CFG_PKG_LEN_LEN)) e else e

/-- R422 to R424. -/
def tileLoad (bad : Bool) (e : Eng) (m : Mems) : Eng :=
  let k := e.rd CFG_CMD_TILE
  let src := e.rd CFG_CMD_SRC
  if !tileAccepts e then tileEnd 10 0 e
  else match tileSection bad e m with
    | .error w => tileEnd w.1 (if src = 1 then 0 else w.2) (packRead e m)
    | .ok x =>
      let e1 := (applyTile k src x (packRead e m)).wr CFG_STATUS_MODIFIED 1
      guarCheck (scanRecheck (powerPolicy (loopsShow (tileEnd 0 (if src = 1 then 0 else x.dir) e1))))

/-- TILE_LOAD. -/
def execTileLoad (bad : Bool) (s : State) : Result := onMem s (tileLoad bad)

/-! ### READBACK_SCAN -/

/-- A scan unit whose recomputed CRC differs (R425). -/
def scanMismatch (e : Eng) (u : Nat) : Eng :=
  let e1 := (e.addSat CFG_SCAN_CNT_CNT 1).wr CFG_SCAN_LAST_UNIT u
  let e2 := { e1 with cf := { e1.cf with mism := setNatBit e1.cf.mism u } }
  if e2.on CFG_EVT_SCAN then e2.postEv CFG_EVT_SCAN 0 [] else e2.raise CFG_EVT_SCAN

/-- READBACK_SCAN (R425): `bad` is the set of units whose live storage no longer matches. -/
def readbackScan (bad : Nat) (e : Eng) : Eng :=
  if e.rd CFG_STATUS_STATE ≠ 2 then e else guarCheck ((indicesWhere 16 (natBit bad)).foldl scanMismatch e)

/-- READBACK_SCAN. -/
def execReadbackScan (bad : Nat) (s : State) : Result := onEng s (readbackScan bad)

end Machine
end Sys2Proof
end

