-- ==== Sys2Proof/Machine/Mailbox.lean ====
section
/-!
DEFINITION. The mailbox of Curator (R397 to R399) and the update of slots (R403, R404): the commands INFO, SLOT_INFO, UPD_BEGIN,
UPD_WRITE, UPD_CHECK, UPD_COMMIT, UPD_CONFIRM, BOOT_SELECT, LDG_NOTE and CURATOR_RESUME. Each of the first nine is a write of
CUR_MBX_CMD with GO and that OP.
-/
namespace Sys2Proof
namespace Machine

/-- Word `k` of a request. -/
def MbxReq.word (r : MbxReq) (k : Nat) : Nat := r.words.getD k 0

/-- A slot is out of the life-cycle state's reach: slot F outside MANUFACTURE, every slot in DECOMMISSIONED (R403, R432). -/
def slotDenied (e : Eng) (x : Nat) : Bool := (x == 0 && e.nv.lc != 0) || e.nv.lc == 4

/-- The protected fallback: while a slot is TRIAL, PREV (R404). -/
def slotProtected (e : Eng) (x : Nat) : Bool := (trialSlot e).isSome && e.nv.srec.prev == x

/-- A header field of the image in a slot; zero where the slot holds no checked image. -/
def slotField (e : Eng) (m : Mems) (x off : Nat) : Nat := if slotState e x ≤ 1 then 0 else leNat (memRead m.vlt (vltSlot x + off) 4)

/-- INFO. -/
def mbxInfo (r : MbxReq) (e : Eng) : Eng :=
  let v := if e.cu.rom then 0 else ((e.cf.sects.find? fun x => x.ty == 5).map (·.chk)).getD 0
  mbxAnswer r.seq 0 [(Config.firmwareVersion v).toNat, e.nv.srec.boot % 2 ^ 16,
    e.rd CUR_STAT_RUN_SLOT + 4 * e.rd CUR_STAT_BOOT_SLOT] e

/-- SLOT_INFO. -/
def mbxSlotInfo (r : MbxReq) (e : Eng) (m : Mems) : Eng :=
  let x := r.word 0
  if 2 < x then mbxAnswer r.seq 2 [] e
  else mbxAnswer r.seq 0 [slotState e x, slotField e m x 8, slotField e m x 12, slotField e m x 16] e

/-- UPD_BEGIN. -/
def mbxBegin (r : MbxReq) (e : Eng) (m : Mems) : Eng :=
  let x := r.word 0
  if 2 < x then mbxAnswer r.seq 2 [] e
  else if x = e.rd CUR_STAT_RUN_SLOT ∨ slotProtected e x then mbxAnswer r.seq 4 [] e
  else if slotDenied e x then mbxAnswer r.seq 10 [] e
  else mbxAnswer r.seq 0 [] (setSlot x 1 m e)

/-- The source of an UPD_WRITE overlaps a region with EN = 1 or a Catalogue during an acquisition mode. -/
def sourceBusy (e : Eng) (a n : Nat) : Bool :=
  let span := some (a / 256, cdiv (a + n) 256)
  e.inAcq && ((List.range 16).any (fun k => e.on (ACC_CREG_CFG_EN k) && spansMeet span (regionSpan e k)) ||
    (List.range 4).any fun c => spansMeet span (catSpan e c))

/-- UPD_WRITE: the source is read through the CUR port; a poisoned source writes nothing. -/
def mbxWrite (r : MbxReq) (e : Eng) (m : Mems) : Eng :=
  let x := r.word 0
  let off := r.word 1
  let a := r.word 2 + 2 ^ 32 * r.word 3
  let n := r.word 4
  if 2 < x ∨ off % 4 ≠ 0 ∨ a % 256 ≠ 0 ∨ n % 4 ≠ 0 ∨ 2 ^ 24 < off + n then mbxAnswer r.seq 2 [] e
  else if slotState e x ≠ 1 then mbxAnswer r.seq 3 [] e
  else if 2 ^ 37 < a + n ∨ sourceBusy e a n then mbxAnswer r.seq 5 [] e
  else if slotDenied e x then mbxAnswer r.seq 10 [] e
  else
    let p := portBytes curPort a n e m
    if p.2.2 then mbxAnswer r.seq 6 [] p.1 else mbxAnswer r.seq 0 [] (p.1.emit (.vlt (vltSlot x + off) p.2.1))

/-- The status of a failed check (R415). -/
def checkStatus (code : Nat) : Nat := if code = 4 then 8 else if code = 5 then 9 else 7

/-- UPD_CHECK. -/
def mbxCheck (r : MbxReq) (e : Eng) (m : Mems) : Eng :=
  let x := r.word 0
  if 2 < x then mbxAnswer r.seq 2 [] e
  else if slotState e x ≠ 1 then mbxAnswer r.seq 3 [] e
  else if slotDenied e x then mbxAnswer r.seq 10 [] e
  else match checkImage e (slotSrc m x) none with
    | .ok _ => mbxAnswer r.seq 0 [] (setSlot x 2 m e)
    | .error w => mbxAnswer r.seq (checkStatus w.1) (if checkStatus w.1 = 7 then [w.2] else []) (setSlot x 5 m e)

/-- UPD_COMMIT. -/
def mbxCommit (r : MbxReq) (e : Eng) (m : Mems) : Eng :=
  let x := r.word 0
  let trial := r.word 1 % 2 == 1
  let secs := if r.word 2 = 0 then 600 else r.word 2
  if 2 < x ∨ (trial ∧ (secs < 60 ∨ 86400 < secs)) then mbxAnswer r.seq 2 [] e
  else if slotState e x ≠ 2 then mbxAnswer r.seq 3 [] e
  else if slotDenied e x then mbxAnswer r.seq 10 [] e
  else
    let e1 := if trial then recWrite (fun k => { k with prev := k.bootSlot, trialSec := secs }) e else e
    mbxAnswer r.seq 0 [] (setSlot x (if trial then 3 else 4) m (setBoot x e1))

/-- UPD_CONFIRM. -/
def mbxConfirm (r : MbxReq) (e : Eng) (m : Mems) : Eng :=
  match trialSlot e with
  | none => mbxAnswer r.seq 3 [] e
  | some x => mbxAnswer r.seq 0 [] (((setSlot x 4 m e).modCu fun k => { k with trialEnd := none }).wr CUR_STAT_TRIAL 0)

/-- BOOT_SELECT. -/
def mbxBoot (r : MbxReq) (e : Eng) : Eng :=
  let x := r.word 0
  if 2 < x then mbxAnswer r.seq 2 [] e
  else if x ≠ 0 ∧ slotState e x ≠ 4 then mbxAnswer r.seq 3 [] e
  else mbxAnswer r.seq 0 [] (setBoot x e)

/-- LDG_NOTE: the causes that wait are written first; a note that RATE suppresses has no entry, and its SEQ is a free
value. -/
def mbxNote (r : MbxReq) (e : Eng) : Eng :=
  let w := r.word 0
  let data := leBytes 4 (r.word 1) ++ leBytes 2 (r.word 2)
  let e1 := ldgSecondCheck (ldgDrain 512 e)
  let e2 := ldgService (e1.post (7 * 2 ^ 29 + w % 2 ^ 16) (w / 2 ^ 16 % 4) data)
  if e2.ldg.suppressed = e1.ldg.suppressed then mbxAnswer r.seq 0 [(e2.rd CUR_LDG_NEXT_SEQ + 2 ^ 32 - 1) % 2 ^ 32] e2
  else mbxAnswer r.seq 0 [e2.freeVal 32] e2.drawn

/-- The operations of R398. -/
def mbxOps : List Nat := [0x01, 0x02, 0x10, 0x11, 0x12, 0x13, 0x14, 0x15, 0x20]

/-- Operations that the boot ROM serves (R421). -/
def romOps : List Nat := [0x01, 0x02, 0x10, 0x11, 0x12, 0x13, 0x15]

/-- Curator performs a request and answers it. -/
def mbxPerform (r : MbxReq) (e : Eng) (m : Mems) : Eng :=
  if !mbxOps.contains r.op then mbxAnswer r.seq 1 [] e
  else if e.cu.rom ∧ !romOps.contains r.op then mbxAnswer r.seq 10 [] e
  else match r.op with
    | 0x01 => mbxInfo r e
    | 0x02 => mbxSlotInfo r e m
    | 0x10 => mbxBegin r e m
    | 0x11 => mbxWrite r e m
    | 0x12 => mbxCheck r e m
    | 0x13 => mbxCommit r e m
    | 0x14 => mbxConfirm r e m
    | 0x15 => mbxBoot r e
    | _ => mbxNote r e

/-- The source lines of an UPD_WRITE must wait in the fabric. -/
def mbxWaits (r : MbxReq) (e : Eng) : Bool :=
  r.op == 0x11 && r.word 4 ≤ 2 ^ 24 &&
    (capLines (r.word 2 + 2 ^ 32 * r.word 3) (r.word 4)).any fun l => memWaits curPort l false e

/-- A write of CUR_MBX_CMD with GO (R397): ignored while BUSY; answered at once while Curator is halted; while it does not
run the request waits (R405). -/
def mbxGo (op seq : Nat) (e : Eng) (m : Mems) : Eng :=
  let e1 := (e.wr CUR_MBX_CMD_OP op).wr CUR_MBX_CMD_SEQ seq
  if e.on CUR_MBX_STAT_BUSY then e1
  else
    let r : MbxReq := { op := op % 256, seq := seq % 256, words := (List.range 16).map fun k => e.rd (CUR_MBX_REQ_ARG k) }
    let e2 := (e1.wr CUR_MBX_STAT_VALID 0).wr CUR_MBX_STAT_BUSY 1
    if e.on CUR_STAT_HALTED then mbxAnswer r.seq 12 [] e2
    else if !curRuns e ∨ mbxWaits r e then e2.modCu fun k => { k with mbx := some r }
    else mbxPerform r e2 m

/-- INFO. -/
def execInfo (seq : Nat) (s : State) : Result := onMem s (mbxGo 0x01 seq)

/-- SLOT_INFO. -/
def execSlotInfo (seq : Nat) (s : State) : Result := onMem s (mbxGo 0x02 seq)

/-- UPD_BEGIN. -/
def execUpdBegin (seq : Nat) (s : State) : Result := onMem s (mbxGo 0x10 seq)

/-- UPD_WRITE. -/
def execUpdWrite (seq : Nat) (s : State) : Result := onMem s (mbxGo 0x11 seq)

/-- UPD_CHECK. -/
def execUpdCheck (seq : Nat) (s : State) : Result := onMem s (mbxGo 0x12 seq)

/-- UPD_COMMIT. -/
def execUpdCommit (seq : Nat) (s : State) : Result := onMem s (mbxGo 0x13 seq)

/-- UPD_CONFIRM. -/
def execUpdConfirm (seq : Nat) (s : State) : Result := onMem s (mbxGo 0x14 seq)

/-- BOOT_SELECT. -/
def execBootSelect (seq : Nat) (s : State) : Result := onMem s (mbxGo 0x15 seq)

/-- LDG_NOTE. -/
def execLdgNote (seq : Nat) (s : State) : Result := onMem s (mbxGo 0x20 seq)

/-- A request that waits is answered now that Curator runs: RESTARTED where a restart has interrupted it (R405). -/
def mbxPending (e : Eng) (m : Mems) : Eng :=
  match e.cu.mbx with
  | none => e
  | some r => if !curRuns e then e else if r.cut then mbxAnswer r.seq 11 [] e else if mbxWaits r e then e else mbxPerform r e m

/-- The multiplier of every stack follows its reading again (R286). -/
def multFollow (e : Eng) : Eng :=
  (List.range 4).foldl (fun a s => if a.on (CUR_TEMP_VALID (8 + s)) then stackTemp s (tempOf a (8 + s)) a else a) e

/-- CURATOR_RESUME (R384, R385, R405): a restart completes: the firmware is loaded, Curator runs, writes its RESTART entry and
answers the request that waits. -/
def curatorResume (e : Eng) (m : Mems) : Eng :=
  if !e.cu.restarting then e
  else
    let e1 := ((loadFirmware m e).modCu fun k => { k with restarting := false }).wr CUR_STAT_RUN 1
    let e2 := e1.postCur 1 2 [BitVec.ofNat 8 (e1.rd CUR_STAT_WHY), BitVec.ofNat 8 (e1.rd CUR_STAT_RESTARTS)]
    mbxPending (guarCheck (multFollow e2)) m

end Machine
end Sys2Proof
end

