-- ==== Sys2Proof/Machine/Security.lean ====
section
/-!
DEFINITION. The security block (R427 to R449): the commands PROVISION, TRANSITION, KEY_LOAD, KEY_ERASE, SEAL_GEN, SEAL_USE,
RAISE_MINVER, DBG_AUTH, DBG_CLOSE, DBG_OPEN, TAMPER_ACK, NONCE, TOKEN_LOCKOUT_END, RNG_HEALTH_FAIL, RNG_HEALTH_RESTORED and
DEBUG_SESSION_EXPIRY. Each of the first twelve is a write of SEC_CMD with GO and that OP.
-/
namespace Sys2Proof
namespace Machine

/-! ### How a command runs (R448, R354) -/

/-- A command ends: ERR, GEN, VALID, BUSY, CMD_DONE. -/
def secEnd (err : Nat) (e : Eng) : Eng :=
  let e1 := (((e.wr SEC_CMD_STAT_ERR err).addWrap SEC_CMD_STAT_GEN 1).wr SEC_CMD_STAT_VALID 1).wr SEC_CMD_STAT_BUSY 0
  powerCheck (e1.raise SEC_EVT_CMD_DONE)

/-- A write of SEC_CMD with GO: ignored while BUSY; TRICKLE is left for the duration of the command (R447). -/
def secGo (op slot : Nat) (f : Eng → Eng) (e : Eng) : Eng :=
  let e1 := (e.wr SEC_CMD_OP op).wr SEC_CMD_SLOT slot
  if e.on SEC_CMD_STAT_BUSY then e1 else f (powerCheck ((e1.wr SEC_CMD_STAT_VALID 0).wr SEC_CMD_STAT_BUSY 1))

/-- A command in which sessions may end: a Curator that runs again answers the request that waits. -/
def onSec (s : State) (f : Eng → Mems → Eng) : Result :=
  onMem s fun e m => mbxPending (f e m) (m.applyAll (f e m).wq)

/-! ### Tokens (R435, R436) -/

/-- Bytes `lo ..< lo + n` of SEC_BUF, and the number they hold. -/
def bufAt (e : Eng) (lo n : Nat) : List Byte := ((bufBytes e).drop lo).take n
def bufNat (e : Eng) (lo n : Nat) : Nat := leNat (bufAt e lo n)

/-- Is the signature at `lo + n` over SEC_BUF bytes `0 ..< n` made with a key? -/
def bufSigned (e : Eng) (key : List Byte) (n : Nat) : Bool := ecdsaVerify key (sha384 (bufAt e 0 n)) (bufAt e n 96)

/-- Fields of a token. -/
def tokenArg (e : Eng) : Nat := bufNat e 5 1
def tokenSecs (e : Eng) : Nat := bufNat e 48 4

/-- The checks of R435 in order: 0, or the ERR of the first that fails. `slot`: the key slot that the command requires. -/
def tokenErr (e : Eng) (purpose : Nat) (argOk : Bool) (slot : Nat) : Nat :=
  if bufNat e 0 4 ≠ 0x4B545754 ∨ bufNat e 4 1 ≠ purpose ∨ !argOk then 4
  else if bufNat e 8 8 ≠ e.nv.serial then 4
  else if bufAt e 16 32 ≠ nonceBytes e then 5
  else if bufNat e 6 1 ≠ slot then 7
  else match slotKey e slot with
    | none => 7
    | some key => if bufSigned e key 56 then 0 else 6

/-- Token commands are refused (R436). -/
def tokenLocked (e : Eng) : Bool :=
  match e.se.lockUntil with
  | some t => e.now < t
  | none => false

/-- After a token check: a new nonce; a failure locks token commands for 1 s and is counted, the 16th is a detection of
AUTH; a pass clears the count. -/
def tokenAfter (err : Nat) (e : Eng) : Eng :=
  let e1 := newNonce e
  if err = 0 then e1.wr SEC_DBG_STAT_FAIL 0
  else
    let e2 := e1.modSe fun x => { x with lockUntil := some (e1.now + tps) }
    let n := e2.rd SEC_DBG_STAT_FAIL + 1
    if n = 16 then tamperDetect 4 (e2.wr SEC_DBG_STAT_FAIL 0) else e2.wr SEC_DBG_STAT_FAIL n

/-- A command that needs a token: refused while locked; checked; performed when it passes. -/
def withToken (purpose : Nat) (argOk : Bool) (slot : Nat) (f : Eng → Eng) (e : Eng) : Eng :=
  if tokenLocked e then secEnd 10 e
  else
    let err := tokenErr e purpose argOk slot
    if err = 0 then f (tokenAfter 0 e) else secEnd err (tokenAfter err e)

/-! ### Life cycle (R427 to R430) -/

/-- The modes of R429. -/
def transModeOk (e : Eng) : Bool := e.rd GLB_MODE_STAT_CUR == 0 && !e.on GLB_MODE_STAT_BUSY

/-- Steps 3 and 4 of R429: `moved` gives the bytes each DMA channel had moved when it was stopped. -/
def transStart (target : Nat) (moved : List Nat) (m : Mems) (e : Eng) : Eng :=
  let e1 := sessionEnd (e.wr SEC_LC_STAT_BUSY 1)
  let e2 := if 3 ≤ target then (List.range 8).foldl (fun a c => dmaAbort c (moved.getD c 0) a m) e1 else e1
  (wipeFor target m e2).modSe fun x => { x with trans := some (target, e.rd SEC_CMD_OP) }

/-- A sealing key is generated in a slot (R438): the private key is a free value, the slot shows its public key. -/
def genSeal (slot : Nat) (e : Eng) : Eng :=
  let d := scalarOf (e.freeVal 512)
  (setKey slot (ecdsaPublic d) e.drawn).modNv fun v =>
    { v with keys := putAt v.keys (slot % 8) { v.keys.getD (slot % 8) {} with priv := d } {} }

/-- A sealing slot becomes active. -/
def useSeal (slot : Nat) (e : Eng) : Eng := keyShow (e.modNv fun v => { v with sealAct := slot })

/-- PROVISION (R430); a key that fails draws a new nonce (R429 step 2). -/
def provision (m : Mems) (e : Eng) : Eng :=
  let key := bufAt e 0 96
  if e.nv.lc ≠ 0 then secEnd 2 e
  else if !transModeOk e then secEnd 3 e
  else if !onCurve (beNat (key.take 48)) (beNat (key.drop 48)) then secEnd 7 (newNonce e)
  else if e.se.rngBad then secEnd 8 e
  else
    let e1 := (setKey 2 key e).modNv fun v => { v with rootHash := sha384 key, revoked := false }
    transStart 1 [] m (useSeal 5 (genSeal 5 e1))

/-- The life-cycle transitions of R428 that TRANSITION makes, with the slot that signs the token; none: no such transition.
From MANUFACTURE no token is needed. -/
def transSlot (lc target : Nat) : Option Nat :=
  if (lc = 1 ∧ target = 2) ∨ ((lc = 1 ∨ lc = 2) ∧ (target = 3 ∨ target = 4)) then some 2
  else if lc = 3 ∧ target = 4 then some 1
  else none

/-- TRANSITION (R428, R429). -/
def transition (moved : List Nat) (m : Mems) (e : Eng) : Eng :=
  if e.nv.lc = 0 then (if transModeOk e then transStart 4 moved m e else secEnd 3 e)
  else
    let target := tokenArg e
    match transSlot e.nv.lc target with
    | none => secEnd 2 e
    | some k => if !transModeOk e then secEnd 3 e else withToken 1 true k (transStart target moved m) e

/-- PROVISION. -/
def execProvision (slot : Nat) (s : State) : Result := onSec s fun e m => secGo 1 slot (provision m) e

/-- TRANSITION. -/
def execTransition (slot : Nat) (moved : List Nat) (s : State) : Result :=
  onSec s fun e m => secGo 2 slot (transition moved m) e

/-- The wipes of a transition are done (R429 steps 5 and 6): the fuses are burned, or the burn fails. -/
def transDone (fail : Bool) (e : Eng) : Eng :=
  match e.se.trans with
  | none => e
  | some (target, _) =>
    let e1 := e.modSe fun x => { x with trans := none }
    if fail then secEnd 9 (e1.wr SEC_LC_STAT_BUSY 0)
    else
      let old := e1.nv.lc
      let e2 := e1.modNv fun v => { v with lc := target, incomplete := false }
      let e3 := newNonce (((e2.wr SEC_LC_STAT_STATE target).wr SEC_LC_STAT_INCOMPLETE 0).wr SEC_LC_STAT_BUSY 0)
      let e4 := e3.raisePost SEC_EVT_LC_DONE 0 [BitVec.ofNat 8 old, BitVec.ofNat 8 target]
      secEnd 0 (if 3 ≤ target then curRestart 4 e4 else e4)

/-! ### Keys (R433, R434, R438) -/

/-- PROVISIONED or DEPLOYED. -/
def lcField (e : Eng) : Bool := e.nv.lc == 1 || e.nv.lc == 2

/-- The slots that KEY_LOAD and KEY_ERASE take. -/
def keySlotOk (k : Nat) : Bool := k == 3 || k == 4 || k == 7

/-- The checks of a key record (R433): 0, or the ERR of the first that fails. -/
def recordErr (e : Eng) : Nat :=
  let k := bufNat e 4 1
  let key := bufAt e 24 96
  if bufNat e 0 4 ≠ 0x524B5754 ∨ !keySlotOk k ∨ bufNat e 5 1 ≠ 2 then 4
  else if bufNat e 8 8 ≠ e.nv.serial ∧ bufNat e 8 8 ≠ 0 then 4
  else if bufNat e 16 4 ≤ (keySlot e k).kver then 7
  else if !onCurve (beNat (key.take 48)) (beNat (key.drop 48)) then 7
  else match slotKey e 2 with
    | none => 7
    | some root => if bufSigned e root 120 then 0 else 6

/-- KEY_LOAD. -/
def keyLoad (e : Eng) : Eng :=
  if !lcField e then secEnd 2 e
  else if recordErr e ≠ 0 then secEnd (recordErr e) e
  else
    let k := bufNat e 4 1
    let v := bufNat e 16 4
    secEnd 0 (setKey k (bufAt e 24 96) (e.modNv fun x => { x with keys := putAt x.keys (k % 8) { x.keys.getD (k % 8) {} with kver := v } {} }))

/-- KEY_LOAD. -/
def execKeyLoad (slot : Nat) (s : State) : Result := onSec s fun e _ => secGo 3 slot keyLoad e

/-- KEY_ERASE. -/
def keyErase (slot : Nat) (e : Eng) : Eng :=
  if !lcField e then secEnd 2 e
  else if !keySlotOk slot then secEnd 7 e
  else withToken 3 (tokenArg e == slot) 2 (fun a => secEnd 0 (setKey slot [] a)) e

/-- KEY_ERASE. -/
def execKeyErase (slot : Nat) (s : State) : Result := onSec s fun e _ => secGo 4 slot (keyErase (slot % 8)) e

/-- MANUFACTURE, PROVISIONED or DEPLOYED. -/
def lcSeals (e : Eng) : Bool := e.nv.lc ≤ 2

/-- SEAL_GEN. -/
def sealGen (slot : Nat) (e : Eng) : Eng :=
  if !lcSeals e then secEnd 2 e
  else if slot ≠ 5 ∧ slot ≠ 6 then secEnd 7 e
  else if slot = e.nv.sealAct then secEnd 2 e
  else if e.se.rngBad then secEnd 8 e
  else secEnd 0 (genSeal slot e)

/-- SEAL_GEN. -/
def execSealGen (slot : Nat) (s : State) : Result := onSec s fun e _ => secGo 5 slot (sealGen (slot % 8)) e

/-- SEAL_USE. -/
def sealUse (slot : Nat) (e : Eng) : Eng :=
  if !lcSeals e then secEnd 2 e
  else if (slot ≠ 5 ∧ slot ≠ 6) ∨ (slotKey e slot).isNone then secEnd 7 e
  else secEnd 0 (useSeal slot e)

/-- SEAL_USE. -/
def execSealUse (slot : Nat) (s : State) : Result := onSec s fun e _ => secGo 6 slot (sealUse (slot % 8)) e

/-- RAISE_MINVER. -/
def raiseMinver (e : Eng) : Eng :=
  if !lcField e ∨ e.on CFG_STATUS_DEFAULTED then secEnd 2 e
  else
    let v := e.rd CFG_IMG_SECVER_VER
    secEnd 0 (keyShow (e.modNv fun x => { x with minver := max x.minver v }))

/-- RAISE_MINVER. -/
def execRaiseMinver (slot : Nat) (s : State) : Result := onSec s fun e _ => secGo 7 slot raiseMinver e

/-! ### Debug sessions (R444, R445) -/

/-- The slot that signs a DEBUG token. -/
def debugSlot (e : Eng) : Nat := if e.nv.lc = 3 then 1 else if (slotKey e 7).isSome then 7 else 2

/-- A session opens. -/
def sessionOpen (scope secs : Nat) (e : Eng) : Eng :=
  let e1 := ((e.wr SEC_DBG_STAT_STATE 1).wr SEC_DBG_STAT_SCOPE scope).wr SEC_DBG_REMAIN_SEC secs
  (e1.modSe fun x => { x with dbgEnd := some (e.now + secs * tps) }).raise SEC_EVT_DBG_AUTH

/-- DBG_AUTH. -/
def dbgAuth (e : Eng) : Eng :=
  let scope := tokenArg e % 16
  let secs := tokenSecs e
  let e1 :=
    if e.nv.lc = 0 ∨ e.nv.lc = 4 then secEnd 2 e
    else withToken 2 (decide (1 ≤ secs ∧ secs ≤ 86400)) (debugSlot e) (fun a => secEnd 0 (sessionOpen scope secs a)) e
  if e1.rd SEC_CMD_STAT_ERR = 0 then e1 else e1.raise SEC_EVT_DBG_FAIL

/-- DBG_AUTH. -/
def execDbgAuth (slot : Nat) (s : State) : Result := onSec s fun e _ => secGo 8 slot dbgAuth e

/-- DBG_CLOSE. -/
def execDbgClose (slot : Nat) (s : State) : Result := onSec s fun e _ => secGo 9 slot (fun a => secEnd 0 (sessionEnd a)) e

/-- DBG_OPEN: every scope (R444). -/
def dbgOpen (e : Eng) : Eng :=
  if e.nv.lc ≠ 0 then secEnd 2 e else secEnd 0 ((e.wr SEC_DBG_STAT_STATE 2).wr SEC_DBG_STAT_SCOPE 15)

/-- DBG_OPEN. -/
def execDbgOpen (slot : Nat) (s : State) : Result := onSec s fun e _ => secGo 10 slot dbgOpen e

/-- DEBUG_SESSION_EXPIRY: REMAIN reaches 0. -/
def debugExpiry (e : Eng) : Eng :=
  match e.se.dbgEnd with
  | some t => sessionEnd (advanceTo t e)
  | none => e

/-- DEBUG_SESSION_EXPIRY. -/
def execDebugSessionExpiry (s : State) : Result := onSec s fun e _ => debugExpiry e

/-- The whole seconds left that SEC_DBG_REMAIN shows. -/
def dbgRemain (e : Eng) : Nat :=
  match e.se.dbgEnd with
  | some t => (t - e.now + tps - 1) / tps
  | none => 0

/-! ### Tamper acknowledge, nonce, random source (R436, R437, R442) -/

/-- LATCH and the SEEN bits are cleared. -/
def ackTamper (e : Eng) : Eng := ((e.wr SEC_TAMPER_STAT_LATCH 0).wr SEC_TAMPER_STAT_SEEN 0).wr CUR_TAMPER_SEEN 0

/-- TAMPER_ACK: `low` is the level of TAMPER_N. -/
def tamperAck (low : Bool) (e : Eng) : Eng :=
  let e1 := e.wrb CUR_TAMPER_LEVEL (!low)
  if e.nv.lc = 4 then secEnd 2 e1
  else if low then secEnd 11 e1
  else if e.nv.lc = 2 then withToken 4 (tokenArg e == 0) 2 (fun a => secEnd 0 (ackTamper a)) e1
  else secEnd 0 (ackTamper e1)

/-- TAMPER_ACK. -/
def execTamperAck (slot : Nat) (low : Bool) (s : State) : Result := onSec s fun e _ => secGo 11 slot (tamperAck low) e

/-- NONCE. -/
def execNonce (slot : Nat) (s : State) : Result :=
  onSec s fun e _ => secGo 12 slot (fun a => if a.se.rngBad then secEnd 8 a else secEnd 0 (newNonce a)) e

/-- TOKEN_LOCKOUT_END. -/
def lockoutEnd (e : Eng) : Eng :=
  match e.se.lockUntil with
  | some t => (advanceTo t e).modSe fun x => { x with lockUntil := none }
  | none => e

/-- TOKEN_LOCKOUT_END. -/
def execTokenLockoutEnd (s : State) : Result := onEng s lockoutEnd

/-- RNG_HEALTH_FAIL (R437). -/
def rngFail (e : Eng) : Eng :=
  (((e.modSe fun x => { x with rngBad := true }).wr SEC_RNG_STAT_OK 0).addSat SEC_RNG_STAT_FAILS 1).raise SEC_EVT_RNG_FAIL

/-- RNG_HEALTH_FAIL. -/
def execRngHealthFail (s : State) : Result := onEng s rngFail

/-- RNG_HEALTH_RESTORED. -/
def execRngHealthRestored (s : State) : Result :=
  onEng s fun e => (e.modSe fun x => { x with rngBad := false }).wr SEC_RNG_STAT_OK 1

end Machine
end Sys2Proof
end

