-- ==== Sys2Proof/Machine/BusRead.lean ====
section
/-!
DEFINITION. What a read of a word of BAR 0 returns, and the only side effects that reads have (R354): the read-to-reset fields,
the LO reads that latch HI, the reads that latch companion registers, and the latch of the event FIFO word.
-/
namespace Sys2Proof
namespace Machine

/-- TRIG_RR stands in the window of every context, existing or not (R200). -/
def rrOffset (w : Nat) : Bool := 0x60000 ≤ w && w < 0x60034

/-- The place of an offset inside the window of a context. -/
def winPlace (off : Nat) : Nat := (off - 0x500000) % 0x80000

/-- The word lies in the window of a context that does not exist, where a read returns 0 (R162); TRIG_CTX_INFO and TRIG_RR stand in
every window. -/
def deadWindow (off : Nat) (e : Eng) : Bool :=
  0x500000 ≤ off && off < 0x700000 && !ctxExists e ((off - 0x500000) / 0x80000) && winPlace off != 0 && !rrOffset (winPlace off)

/-- Is an offset a member of an array of registers: `n` of them from `base`, `stride` bytes apart? -/
def inArray (base stride n off : Nat) : Bool := base ≤ off && (off - base) % stride == 0 && (off - base) / stride < n

/-- A read of the word latches the word that follows it (the "LO latches HI" of the register tables; LAST and TIME_TS stand by
themselves). -/
def latchesNext (off : Nat) : Bool :=
  let w := winPlace off
  off == 0x400058 || inArray 0x300118 0x40 8 off || inArray 0x80040C 0x20 4 off || inArray 0x800414 0x20 4 off ||
  inArray 0xA02010 0x40 3 off || inArray 0xB03028 0x40 8 off || off == 0xC00824 ||
  (0x500000 ≤ off && off < 0x700000 &&
    (w == 0x10 || inArray 0x13014 0x40 32 w || inArray 0x14014 0x40 16 w || w == 0x40040 || w == 0x40058 || w == 0x40104 ||
     w == 0x4010C || w == 0x40114 || w == 0x60018))

/-- The number below `n` whose register stands at an offset. -/
def indexAt (n off : Nat) (f : Nat → Fld) : Option Nat := (List.range n).find? fun i => (f i).key / 32 * 4 == off

/-- The stored fields of a word as a read by a master returns them: a field that a read of its has latched as a companion reads
as it was then; MEM_QOS_MAX is no companion. -/
def storedWord (master off : Nat) (e : Eng) : Nat :=
  match findReg off with
  | none => 0
  | some row => row.fields.foldl (fun a f =>
      let g := rowFld row off f
      let v := if (indexAt 6 off MEM_QOS_MAX_NS).isSome then e.rd g else (latched e master g).getD (e.rd g)
      if f.ty = .wo then a else a + v * 2 ^ f.lsb) 0

/-- The word that a read of an offset by a master returns: the stored fields, and the fields that have no state of their own (R460,
R335, R445, R66). -/
def wordFor (master off : Nat) (e : Eng) : Nat :=
  if off = 0x610 then fltSum e
  else if off = 0xF0003C then dbgRemain e
  else if off = 0xB00104 then irqAsserted e % 2 ^ 32
  else if off = 0xB00108 then irqAsserted e / 2 ^ 32
  else if off = 0x400020 then e.ts % 2 ^ 32
  else if inArray 0x301004 0x400 4 off then
    let m := (off - 0x301004) / 0x400
    readWord off (if e.on (CLK_RAMP_CTRL_EN m) then e.wr (CLK_RAMP_STAT_SEG m) (rampPos e m).1 else e)
  else if inArray 0x101008 0x20 256 off then toField 24 (tipRead e ((off - 0x101008) / 0x20))
  else storedWord master off e

/-- The word that a read of an offset by a master returns, windows of contexts among them. -/
def busRead (master off : Nat) (e : Eng) : Nat :=
  if deadWindow off e then 0
  else if 0x500000 ≤ off ∧ off < 0x700000 ∧ (lastAt true off).isSome then
    lastHiRead ((off - 0x500000) / 0x80000) ((lastAt true off).getD 0) e
  else wordFor master off e

/-- Latch the fields of the word at an offset for a master. -/
def latchWord (master off : Nat) (e : Eng) : Eng :=
  match findReg off with
  | none => e
  | some row => row.fields.foldl (fun a f => latchFld master (rowFld row off f) a) e

/-- The side effects of a read of a word by a master (R354). -/
def readEffect (master off : Nat) (e : Eng) : Eng :=
  if deadWindow off e then e
  else if off = 0x400020 then tsRead master e
  else if 0xB01000 ≤ off ∧ off < 0xB01020 then evqRead e
  else if latchesNext off then latchWord master (off + 4) e
  else if 0x500000 ≤ off ∧ off < 0x700000 then
    (lastAt false off).elim e fun i => lastRead ((off - 0x500000) / 0x80000) i e
  else match indexAt 16 off ACC_CREG_POS_WPTR with
  | some n => cregPosRead master n e
  | none => match indexAt 6 off MEM_FAB_OUT_CUR with
  | some p => fabOutRead p e
  | none => match indexAt 8 off POD_PWR_STAT_PEAK_MA with
  | some p => pwrStatRead p e
  | none => match indexAt 6 off MEM_QOS_MAX_NS with
  | some p => qosMaxRead master p e
  | none => e

/-- A read of a word by a master: the value it returns, and what it leaves. The event FIFO word is formed by the read that returns
it (R340). -/
def wordRead (master off : Nat) (e : Eng) : Nat × Eng :=
  let e1 := readEffect master off e
  (busRead master off (if 0xB01000 ≤ off ∧ off < 0xB01020 then e1 else e), e1)

end Machine
end Sys2Proof
end

