-- ==== Sys2Proof/Machine/Access.lean ====
section
/-!
DEFINITION. Register accesses by offset and the debug port: the commands REGISTER_WRITE, BAR0_INVALID_ACCESS and LOCK_ALL (R7 to
R12, R327, R328, R483), and the instructions of the TAP (R443, R444).
-/
namespace Sys2Proof
namespace Machine

/-! ### Writes (R7 to R12, R309, R328) -/

/-- The bits of the bytes that a write enables (R327). -/
def beMask (be : Nat) : Nat := (List.range 4).foldl (fun a i => if natBit be i then a + 255 * 2 ^ (8 * i) else a) 0

/-- May a master (0 Curator, 1 host, 2 debug port) write the word at an offset? CUR_WIN belongs to Curator (R383); the debug port
needs scope REG and reaches of SEC only SEC_CMD with OP DBG_CLOSE (R444). -/
def writeRight (master off value : Nat) (e : Eng) : Bool :=
  (off != 0xD00014 || master == 0) &&
    (master != 2 || (e.bit SEC_DBG_STAT_SCOPE 0 && (off / 2 ^ 20 != 15 || (off == 0xF00008 && value % 16 == 9))))

/-- The state in which the block discards a write of the word: a resource, which RES_FIELD_WRITE writes; the window of a context that
does not exist (R162); TRIG_RR parameters of a run (R200); parameters of a job (R250); SEC_BUF while BUSY (R448). -/
def writeIdle (off : Nat) (e : Eng) : Bool :=
  let w := (off - 0x500000) % 0x80000
  let n := (off - 0x500000) / 0x80000
  let q := (off - 0x801000) / 0x100
  let r := (off - 0x801000) % 0x100
  if 0x500000 ≤ off ∧ off < 0x700000 then
    (ctxExists e n || rrOffset w) && !(0x10000 ≤ w && w < 0x16100) && !(0x60004 < w && w < 0x60018 && e.on TRIG_RR_STAT_BUSY) &&
      !(0x60020 ≤ w && w < 0x6002C && e.on TRIG_RR_STAT_BUSY)
  else if 0x801000 ≤ off ∧ off < 0x801400 ∧ r < 0x40 then
    let st := e.rd (CMP_JOB_STAT_STATE q)
    if st = 1 ∨ st = 2 then false else if st = 3 then 0x14 ≤ r && r < 0x20 else true
  else if 0xF00200 ≤ off ∧ off < 0xF00300 then !e.on SEC_CMD_STAT_BUSY
  else true

/-- R110: a write of BYP_DIV or FREQ_CEIL that would put the bypass clock above the ceiling. -/
def bypassHigh (before e : Eng) (n : Nat) : Bool :=
  let d := e.rd (CLK_LOOP_CFG_BYP_DIV n)
  let c := e.rd (CLK_LOOP_CEIL_FREQ_CEIL n)
  c * 2 ^ d < 1080 && (d < before.rd (CLK_LOOP_CFG_BYP_DIV n) || c < before.rd (CLK_LOOP_CEIL_FREQ_CEIL n))

/-- SEC_TAMPER_CFG.ACT keeps each ACT field that a write would lower, unless the life cycle is MANUFACTURE or a debug session has
scope TAMPER (R439). -/
def actWrite (before e : Eng) : Eng :=
  if e.nv.lc = 0 ∨ e.bit SEC_DBG_STAT_SCOPE 3 then e
  else
    e.wr SEC_TAMPER_CFG_ACT ((List.range 5).foldl (fun a s => a + max (tamperAct before s) (tamperAct e s) * 4 ^ s) 0)

/-- What follows a write of the word at once. -/
def afterWrite (master off value mask : Nat) (before e : Eng) : Eng :=
  let op := value % 16
  if 0x300100 ≤ off ∧ off < 0x300300 then
    (if bypassHigh before e ((off - 0x300100) / 0x40) then before.raise CLK_EVT_CMT_REJ else e)
  else if off = 0x300004 ∨ off = 0x400060 ∨ inArray 0x301000 0x400 4 off then loopsShow e
  else if off = 0x400004 ∧ natBit mask 0 ∧ 5 ≤ value % 8 then timeRej (e.wrEnc master TIME_CMD_OP (value % 8) false)
  else if off = 0x400100 then aqlRole before e
  else if off = 0x100408 then (List.range 8).foldl (fun a t => staleCheck t a) e
  else if off = 0x130 then powerCheck e
  else if off = 0x1000004 then powerPolicy e
  else if off = 0xF00020 then actWrite before e
  else if off = 0xF00080 then pubShow e
  else if off = 0xF00008 ∧ natBit mask 4 ∧ natBit value 4 ∧ (op = 0 ∨ 13 ≤ op) then secGo op (bitsOf value 8 3) (secEnd 1) e
  else e

/-- One access of 32 bits to the data window of scratch (R310) for each run of enabled bytes. -/
def windowWrite (master off value be : Nat) (e : Eng) (m : Mems) : Eng :=
  let a := e.rd SCR_HWIN_BASE * 2 ^ 19 + off % 2 ^ 19
  let bs := leBytes 4 value
  let one (e1 : Eng) (i n : Nat) : Eng :=
    scratchAccess ⟨8 + master, a + i, some ((bs.drop i).take n), n, []⟩ none e1 (m.applyAll e1.wq)
  if be % 16 = 15 then one e 0 4 else (List.range 4).foldl (fun x i => if natBit be i then one x i 1 else x) e

/-- REGISTER_WRITE: a master writes the enabled bytes of the word at an offset of BAR 0. -/
def regWrite (master off value be : Nat) (e : Eng) (m : Mems) : Eng :=
  let o := off / 4 * 4
  let atom := (o - 0xA02000) / 0x40
  if !writeRight master o value e then (if master = 1 then hostDeny e else e)
  else if 0xA80000 ≤ o ∧ o < 0xB00000 then windowWrite master o value be e m
  else if 0xA02000 ≤ o ∧ o < 0xA020C0 ∧ atom ≠ master then e.raise SCR_EVT_PRIV_ERR
  else if !writeIdle o e then e
  else
    let e1 := afterWrite master o value (beMask be) e (writeWord master o value (beMask be) e)
    if o = 0xD00100 ∧ natBit be 2 ∧ natBit value 16 ∧ !mbxOps.contains (value % 256) then
      mbxGo (value % 256) (value / 256 % 256) e1 m
    else guarCheck e1

/-- REGISTER_WRITE. -/
def execRegisterWrite (master off value be : Nat) (s : State) : Result := onSec s (regWrite master off value be)

/-- BAR0_INVALID_ACCESS (R327): a read completes with Unsupported Request, a write is discarded; either is counted. -/
def execBar0InvalidAccess (read : Bool) (s : State) : Result :=
  onEng s fun e =>
    let e1 := e.addSat HOST_DENY_CNT_CNT 1
    if read then e1.send (.cpl 1 [] false) else e1

/-- The LOCK bits of R483. -/
def lockBits : List Fld :=
  [GLB_GCTRL_LOCK, CLK_GCTRL_LOCK, TIME_GCTRL_LOCK, MEM_GCTRL_LOCK, HOST_GCTRL_LOCK, SEC_GCTRL_LOCK, SCR_GCTRL_LOCK, VIT_GCTRL_LOCK,
   CUR_GCTRL_LOCK, CFG_GCTRL_LOCK, PWR_GCTRL_LOCK]

/-- LOCK_ALL (R484): the eleven LOCK bits are set at one point. -/
def execLockAll (s : State) : Result := onEng s fun e => lockBits.foldl (fun a f => a.wr f 1) e

/-! ### The TAP (R443, R444) -/

/-- A TAP instruction: available in every state but OFF, where TDO is at high impedance (R447). -/
def onTap (s : State) (f : Eng → Mems → Eng) : Result := if s.eng.pw.off then .next s else applyMem s f

/-- The TAP holds an instruction. -/
def tapIr (code : Nat) (e : Eng) : Eng := { e with tap := { e.tap with ir := code } }

/-- Levels as a number, the first lowest. -/
def bitsNat : List Bool → Nat
  | [] => 0
  | b :: r => (if b then 1 else 0) + 2 * bitsNat r

/-- EXTEST, CLAMP and HIGHZ are available: scope BSCAN, in SERVICE. -/
def bscanOk (e : Eng) : Bool := e.bit SEC_DBG_STAT_SCOPE 2 && e.rd GLB_MODE_STAT_CUR == 0

/-- The instruction in effect: a boundary-scan instruction whose conditions no longer hold acts as BYPASS. -/
def tapInstr (e : Eng) : Nat := if (e.tap.ir = 3 ∨ e.tap.ir = 4 ∨ e.tap.ir = 5) ∧ !bscanOk e then 0xFF else e.tap.ir

/-- BYPASS: the one-bit register shifts out the 0 it captured. -/
def tapBypass (e : Eng) : Eng := (tapIr 0xFF e).send (.tdo 1 0)

/-- TAP_RESET: IDCODE is the instruction again; a debug session survives. -/
def execTapReset (s : State) : Result := onTap s fun e _ => { e with tap := {} }

/-- BYPASS. -/
def execBypass (s : State) : Result := onTap s fun e _ => tapBypass e

/-- The identity code. -/
def idcode (e : Eng) : Nat := e.nv.rev % 16 * 2 ^ 28 + 0x01600545

/-- IDCODE. -/
def execIdcode (s : State) : Result := onTap s fun e _ => (tapIr 1 e).send (.tdo 32 (idcode e))

/-- The boundary register captures the pins, is shifted out and takes new values. -/
def boundary (code : Nat) (pins load : List Bool) (e : Eng) : Eng :=
  let e1 := { e with tap := { e.tap with ir := code, bsr := load } }
  e1.send (.tdo pins.length (bitsNat pins))

/-- SAMPLE/PRELOAD: `pins` are the levels captured, `load` the values shifted in. -/
def execSamplePreload (pins load : List Bool) (s : State) : Result := onTap s fun e _ => boundary 2 pins load e

/-- EXTEST: the boundary values drive the outputs. -/
def execExtest (pins load : List Bool) (s : State) : Result :=
  onTap s fun e _ => if bscanOk e then boundary 3 pins load e else tapBypass e

/-- CLAMP: the boundary values drive the outputs; the bypass register is selected. -/
def execClamp (s : State) : Result :=
  onTap s fun e _ => if bscanOk e then (tapIr 4 e).send (.tdo 1 0) else tapBypass e

/-- HIGHZ: the outputs are in high impedance; the bypass register is selected. -/
def execHighz (s : State) : Result :=
  onTap s fun e _ => if bscanOk e then (tapIr 5 e).send (.tdo 1 0) else tapBypass e

/-- Curator is halted by the debug port (R445): the guarantee does not hold, and R385 applies. -/
def dapHalt (e : Eng) : Eng :=
  if e.on CUR_STAT_HALTED then e else guarCheck (multHold (e.wr SEC_DBG_STAT_CUR_HALT 1))

/-- Curator goes on. -/
def dapResume (e : Eng) : Eng :=
  if e.on SEC_DBG_STAT_CUR_HALT then guarCheck (multFollow (e.wr SEC_DBG_STAT_CUR_HALT 0)) else e

/-- An access of the debug port within its scopes (R444); outside them a read returns zero and a write is discarded. One
instruction of Curator has no effect that the rules describe. -/
def dapAccess (op : DapOp) (e : Eng) (m : Mems) : Eng :=
  let reg := e.bit SEC_DBG_STAT_SCOPE 0
  let cur := e.bit SEC_DBG_STAT_SCOPE 1
  match op with
  | .regRead off => if reg then (wordRead 2 (off / 4 * 4) e).2.send (.tdo 32 (wordRead 2 (off / 4 * 4) e).1) else e.send (.tdo 32 0)
  | .regWrite off v be =>
    let e1 := regWrite 2 off v be e m
    if off / 4 * 4 = 0xF00008 ∧ reg ∧ v % 16 = 9 ∧ natBit be 0 ∧ natBit v 4 then
      secGo 9 (bitsOf v 8 3) (fun a => secEnd 0 (sessionEnd a)) e1
    else e1
  | .scratch a => if reg then scratchAccess { a with who := 10 } none e m else e.send (.tdo (8 * a.len) 0)
  | .halt => if cur then dapHalt e else e
  | .step => e
  | .resume => if cur then dapResume e else e
  | .ramRead a n => e.send (.tdo (8 * n) (if cur ∧ a + n ≤ 2 ^ 21 then leNat (memRead m.ram a n) else 0))
  | .ramWrite a bs => if cur ∧ a + bs.length ≤ 2 ^ 21 then e.emit (.ram a bs) else e

/-- A TAP command in which sessions may end. -/
def onTapSec (s : State) (f : Eng → Mems → Eng) : Result :=
  onTap s fun e m => mbxPending (f e m) (m.applyAll (f e m).wq)

/-- DAP. -/
def execDap (op : DapOp) (s : State) : Result := onTapSec s fun e m => dapAccess op (tapIr 0x10 e) m

/-- SEC_BUF takes the 256 bytes of the chain (R443), unless a command runs (R448). -/
def chainBuf (bs : List Byte) (e : Eng) : Eng :=
  if e.on SEC_CMD_STAT_BUSY then e
  else (List.range 64).foldl (fun a w => a.wr (SEC_BUF_BYTES w) (leNat ((bs.drop (4 * w)).take 4))) e

/-- A use of the chain: of the OPs of SEC_CMD it starts DBG_AUTH and DBG_CLOSE. -/
def dapAuth (op : AuthOp) (e : Eng) : Eng :=
  match op with
  | .buf bs => chainBuf bs e
  | .nonce => e.send (.tdo 256 (leNat (nonceBytes e)))
  | .cmd 8 slot => secGo 8 slot dbgAuth e
  | .cmd 9 slot => secGo 9 slot (fun a => secEnd 0 (sessionEnd a)) e
  | .cmd _ _ => e

/-- DAP_AUTH: in DECOMMISSIONED it acts as BYPASS (R446). -/
def execDapAuth (op : AuthOp) (s : State) : Result :=
  onTapSec s fun e _ => if e.nv.lc = 4 then tapBypass e else dapAuth op (tapIr 0x11 e)

end Machine
end Sys2Proof
end

