-- ==== Sys2Proof/Machine/Vitrine.lean ====
section
/-!
DEFINITION. The display engine (R356 to R380): the commands TRAIN, LINK_TRAIN_DONE, HPD_IRQ, HPD_UNPLUG, HPD_PLUG, AUX_GO,
AUX_DONE, LATCH_POINT, TIMING_COMMIT, FLIP, RENDER, RENDER_STOP, RENDER_DONE, SCANOUT_LINE and DIRTY.
-/
namespace Sys2Proof
namespace Machine

/-! ### The link (R356 to R362) -/

/-- TRAIN (R359). -/
def execTrain (s : State) : Result := onEng s trainStart

/-- LINK_TRAIN_DONE (R359): training ends with a FAIL code, or with the levels in use, and the stream starts at the next frame
start; `psr`: the panel's DPCD reports self-refresh support. -/
def linkTrainDone (fail swing pre : Nat) (psr : Bool) (e : Eng) : Eng :=
  if !e.on VIT_LINK_STAT_BUSY then e
  else
    let e1 := (e.wr VIT_LINK_STAT_SWING swing).wr VIT_LINK_STAT_PREEMPH pre
    if fail % 8 ≠ 0 then trainFail fail e1
    else
      ((((auxRelease e1).wr VIT_LINK_STAT_BUSY 0).wr VIT_LINK_STAT_FAIL 0).wr VIT_STAT_LINK_UP 1).modVt fun v =>
        { v with lanes := 2 ^ e.rd VIT_LINK_CFG_LANES, rate := e.rd VIT_LINK_CFG_RATE, psrCap := psr, await := true }

/-- LINK_TRAIN_DONE. -/
def execLinkTrainDone (fail swing pre : Nat) (psr : Bool) (s : State) : Result := onEng s (linkTrainDone fail swing pre psr)

/-- HPD_IRQ (R360, R359): `lost`: the panel's link status shows lost lock. -/
def hpdIrq (lost : Bool) (e : Eng) : Eng :=
  let e1 := e.raise VIT_EVT_HPD_IRQ
  if lost && e.on VIT_LINK_CFG_AUTO then trainStart e1 else e1

/-- HPD_IRQ. -/
def execHpdIrq (lost : Bool) (s : State) : Result := onEng s (hpdIrq lost)

/-- HPD_UNPLUG (R360): during training it is FAIL 5. -/
def hpdUnplug (e : Eng) : Eng :=
  let e1 := ((e.wr VIT_HPD_STAT_PRESENT 0).wr VIT_HPD_STAT_LEVEL 0).wr VIT_STAT_LINK_UP 0
  let e2 := if e.on VIT_LINK_STAT_BUSY then trainFail 5 e1 else e1
  e2.raise VIT_EVT_HPD_PLUG

/-- HPD_UNPLUG. -/
def execHpdUnplug (s : State) : Result := onEng s hpdUnplug

/-- HPD_PLUG (R360, R359). -/
def hpdPlug (e : Eng) : Eng :=
  let e1 := ((e.wr VIT_HPD_STAT_PRESENT 1).wr VIT_HPD_STAT_LEVEL 1).raise VIT_EVT_HPD_PLUG
  if e.on VIT_LINK_CFG_AUTO then trainStart e1 else e1

/-- HPD_PLUG. -/
def execHpdPlug (s : State) : Result := onEng s hpdPlug

/-- The bytes of VIT_AUX_DATA. -/
def auxBytes (e : Eng) : List Byte := (List.range 4).flatMap fun j => leBytes 4 (e.rd (VIT_AUX_DATA_DATA j))

/-- The transaction that VIT_AUX_CMD and VIT_AUX_DATA describe. -/
def auxRequest (e : Eng) : OutMsg :=
  let op := e.rd VIT_AUX_CMD_OP
  let n := e.rd VIT_AUX_CMD_LEN + 1
  .aux op (e.on VIT_AUX_CMD_MOT) (e.rd VIT_AUX_CMD_ADDR) n (if op % 2 = 0 then (auxBytes e).take n else [])

/-- AUX_GO (R361): the transaction of VIT_AUX_CMD as it stands; during training it waits. -/
def auxGo (e : Eng) : Eng :=
  if e.on VIT_AUX_STAT_BUSY then e
  else
    let e1 := (e.wr VIT_AUX_STAT_BUSY 1).modVt fun v => { v with auxOp := e.rd VIT_AUX_CMD_OP, auxLen := e.rd VIT_AUX_CMD_LEN + 1 }
    if e.on VIT_LINK_STAT_BUSY then e1.modVt fun v => { v with auxWait := some (auxRequest e) } else e1.send (auxRequest e)

/-- AUX_GO. -/
def execAuxGo (s : State) : Result := onEng s auxGo

/-- Put bytes into VIT_AUX_DATA. -/
def auxStore (bs : List Byte) (e : Eng) : Eng :=
  let all := bs.take 16 ++ (auxBytes e).drop (min 16 bs.length)
  (List.range 4).foldl (fun a j => a.wr (VIT_AUX_DATA_DATA j) (leNat ((all.drop (4 * j)).take 4))) e

/-- AUX_DONE (R361): RESULT, and the bytes that an acknowledged read brought; a transaction that still waits cannot end. -/
def auxDone (result : Nat) (bs : List Byte) (e : Eng) : Eng :=
  if !e.on VIT_AUX_STAT_BUSY ∨ e.vt.auxWait.isSome then e
  else
    let e1 := if e.vt.auxOp % 2 = 1 ∧ result % 4 = 0 then auxStore (bs.take e.vt.auxLen) e else e
    ((((e1.wr VIT_AUX_STAT_RESULT result).addWrap VIT_AUX_STAT_GEN 1).wr VIT_AUX_STAT_VALID 1).wr VIT_AUX_STAT_BUSY 0).raise
      VIT_EVT_AUX_DONE

/-- AUX_DONE. -/
def execAuxDone (result : Nat) (bs : List Byte) (s : State) : Result := onEng s (auxDone result bs)

/-! ### Timing (R363, R364) -/

/-- The timing fields. -/
def timFields : List Fld :=
  [VIT_TIM_H0_ACT, VIT_TIM_H0_FP, VIT_TIM_H1_SYNC, VIT_TIM_H1_BP, VIT_TIM_H1_POL, VIT_TIM_V0_ACT, VIT_TIM_V0_FP,
    VIT_TIM_V1_SYNC, VIT_TIM_V1_BP, VIT_TIM_V1_POL, VIT_TIM_PCLK_KHZ, VIT_TIM_SLOW_VFP_EXT, VIT_TIM_SLOW_STATIC_N]

/-- Bits per pixel. -/
def bpp (e : Eng) : Nat := if e.on VIT_CTRL_BPC then 18 else 24

/-- The bits per second the trained link carries, times 0.8. -/
def linkRoom (e : Eng) : Nat := e.vt.lanes * (2000 * halfRate e.vt.rate) * 8 / 10

/-- The first check of R363 that fails; without a trained link, code 3 compares with nothing. -/
def timWhy (e : Eng) : Nat :=
  let act (f : Fld) : Bool := 64 ≤ e.rd f && e.rd f ≤ 4096
  let porch (f : Fld) : Bool := 1 ≤ e.rd f && e.rd f ≤ 4095
  let p := e.rd VIT_TIM_PCLK_KHZ
  if !(act VIT_TIM_H0_ACT && act VIT_TIM_V0_ACT && porch VIT_TIM_H0_FP && porch VIT_TIM_H1_SYNC && porch VIT_TIM_H1_BP &&
      porch VIT_TIM_V0_FP && porch VIT_TIM_V1_SYNC && porch VIT_TIM_V1_BP) then 1
  else if p < 25000 ∨ 600000 < p then 2
  else if e.on VIT_STAT_LINK_UP = true ∧ linkRoom e < p * 1000 * bpp e then 3
  else if e.vt.commit then 4
  else 0

/-- TIMING_COMMIT (R363, R364): with WHEN = 1 a black frame in the new timing starts at once. -/
def timingCommit (now : Bool) (e : Eng) : Eng :=
  let w := timWhy e
  if w ≠ 0 then (e.wr VIT_STAT_TIM_WHY w).raise VIT_EVT_TIM_REJ
  else if now then
    ((timFields.foldl Eng.load e).modVt fun v => { v with black := true, dirty := true }).raise VIT_EVT_TIM_DONE
  else (e.modVt fun v => { v with commit := true }).wr VIT_STAT_TIM_PEND 1

/-- TIMING_COMMIT. -/
def execTimingCommit (now : Bool) (s : State) : Result := onEng s (timingCommit now)

/-! ### Flips (R368, R369) -/

/-- The shadow fields of a layer: 0 TRACE, 1 OVERLAY, 2 CURSOR. -/
def layerFields (e : Eng) (k : Nat) : List Fld :=
  match k with
  | 0 => (if e.on VIT_TR_CFG_FOLLOW then [] else [VIT_TRL_CFG_SEL]) ++
      [VIT_TRL_ADDR_LO_ADDR 0, VIT_TRL_ADDR_HI_ADDR 0, VIT_TRL_ADDR_LO_ADDR 1, VIT_TRL_ADDR_HI_ADDR 1]
  | 1 => [VIT_OVL_ADDR_LO_ADDR, VIT_OVL_ADDR_HI_ADDR]
  | _ => [VIT_CUR_IMG_OFFS]

/-- Request a flip of one layer. -/
def flipLayer (k : Nat) (e : Eng) : Eng :=
  (e.addWrap (VIT_GEN_REQ k) 1).modVt fun v => { v with flips := putAt v.flips (k % 3) (v.flips.getD (k % 3) 0 + 1) 0 }

/-- FLIP (R368). -/
def flip (layers : Nat) (e : Eng) : Eng := (indicesWhere 3 (natBit layers)).foldl (fun a k => flipLayer k a) e

/-- FLIP. -/
def execFlip (layers : Nat) (s : State) : Result := onEng s (flip layers)

/-- The cursor image is copied from the Vitrine scratch partition (R367, R308). -/
def cursorLoad (e : Eng) (m : Mems) : Eng :=
  let a := e.rda VIT_CUR_IMG_OFFS * 16384
  if unitReaches e 4 a 16384 then
    let byte (i : Nat) : Byte := if idxMem m.scrPois ((a + i) / 8) then 0 else memGet m.scr (a + i)
    e.modVt fun v => { v with cursor := (List.range 16384).map byte }
  else partRefuse 4 a (e.modVt fun v => { v with cursor := [] })

/-- A layer's flips are latched at L. -/
def latchLayer (m : Mems) (k : Nat) (e : Eng) : Eng :=
  let n := e.vt.flips.getD (k % 3) 0
  if n = 0 then e
  else
    let e1 := (layerFields e k).foldl Eng.load e
    let e2 := if k = 2 then cursorLoad e1 m else e1
    let e3 := match k, e2.vt.followBuf with
      | 0, some b => (e2.wra VIT_TRL_CFG_SEL b).modVt fun v => { v with followBuf := none }
      | _, _ => e2
    (((e3.modVt fun v => { v with flips := putAt v.flips (k % 3) 0 0, dirty := true }).wr (VIT_GEN_RETIRE k) (e.rd (VIT_GEN_REQ k))).addSat
      VIT_FLIP_SKIP_CNT (n - 1)).raise VIT_EVT_FLIP

/-! ### Renders (R370 to R373) -/

/-- The byte address of a TRACE buffer. -/
def trlAddr (e : Eng) (b : Nat) : Nat := e.rdq (VIT_TRL_ADDR b)

/-- What a render accepted now would use. -/
def renderCfg (e : Eng) (buf left : Nat) (follow : Bool) : RenderSt :=
  { reg := e.rd VIT_TR_CFG_REG, left := left, tpp := e.rd VIT_TR_TPP_TICKS, buf := buf, addr := trlAddr e buf,
    stride := e.rd VIT_TRL_CFG_STRIDE * 256, hact := e.rda VIT_TIM_H0_ACT, vact := e.rda VIT_TIM_V0_ACT,
    hole := e.rd VIT_TR_CFG_HOLE,
    traces := (List.range 32).map fun k =>
      ⟨e.on (VIT_TR_A_EN k), e.rd (VIT_TR_A_CH k), e.rd (VIT_TR_A_COL k), e.rd (VIT_TR_B_Y k), max 4 (e.rd (VIT_TR_B_H k))⟩,
    follow := follow }

/-- The codes 1 and 2 of R372. -/
def renderErr (e : Eng) (r : RenderSt) : Nat :=
  let k := regionKind e r.reg
  if k = 0 ∨ k = 3 then 1
  else if r.tpp = 0 ∨ 2 ^ 37 < r.addr + (r.vact - 1) * r.stride + r.hact ∨
      (r.traces.any fun t => t.en && r.vact < t.y + t.h) then 2
  else 0

/-- A render is accepted; while the tile is in service it ends with TILE (R380). -/
def renderBegin (r : RenderSt) (e : Eng) : Eng :=
  let e1 := e.wr VIT_TR_STAT_VALID 0
  let c := if renderErr e r = 0 ∧ e.inService 13 = true then 4 else renderErr e r
  if c ≠ 0 then renderEnd r c 0 e1
  else (e1.modVt fun v => { v with render := some r }).wr VIT_TR_STAT_BUSY 1

/-- RENDER (R372): ignored while BUSY or while FOLLOW is 1. -/
def renderCmd (e : Eng) : Eng :=
  if e.on VIT_TR_STAT_BUSY || e.on VIT_TR_CFG_FOLLOW then e
  else renderBegin (renderCfg e (e.rd VIT_TR_CFG_TARGET) (e.rdq VIT_TR_LEFT) false) e

/-- RENDER. -/
def execRender (s : State) : Result := onEng s renderCmd

/-- RENDER_STOP (R372). -/
def execRenderStop (s : State) : Result := onEng s (renderStop 3)

/-- What a region says of one channel: its changes in order, and the intervals in which it is held or unreadable (R201). -/
structure TraceData where
  pts : List (Nat × Bool) := []
  holes : List (Nat × Nat) := []
  deriving DecidableEq, Repr

/-- What the lines of region `g` tell. -/
def regionFacts (e : Eng) (m : Mems) (g : Nat) : Facts :=
  readFacts e m g (e.rdq (ACC_CREG_HOR g)) (((e.getRg g).lastTick + 1) % 2 ^ 64) {} (srcLines e m g)

/-- The trace of a channel. -/
def traceOf (f : Facts) (ch : Nat) : TraceData :=
  ⟨f.puts.filterMap fun x => if x.tile = ch / 32 && natBit x.mask (ch % 32) then some (x.t, natBit x.bits (ch % 32)) else none,
    f.holds.filterMap fun h => if natBit h.tiles (ch / 32) then some (h.lo, h.hi) else none⟩

/-- The class of a column (R370). -/
inductive ColClass where
  | none
  | hole
  | edge
  | high
  | low
  deriving DecidableEq, Repr

/-- Class the column of ticks `a … b`, given relative to the region's horizon; `last` is its last written tick, likewise. -/
def colClass (d : TraceData) (hor : Nat) (last a b : Int) : ColClass :=
  let lo := if a < 0 then 0 else a
  let hi := if last < b then last else b
  let rel (t : Nat) : Int := tsDiff t hor
  if hi < lo then .none
  else if d.holes.any fun h => decide (rel h.1 ≤ hi) && (h.2 == 2 ^ 64 - 1 || decide (lo ≤ rel h.2)) then .hole
  else
    let before := (d.pts.filter fun p => decide (rel p.1 < lo)).getLast?.map (·.2)
    let inside := (d.pts.filter fun p => decide (lo ≤ rel p.1) && decide (rel p.1 ≤ hi)).map (·.2)
    let all := match before with
      | some v => v :: inside
      | none => inside
    match all with
    | [] => .low
    | v :: vs => if vs.any (· != v) then .edge else if v then .high else .low

/-- The index that a trace draws at a row, given its class; 0 where it draws nothing. -/
def bandIndex (hole : Nat) (t : TraceCfg) (c : ColClass) (y : Nat) : Nat :=
  let mid := t.y + 1 ≤ y && y ≤ t.y + t.h - 2
  match c with
  | .none => 0
  | .hole => if mid then hole else 0
  | .edge => if mid then t.col else 0
  | .high => if y = t.y + 1 then t.col else 0
  | .low => if y = t.y + t.h - 2 then t.col else 0

/-- The classes of a column for every enabled trace, with the trace. -/
def columnOf (e : Eng) (r : RenderSt) (ds : List (TraceCfg × TraceData)) (x : Nat) : List (TraceCfg × ColClass) :=
  let hor := e.rdq (ACC_CREG_HOR r.reg)
  let last : Int := if e.on (ACC_CREG_STAT_HVALID r.reg) then tsDiff (e.getRg r.reg).lastTick hor else -1
  let a := tsDiff ((r.left + x * r.tpp) % 2 ^ 64) hor
  ds.map fun p => (p.1, colClass p.2 hor last a (a + r.tpp - 1))

/-- The index of pixel (x, y): the band of the highest trace that covers the row wins (R371). -/
def pixelIndex (hole : Nat) (col : List (TraceCfg × ColClass)) (y : Nat) : Nat :=
  match (col.filter fun p => p.1.y ≤ y && y < p.1.y + p.1.h).getLast? with
  | some p => bandIndex hole p.1 p.2 y
  | none => 0

/-- What port VIT reads of the region for a render (R261, R372). -/
def renderReads (r : RenderSt) (m : Mems) (e : Eng) : Eng :=
  linesNoted 3 m (portLines e r.reg r.left ((r.left + r.hact * r.tpp + 2 ^ 64 - 1) % 2 ^ 64) (srcLines e m r.reg)) e

/-- RENDER_DONE (R370 to R373): the buffer is written and the render ends, while port VIT reaches capture memory; under FOLLOW the
flip is requested. -/
def renderDone (e : Eng) (m : Mems) : Eng :=
  match e.vt.render with
  | none => e
  | some r =>
    if !vitFlows e then e
    else
      let f := regionFacts e m r.reg
      let ds := (r.traces.filter fun t => t.en).map fun t => (t, traceOf f t.ch)
      let cols := (List.range r.hact).map (columnOf e r ds)
      let holes := (cols.filter fun c => c.any fun p => p.2 == .hole).length
      let e1 := (List.range r.vact).foldl (fun a y =>
        portStore 3 (r.addr + y * r.stride) (cols.map fun c => BitVec.ofNat 8 (pixelIndex r.hole c y)) a m) e
      let e2 := renderEnd r 0 holes e1
      let e3 := if r.buf = e.rda VIT_TRL_CFG_SEL then e2.modVt fun v => { v with dirty := true } else e2
      renderReads r m (if r.follow then flipLayer 0 (e3.modVt fun v => { v with followBuf := some r.buf }) else e3)

/-- RENDER_DONE. -/
def execRenderDone (s : State) : Result := onMem s renderDone

/-- Under FOLLOW a render begins at each L at which BUSY is 0 (R373), but for tile service (R380). -/
def followStart (e : Eng) : Eng :=
  if !e.on VIT_TR_CFG_FOLLOW || e.on VIT_TR_STAT_BUSY || e.inService 13 then e
  else
    let left := ((e.getRg (e.rd VIT_TR_CFG_REG)).lastTick + 1 + 2 ^ 64 - e.rda VIT_TIM_H0_ACT * e.rd VIT_TR_TPP_TICKS % 2 ^ 64) % 2 ^ 64
    renderBegin (renderCfg e (1 - e.rda VIT_TRL_CFG_SEL) left true) e

/-! ### The latch point (R362 to R364, R367 to R369, R377 to R379) -/

/-- Fields that apply at L without a flip (R368). -/
def liveFields : List Fld := [VIT_BG_RGB, VIT_CUR_POS_X, VIT_CUR_POS_Y] ++ (List.range 15).map fun i => VIT_PAL_RGB (i + 1)

/-- A palette, background or cursor position write waits. -/
def liveChanged (e : Eng) : Bool := liveFields.any fun f => e.rd f != e.rda f

/-- The timing of a pending commit is latched. -/
def latchTiming (e : Eng) : Eng :=
  if e.vt.commit then
    (((timFields.foldl Eng.load e).modVt fun v => { v with commit := false, dirty := true }).wr VIT_STAT_TIM_PEND 0).raise VIT_EVT_TIM_DONE
  else e

/-- Self refresh or slow refresh follows a static picture; a change ends it (R378, R379). Before self refresh one frame goes out
marked active. -/
def staticCheck (changed : Bool) (e : Eng) : Eng :=
  let still := if changed then 0 else e.vt.still + 1
  let n := e.rda VIT_TIM_SLOW_STATIC_N
  let static := n != 0 && n ≤ still
  let psr := static && e.on VIT_CTRL_PSR_EN && e.vt.psrCap && e.on VIT_STAT_LINK_UP
  let e1 := e.modVt fun v => { v with still := still, psrMark := psr && !e.on VIT_STAT_PSR_ACT && !v.psrMark }
  if changed && e.on VIT_STAT_PSR_ACT then ((e1.wr VIT_STAT_PSR_ACT 0).raise VIT_EVT_PSR_EXIT).wr VIT_STAT_RR_ACT 0
  else if psr then
    (if e.on VIT_STAT_PSR_ACT || !e.vt.psrMark then e1
     else ((e1.wr VIT_STAT_PSR_ACT 1).wr VIT_STAT_RR_ACT 0).raise VIT_EVT_PSR_ENTRY)
  else e1.wrb VIT_STAT_RR_ACT (static && e.on VIT_CTRL_RR_EN)

/-- LATCH_POINT: the latch point L of a frame. While VPLL is not LOCKED there is none (R362); in self refresh the stream
restarts only for a change (R378); while the tile is in service flips are held and the self-refresh state is kept (R380). -/
def latchPoint (e : Eng) (m : Mems) : Eng :=
  let svc := e.inService 13
  let waiting := !svc && (e.vt.flips.any fun n => n != 0)
  let changes := e.vt.dirty || waiting || liveChanged e || e.vt.commit
  if !loopLocked e 6 || (e.on VIT_STAT_PSR_ACT && (svc || !changes)) then e
  else
    let e0 := ({ e with vt := { e.vt with inLines := false } }.addWrap VIT_FRAME_CNT 1).raise VIT_EVT_VBLANK
    let e1 := if e.on VIT_STAT_PSR_ACT then e0 else { e0 with mc := { e0.mc with burstAt := some e0.now } }
    let e2 := liveFields.foldl Eng.load ((latchTiming e1).modVt fun v => { v with black := false })
    let e3 := if svc then e2 else [0, 1, 2].foldl (fun a k => latchLayer m k a) e2
    if svc then { e3 with vt := { e3.vt with dirty := changes } }
    else followStart ((staticCheck changes e3).modVt fun v => { v with dirty := false })

/-- LATCH_POINT. -/
def execLatchPoint (s : State) : Result := onMem s latchPoint

/-- DIRTY (R377). -/
def execDirty (s : State) : Result := onEng s fun e => e.modVt fun v => { v with dirty := true }

/-! ### Scan-out (R365, R366, R374 to R376) -/

/-- A byte of capture memory as Vitrine fetches it: zero beyond its end and in poisoned sectors (R366, R376). -/
def vitByte (e : Eng) (m : Mems) (a : Nat) : Nat := if 2 ^ 37 ≤ a then 0 else (recByte e m a).toNat

/-- The channels of a colour word 0xRRGGBB. -/
def rgbOf (w : Nat) : List Nat := [w / 65536 % 256, w / 256 % 256, w % 256]

/-- Blend colour `c` with alpha `a` over `p`, per channel. -/
def blend (a : Nat) (c p : List Nat) : List Nat := (c.zip p).map fun x => (a * x.1 + (255 - a) * x.2 + 127) / 255

/-- The displayed TRACE buffer's byte of a pixel. -/
def traceAt (e : Eng) (m : Mems) (x y : Nat) : Nat :=
  vitByte e m (e.rdqa (VIT_TRL_ADDR (e.rda VIT_TRL_CFG_SEL)) + y * (e.rd VIT_TRL_CFG_STRIDE * 256) + x)

/-- The address of an OVERLAY pixel. -/
def ovlAddr (e : Eng) (x y : Nat) : Nat := e.rdqa VIT_OVL_ADDR + y * (e.rd VIT_OVL_CFG_STRIDE * 256) + 4 * x

/-- The cursor pixel B, G, R, A that covers (x, y), if it does. -/
def cursorAt (e : Eng) (x y : Nat) : Option (List Nat) :=
  let dx := (x : Int) - signed 14 (e.rda VIT_CUR_POS_X)
  let dy := (y : Int) - signed 14 (e.rda VIT_CUR_POS_Y)
  if e.on VIT_CUR_CFG_EN ∧ 0 ≤ dx ∧ dx < 64 ∧ 0 ≤ dy ∧ dy < 64 then
    some ((List.range 4).map fun k => (e.vt.cursor.getD ((dy.toNat * 64 + dx.toNat) * 4 + k) 0).toNat)
  else none

/-- One composed pixel (R365). -/
def composePixel (e : Eng) (m : Mems) (y x : Nat) : Nat :=
  let ti := if e.on VIT_TRL_CFG_EN then traceAt e m x y else 0
  let p0 := rgbOf (if ti = 0 then e.rda VIT_BG_RGB else e.rda (VIT_PAL_RGB (min ti 15)))
  let p1 := if e.on VIT_OVL_CFG_EN then
      let a := ovlAddr e x y
      blend ((vitByte e m (a + 3) * e.rd VIT_OVL_CFG_GA + 127) / 255) [vitByte e m (a + 2), vitByte e m (a + 1), vitByte e m a] p0
    else p0
  let p2 := match cursorAt e x y with
    | some c => blend (c.getD 3 0) [c.getD 2 0, c.getD 1 0, c.getD 0 0] p1
    | none => p1
  let out := if e.on VIT_CTRL_BPC then p2.map (· / 4) else p2
  out.getD 0 0 * 65536 + out.getD 1 0 * 256 + out.getD 2 0

/-- The capture bytes that line `y` of the fetched layers takes: address and number. -/
def lineSpans (e : Eng) (y : Nat) : List (Nat × Nat) :=
  let w := e.rda VIT_TIM_H0_ACT
  ((if e.on VIT_TRL_CFG_EN then [(e.rdqa (VIT_TRL_ADDR (e.rda VIT_TRL_CFG_SEL)) + y * (e.rd VIT_TRL_CFG_STRIDE * 256), w)] else []) ++
    (if e.on VIT_OVL_CFG_EN then [(ovlAddr e 0 y, 4 * w)] else [])).map fun p => (p.1, min p.2 (2 ^ 37 - p.1))

/-- Does line `y` of a fetched layer hold a poisoned sector? -/
def linePoison (e : Eng) (m : Mems) (y : Nat) : Bool := (lineSpans e y).any fun p => (capBytes e m p.1 p.2).2

/-- What port VIT reads for line `y` (R261). -/
def lineFetch (y : Nat) (m : Mems) (e : Eng) : Eng := linesNoted 3 m ((lineSpans e y).flatMap fun p => capLines p.1 p.2) e

/-- The pixels of a line; those at `late` columns repeat the last composed one (R375), which is `p0` before the line. -/
def linePixels (e : Eng) (m : Mems) (y : Nat) (late : List Nat) (p0 : Nat) : List Nat :=
  ((List.range (e.rda VIT_TIM_H0_ACT)).foldl (fun (acc : List Nat × Nat) x =>
    let p := if late.contains x then acc.2 else composePixel e m y x
    (acc.1 ++ [p], p)) ([], p0)).1

/-- Mvid of the main stream attributes, for Nvid = 32,768 (R363): the stream clock over the link's symbol clock, a fifth of half its
rate. DESIGN CHOICE (log entry 181): rounded down. -/
def mvid (e : Eng) : Nat := 32768 * (5 * e.rda VIT_TIM_PCLK_KHZ) / halfRate e.vt.rate

/-- Row 0 begins a frame: the stream that waits after training starts (R359), and the frame's marks go out (R363, R378). -/
def frameStart (y : Nat) (e : Eng) : Eng :=
  if y = 0 then (e.modVt fun v => { v with await := false }).send (.frame e.vt.psrMark (mvid e) 32768) else e

/-- SCANOUT_LINE (R365, R366, R374 to R376): row `y` goes out; `late` are the columns whose data has not arrived, `fill` the
KiB of the line buffer ahead of scan-out. -/
def scanoutLine (y : Nat) (late : List Nat) (fill : Nat) (e : Eng) (m : Mems) : Eng :=
  if !loopLocked e 6 || !e.on VIT_STAT_LINK_UP || !e.on VIT_CTRL_EN || e.on VIT_STAT_PSR_ACT || e.rda VIT_TIM_V0_ACT ≤ y ||
      (e.vt.await && y != 0) then e
  else
    let w := e.rda VIT_TIM_H0_ACT
    let e0 := frameStart y e
    if e.inService 13 || e.vt.black then e0.send (.pixels y (List.replicate w 0))
    else
      let lateIn := late.filter fun x => x < w
      let px := linePixels e m y lateIn e.vt.lastPx
      let e1 := ((e0.modVt fun v => { v with inLines := true, lastPx := px.getLast?.getD v.lastPx }).wr VIT_LB_STAT_FILL fill).send (.pixels y px)
      let e2 := if lateIn.isEmpty then e1 else (e1.addSat VIT_UNDER_CNT_CNT 1).raise VIT_EVT_UNDER
      lineFetch y m (if linePoison e m y then (e2.addSat VIT_POISON_CNT_CNT 1).raise VIT_EVT_POISON else e2)

/-- SCANOUT_LINE. -/
def execScanoutLine (y : Nat) (late : List Nat) (fill : Nat) (s : State) : Result := onMem s (scanoutLine y late fill)

end Machine
end Sys2Proof
end

