-- ==== Sys2Proof/Machine/Faults.lean ====
section
/-!
DEFINITION. The datapath check (R452 to R454): the commands DATAPATH_PARITY, HANDSHAKE_WATCHDOG and STAGE_RESET_RETRY, with what
becomes of the items that a stage discards.
-/
namespace Sys2Proof
namespace Machine

def Eng.modDp (e : Eng) (f : DpSt → DpSt) : Eng := { e with dp := f e.dp }

/-! ### Discarded items (R453) -/

/-- The first `k` words in a list of items, up to the next descriptor. -/
def headWords : Nat → List EbItem → List SampleWord
  | 0, _ => []
  | _, [] => []
  | k + 1, .word w :: r => w :: headWords k r
  | _, _ => []

/-- The drop descriptor of discarded words (R21). -/
def dropOf (e : Eng) (ws : List SampleWord) : List EbItem :=
  match ws.head?, ws.getLast? with
  | some a, some b => [.drop a.stamp (wordEnd e b) ws.length]
  | _, _ => []

/-- Stages 0 to 7: the next `k` words of tile `t` that Accession has not read form a drop interval (R21, R22): its descriptor takes
their place, and Accession reads it at once while capture memory runs. -/
def readLost (t k : Nat) (e : Eng) : Eng :=
  let el := e.getEla t
  let i := el.aRead
  let ws := headWords k (el.items.drop i)
  if ws.isEmpty then e
  else elasticGap t (ebFree t (e.modEla t fun x =>
    { x with
      items := x.items.take i ++ dropOf e ws ++ x.items.drop (i + ws.length)
      tRead := if x.tRead ≤ i then x.tRead else max (i + 1) (x.tRead + 1 - ws.length) }))

/-- An instant of context `n` with every channel held and no decision. -/
def heldInstant (m : Mems) (n t : Nat) (e : Eng) : Eng :=
  let c := e.getCx n
  let e1 := instantAt m t [n] (fun _ => ⟨t, c.vals, 2 ^ 256 - 1, 2 ^ 256 - 1, c.last.map fun _ => (c.vals, c.held), 0⟩) false
    (retentionsAt n t e)
  if inRun e then runShow m t e1 else e1

/-- The instants of context `n` up to `last`, at most `fuel` of them, pass without a decision. -/
def lostInstants (m : Mems) (n last : Nat) : Nat → Eng → Eng
  | 0, e => e
  | fuel + 1, e =>
    match nextInstant e m n with
    | some x => if hasInstant e m n x && !tsBefore last x then lostInstants m n last fuel (heldInstant m n x e) else e
    | none => e

/-- Stage 8: a sequencer step of a context, up to its instant `last`, is a drop interval of every tile, and no decision is made on
its instants; in a run it is a hole (R462). -/
def stepLost (m : Mems) (last n : Nat) (e : Eng) : Eng :=
  let e1 := lostInstants m n last (64 - (e.getCx n).inst) e
  if inRun e ∧ (e1.getCx n).last ≠ (e.getCx n).last then
    { e1 with rr := { e1.rr with lostSteps := e1.rr.lostSteps + 1 } }.addSat TRIG_RR_HOLES_CNT 1
  else e1

/-- Stage 9: Accession discards the next `k` words of tile `t`: one GAP record of cause ELASTIC, counted as an elastic drop. -/
def takenLost (t k : Nat) (e : Eng) : Eng :=
  let el := e.getEla t
  let ws := headWords k (el.items.drop el.aRead)
  match dropOf e ws with
  | [.drop a b n] =>
    let e1 := ((gapRecord t a b 0 n e).addSat (GLB_EB_OVF_CNT t) 1).addSat (GLB_EB_DROP_WORDS t) n
    ebFree t (e1.modEla t fun x => { x with aRead := x.aRead + n, aPos := (b + 1) % 2 ^ 64 })
  | _ => e

/-- Stage 10: the closed container at the head of a region's order is written as TRANSITION lines (R245). -/
def containerLost (n : Nat) (e : Eng) : Eng :=
  match (e.getRg n).outQ with
  | .cont s edges :: rest =>
    let e1 := (transLines s (levelItems s ++ edges)).foldl (fun a l => writeLine n l a) (e.modRg n fun r => { r with outQ := rest })
    drainLines n ((e1.getRg n).outQ.length) e1
  | _ => e

/-- A run does not get the next container of its region (R453, R462). -/
def runUndec (e : Eng) (m : Mems) : Eng :=
  let next := (runLines e m).find? fun x => decide (e.rr.seen ≤ x.k) && !x.cut && (match x.line with
    | some l => l.ty == 10 && !l.cont
    | none => false)
  if inRun e then { e with rr := { e.rr with undec := e.rr.undec ++ (next.map (·.k)).toList } } else e

/-- A run does not get a line of its region that it has not read (R453, R462). -/
def runUnread (line : Nat) (m : Mems) (e : Eng) : Eng :=
  let here (x : SrcLine) : Bool := decide (e.rr.seen ≤ x.k) && (match offsetOf e e.rr.region x.k with
    | some o => lineAddr e e.rr.region o / 256 == line
    | none => false)
  if inRun e then { e with rr := { e.rr with unread := e.rr.unread ++ ((runLines e m).filter here).map (·.k) } } else e

/-- Stage 11: the decoding ends with WHY = 3 (R242). -/
def decodeLost (user slot : Nat) (e : Eng) (m : Mems) : Eng :=
  if user = 2 ∧ (jobState e slot = 1 ∨ jobState e slot = 2) ∧ e.rd (CMP_JOB_CTRL_OP slot) = 2 then
    match decompressNext slot e m with
    | some r => decompressOne slot { r with dec := { r.dec with why := 3, items := [], units := [] } } (e.wr (CMP_JOB_STAT_STATE slot) 2)
    | none => e
  else if user = 1 then runUndec (decBad 3 user slot e) m
  else decBad 3 user slot e

/-- Stages 12 and 13: a read is delivered as a FAIL line, a write stores the line with every data sector poisoned. -/
def requestLost (port line : Nat) (write : Bool) (e : Eng) (m : Mems) : Eng :=
  if write then storeLine line [] 255 e
  else
    let lr := { lineRead e m line [] with result := 2 }
    let e1 := poisonTold port 255 255 (readNote line port 0 true lr e)
    (if port < 2 then runUnread line m e1 else e1).send (.line port line (List.replicate 256 (0 : Byte)) 255)

/-- A memory write is sent with EP = 1 and no data. -/
def asPoison (x : OutMsg) : OutMsg :=
  match x with
  | .mwr a bs _ => .mwr a (bs.map fun _ => (0 : Byte)) true
  | y => y

/-- Stage 14: the next TLPs of a channel carry EP = 1, and the descriptor's FLAGS.POISON is set. -/
def tlpLost (c : Nat) (e : Eng) (m : Mems) : Eng :=
  let d := e.getDma c
  if !dmaRuns e c ∨ d.phase ≠ 2 ∨ d.desc.op = 1 then e
  else
    let e1 := (if d.desc.op = 2 then streamStep c e m else toHostStep c d.desc.len e m).1
    { e1 with out := e1.out.take e.out.length ++ (e1.out.drop e.out.length).map asPoison }.modDma c fun x => { x with poison := true }

/-- What becomes of the items that stage `n` discards. -/
def discard (n : Nat) (x : Lost) (e : Eng) (m : Mems) : Eng :=
  match x with
  | .words ks =>
    if n < 8 then readLost n (ks.getD 0 0) e
    else if n = 9 then (List.range 8).foldl (fun a t => takenLost t (ks.getD t 0) a) e
    else e
  | .step ctxs last => if n = 8 then (indicesWhere 4 (natBit ctxs)).foldl (fun a c => stepLost m last c a) e else e
  | .container r => if n = 10 then containerLost (r % 16) e else e
  | .decode user slot => if n = 11 then decodeLost user (slot % 4) e m else e
  | .request port line write => if n = 12 ∨ n = 13 then requestLost port (line % 2 ^ 29) write e m else e
  | .tlp c => if n = 14 then tlpLost (c % 8) e m else e
  | .pixels => if n = 15 then (e.addSat VIT_POISON_CNT_CNT 1).raise VIT_EVT_POISON else e
  | .nothing => e

/-! ### Commands -/

/-- The fault is counted, shown and reported (R452): `kind` 0 parity, 1 watchdog. -/
def dpReport (n kind : Nat) (e : Eng) : Eng :=
  let e1 := (e.wr GLB_FLT_LAST_STAGE n).wr GLB_FLT_LAST_KIND kind
  if kind = 0 then (e1.addSat (GLB_FLT_DP_PAR n) 1).raise GLB_FLT_EVT_DP_PAR
  else (e1.addSat (GLB_FLT_DP_WDT n) 1).raise GLB_FLT_EVT_DP_WDT

/-- DATAPATH_PARITY: stage `n` discards the item it holds. -/
def execDatapathParity (n : Nat) (x : Lost) (s : State) : Result :=
  onMem s fun e m => discard (n % 16) x (dpReport (n % 16) 0 e) m

/-- Trips of stage `n` in the last second, with one now; three make the stage stuck (R454). -/
def dpTrip (n : Nat) (e : Eng) : Eng :=
  let ts := ((e.dp.trips.getD n []).filter fun t => e.now ≤ t + tps) ++ [e.now]
  let e1 := e.modDp fun d => { d with trips := putAt d.trips n ts [] }
  if 3 ≤ ts.length ∧ !natBit e1.dp.stuck n then
    ((e1.modDp fun d => { d with stuck := setNatBit d.stuck n }).wr GLB_FLT_LAST_STUCK 1).raise GLB_FLT_EVT_DP_STUCK
  else e1

/-- HANDSHAKE_WATCHDOG: stage `n` resets itself and discards every item it has accepted and not passed on. -/
def execHandshakeWatchdog (n : Nat) (x : Lost) (s : State) : Result :=
  onMem s fun e m => dpTrip (n % 16) (discard (n % 16) x (dpReport (n % 16) 1 e) m)

/-- STAGE_RESET_RETRY (R454): the stuck stages are reset again; one whose last trip lies a full second back is no longer stuck. -/
def stageRetry (e : Eng) : Eng :=
  let quiet (n : Nat) : Bool := match (e.dp.trips.getD n []).getLast? with
    | some t => t + tps ≤ e.now
    | none => true
  let left := maskOf 16 fun n => natBit e.dp.stuck n && !quiet n
  (e.modDp fun d => { d with stuck := left }).wrb GLB_FLT_LAST_STUCK (left != 0)

/-- STAGE_RESET_RETRY. -/
def execStageResetRetry (s : State) : Result := onEng s stageRetry

end Machine
end Sys2Proof
end

