-- ==== Sys2Proof/Machine/Startup.lean ====
section
/-!
DEFINITION. Power, reset and start-up (chapter 20): what a fundamental reset keeps (R473), the steps of R466, power-down (R470),
and what goes on by itself after a command. The commands POWER_ON_RESET, PERST_N, PERST_N_RELEASE, SWRST, OFF, TRICKLE_ENTRY,
IDLE_RETURN, PCIE_LINK_UP and LEVEL_CHANGE.
-/
namespace Sys2Proof
namespace Machine

/-! ### Reset (R277, R402, R472, R473) -/

/-- A power-on or fundamental reset (R473): every register, buffer and run is lost. The fuses and the Vault stay, and so do
the numbers with which Curator continues the Ledger (R395), the power channels where the base rails stay (R469), the TAP
where it is no power-on reset. A life-cycle transition that was under way is INCOMPLETE (R429). -/
def fundReset (powerOn : Bool) (e : Eng) : Eng :=
  let keep := [CUR_LDG_NEXT_SEQ, CUR_LDG_OLDEST_SEQ] ++ (if powerOn then [] else [CUR_PWR_STAT_EN, CUR_PWR_STAT_PG])
  let kept : NvSt :=
    { e.nv with
      srec := { e.nv.srec with rep := repairsKept e }
      incomplete := e.nv.incomplete || e.se.trans.isSome }
  let fresh : Eng :=
    { now := e.now
      free := e.free
      out := e.out
      wq := e.wq
      nv := kept
      tap := if powerOn then {} else e.tap
      cu := { trialEnd := e.cu.trialEnd } }
  (keep.foldl (fun a f => a.wr f (e.rd f)) fresh).emit .ramClear

/-! ### Steps 1 and 2 of R466 -/

/-- Step 1: the cause of the start-up, what the fuses hold, the expansion ROM (R324), the first nonce; in MANUFACTURE the debug port is OPEN. -/
def startFuses (cause : Nat) (e : Eng) : Eng :=
  let why := if cause ≠ 0 then cause else if e.nv.srec.therm.isSome then 3 else if e.nv.srec.pwr.isSome then 4 else 0
  let e1 := ((e.wr PWR_RST_CAUSE_CAUSE why).wr GLB_ID_REV e.nv.rev).wrq GLB_SERIAL e.nv.serial
  let e2 := ((e1.wr SEC_LC_STAT_STATE e.nv.lc).wrb SEC_LC_STAT_INCOMPLETE e.nv.incomplete).wr SEC_RNG_STAT_OK 1
  let e2r := { e2 with pw := { e2.pw with rom := romBytes e2 } }
  let e3 := newNonce e2r
  if e.nv.lc = 0 then (e3.wr SEC_DBG_STAT_STATE 2).wr SEC_DBG_STAT_SCOPE 15 else e3

/-- The copy of the state record that start-up uses: the newer one, unless its area of the Vault cannot be read (R402). -/
def recordRead (m : Mems) (e : Eng) : Eng :=
  let a := (vltRecord + e.nv.seq % 2 * 2 ^ 20) / 64
  if m.vltBad.any fun b => a ≤ b && b < a + 2 ^ 14 then { e with nv := { e.nv with srec := e.nv.old } } else e

/-- The factory map of a stack: position p on rank p, ranks 10 and 11 spare. -/
def mapFactory (s : Nat) (e : Eng) : Eng :=
  let e1 := e.wrq (MEM_STK_MAP s) 0x9876543210
  (List.range 12).foldl (fun a r =>
    ((a.wr (MEM_RANK_STAT_ROLE s r) (if r < 10 then 0 else 1)).wr (MEM_RANK_STAT_POS s r) (if r < 10 then r else 15)).wr
      (MEM_RANK_STAT_PPR_LEFT s r) 64) e1

/-- Show the maps and repairs of the state record (R255, R269, R316). -/
def mapShow (e : Eng) : Eng :=
  let rep := e.nv.srec.rep
  let e1 :=
    if rep.map.isEmpty then (List.range 4).foldl (fun a s => mapFactory s a) e
    else mapFields.foldl (fun a f => a.wr f (rfGet rep.map f)) e
  let e2 := (List.range 4).foldl (fun a s => a.modStk s fun k => { k with used := rep.used.getD s [] }) e1
  (List.range 32).foldl (fun a b =>
    let n (col : Bool) : Nat := rep.scr.countP fun x => x.1 == b && x.2 == col
    (a.wr (SCR_REP_ROWS_LEFT b) (8 - n false)).wr (SCR_REP_COLS_LEFT b) (2 - n true)) e2

/-- Report a thermal trip or a power fault that the record holds (R389, R407); the reports are then cleared. -/
def faultsReport (e : Eng) : Eng :=
  let e1 := match e.nv.srec.therm with
    | some (i, v) => (e.postCur 0x30 3 (leBytes 1 i ++ leBytes 2 v)).raise CUR_EVT_PWR_FAULT
    | none => e
  let e2 := match e.nv.srec.pwr with
    | some (c, k) => (e1.postCur 0x31 3 (leBytes 1 c ++ leBytes 1 k)).raise CUR_EVT_PWR_FAULT
    | none => e1
  if e.nv.srec.therm.isSome ∨ e.nv.srec.pwr.isSome then recWrite (fun r => { r with therm := none, pwr := none }) e2 else e2

/-- The hash of slot 2 is compared with the fuses (R430). -/
def rootCheck (e : Eng) : Eng :=
  if e.nv.rootHash.isEmpty ∨ e.nv.revoked then e
  else if sha384 (keySlot e 2).key = e.nv.rootHash then e
  else (setKey 2 [] e).raise SEC_EVT_KEY_BAD

/-- Step 2: BOOT counts; slots, maps, life counters, keys are shown; a TRIAL slot that has run is given up (R404). -/
def startRecord (m : Mems) (e : Eng) : Eng :=
  let e1 := recWrite (fun r => { r with boot := (r.boot + 1) % 2 ^ 16 }) (recordRead m e)
  let e2 := (List.range 3).foldl (slotShow m) (mapShow e1)
  let e3 := (e2.wr CUR_STAT_BOOT_SLOT e2.nv.srec.bootSlot).wr CUR_PWR_FAULTS_CNT e2.nv.srec.faults
  let e4 := faultsReport (rootCheck (pubShow (keyShow (lifeShow e3))))
  match e.cu.trialEnd, trialSlot e4 with
  | some _, some x => revert x 2 true m e4
  | _, _ => { e4 with cu := { e4.cu with trialEnd := none } }

/-! ### Steps 3 to 6 of R466 -/

/-- The power tables for step 4: of the image that passes, or of slot F's POWER section alone (R467). -/
def startTables (bad : List (Nat × Nat)) (e : Eng) (m : Mems) : Option (List PwrStep × List PwrStep) :=
  let ofImage (i : Image) := (i.sects.find? fun x => x.ty == 4).map fun x => powerTables x.body
  match trySlot (loadSlot e) bad e m, trySlot 0 bad e m with
  | .ok i, _ => ofImage i
  | .error _, .ok i => ofImage i
  | .error _, .error _ =>
    let b := (slotSrc m 0).bytes
    let n := imgNum b 6 2
    let k := (List.range n).find? fun j => (dirEntry b j).ty == 4
    match k with
    | none => none
    | some j =>
      let x := dirEntry b j
      if slotBad m 0 0 (192 + 64 * j) ∨ slotBad m 0 (imgNum b (132 + 64 * j) 4) (imgNum b (136 + 64 * j) 4) ∨ imgNum b 124 4 ≠ crc32c (imgBytes b 0 124) then none
      else if entryOk b n j && sectCrcOk x && powerOk x.body then some (powerTables x.body)
      else none

/-- The up table (R406, R469): step `k` whose channel waits for PG and does not see it in time is a power fault, answered
with the channel and the step. A channel that is already on passes. -/
def upTable (pgFail : Option Nat) : Nat → List PwrStep → Eng → Eng × Option (Nat × Nat)
  | _, [], e => (e, none)
  | k, x :: r, e =>
    let up := e.bit CUR_PWR_STAT_EN x.ch && e.bit CUR_PWR_STAT_PG x.ch
    if x.on && x.pg && pgFail == some k && !up then (e.wrBit CUR_PWR_STAT_EN x.ch true, some (x.ch, k))
    else upTable pgFail (k + 1) r ((e.wrBit CUR_PWR_STAT_EN x.ch x.on).wrBit CUR_PWR_STAT_PG x.ch x.on)

/-- Step 5: the image is applied, Curator starts, configuration requests complete; and the start of step 6. -/
def startImage (train : List LaneFind) (bad : List (Nat × Nat)) (e : Eng) (m : Mems) : Eng :=
  let e1 := loadFirmware m (loadImage true (loadSlot e) bad m e)
  let e2 := if e1.rd CFG_STATUS_STATE = 2 then e1 else e1.postCur 3 0 [3, 0]
  let e3 := (e2.wr CUR_STAT_RUN 1).wr CUR_PWR_DOM_ON (domainsOn 0 e2)
  let run : March := ⟨0, 2 ^ 32 - 1⟩
  let e4 :=
    { e3 with
      hl := { e3.hl with ready := true }
      sc := { e3.sc with march := some run }
      pw := { e3.pw with start := some { since := e3.now, train := train } } }
  guarCheck (loopsShow ((e4.wr SCR_MT_STAT_BUSY 1).wr PWR_STRT_STEP 6))

/-- Start-up, steps 1 to 5 (R466, R467): `pgFail` is a step of the up table that does not see PG, `train` what the initial
training will find, `bad` as for a load. -/
def startUp (cause : Nat) (pgFail : Option Nat) (train : List LaneFind) (bad : List (Nat × Nat)) (e : Eng) (m : Mems) : Eng :=
  let e1 := startRecord m (startFuses cause e)
  match startTables bad e1 m with
  | none => (e1.wr PWR_STRT_STEP 4).wr PWR_STRT_PFAIL 1
  | some t =>
    let e2 := { e1.wr CUR_PWR_STAT_STATE 1 with cf := { e1.cf with up := t.1, down := t.2 } }
    match upTable pgFail 0 t.1 e2 with
    | (a, some f) => powerFail f.1 f.2 a
    | (a, none) => startImage train bad (a.wr CUR_PWR_STAT_STATE 2) m

/-! ### Steps 6 to 10 of R466 -/

/-- Change the start-up under way. -/
def modStart (f : StartSt → StartSt) (e : Eng) : Eng := { e with pw := { e.pw with start := e.pw.start.map f } }

/-- Step 7, once MPLL is LOCKED: the initial training (R296). -/
def startTrain (s : StartSt) (e : Eng) : Eng :=
  if s.did7 ∨ !loopLocked e 5 then e
  else
    let lost := s.train.any fun x => x.eye.isNone && e.rd (MEM_RANK_STAT_ROLE x.stk x.rank) == 0
    let e1 := s.train.foldl (fun a x => applyLane x.stk a (x.rank, x.lane, x.eye)) e
    modStart (fun x => { x with did7 := true }) (if lost then e1.wr MEM_TRN_STAT_INIT_FAIL 1 else e1.wr MEM_TRN_STAT_INIT_DONE 1)

/-- Step 8, once SPLL is LOCKED: the tiles calibrate; it ends when none is calibrating. -/
def startCal (s : StartSt) (e : Eng) : Eng :=
  if s.cal then (if e.rd FE_CAL_STAT_BUSY = 0 then modStart (fun x => { x with did8 := true }) e else e)
  else if loopLocked e 0 then modStart (fun x => { x with cal := true }) ((List.range 8).foldl (fun a t => calStart t a) e)
  else e

/-- Step 9: capture memory is filled with zero lines, every region starts empty, every KEPT region has its KHEAD; a mode
request that was held is checked (R468). -/
def startFill (s : StartSt) (e : Eng) : Eng :=
  if !s.did7 ∨ s.did9 then e
  else
    let e1 := (List.range 16).foldl (fun a n =>
      let b := dropRegion n a
      if regionKind b n = 3 then keptInit n b else b) (e.emit (.capClear 0 (2 ^ 37)))
    let e2 := ((e1.wr PWR_FILL_LINE (2 ^ 29)).wr PWR_STRT_FILL_DONE 1).raise PWR_EVT_FILL_DONE
    heldRequest (modStart (fun x => { x with did9 := true }) e2)

/-- A power-down begins (R470 step 1): an acquisition stops, DMA channels stop as for an ABORT. -/
def offBegin (moved : List Nat) (e : Eng) (m : Mems) : Eng :=
  stopForOff ((List.range 8).foldl (fun a c => dmaAbort c (moved.getD c 0) a (m.applyAll a.wq)) e)

/-- Step 10, when the others have ended. -/
def startEnd (s : StartSt) (e : Eng) (m : Mems) : Eng :=
  if s.did6 && s.did8 && s.did9 then
    let ms := min ((e.now - s.since) * 1000 / tps) 65535
    let e1 := { ((e.wr PWR_STRT_DONE 1).wr PWR_STRT_MS ms).raise PWR_EVT_STARTED with pw := { e.pw with start := none } }
    let e2 := powerPolicy e1
    if e2.pw.offPend then offBegin [] e2 m else e2
  else e

/-- The step that PWR_STRT.STEP shows: the lowest that has not ended. -/
def startStep (s : StartSt) : Nat :=
  if !s.did6 then 6 else if !s.did7 then 7 else if !s.did8 then 8 else if !s.did9 then 9 else 10

/-- What a start-up goes on with by itself. -/
def startGo (e : Eng) (m : Mems) : Eng :=
  let on (f : StartSt → Eng → Eng) (a : Eng) : Eng := match a.pw.start with
    | some s => f s a
    | none => a
  let e1 := on (fun _ a => if a.sc.march.isNone then modStart (fun x => { x with did6 := true }) a else a) e
  let e2 := on startFill (on startCal (on startTrain e1))
  on (fun s a => startEnd s (a.wr PWR_STRT_STEP (startStep s)) m) e2

/-! ### Power-down (R470) -/

/-- Steps 2 to 5: once an acquisition has ended, every seal is written and the Ledger queue is empty, or Curator cannot empty it. -/
def offGo (e : Eng) : Eng :=
  let empty := e.ldg.queue.isEmpty || e.on CUR_STAT_HALTED || e.on SEC_DBG_STAT_CUR_HALT
  if !e.pw.offPend ∨ e.pw.start.isSome ∨ e.inAcq ∨ !sealsDone e ∨ !empty then e
  else
    let e1 := sessionEnd (recWrite (fun r => r) e)
    enterOff 0 false ((List.range 4).foldl (fun a s => a.wr (MEM_REF_STAT_PWR s) 1) e1)

/-! ### What goes on after a command -/

/-- A changed rank map goes into the state record, the tamper sequence, the start-up and the power-down go on as far as they can, and a waiting mailbox request is answered. -/
def settle (m : Mems) (e : Eng) : Eng :=
  if e.down then e
  else
    let e0 := fabGo e (m.applyAll e.wq)
    let e1 := offGo (startGo (tamperGo (if e0.cu.mapDue ∧ curRuns e0 then mapSave e0 else e0)) (m.applyAll e0.wq))
    if e1.down then e1 else mbxPending e1 (m.applyAll e1.wq)

/-- A command after which such sequences may go on. -/
def onAll (s : State) (f : Eng → Mems → Eng) : Result := onMem s fun e m => settle m (f e m)

/-- LOCK_WINDOW_END. -/
def execLockWindowEnd (n fb t : Nat) (s : State) : Result := onAll s fun e _ => lockWindowEnd n fb t e

/-- ANALOGUE_LOCK. -/
def execAnalogueLock (lock : Bool) (volt t : Nat) (s : State) : Result := onAll s fun e _ => analogueLock lock volt t e

/-- CLOCK_MONITOR_FAIL (R115); `far`: XREF is so far off that it is a tamper detection of source 2 (R439). -/
def execClockMonitorFail (src t : Nat) (far : Bool) (s : State) : Result :=
  onAll s fun e _ => (monitorFail src t e).when (src == 0 && far) (tamperDetect 2)

/-- PHASE_ALIGN_DONE (R107 step 4): SPLL is LOCKED, and an eye scan that waited for it runs (R474). -/
def execPhaseAlignDone (s : State) : Result :=
  onAll s fun e _ =>
    if loopState e 0 = 4 then
      scanGo (lockLoop 0 e)
    else e

/-- LOOP_RETURN (R119): CLK_CMD.RETURN returns loops that are HELD. -/
def execLoopReturn (mask : Nat) (s : State) : Result :=
  onAll s fun e _ => (List.range 8).foldl (fun a n => if natBit mask n && loopState a n == 5 then alignOrLock n a else a) e

/-- MARCH_TEST_END (R318). -/
def execMarchTestEnd (fails : List (Nat × Nat)) (s : State) : Result := onAll s fun e _ => marchEnd 0 2048 fails e

/-- MARCH_TEST_ABORT (R318): after `rows` rows of each bank. -/
def execMarchTestAbort (rows : Nat) (fails : List (Nat × Nat)) (s : State) : Result := onAll s fun e _ => marchEnd 1 rows fails e

/-- CAL_DONE. -/
def execCalDone (t fail : Nat) (trims : List Nat) (ilv : Nat) (s : State) : Result := onAll s fun e _ => calDone t fail trims ilv e

/-- ACQUISITION_STOP. -/
def execAcquisitionStop (s : State) : Result := onAll s acquisitionStop

/-- FORCED_STOP. -/
def execForcedStop (stages : Nat) (s : State) : Result := onAll s (forcedStop stages)

/-- KEPT_LINE_COPY. -/
def execKeptLineCopy (n : Nat) (s : State) : Result := onAll s (keptLineCopy n)

/-- SEAL. -/
def execSeal (n : Nat) (s : State) : Result := onAll s (sealOp n)

/-- TEMP_SAMPLE. -/
def execTempSample (i : Nat) (v : Int) (s : State) : Result := onAll s fun e _ => tempSample (i % 24) v e

/-- VOLT_SAMPLE. -/
def execVoltSample (j mv : Nat) (s : State) : Result := onAll s fun e _ => voltSample (j % 16) mv e

/-- TAMPER_DETECTION (R390): TAMPER_N low for 1 ms. -/
def execTamperDetection (s : State) : Result :=
  onAll s fun e _ => tamperDetect 0 (((e.wr CUR_TAMPER_LEVEL 0).wr CUR_TAMPER_SEEN 1).raise CUR_EVT_TAMPER)

/-- LEDGER_WRITE. -/
def execLedgerWrite (s : State) : Result := onAll s fun e _ => ledgerWrite e

/-- CURATOR_RESUME. -/
def execCuratorResume (s : State) : Result := onAll s curatorResume

/-- SECURE_WIPE_DONE (R317, R429): the wipe of banks 28 to 31 ends, and a life-cycle transition burns its fuse word;
`burnFail`: the burn fails. -/
def execSecureWipeDone (burnFail : Bool) (s : State) : Result :=
  onAll s fun e m => if e.on SCR_STAT_WIPING then transDone burnFail (wipeEnd e m) else e

/-! ### Power commands -/

/-- POWER_ON_RESET (R464, R466). -/
def execPowerOnReset (pgFail : Option Nat) (train : List LaneFind) (bad : List (Nat × Nat)) (s : State) : Result :=
  applyMem s fun e m => settle m (startUp 0 pgFail train bad (fundReset true e) m)

/-- PERST_N asserted (R330, R471, R473): fundamental while KEEP is 0 and from OFF; otherwise of the scope of a hot reset. After
a thermal trip or a power fault it is ignored. -/
def perst (e : Eng) : Eng :=
  let hold (a : Eng) : Eng := { a with pw := { a.pw with held := true } }
  if e.pw.held ∨ (e.pw.off ∧ e.pw.latched) then e
  else if e.pw.off ∨ !e.on HOST_RST_CFG_KEEP then hold (fundReset false e)
  else
    let e1 := hotReset e
    { e1 with hl := { e1.hl with cold := true } }.raise HOST_RST_STAT_LINK

/-- PERST_N. -/
def execPerstN (s : State) : Result := applyMem s fun e _ => perst e

/-- PERST_N_RELEASE: a fundamental reset ends and start-up runs; link training may begin. -/
def execPerstNRelease (pgFail : Option Nat) (train : List LaneFind) (bad : List (Nat × Nat)) (s : State) : Result :=
  applyMem s fun e m =>
    let e1 := { e with hl := { e.hl with cold := false } }
    if e.pw.held then settle m (startUp 1 pgFail train bad { e1 with pw := { e1.pw with held := false } } m) else e1

/-- SWRST (R472): a fundamental reset, accepted with the key in SERVICE or REVIEW while BUSY is 0. -/
def swrst (key : Nat) (pgFail : Option Nat) (train : List LaneFind) (bad : List (Nat × Nat)) (e : Eng) (m : Mems) : Eng :=
  if key ≠ 0xA5 ∨ e.inAcq ∨ e.on GLB_MODE_STAT_BUSY then e.raise PWR_EVT_CMD_REJ
  else settle m (startUp 2 pgFail train bad (fundReset false e) m)

/-- SWRST. -/
def execSwrst (key : Nat) (pgFail : Option Nat) (train : List LaneFind) (bad : List (Nat × Nat)) (s : State) : Result :=
  onMem s (swrst key pgFail train bad)

/-- OFF (R470, R478): accepted with the key in any mode; during start-up it is performed after step 10. `moved`: bytes each
DMA channel has moved where it stops. -/
def offWrite (key : Nat) (moved : List Nat) (e : Eng) (m : Mems) : Eng :=
  if key ≠ 0xA5 then e.raise PWR_EVT_CMD_REJ
  else
    let e1 := { e with pw := { e.pw with offPend := true } }
    if e.pw.start.isSome then e1 else offBegin moved e1 m

/-- OFF. -/
def execOff (key : Nat) (moved : List Nat) (s : State) : Result := onAll s (offWrite key moved)

/-- TRICKLE_ENTRY (R475). -/
def trickleEntry (e : Eng) : Eng :=
  let e1 := e.wr PWR_STAT_TRK_BLOCK (trickleBlock e)
  if trickleBlock e1 = 0 ∧ e1.rd PWR_STAT_STATE = 0 then scanRecheck (enterTrickle e1) else e1

/-- TRICKLE_ENTRY. -/
def execTrickleEntry (s : State) : Result := onEng s trickleEntry

/-- IDLE_RETURN (R474). -/
def idleReturn (e : Eng) : Eng := if idleHolds e ∧ e.rd PWR_STAT_STATE = 0 then enterIdle e else e

/-- IDLE_RETURN. -/
def execIdleReturn (s : State) : Result := onEng s idleReturn

/-- PCIE_LINK_UP (R319, R465): the link trains once a channel supplies its rail and PERST_N is high. -/
def linkUp (speed width : Nat) (flit : Bool) (e : Eng) : Eng :=
  if e.rd CUR_PWR_STAT_PG = 0 ∨ e.hl.cold then e
  else { ((e.wr HOST_LINK_STAT_SPEED speed).wr HOST_LINK_STAT_WIDTH width).wrb HOST_LINK_STAT_FLIT flit with hl := { e.hl with up := true } }

/-- PCIE_LINK_UP. -/
def execPcieLinkUp (speed width : Nat) (flit : Bool) (s : State) : Result := onEng s (linkUp speed width flit)

/-- The comparator of channel `c` is powered: its tile's domain is on, the channel is enabled (R62), and it is no odd channel in
timing-double (R69). -/
def compPowered (e : Eng) (c : Nat) : Bool :=
  e.bit CUR_PWR_DOM_ON (c / 32) && e.ona (FE_CH_CFG_EN c) && !(e.double && c % 2 == 1)

/-- The comparator output of channel `c` after its input, in µV, has reached `vd` (R63); 0 while it is not powered. -/
def compOut (e : Eng) (c : Nat) (vd : Int) : Bool := compPowered e c && chanComp e c (natBit e.fe.comp c) vd

/-- LEVEL_CHANGE: the input of channel `c` reaches `vd` µV; LEVEL follows the comparator, and ACT is set by a change, while the
tile's domain is on. -/
def levelChange (c : Nat) (vd : Int) (e : Eng) : Eng :=
  if 256 ≤ c ∨ !e.bit CUR_PWR_DOM_ON (c / 32) then e
  else
    let v := compOut e c vd
    let e1 := { e with fe := { e.fe with comp := putNatBit e.fe.comp c v } }
    if e.on (FE_CH_STAT_LEVEL c) = v then e1 else (e1.wrb (FE_CH_STAT_LEVEL c) v).wr (FE_CH_STAT_ACT c) 1

/-- LEVEL_CHANGE. -/
def execLevelChange (c : Nat) (vd : Int) (s : State) : Result := onEng s (levelChange c vd)

/-! ### Nothing commanded -/

/-- One tick passes with nothing commanded; while the core is held nothing happens. -/
def idleTick (s : State) : Result := onMem s fun e m => fabGo (tick e) m

end Machine
end Sys2Proof
end

