-- ==== Sys2Proof/Machine/Dispatch.lean ====
section
/-!
DEFINITION. One arm per command: the direct call of its meaning.
-/
namespace Sys2Proof
namespace Machine

def exec (i : Instr) (s : State) : Host.Outcome State Fault Refusal :=
  match i with
  | .registerWrite master off value be => Sys2Proof.Machine.execRegisterWrite master off value be s
  | .bar0InvalidAccess read => Sys2Proof.Machine.execBar0InvalidAccess read s
  | .lockAll => Sys2Proof.Machine.execLockAll s
  | .sampleWord t w => Sys2Proof.Machine.execSampleWord t w s
  | .elasticGap t => Sys2Proof.Machine.execElasticGap t s
  | .accessionLine n t => Sys2Proof.Machine.execAccessionLine n t s
  | .slackWindowEnd units => Sys2Proof.Machine.execSlackWindowEnd units s
  | .clrMin => Sys2Proof.Machine.execClrMin s
  | .ebClr tiles => Sys2Proof.Machine.execEbClr tiles s
  | .fabRsvWrite p rsv mx => Sys2Proof.Machine.execFabRsvWrite p rsv mx s
  | .fabOutRead p => Sys2Proof.Machine.execFabOutRead p s
  | .memoryRequest port line wr resp lat => Sys2Proof.Machine.execMemoryRequest port line wr resp lat s
  | .modeRequest master mode dbl stop => Sys2Proof.Machine.execModeRequest master mode dbl stop s
  | .acquisitionEntry t0 => Sys2Proof.Machine.execAcquisitionEntry t0 s
  | .modeLockFail => Sys2Proof.Machine.execModeLockFail s
  | .acquisitionStop => Sys2Proof.Machine.execAcquisitionStop s
  | .forcedStop stages => Sys2Proof.Machine.execForcedStop stages s
  | .tileSvcRequest req => Sys2Proof.Machine.execTileSvcRequest req s
  | .tileServiceEntry k u => Sys2Proof.Machine.execTileServiceEntry k u s
  | .tileServiceExit k v => Sys2Proof.Machine.execTileServiceExit k v s
  | .keptLineCopy n => Sys2Proof.Machine.execKeptLineCopy n s
  | .seal n => Sys2Proof.Machine.execSeal n s
  | .keepCtrlWrite n en pol dest => Sys2Proof.Machine.execKeepCtrlWrite n en pol dest s
  | .wakeAssert => Sys2Proof.Machine.execWakeAssert s
  | .tipWrite c tip => Sys2Proof.Machine.execTipWrite c tip s
  | .thrWrite c v => Sys2Proof.Machine.execThrWrite c v s
  | .feFieldWrite m f v => Sys2Proof.Machine.execFeFieldWrite m f v s
  | .eyeScanStart => Sys2Proof.Machine.execEyeScanStart s
  | .eyeScanAbort => Sys2Proof.Machine.execEyeScanAbort s
  | .eyeScanDone counts => Sys2Proof.Machine.execEyeScanDone counts s
  | .calRequest tiles => Sys2Proof.Machine.execCalRequest tiles s
  | .calDone t fail trims ilv => Sys2Proof.Machine.execCalDone t fail trims ilv s
  | .podInserted p => Sys2Proof.Machine.execPodInserted p s
  | .podRemoved p u => Sys2Proof.Machine.execPodRemoved p u s
  | .podPowerRequest p req u => Sys2Proof.Machine.execPodPowerRequest p req u s
  | .softStartEnd p => Sys2Proof.Machine.execSoftStartEnd p s
  | .podOvercurrent p peak u => Sys2Proof.Machine.execPodOvercurrent p peak u s
  | .attnPress p => Sys2Proof.Machine.execAttnPress p s
  | .attnPowerOff p u => Sys2Proof.Machine.execAttnPowerOff p u s
  | .identDone p r => Sys2Proof.Machine.execIdentDone p r s
  | .reread p => Sys2Proof.Machine.execReread p s
  | .sbGo p => Sys2Proof.Machine.execSbGo p s
  | .sbDone p nack data => Sys2Proof.Machine.execSbDone p nack data s
  | .tileRejoin p v => Sys2Proof.Machine.execTileRejoin p v s
  | .portAbsentRecord p => Sys2Proof.Machine.execPortAbsentRecord p s
  | .podPwrStatRead p => Sys2Proof.Machine.execPodPwrStatRead p s
  | .loopCommit mask => Sys2Proof.Machine.execLoopCommit mask s
  | .lockWindowEnd n fb t => Sys2Proof.Machine.execLockWindowEnd n fb t s
  | .analogueLock lock volt t => Sys2Proof.Machine.execAnalogueLock lock volt t s
  | .clockMonitorFail src t far => Sys2Proof.Machine.execClockMonitorFail src t far s
  | .clockMonitorPass src => Sys2Proof.Machine.execClockMonitorPass src s
  | .phaseAlignDone => Sys2Proof.Machine.execPhaseAlignDone s
  | .loopReturn mask => Sys2Proof.Machine.execLoopReturn mask s
  | .unlockRecord t => Sys2Proof.Machine.execUnlockRecord t s
  | .clkLdAnWrite en loop win => Sys2Proof.Machine.execClkLdAnWrite en loop win s
  | .rampSegWrite m sg dur fin => Sys2Proof.Machine.execRampSegWrite m sg dur fin s
  | .rampPeriod m resid shift => Sys2Proof.Machine.execRampPeriod m resid shift s
  | .clkoutCfgWrite master k value mask => Sys2Proof.Machine.execClkoutCfgWrite master k value mask s
  | .ts64Wrap => Sys2Proof.Machine.execTs64Wrap s
  | .set atPps => Sys2Proof.Machine.execSet atPps s
  | .step atPps => Sys2Proof.Machine.execStep atPps s
  | .todSet atPps => Sys2Proof.Machine.execTodSet atPps s
  | .todStep atPps => Sys2Proof.Machine.execTodStep atPps s
  | .timeCmdAbandon => Sys2Proof.Machine.execTimeCmdAbandon s
  | .todSecond => Sys2Proof.Machine.execTodSecond s
  | .ppsOutPulseEnd => Sys2Proof.Machine.execPpsOutPulseEnd s
  | .ppsInEdge t tref => Sys2Proof.Machine.execPpsInEdge t tref s
  | .trefUpdate tref => Sys2Proof.Machine.execTrefUpdate tref s
  | .ppsMiss => Sys2Proof.Machine.execPpsMiss s
  | .hoLimit => Sys2Proof.Machine.execHoLimit s
  | .rateWrite v => Sys2Proof.Machine.execRateWrite v s
  | .steerModeWrite mode => Sys2Proof.Machine.execSteerModeWrite mode s
  | .aqlFrameRx down raw t ph => Sys2Proof.Machine.execAqlFrameRx down raw t ph s
  | .aqlFrameTx down => Sys2Proof.Machine.execAqlFrameTx down s
  | .enum => Sys2Proof.Machine.execEnum s
  | .adopt => Sys2Proof.Machine.execAdopt s
  | .aqlArm => Sys2Proof.Machine.execAqlArm s
  | .aqlOffsetAverage => Sys2Proof.Machine.execAqlOffsetAverage s
  | .timeTsRead master => Sys2Proof.Machine.execTimeTsRead master s
  | .evaluationInstant t ctxs caught => Sys2Proof.Machine.execEvaluationInstant t ctxs caught s
  | .counterTerminal c => Sys2Proof.Machine.execCounterTerminal c s
  | .timerLimit m => Sys2Proof.Machine.execTimerLimit m s
  | .retentionEnd n => Sys2Proof.Machine.execRetentionEnd n s
  | .resCommit n id => Sys2Proof.Machine.execResCommit n id s
  | .resCommitApply n ic => Sys2Proof.Machine.execResCommitApply n ic s
  | .resFieldWrite master n off value mask => Sys2Proof.Machine.execResFieldWrite master n off value mask s
  | .lastRead n res => Sys2Proof.Machine.execLastRead n res s
  | .arm n => Sys2Proof.Machine.execArm n s
  | .disarm n => Sys2Proof.Machine.execDisarm n s
  | .armApply n t => Sys2Proof.Machine.execArmApply n t s
  | .disarmApply n t => Sys2Proof.Machine.execDisarmApply n t s
  | .seqCommit n => Sys2Proof.Machine.execSeqCommit n s
  | .seqCommitApply n => Sys2Proof.Machine.execSeqCommitApply n s
  | .seqCfgWrite n cont auto frz tgt => Sys2Proof.Machine.execSeqCfgWrite n cont auto frz tgt s
  | .rrStart => Sys2Proof.Machine.execRrStart s
  | .rrStop => Sys2Proof.Machine.execRrStop s
  | .rrEnd => Sys2Proof.Machine.execRrEnd s
  | .clear => Sys2Proof.Machine.execClear s
  | .clearDone => Sys2Proof.Machine.execClearDone s
  | .cregPosRead master n => Sys2Proof.Machine.execCregPosRead master n s
  | .cregEnWrite n en => Sys2Proof.Machine.execCregEnWrite n en s
  | .containerCommit n mismatch => Sys2Proof.Machine.execContainerCommit n mismatch s
  | .containerDecode user slot a => Sys2Proof.Machine.execContainerDecode user slot a s
  | .jobGo q => Sys2Proof.Machine.execJobGo q s
  | .resume q => Sys2Proof.Machine.execResume q s
  | .jobAbort q => Sys2Proof.Machine.execJobAbort q s
  | .jobContainer q mismatch => Sys2Proof.Machine.execJobContainer q mismatch s
  | .cmpRegCfgWrite master n tbl cls nbr => Sys2Proof.Machine.execCmpRegCfgWrite master n tbl cls nbr s
  | .conservatorReread resp => Sys2Proof.Machine.execConservatorReread resp s
  | .patrolRead resp => Sys2Proof.Machine.execPatrolRead resp s
  | .inventoryWriteback resp => Sys2Proof.Machine.execInventoryWriteback resp s
  | .inventoryRetest resps => Sys2Proof.Machine.execInventoryRetest resps s
  | .inventoryAge => Sys2Proof.Machine.execInventoryAge s
  | .pprStart => Sys2Proof.Machine.execPprStart s
  | .pprDone st ok => Sys2Proof.Machine.execPprDone st ok s
  | .scoreHalve => Sys2Proof.Machine.execScoreHalve s
  | .retire stk pos => Sys2Proof.Machine.execRetire stk pos s
  | .sweepLine st resp bad => Sys2Proof.Machine.execSweepLine st resp bad s
  | .injectArm line arm => Sys2Proof.Machine.execInjectArm line arm s
  | .ceDivWrite v => Sys2Proof.Machine.execCeDivWrite v s
  | .refreshAccrual st eyes => Sys2Proof.Machine.execRefreshAccrual st eyes s
  | .refreshRound st idle eyes => Sys2Proof.Machine.execRefreshRound st idle eyes s
  | .burstNotice => Sys2Proof.Machine.execBurstNotice s
  | .rdTableClear st => Sys2Proof.Machine.execRdTableClear st s
  | .targetedRefresh st => Sys2Proof.Machine.execTargetedRefresh st s
  | .powerDownEntry st => Sys2Proof.Machine.execPowerDownEntry st s
  | .selfRefreshEntry st => Sys2Proof.Machine.execSelfRefreshEntry st s
  | .trainingPassStart => Sys2Proof.Machine.execTrainingPassStart s
  | .binRequest bin pol => Sys2Proof.Machine.execBinRequest bin pol s
  | .binChange => Sys2Proof.Machine.execBinChange s
  | .binLockTimeout => Sys2Proof.Machine.execBinLockTimeout s
  | .qosMaxRead master p => Sys2Proof.Machine.execQosMaxRead master p s
  | .scratchAccess a b => Sys2Proof.Machine.execScratchAccess a b s
  | .scrRgnWrite master m j reg v => Sys2Proof.Machine.execScrRgnWrite master m j reg v s
  | .atomicGo master m resp => Sys2Proof.Machine.execAtomicGo master m resp s
  | .scratchPatrol resp again => Sys2Proof.Machine.execScratchPatrol resp again s
  | .scratchInvAge => Sys2Proof.Machine.execScratchInvAge s
  | .scratchRepairDone b => Sys2Proof.Machine.execScratchRepairDone b s
  | .secureWipeDone burnFail => Sys2Proof.Machine.execSecureWipeDone burnFail s
  | .marchTestStart => Sys2Proof.Machine.execMarchTestStart s
  | .marchTestAbort rows fails => Sys2Proof.Machine.execMarchTestAbort rows fails s
  | .marchTestEnd fails => Sys2Proof.Machine.execMarchTestEnd fails s
  | .configRequest off wr mask => Sys2Proof.Machine.execConfigRequest off wr mask s
  | .apertureAccess a n wr ep => Sys2Proof.Machine.execApertureAccess a n wr ep s
  | .perstN => Sys2Proof.Machine.execPerstN s
  | .hotReset => Sys2Proof.Machine.execHotReset s
  | .functionLevelReset => Sys2Proof.Machine.execFunctionLevelReset s
  | .d3hotEntry => Sys2Proof.Machine.execD3hotEntry s
  | .d0Entry => Sys2Proof.Machine.execD0Entry s
  | .linkDown => Sys2Proof.Machine.execLinkDown s
  | .irqEoi v => Sys2Proof.Machine.execIrqEoi v s
  | .msixUnmask v mask => Sys2Proof.Machine.execMsixUnmask v mask s
  | .evqRead => Sys2Proof.Machine.execEvqRead s
  | .evqPop => Sys2Proof.Machine.execEvqPop s
  | .dmaTailWrite c v => Sys2Proof.Machine.execDmaTailWrite c v s
  | .dmaEnable c => Sys2Proof.Machine.execDmaEnable c s
  | .dmaDisable c => Sys2Proof.Machine.execDmaDisable c s
  | .dmaAbort c moved => Sys2Proof.Machine.execDmaAbort c moved s
  | .dmaDescriptor c => Sys2Proof.Machine.execDmaDescriptor c s
  | .dmaDescriptorDone c => Sys2Proof.Machine.execDmaDescriptorDone c s
  | .streamFlush c => Sys2Proof.Machine.execStreamFlush c s
  | .atsInvalidate itag page pages => Sys2Proof.Machine.execAtsInvalidate itag page pages s
  | .completionTimeout tag => Sys2Proof.Machine.execCompletionTimeout tag s
  | .quarantineExpiry => Sys2Proof.Machine.execQuarantineExpiry s
  | .completionReceived tag status ep bytes cplid => Sys2Proof.Machine.execCompletionReceived tag status ep bytes cplid s
  | .winCommit => Sys2Proof.Machine.execWinCommit s
  | .train => Sys2Proof.Machine.execTrain s
  | .linkTrainDone fail swing pre psr => Sys2Proof.Machine.execLinkTrainDone fail swing pre psr s
  | .hpdIrq lost => Sys2Proof.Machine.execHpdIrq lost s
  | .hpdUnplug => Sys2Proof.Machine.execHpdUnplug s
  | .hpdPlug => Sys2Proof.Machine.execHpdPlug s
  | .auxGo => Sys2Proof.Machine.execAuxGo s
  | .auxDone result bs => Sys2Proof.Machine.execAuxDone result bs s
  | .latchPoint => Sys2Proof.Machine.execLatchPoint s
  | .timingCommit now => Sys2Proof.Machine.execTimingCommit now s
  | .flip layers => Sys2Proof.Machine.execFlip layers s
  | .render => Sys2Proof.Machine.execRender s
  | .renderStop => Sys2Proof.Machine.execRenderStop s
  | .renderDone => Sys2Proof.Machine.execRenderDone s
  | .scanoutLine y late fill => Sys2Proof.Machine.execScanoutLine y late fill s
  | .dirty => Sys2Proof.Machine.execDirty s
  | .lockstepMismatch => Sys2Proof.Machine.execLockstepMismatch s
  | .watchdogExpiry => Sys2Proof.Machine.execWatchdogExpiry s
  | .curRamPatrol resp => Sys2Proof.Machine.execCurRamPatrol resp s
  | .curWindowAccess a n wr resp lat => Sys2Proof.Machine.execCurWindowAccess a n wr resp lat s
  | .tempSample pt v => Sys2Proof.Machine.execTempSample pt v s
  | .voltSample j mv => Sys2Proof.Machine.execVoltSample j mv s
  | .tamperDetection => Sys2Proof.Machine.execTamperDetection s
  | .lifeHour t => Sys2Proof.Machine.execLifeHour t s
  | .ledgerWrite => Sys2Proof.Machine.execLedgerWrite s
  | .ledgerSecond => Sys2Proof.Machine.execLedgerSecond s
  | .ledgerRead => Sys2Proof.Machine.execLedgerRead s
  | .info seq => Sys2Proof.Machine.execInfo seq s
  | .slotInfo seq => Sys2Proof.Machine.execSlotInfo seq s
  | .updBegin seq => Sys2Proof.Machine.execUpdBegin seq s
  | .updWrite seq => Sys2Proof.Machine.execUpdWrite seq s
  | .updCheck seq => Sys2Proof.Machine.execUpdCheck seq s
  | .updCommit seq => Sys2Proof.Machine.execUpdCommit seq s
  | .updConfirm seq => Sys2Proof.Machine.execUpdConfirm seq s
  | .bootSelect seq => Sys2Proof.Machine.execBootSelect seq s
  | .ldgNote seq => Sys2Proof.Machine.execLdgNote seq s
  | .trialExpiry => Sys2Proof.Machine.execTrialExpiry s
  | .vaultPatrol resp key => Sys2Proof.Machine.execVaultPatrol resp key s
  | .powerFault ch => Sys2Proof.Machine.execPowerFault ch s
  | .load bad both => Sys2Proof.Machine.execLoad bad both s
  | .tileLoad bad => Sys2Proof.Machine.execTileLoad bad s
  | .readbackScan bad => Sys2Proof.Machine.execReadbackScan bad s
  | .provision slot => Sys2Proof.Machine.execProvision slot s
  | .transition slot moved => Sys2Proof.Machine.execTransition slot moved s
  | .keyLoad slot => Sys2Proof.Machine.execKeyLoad slot s
  | .keyErase slot => Sys2Proof.Machine.execKeyErase slot s
  | .sealGen slot => Sys2Proof.Machine.execSealGen slot s
  | .sealUse slot => Sys2Proof.Machine.execSealUse slot s
  | .raiseMinver slot => Sys2Proof.Machine.execRaiseMinver slot s
  | .dbgAuth slot => Sys2Proof.Machine.execDbgAuth slot s
  | .dbgClose slot => Sys2Proof.Machine.execDbgClose slot s
  | .dbgOpen slot => Sys2Proof.Machine.execDbgOpen slot s
  | .tamperAck slot low => Sys2Proof.Machine.execTamperAck slot low s
  | .nonce slot => Sys2Proof.Machine.execNonce slot s
  | .tokenLockoutEnd => Sys2Proof.Machine.execTokenLockoutEnd s
  | .rngHealthFail => Sys2Proof.Machine.execRngHealthFail s
  | .debugSessionExpiry => Sys2Proof.Machine.execDebugSessionExpiry s
  | .tapReset => Sys2Proof.Machine.execTapReset s
  | .bypass => Sys2Proof.Machine.execBypass s
  | .idcode => Sys2Proof.Machine.execIdcode s
  | .samplePreload pins load => Sys2Proof.Machine.execSamplePreload pins load s
  | .extest pins load => Sys2Proof.Machine.execExtest pins load s
  | .clamp => Sys2Proof.Machine.execClamp s
  | .highz => Sys2Proof.Machine.execHighz s
  | .dap op => Sys2Proof.Machine.execDap op s
  | .dapAuth op => Sys2Proof.Machine.execDapAuth op s
  | .datapathParity n x => Sys2Proof.Machine.execDatapathParity n x s
  | .handshakeWatchdog n x => Sys2Proof.Machine.execHandshakeWatchdog n x s
  | .stageResetRetry => Sys2Proof.Machine.execStageResetRetry s
  | .powerOnReset pgFail train bad => Sys2Proof.Machine.execPowerOnReset pgFail train bad s
  | .off key moved => Sys2Proof.Machine.execOff key moved s
  | .swrst key pgFail train bad => Sys2Proof.Machine.execSwrst key pgFail train bad s
  | .trickleEntry => Sys2Proof.Machine.execTrickleEntry s
  | .idleReturn => Sys2Proof.Machine.execIdleReturn s
  | .perstNRelease pgFail train bad => Sys2Proof.Machine.execPerstNRelease pgFail train bad s
  | .pcieLinkUp speed width flit => Sys2Proof.Machine.execPcieLinkUp speed width flit s
  | .curatorResume => Sys2Proof.Machine.execCuratorResume s
  | .rngHealthRestored => Sys2Proof.Machine.execRngHealthRestored s
  | .levelChange c vd => Sys2Proof.Machine.execLevelChange c vd s

end Machine
end Sys2Proof
end

