-- ==== Sys2Proof/Safety.lean ====
section
/-!
DEFINITION. The words in which statements about the block are made: a command that completes, what a state's registers read,
what a command may change.
-/
namespace Sys2Proof
namespace Machine

/-- The core is up: neither OFF (R470) nor held in a fundamental reset by PERST_N (R330). -/
def State.up (s : State) : Prop := s.eng.down = false

/-- No memory request stalls at its port or waits in the fabric (R32, R281). -/
def State.fabIdle (s : State) : Prop := s.eng.mc.fab = [] ∧ s.eng.mc.stalled = []

/-- Nothing of its own goes on behind a command: no start-up (R466), no power-down that waits (R470), no tamper sequence (R441), no
mailbox request that waits (R404), no memory request that waits (R281), no repair map that waits to be saved (R255). -/
def State.quiet (s : State) : Prop :=
  s.eng.pw.start = none ∧ s.eng.pw.offPend = false ∧ s.eng.se.events = [] ∧ s.eng.cu.mbx = none ∧ s.fabIdle ∧
    s.eng.cu.mapDue = false

/-- The value of a register field. -/
def State.rd (s : State) (f : Fld) : Nat := s.eng.rd f

/-- The active value of a shadow or held field. -/
def State.rda (s : State) (f : Fld) : Nat := s.eng.rda f

/-- The command completes: it answers a next state, the queue is as it was, and `P` holds of that state. -/
def Completes (c : Instr) (s : State) (P : State → Prop) : Prop :=
  ∃ t, exec c s = .next t ∧ t.pending = s.pending ∧ P t

/-- The fields that setting an event bit or posting a Ledger cause may change besides the event bit itself: the event
FIFO's count and losses (R341), the vectors in service and pending (R337), the fill and drops of the Ledger queue (R394), the
two event bits that report a full FIFO and a full queue, and the wake cause FAULT (R60). -/
def reportKeys : List Nat :=
  [HOST_EVQ_STAT_COUNT.key, HOST_EVQ_STAT_LOST.key, HOST_IRQ_INSVC_LO_VEC.key, HOST_IRQ_INSVC_HI_VEC.key, CS_MSI_PEND.key,
    CUR_LDG_QFILL_FILL.key, CUR_LDG_DROP_CNT.key, HOST_EVT_EVQ_OVF.key, CUR_EVT_LDG_DROP.key, ACC_ARC_WAKE_STAT_CAUSE.key]

/-- The engine without its registers and without what a report changes: event FIFO, Ledger queue, messages, pending bits. -/
def Eng.hush (e : Eng) : Eng := { e with regs := [], evq := {}, ldg := {}, out := [], pba := 0 }

/-- The engine without its registers. -/
def Eng.rest (e : Eng) : Eng := { e with regs := [], wq := [] }

/-- The engine without its registers and its active values. -/
def Eng.core (e : Eng) : Eng := { e with regs := [], act := [], wq := [] }

/-- Between two states every field but those of `ks` keeps its value. -/
def FieldsKept (ks : List Nat) (s t : State) : Prop := ∀ g : Fld, g.key ∉ ks → t.rd g = s.rd g

/-- Between two states nothing changes but the fields of `ks`: memory, and all the engine holds besides its registers, are
as they were. -/
def Only (ks : List Nat) (s t : State) : Prop := t.mem = s.mem ∧ t.eng.rest = s.eng.rest ∧ FieldsKept ks s t

/-- As `Only`, and the active values may change too, but for every field outside `as`. -/
def OnlyActive (ks as : List Nat) (s t : State) : Prop :=
  t.mem = s.mem ∧ t.eng.core = s.eng.core ∧ FieldsKept ks s t ∧ ∀ g : Fld, g.key ∉ as → t.rda g = s.rda g

/-- Memory is as it was, and so is every field but those of `ks` and of `reportKeys`. -/
def Kept (ks : List Nat) (s t : State) : Prop := t.mem = s.mem ∧ FieldsKept (ks ++ reportKeys) s t

/-- No write of a command is left over, and the memories are in their canonical form. -/
def Inv (s : State) : Prop := s.mem.wf = true ∧ s.eng.wq = []

end Machine
end Sys2Proof
end

