-- ==== Sys2Proof/WellFormed.lean ====
section
/-!
DEFINITION. Which commands are well formed: every operand lies in the range that its rule gives it. A command that is not
well formed stands for nothing the outside can do.
-/
namespace Sys2Proof

/-- The indices of a front-end field lie in their ranges. -/
def FeField.ok : FeField → Bool
  | .en c | .term c | .hyst c | .dsk c => decide (c < 256)
  | .clksel t => decide (t < 8)
  | .stclkCh n | .stclkEdge n | .stclkEn n | .stpt n => decide (n < 4)

/-- A scratch access lies in the 32 MiB, and what the array returns is given for each word it touches (R306). -/
def ScrAcc.ok (a : ScrAcc) : Bool :=
  decide (0 < a.len) && decide (a.addr + a.len ≤ 2 ^ 25) && (a.wr.all fun b => b.length == a.len) &&
    a.resp.length == (a.addr + a.len + 7) / 8 - a.addr / 8

/-- A write of a line carries a byte mask and no more than 256 bytes. -/
def maskOk (wr : Option (Nat × List Byte)) : Bool := wr.all fun w => decide (w.1 < 2 ^ 256) && decide (w.2.length ≤ 256)

/-- The command is well formed. -/
def wellFormed (i : Instr) : Bool :=
  match i with
  | .registerWrite master off value be => decide (master < 3) && decide (off < 2 ^ 25) && decide (off % 4 = 0) && decide (value < 2 ^ 32) && decide (be < 16)
  | .bar0InvalidAccess _ => true
  | .lockAll => true
  | .sampleWord t w => decide (t < 8) && decide (w.units.length = 64) && decide ((w.units.all fun u => u < 2 ^ 32) = true) && decide (w.stamp < 2 ^ 64) && decide ((w.volts.all fun v => v.1 < 32 && 64 ≤ v.2.length && v.2.length ≤ 128) = true)
  | .elasticGap t => decide (t < 8)
  | .accessionLine n t => decide (n < 16) && decide (t < 8)
  | .slackWindowEnd units => decide (units.length = 16)
  | .clrMin => true
  | .ebClr tiles => decide (tiles < 256)
  | .fabRsvWrite p _ _ => decide (p < 6)
  | .fabOutRead p => decide (p < 6)
  | .memoryRequest port line wr _ _ => decide (port < 6) && decide (line < 2 ^ 29) && maskOk wr
  | .modeRequest master mode _ stop => decide (master < 3) && decide (mode < 8) && decide (stop < 2 ^ 64)
  | .acquisitionEntry t0 => decide (t0 < 2 ^ 64)
  | .modeLockFail => true
  | .acquisitionStop => true
  | .forcedStop stages => decide (stages < 2 ^ 16)
  | .tileSvcRequest req => decide (req < 2 ^ 15)
  | .tileServiceEntry k u => decide (k < 15) && decide (u < 2 ^ 64)
  | .tileServiceExit k v => decide (k < 15) && decide (v < 2 ^ 64)
  | .keptLineCopy n => decide (n < 16)
  | .seal n => decide (n < 16)
  | .keepCtrlWrite n _ _ dest => decide (n < 16) && decide (dest < 16)
  | .wakeAssert => true
  | .tipWrite c _ => decide (c < 256)
  | .thrWrite c _ => decide (c < 256)
  | .feFieldWrite m f _ => decide (m < 3) && decide (f.ok = true)
  | .eyeScanStart => true
  | .eyeScanAbort => true
  | .eyeScanDone _ => true
  | .calRequest tiles => decide (tiles < 256)
  | .calDone t _ _ _ => decide (t < 8)
  | .podInserted p => decide (p < 8)
  | .podRemoved p _ => decide (p < 8)
  | .podPowerRequest p _ _ => decide (p < 8)
  | .softStartEnd p => decide (p < 8)
  | .podOvercurrent p _ _ => decide (p < 8)
  | .attnPress p => decide (p < 8)
  | .attnPowerOff p _ => decide (p < 8)
  | .identDone p _ => decide (p < 8)
  | .reread p => decide (p < 8)
  | .sbGo p => decide (p < 8)
  | .sbDone p _ _ => decide (p < 8)
  | .tileRejoin p _ => decide (p < 8)
  | .portAbsentRecord p => decide (p < 8)
  | .podPwrStatRead p => decide (p < 8)
  | .loopCommit mask => decide (mask < 256)
  | .lockWindowEnd n _ t => decide (n < 8) && decide (t < 2 ^ 64)
  | .analogueLock _ _ t => decide (t < 2 ^ 64)
  | .clockMonitorFail src t _ => decide (src ≤ 4 ∨ (8 ≤ src ∧ src < 16)) && decide (t < 2 ^ 64)
  | .clockMonitorPass src => decide (src ≤ 4 ∨ (8 ≤ src ∧ src < 16))
  | .phaseAlignDone => true
  | .loopReturn mask => decide (mask < 256)
  | .unlockRecord t => decide (t < 8)
  | .clkLdAnWrite _ loop _ => decide (loop < 8)
  | .rampSegWrite m sg _ _ => decide (m < 4) && decide (sg < 64)
  | .rampPeriod m _ _ => decide (m < 4)
  | .clkoutCfgWrite master k value mask => decide (master < 3) && decide (k < 4) && decide (value < 2 ^ 32) && decide (mask < 2 ^ 32)
  | .ts64Wrap => true
  | .set _ => true
  | .step _ => true
  | .todSet _ => true
  | .todStep _ => true
  | .timeCmdAbandon => true
  | .todSecond => true
  | .ppsOutPulseEnd => true
  | .ppsInEdge t _ => decide (t < 2 ^ 64)
  | .trefUpdate _ => true
  | .ppsMiss => true
  | .hoLimit => true
  | .rateWrite _ => true
  | .steerModeWrite mode => decide (mode < 4)
  | .aqlFrameRx _ _ t ph => decide (t < 2 ^ 64) && decide (ph < 64)
  | .aqlFrameTx _ => true
  | .enum => true
  | .adopt => true
  | .aqlArm => true
  | .aqlOffsetAverage => true
  | .timeTsRead master => decide (master < 3)
  | .evaluationInstant t ctxs _ => decide (t < 2 ^ 64) && decide (ctxs < 16)
  | .counterTerminal c => decide (c < 32)
  | .timerLimit m => decide (m < 16)
  | .retentionEnd n => decide (n < 4)
  | .resCommit n id => decide (n < 4) && decide ((id.all fun i => i < 208) = true)
  | .resCommitApply n ic => decide (n < 4) && decide (ic < 2 ^ 64)
  | .resFieldWrite master n off value mask => decide (master < 3) && decide (n < 4) && decide (off < 2 ^ 19) && decide (value < 2 ^ 32) && decide (mask < 2 ^ 32)
  | .lastRead n i => decide (n < 4) && decide (i < 208)
  | .arm n => decide (n < 4)
  | .disarm n => decide (n < 4)
  | .armApply n t => decide (n < 4) && decide (t < 2 ^ 64)
  | .disarmApply n t => decide (n < 4) && decide (t < 2 ^ 64)
  | .seqCommit n => decide (n < 4)
  | .seqCommitApply n => decide (n < 4)
  | .seqCfgWrite n _ _ _ tgt => decide (n < 4) && decide (tgt < 2 ^ 16)
  | .rrStart => true
  | .rrStop => true
  | .rrEnd => true
  | .clear => true
  | .clearDone => true
  | .cregPosRead master n => decide (master < 3) && decide (n < 16)
  | .cregEnWrite n _ => decide (n < 16)
  | .containerCommit n _ => decide (n < 16)
  | .containerDecode user _ _ => decide (user < 5)
  | .jobGo q => decide (q < 4)
  | .resume q => decide (q < 4)
  | .jobAbort q => decide (q < 4)
  | .jobContainer q _ => decide (q < 4)
  | .cmpRegCfgWrite master n tbl cls _ => decide (master < 3) && decide (n < 16) && decide (tbl < 4) && decide (cls < 4)
  | .conservatorReread _ => true
  | .patrolRead _ => true
  | .inventoryWriteback _ => true
  | .inventoryRetest _ => true
  | .inventoryAge => true
  | .pprStart => true
  | .pprDone st _ => decide (st < 4)
  | .scoreHalve => true
  | .retire stk pos => decide (stk < 4) && decide (pos < 10)
  | .sweepLine st _ _ => decide (st < 4)
  | .injectArm line _ => decide (line < 2 ^ 29)
  | .ceDivWrite _ => true
  | .refreshAccrual st _ => decide (st < 4)
  | .refreshRound st _ _ => decide (st < 4)
  | .burstNotice => true
  | .rdTableClear st => decide (st < 4)
  | .targetedRefresh st => decide (st < 4)
  | .powerDownEntry st => decide (st < 4)
  | .selfRefreshEntry st => decide (st < 4)
  | .trainingPassStart => true
  | .binRequest bin _ => decide (bin < 4)
  | .binChange => true
  | .binLockTimeout => true
  | .qosMaxRead master p => decide (master < 3) && decide (p < 6)
  | .scratchAccess a b => decide (a.ok = true) && decide ((b.all fun x => x.ok) = true)
  | .scrRgnWrite master m j reg _ => decide (master < 3) && decide (m < 3) && decide (j < 8) && decide (reg < 3)
  | .atomicGo master m _ => decide (master < 3) && decide (m < 3)
  | .scratchPatrol _ _ => true
  | .scratchInvAge => true
  | .scratchRepairDone b => decide (b < 32)
  | .secureWipeDone _ => true
  | .marchTestStart => true
  | .marchTestAbort _ _ => true
  | .marchTestEnd _ => true
  | .configRequest off _ mask => decide (off < 4096) && decide (off % 4 = 0) && decide (mask < 2 ^ 32)
  | .apertureAccess _ n _ _ => decide (0 < n)
  | .perstN => true
  | .hotReset => true
  | .functionLevelReset => true
  | .d3hotEntry => true
  | .d0Entry => true
  | .linkDown => true
  | .irqEoi v => decide (v < 64)
  | .msixUnmask v _ => decide (v < 64)
  | .evqRead => true
  | .evqPop => true
  | .dmaTailWrite c _ => decide (c < 8)
  | .dmaEnable c => decide (c < 8)
  | .dmaDisable c => decide (c < 8)
  | .dmaAbort c _ => decide (c < 8)
  | .dmaDescriptor c => decide (c < 8)
  | .dmaDescriptorDone c => decide (c < 8)
  | .streamFlush c => decide (c < 8)
  | .atsInvalidate itag _ pages => decide (itag < 32) && decide (0 < pages)
  | .completionTimeout tag => decide (tag < 1024)
  | .quarantineExpiry => true
  | .completionReceived tag _ _ _ _ => decide (tag < 1024)
  | .winCommit => true
  | .train => true
  | .linkTrainDone _ _ _ _ => true
  | .hpdIrq _ => true
  | .hpdUnplug => true
  | .hpdPlug => true
  | .auxGo => true
  | .auxDone _ _ => true
  | .latchPoint => true
  | .timingCommit _ => true
  | .flip layers => decide (layers < 8)
  | .render => true
  | .renderStop => true
  | .renderDone => true
  | .scanoutLine _ _ _ => true
  | .dirty => true
  | .lockstepMismatch => true
  | .watchdogExpiry => true
  | .curRamPatrol _ => true
  | .curWindowAccess a n _ _ _ => decide (a < 2 ^ 16) && decide (n = 1 ∨ n = 2 ∨ n = 4) && decide (a % n = 0)
  | .tempSample i _ => decide (i < 24)
  | .voltSample j _ => decide (j < 16)
  | .tamperDetection => true
  | .lifeHour _ => true
  | .ledgerWrite => true
  | .ledgerSecond => true
  | .ledgerRead => true
  | .info seq => decide (seq < 256)
  | .slotInfo seq => decide (seq < 256)
  | .updBegin seq => decide (seq < 256)
  | .updWrite seq => decide (seq < 256)
  | .updCheck seq => decide (seq < 256)
  | .updCommit seq => decide (seq < 256)
  | .updConfirm seq => decide (seq < 256)
  | .bootSelect seq => decide (seq < 256)
  | .ldgNote seq => decide (seq < 256)
  | .trialExpiry => true
  | .vaultPatrol _ _ => true
  | .powerFault ch => decide (ch < 8)
  | .load _ _ => true
  | .tileLoad _ => true
  | .readbackScan bad => decide (bad < 2 ^ 16)
  | .provision slot => decide (slot < 8)
  | .transition slot _ => decide (slot < 8)
  | .keyLoad slot => decide (slot < 8)
  | .keyErase slot => decide (slot < 8)
  | .sealGen slot => decide (slot < 8)
  | .sealUse slot => decide (slot < 8)
  | .raiseMinver slot => decide (slot < 8)
  | .dbgAuth slot => decide (slot < 8)
  | .dbgClose slot => decide (slot < 8)
  | .dbgOpen slot => decide (slot < 8)
  | .tamperAck slot _ => decide (slot < 8)
  | .nonce slot => decide (slot < 8)
  | .tokenLockoutEnd => true
  | .rngHealthFail => true
  | .debugSessionExpiry => true
  | .tapReset => true
  | .bypass => true
  | .idcode => true
  | .samplePreload pins load => decide (pins.length = load.length)
  | .extest pins load => decide (pins.length = load.length)
  | .clamp => true
  | .highz => true
  | .dap _ => true
  | .dapAuth _ => true
  | .datapathParity n _ => decide (n < 16)
  | .handshakeWatchdog n _ => decide (n < 16)
  | .stageResetRetry => true
  | .powerOnReset _ _ _ => true
  | .off key _ => decide (key < 256)
  | .swrst key _ _ _ => decide (key < 256)
  | .trickleEntry => true
  | .idleReturn => true
  | .perstNRelease _ _ _ => true
  | .pcieLinkUp speed width _ => decide (speed < 16) && decide (width < 64)
  | .curatorResume => true
  | .rngHealthRestored => true
  | .levelChange c _ => decide (c < 256)

end Sys2Proof
end

