-- ==== Sys2Proof/Certificates/Slice0/Obligations.lean ====
section
/-!
DEFINITION. The statements for the provers. Each is listed in OBLIGATIONS.json.
-/
section
open Sys2Proof Sys2Proof.Machine

/-- A step with command `c` at the front of the queue is `exec c` on the state with the queue's rest; on an empty queue it is the
tick of `idleTick` (the model's choice, log entry 3). -/
def Obligations.StepRunsFrontCommand : Prop :=
  (∀ (c : Instr) (s : State), step { s with pending := c :: s.pending } = exec c s) ∧
  ∀ s : State, s.pending = [] → step s = idleTick s

/-- The invariant of the memories: addresses rise strictly, no listed byte is zero, poison sets rise strictly, no write is
left over; every step keeps it. -/
def Obligations.MemoryStaysCanonical : Prop :=
  ∀ s t : State, Inv s → step s = .next t → Inv t

/-- Reset: the invariant, an empty queue, every field at its reset value, mode SERVICE. The bytes of memory that read 0
are the model's choice (log entry 5). -/
def Obligations.ResetIsCanonical : Prop :=
  Inv State.reset ∧ State.reset.pending = [] ∧ State.reset.up ∧ State.reset.eng.mode = .service ∧
  (∀ f : Fld, State.reset.rd f = f.reset ∧ State.reset.rda f = f.reset) ∧
  ∀ a : Nat, memGet State.reset.mem.cap a = 0 ∧ memGet State.reset.mem.scr a = 0 ∧ memGet State.reset.mem.vlt a = 0 ∧
    memGet State.reset.mem.ram a = 0

/-- R27 and R28: the window's headroom per stage; the alarm bit of R29. -/
def Obligations.SlackWindowWritesGauge : Prop :=
  ∀ (s : State) (units : List (List SlackUnit)), s.up →
    let win := 2 ^ (20 + s.rd GLB_SLK_CTRL_WIN)
    let cur (n : Nat) : Nat :=
      if (units.getD n []).all (fun u => u.items == 0) then 100
      else ((units.getD n []).map fun u => (win - u.busy) * 100 / win).foldl min 100
    Completes (.slackWindowEnd units) s fun t =>
      (∀ n < 16, t.rd (GLB_SLK_MARGIN_CUR n) = cur n ∧
        t.rd (GLB_SLK_MARGIN_MIN n) = min (cur n) (s.rd (GLB_SLK_MARGIN_MIN n)) ∧
        (s.rd GLB_SLK_CTRL_EN = 1 → cur n < s.rd GLB_SLK_CTRL_FLOOR → t.eng.bit GLB_SLK_ALARM_STAGE n = true)) ∧
      (∃ w < 16, t.rd GLB_SLK_WORST_STAGE = w ∧ t.rd GLB_SLK_WORST_MARGIN = cur w ∧
        ∀ n < 16, cur w ≤ cur n ∧ (n < w → cur w < cur n)) ∧
      Kept ([GLB_SLK_WORST_STAGE.key, GLB_SLK_WORST_MARGIN.key, GLB_SLK_ALARM_STAGE.key] ++
        (List.range 16).flatMap fun n => [(GLB_SLK_MARGIN_CUR n).key, (GLB_SLK_MARGIN_MIN n).key]) s t

/-- The three clears of the architecture chapter, with their whole frames. -/
def Obligations.GaugeAndBufferCountersClear : Prop :=
  (∀ s : State, s.up → Completes .clrMin s fun t =>
    (∀ n < 16, t.rd (GLB_SLK_MARGIN_MIN n) = 100) ∧ Only ((List.range 16).map fun n => (GLB_SLK_MARGIN_MIN n).key) s t) ∧
  (∀ (s : State) (tiles : Nat), s.up → Completes (.ebClr tiles) s fun t =>
    (∀ k < 8, natBit tiles k = true →
      t.rd (GLB_EB_STAT_PEAK k) = 0 ∧ t.rd (GLB_EB_OVF_CNT k) = 0 ∧ t.rd (GLB_EB_DROP_WORDS k) = 0) ∧
    Only (((List.range 8).filter (natBit tiles)).flatMap fun k =>
      [(GLB_EB_STAT_PEAK k).key, (GLB_EB_OVF_CNT k).key, (GLB_EB_DROP_WORDS k).key]) s t) ∧
  ∀ (s : State) (p : Nat), s.up → p < 6 → Completes (.fabOutRead p) s fun t =>
    t.rd (MEM_FAB_OUT_PEAK p) = s.rd (MEM_FAB_OUT_CUR p) % 2 ^ 11 ∧ Only [(MEM_FAB_OUT_PEAK p).key] s t

/-- R33 and R10: the two outcomes of a reservation write, and the locked block. -/
def Obligations.ReservationAcceptedOrRejected : Prop :=
  ∀ (s : State) (p rsv mx : Nat), s.up → p < 6 →
    let others := ((List.range 6).map fun q => if q = p then 0 else s.rd (MEM_FAB_RSV_RSV_REQ q)).sum
    let bad := 1024 < others + rsv ∨ mx < rsv ∨ 1024 < mx ∨ ((p = 4 ∨ p = 5) ∧ rsv < 8)
    (s.rd MEM_GCTRL_LOCK ≠ 0 → Completes (.fabRsvWrite p rsv mx) s fun t => Only [] s t) ∧
    (s.rd MEM_GCTRL_LOCK = 0 → bad → Completes (.fabRsvWrite p rsv mx) s fun t =>
      t.rd MEM_FAB_STAT_CFG_ERR = 1 ∧ Kept [MEM_FAB_STAT_CFG_ERR.key] s t) ∧
    (s.rd MEM_GCTRL_LOCK = 0 → ¬bad → Completes (.fabRsvWrite p rsv mx) s fun t =>
      t.rd (MEM_FAB_RSV_RSV_REQ p) = rsv ∧ t.rd (MEM_FAB_RSV_MAX_REQ p) = mx ∧
      Only [(MEM_FAB_RSV_RSV_REQ p).key, (MEM_FAB_RSV_MAX_REQ p).key, MEM_FAB_STAT_SHARED_FREE.key] s t)

/-- R20 and R21: the drop interval; R19 and R62: the word stored, where some context evaluates and some region receives; R63: V_T and H
in µV, where no value waits for a word of the tile. -/
def Obligations.SampleWordMeetsBuffer : Prop :=
  ∀ (s : State) (k : Nat) (w : SampleWord), s.up → k < 8 →
    ((mayWrite s.eng k w.stamp = false ∨ wordFits s.eng k w = false) → Inv s → Completes (.sampleWord k w) s fun t => Only [] s t) ∧
    (mayWrite s.eng k w.stamp = true → wordFits s.eng k w = true → (s.eng.getEla k).upTo = none →
      let el := closeUnlock (s.eng.getEla k) w.stamp
      let fill := wordsHeld el
      let fin := (w.stamp + wordSpan s.eng w + (2 ^ 64 - 1)) % 2 ^ 64
      Completes (.sampleWord k w) s fun t =>
        (t.eng.getEla k).wPos = (w.stamp + wordSpan s.eng w) % 2 ^ 64 ∧ t.mem = s.mem ∧
        (el.dropping = none → 4096 ≤ fill → (t.eng.getEla k).dropping = some (w.stamp, fin, 1)) ∧
        (∀ a b n, el.dropping = some (a, b, n) → 3072 < fill ∨ (n ≠ 0 ∧ dropHeld el = true) →
          (t.eng.getEla k).dropping = some (if n = 0 then w.stamp else a, fin, n + 1)) ∧
        (∀ a b n, el.dropping = some (a, b, n) → fill ≤ 3072 → n = 0 ∨ dropHeld el = false → (t.eng.getEla k).dropping = none) ∧
        (el.dropping = none → fill < 4096 → (t.eng.getEla k).dropping = none ∧
          (anyEval s.eng = true → receivers s.eng k ≠ [] → w.volts = [] →
            (t.eng.getEla k).items.getLast? = some (.word { w with units := w.units.map fun u => u &&& enabledMask s.eng k })))) ∧
    ∀ (c : Nat) (vs : List Int), c < 32 → mayWrite s.eng k w.stamp = true →
      wordFits s.eng k w = true → (s.eng.getEla k).upTo = none → (s.eng.getEla k).dropping = none →
      wordsHeld (closeUnlock (s.eng.getEla k) w.stamp) < 4096 → anyEval s.eng = true → receivers s.eng k ≠ [] → s.eng.double = false →
      s.eng.fe.late = [] → w.volts = [(c, vs)] → w.units.length = 64 → vs.length = 64 → s.rda (FE_CH_CFG_EN (32 * k + c)) = 1 →
      let vt : Int := signed 12 (s.rda (FE_THR_CODE (32 * k + c))) * 500
      let half : Int := (s.rda (FE_CH_CFG_HYST (32 * k + c)) : Int) * 1000
      Completes (.sampleWord k w) s fun t => ∃ w2, (t.eng.getEla k).items.getLast? = some (.word w2) ∧ w2.stamp = w.stamp ∧
        ∀ i < 64, natBit (w2.units.getD i 0) c =
          if (if i = 0 then natBit s.eng.fe.comp (32 * k + c) else natBit (w2.units.getD (i - 1) 0) c) then
            !decide (vs.getD i 0 < vt - half) else decide (vt + half < vs.getD i 0)

/-- R208 and R221: a full line goes to the write pointer of a RING region. -/
def Obligations.AccessionStoresLine : Prop :=
  ∀ (s : State) (n k : Nat), s.up → n < 16 → k < 8 → lineReady s.eng n k = true → (s.eng.getRg n).outQ = [] →
    s.rd (ACC_CREG_STAT_FULL_NOW n) = 0 → s.rd (ACC_CREG_STAT_FROZEN_NOW n) = 0 → regionKind s.eng n = 1 →
    s.rd (ACC_CREG_SIZE_LINES n) ≠ 0 → (s.eng.getRg n).protect = [] → (s.eng.getRg n).willFreeze = [] →
    let w := s.rd (ACC_CREG_POS_WPTR n)
    let wraps := w + 1 = s.rd (ACC_CREG_SIZE_LINES n)
    (capFlows s.eng = false → Inv s → Completes (.accessionLine n k) s fun t => Only [] s t) ∧
    (capFlows s.eng = true → Completes (.accessionLine n k) s fun t =>
      memRead t.mem.cap (lineAddr s.eng n w) 256 = lineBytes s.eng n (streamLine s.eng n k (lineCap s.eng n k)) ∧
      t.rd (ACC_CREG_GS_SEQ n) = (s.rd (ACC_CREG_GS_SEQ n) + 1) % 2 ^ (ACC_CREG_GS_SEQ n).width ∧
      (wraps → t.rd (ACC_CREG_POS_WPTR n) = 0 ∧
        t.rd (ACC_CREG_GS_GEN n) = (s.rd (ACC_CREG_GS_GEN n) + 1) % 2 ^ (ACC_CREG_GS_GEN n).width) ∧
      (¬wraps → t.rd (ACC_CREG_POS_WPTR n) = (w + 1) % 2 ^ (ACC_CREG_POS_WPTR n).width ∧
        t.rd (ACC_CREG_GS_GEN n) = s.rd (ACC_CREG_GS_GEN n)))

/-- R22: the counters of a drop interval. -/
def Obligations.DropDescriptorIsCounted : Prop :=
  ∀ (s : State) (k : Nat), s.up → k < 8 →
    (∀ a b m, nextItem s.eng k = some (.drop a b m) → capFlows s.eng = true → Completes (.elasticGap k) s fun t =>
      t.rd (GLB_EB_OVF_CNT k) = min (s.rd (GLB_EB_OVF_CNT k) + 1) (2 ^ (GLB_EB_OVF_CNT k).width - 1) % 2 ^ (GLB_EB_OVF_CNT k).width ∧
      t.rd (GLB_EB_DROP_WORDS k) = min (s.rd (GLB_EB_DROP_WORDS k) + m) (2 ^ (GLB_EB_DROP_WORDS k).width - 1) % 2 ^ (GLB_EB_DROP_WORDS k).width ∧
      (t.eng.getEla k).aPos = b + 1) ∧
    ((∀ i, nextItem s.eng k = some i → i.isDrop = false) ∨ capFlows s.eng = false → Inv s → Completes (.elasticGap k) s fun t => Only [] s t)

/-- R64 to R66: the two ways to set a threshold. -/
def Obligations.ThresholdWritesStore : Prop :=
  ∀ (s : State) (c v : Nat), s.up → c < 256 →
    (s.rd (POD_STAT_ID_VALID (c / 32)) = 1 →
      let code := tipCode s.eng c (signed 24 (v % 2 ^ 24))
      let lim := clampInt (-2048) 2047 code
      Completes (.tipWrite c v) s fun t =>
        t.rd (FE_THR_TIP_TIP c) = v % 2 ^ 24 ∧ t.rd (FE_THR_CODE c) = toField 12 lim ∧ t.rd (FE_THR_SRC c) = 1 ∧
        t.rd (FE_THR_PEND c) = 0 ∧ (code ≠ lim → t.rd (FE_THR_CLAMP c) = 1) ∧
        (code = lim → t.rd (FE_THR_CLAMP c) = s.rd (FE_THR_CLAMP c)) ∧
        Kept [(FE_THR_TIP_TIP c).key, (FE_THR_CODE c).key, (FE_THR_SRC c).key, (FE_THR_PEND c).key, (FE_THR_CLAMP c).key] s t) ∧
    (s.rd (POD_STAT_ID_VALID (c / 32)) = 0 → Completes (.tipWrite c v) s fun t =>
      t.rd (FE_THR_TIP_TIP c) = v % 2 ^ 24 ∧ t.rd (FE_THR_SRC c) = 1 ∧ t.rd (FE_THR_PEND c) = 1 ∧
      Only [(FE_THR_TIP_TIP c).key, (FE_THR_SRC c).key, (FE_THR_PEND c).key] s t) ∧
    (natBit v 14 = false → Completes (.thrWrite c v) s fun t =>
      t.rd (FE_THR_CODE c) = v % 4096 ∧ t.rd (FE_THR_SRC c) = 0 ∧ t.rd (FE_THR_PEND c) = 0 ∧
      (tileSamples s.eng (c / 32) = false → Only [(FE_THR_CODE c).key, (FE_THR_SRC c).key, (FE_THR_PEND c).key] s t) ∧
      (tileSamples s.eng (c / 32) = true → t.eng.fe.late = s.eng.fe.late ++ [(c, false, v % 4096, s.eng.ts)] ∧
        Kept [(FE_THR_CODE c).key, (FE_THR_SRC c).key, (FE_THR_PEND c).key] s t)) ∧
    (natBit v 14 = true → Completes (.thrWrite c v) s fun t =>
      t.rd (FE_THR_CLAMP c) = 0 ∧ Only [(FE_THR_CLAMP c).key] s t)

/-- R77: which front-end writes apply at once and which are held. Register value and active value are told apart. -/
def Obligations.FrontEndWritesApplyOrHold : Prop :=
  ∀ (s : State) (m v : Nat), s.up →
    (∀ c < 256, Completes (.feFieldWrite m (.hyst c) v) s fun t => t.rd (FE_CH_CFG_HYST c) = v % 16 ∧
      (tileSamples s.eng (c / 32) = false → thrNow t.eng (FE_CH_CFG_HYST c) c = v % 16 ∧ Only [(FE_CH_CFG_HYST c).key] s t) ∧
      (tileSamples s.eng (c / 32) = true → t.eng.fe.late = s.eng.fe.late ++ [(c, true, v % 16, s.eng.ts)] ∧
        thrNow t.eng (FE_CH_CFG_HYST c) c = thrNow s.eng (FE_CH_CFG_HYST c) c ∧ Kept [(FE_CH_CFG_HYST c).key] s t)) ∧
    (∀ c < 256, Completes (.feFieldWrite m (.term c) v) s fun t =>
      t.rd (FE_CH_CFG_TERM c) = v % 2 ∧ t.rda (FE_CH_CFG_TERM c) = v % 2 ∧
      OnlyActive [(FE_CH_CFG_TERM c).key] [(FE_CH_CFG_TERM c).key] s t) ∧
    (∀ c < 256, tileSamples s.eng (c / 32) = true →
      (Completes (.feFieldWrite m (.en c) v) s fun t =>
        t.rd (FE_CH_CFG_EN c) = v % 2 ∧ t.rd (FE_CH_CFG_PEND c) = 1 ∧
        Only [(FE_CH_CFG_EN c).key, (FE_CH_CFG_PEND c).key] s t) ∧
      Completes (.feFieldWrite m (.dsk c) v) s fun t =>
        t.rd (FE_DSK_DSK c) = min v 819 ∧ t.rd (FE_DSK_PEND c) = 1 ∧ Only [(FE_DSK_DSK c).key, (FE_DSK_PEND c).key] s t) ∧
    (∀ c < 256, tileSamples s.eng (c / 32) = false →
      (Completes (.feFieldWrite m (.en c) v) s fun t =>
        t.rd (FE_CH_CFG_EN c) = v % 2 ∧ t.rda (FE_CH_CFG_EN c) = v % 2 ∧
        OnlyActive [(FE_CH_CFG_EN c).key] [(FE_CH_CFG_EN c).key] s t) ∧
      Completes (.feFieldWrite m (.dsk c) v) s fun t =>
        t.rd (FE_DSK_DSK c) = min v 819 ∧ t.rda (FE_DSK_DSK c) = min v 819 ∧
        OnlyActive [(FE_DSK_DSK c).key] [(FE_DSK_DSK c).key] s t) ∧
    (∀ k < 8, (tileSamples s.eng k = true → Completes (.feFieldWrite m (.clksel k) v) s fun t =>
        t.rd (FE_TILE_CFG_CLKSEL k) = v % 4 ∧ t.rd (FE_TILE_STAT_PEND k) = 1 ∧
        Only [(FE_TILE_CFG_CLKSEL k).key, (FE_TILE_STAT_PEND k).key] s t) ∧
      (tileSamples s.eng k = false → Completes (.feFieldWrite m (.clksel k) v) s fun t =>
        t.rd (FE_TILE_CFG_CLKSEL k) = v % 4 ∧ t.rda (FE_TILE_CFG_CLKSEL k) = v % 4 ∧
        OnlyActive [(FE_TILE_CFG_CLKSEL k).key] [(FE_TILE_CFG_CLKSEL k).key] s t)) ∧
    (∀ n < 4, ∀ p ∈ [(FeField.stclkCh n, FE_STCLK_CH n), (.stclkEdge n, FE_STCLK_EDGE n), (.stclkEn n, FE_STCLK_EN n), (.stpt n, FE_STPT_PT n)],
      ¬(p.2 = FE_STCLK_EDGE n ∧ v % 4 = 3) →
      (clockTiles s.eng n = [] → Completes (.feFieldWrite m p.1 v) s fun t =>
        t.rd p.2 = v % 2 ^ p.2.width ∧ t.rda p.2 = v % 2 ^ p.2.width ∧ OnlyActive [p.2.key] [p.2.key] s t) ∧
      (clockTiles s.eng n ≠ [] → Completes (.feFieldWrite m p.1 v) s fun t =>
        t.rd p.2 = v % 2 ^ p.2.width ∧ (∀ k ∈ clockTiles s.eng n, t.rd (FE_TILE_STAT_PEND k) = 1) ∧
        Only (p.2.key :: (clockTiles s.eng n).map fun k => (FE_TILE_STAT_PEND k).key) s t)) ∧
    ∀ n < 4, v % 4 = 3 →
      (s.rd (FE_STCLK_EDGE n) = 3 → Completes (.feFieldWrite m (.stclkEdge n) v) s fun t => Only [] s t) ∧
      (s.rd (FE_STCLK_EDGE n) ≠ 3 → Completes (.feFieldWrite m (.stclkEdge n) v) s fun t =>
        t.rd GLB_STATUS_BAD_ENC = 1 ∧ t.rd (FE_STCLK_EDGE n) = s.rd (FE_STCLK_EDGE n) ∧
        Kept [GLB_STATUS_BAD_ENC.key, GLB_BAD_ENC_LOG_OFFS.key, GLB_BAD_ENC_LOG_MASTER.key] s t)

/-- R82 to R84: the eye scan's commands. -/
def Obligations.EyeScanStartsAndEnds : Prop :=
  (∀ s : State, s.up → s.rd FE_ES_STAT_BUSY ≠ 0 → Completes .eyeScanStart s fun t => Only [] s t) ∧
  (∀ s : State, s.up → s.rd FE_ES_STAT_BUSY = 0 →
    let range := 2047 < signed 12 (s.rd FE_ES_THR_START_CODE) + 255 * ((s.rd FE_ES_THR_STRIDE : Int) + 1) ∨ 5 ≤ s.rd FE_ES_CTRL_REF
    let inside := inPartition s.eng 1 (s.rd FE_ES_BASE_OFFS / 64 * 64) 32800 = true
    let ended (code : Nat) : Prop := Completes .eyeScanStart s fun t =>
      t.rd FE_ES_STAT_ERR = code ∧ t.rd FE_ES_STAT_BUSY = 0 ∧ t.rd FE_ES_STAT_VALID = 0 ∧
      t.rd FE_ES_STAT_GEN = (s.rd FE_ES_STAT_GEN + 1) % 65536 ∧ t.eng.fe.scan = none ∧
      Kept [FE_ES_STAT_ERR.key, FE_ES_STAT_BUSY.key, FE_ES_STAT_VALID.key, FE_ES_STAT_GEN.key] s t
    (range → ended 1) ∧ (¬range → ¬inside → ended 6) ∧
    (¬range → inside → s.rd PWR_STAT_STATE ≠ 1 → scanAllowed s.eng (s.rd FE_ES_CTRL_CH) = true → s.eng.fe.scanHeld = false →
      loopLocked s.eng (s.rd FE_ES_CTRL_REF) = true → Completes .eyeScanStart s fun t =>
        t.rd FE_ES_STAT_BUSY = 1 ∧ t.rd FE_ES_STAT_VALID = 0 ∧ t.rd FE_ES_STAT_ERR = 0 ∧
        (t.eng.fe.scan.map fun sc => sc.ch) = some (s.rd FE_ES_CTRL_CH) ∧
        Kept [FE_ES_STAT_ERR.key, FE_ES_STAT_BUSY.key, FE_ES_STAT_VALID.key] s t)) ∧
  (∀ s : State, s.up → (s.eng.fe.scan = none → Completes .eyeScanAbort s fun t => Only [] s t) ∧
    (s.eng.fe.scan ≠ none → Completes .eyeScanAbort s fun t =>
      t.rd FE_ES_STAT_ERR = 4 ∧ t.rd FE_ES_STAT_BUSY = 0 ∧ t.rd FE_ES_STAT_VALID = 0 ∧
      t.rd FE_ES_STAT_GEN = (s.rd FE_ES_STAT_GEN + 1) % 65536 ∧ t.eng.fe.scan = none)) ∧
  ∀ (s : State) (counts : List (List Nat)) (sc : ScanSt), s.up → Inv s → s.eng.fe.scan = some sc →
    (s.eng.fe.scanHeld = true → Completes (.eyeScanDone counts) s fun t => Only [] s t) ∧
    (s.eng.fe.scanHeld = false →
    let p := propose sc (signed 12 (s.rd (FE_THR_CODE sc.ch))) fun i j => (counts.getD i []).getD j 0
    let gen := (s.rd FE_ES_STAT_GEN + 1) % 65536
    Completes (.eyeScanDone counts) s fun t =>
      t.rd FE_ES_STAT_ERR = 0 ∧ t.rd FE_ES_STAT_BUSY = 0 ∧ t.rd FE_ES_STAT_VALID = 1 ∧ t.rd FE_ES_STAT_GEN = gen ∧
      (t.rd FE_ES_RES_OPEN = 1 ↔ p.isOpen = true) ∧
      memRead t.mem.scr sc.base 32800 = scanBlock sc gen p (fun i j => (counts.getD i []).getD j 0) ∧
      (∀ a, a < sc.base ∨ sc.base + 32800 ≤ a → memGet t.mem.scr a = memGet s.mem.scr a))

/-- R86 and R87. -/
def Obligations.CalibrationRequestAndResult : Prop :=
  (∀ (s : State) (tiles : Nat), s.up → Completes (.calRequest tiles) s fun t =>
    ∀ k < 8, (natBit tiles k = true → (calBusy s.eng k = true ∨ tileSamples s.eng k = false) → calBusy t.eng k = true) ∧
      (natBit tiles k = true → calBusy s.eng k = false → tileSamples s.eng k = true →
        t.eng.bit FE_CAL_STAT_REJ k = true ∧ calBusy t.eng k = false) ∧
      (natBit tiles k = false → calBusy t.eng k = calBusy s.eng k)) ∧
  ∀ (s : State) (k fail ilv : Nat) (trims : List Nat), s.up → k < 8 → s.quiet →
    (calBusy s.eng k = false → Inv s → Completes (.calDone k fail trims ilv) s fun t => Only [] s t) ∧
    (calBusy s.eng k = true → fail % 16 = 0 → Completes (.calDone k fail trims ilv) s fun t =>
      calBusy t.eng k = false ∧ t.eng.bit FE_CAL_STAT_DONE k = true ∧ t.rd (FE_TILE_STAT_CAL_VALID k) = 1 ∧
      t.rd (FE_TILE_STAT_CAL_STALE k) = 0 ∧ t.rd (FE_TILE_STAT_CAL_TEMP k) = toField 8 (calTemp s.eng k) ∧
      ∀ j < 32, t.rd (FE_DSK_CAL (32 * k + j)) = trims.getD j 0 % 2 ^ 7) ∧
    (calBusy s.eng k = true → fail % 16 ≠ 0 → Completes (.calDone k fail trims ilv) s fun t =>
      calBusy t.eng k = false ∧ t.eng.bit FE_CAL_STAT_FAIL k = true ∧
      t.rd (FE_TILE_STAT_CAL_VALID k) = s.rd (FE_TILE_STAT_CAL_VALID k) ∧
      ∀ c < 256, t.rd (FE_DSK_CAL c) = s.rd (FE_DSK_CAL c))

/-- R90 to R94: the power states of a port. -/
def Obligations.PodPresenceAndPower : Prop :=
  ∀ (s : State) (p : Nat), s.up → p < 8 →
    (s.rd (POD_STAT_STATE p) = 0 → Completes (.podInserted p) s fun t =>
      t.rd (POD_STAT_PRSNT p) = 1 ∧ t.rd (POD_EVT_INS p) = 1 ∧
      (s.rd (POD_CTRL_POLICY p) = 1 → t.rd (POD_CTRL_PWR_REQ p) = 1 ∧ t.rd (POD_STAT_STATE p) = 2) ∧
      (s.rd (POD_CTRL_POLICY p) ≠ 1 → t.rd (POD_CTRL_PWR_REQ p) = s.rd (POD_CTRL_PWR_REQ p) ∧
        t.rd (POD_STAT_STATE p) = if s.rd (POD_CTRL_PWR_REQ p) = 0 then 1 else 2) ∧
      Kept [(POD_STAT_PRSNT p).key, (POD_EVT_INS p).key, (POD_CTRL_PWR_REQ p).key, (POD_STAT_STATE p).key, (POD_CTRL_IND p).key,
        (POD_STAT_ID_VALID p).key] s t) ∧
    (s.rd (POD_STAT_STATE p) ≠ 0 → Completes (.podInserted p) s fun t => Only [] s t) ∧
    (∀ u, s.rd (POD_STAT_STATE p) ≠ 0 → Completes (.podRemoved p u) s fun t =>
      t.rd (POD_STAT_STATE p) = 0 ∧ t.rd (POD_STAT_PRSNT p) = 0 ∧ t.rd (POD_EVT_REM p) = 1 ∧ t.rd (POD_STAT_ID_VALID p) = 0 ∧
      natBit t.eng.pod.pwrEn p = false ∧ t.mem = s.mem ∧ ∀ w < 64, t.rd (POD_ID_BYTES p w) = 0) ∧
    (∀ u, s.rd (POD_STAT_STATE p) = 0 → Completes (.podRemoved p u) s fun t => Only [] s t) ∧
    (∀ u, s.rd (POD_STAT_STATE p) = 1 → Completes (.podPowerRequest p true u) s fun t =>
      t.rd (POD_CTRL_PWR_REQ p) = 1 ∧ t.rd (POD_STAT_STATE p) = 2 ∧ natBit t.eng.pod.pwrEn p = true ∧ t.mem = s.mem) ∧
    (∀ u, s.rd (POD_STAT_STATE p) ≠ 1 → Completes (.podPowerRequest p true u) s fun t =>
      t.rd (POD_CTRL_PWR_REQ p) = 1 ∧ Only [(POD_CTRL_PWR_REQ p).key] s t) ∧
    (∀ u, s.rd (POD_STAT_STATE p) = 7 → Completes (.podPowerRequest p false u) s fun t =>
      t.rd (POD_CTRL_PWR_REQ p) = 0 ∧ t.rd (POD_STAT_STATE p) = 1 ∧ t.mem = s.mem) ∧
    (∀ u, podPowered s.eng p = true → tileSamples s.eng p = false → natBit s.eng.pod.offWait p = false →
      Completes (.podPowerRequest p false u) s fun t =>
      t.rd (POD_CTRL_PWR_REQ p) = 0 ∧ t.rd (POD_STAT_STATE p) = 1 ∧ natBit t.eng.pod.pwrEn p = false ∧ t.mem = s.mem) ∧
    (∀ u, podPowered s.eng p = true → tileSamples s.eng p = true → Completes (.podPowerRequest p false u) s fun t =>
      t.rd (POD_CTRL_PWR_REQ p) = 0 ∧ t.rd (POD_STAT_STATE p) = s.rd (POD_STAT_STATE p) ∧ t.rd (POD_STAT_ID_VALID p) = 0 ∧
      natBit t.eng.pod.offWait p = true ∧ t.mem = s.mem) ∧
    (∀ u, podPowered s.eng p = true → natBit s.eng.pod.offWait p = true → Completes (.podPowerRequest p false u) s fun t =>
      t.rd (POD_CTRL_PWR_REQ p) = 0 ∧ Only [(POD_CTRL_PWR_REQ p).key] s t) ∧
    (s.rd (POD_STAT_STATE p) = 2 → Completes (.softStartEnd p) s fun t =>
      t.rd (POD_STAT_STATE p) = 3 ∧ (s.rd (POD_SB_CMD_BUSY p) = 0 → Only [(POD_STAT_STATE p).key, (POD_CTRL_IND p).key, (POD_STAT_ID_VALID p).key] s t) ∧
      (s.rd (POD_SB_CMD_BUSY p) ≠ 0 → natBit t.eng.pod.sbFirst p = true ∧ Kept [(POD_STAT_STATE p).key, (POD_CTRL_IND p).key, (POD_STAT_ID_VALID p).key] s t)) ∧
    (s.rd (POD_STAT_STATE p) ≠ 2 → Completes (.softStartEnd p) s fun t => Only [] s t) ∧
    (∀ peak u, podPowered s.eng p = true → Completes (.podOvercurrent p peak u) s fun t =>
      t.rd (POD_STAT_STATE p) = 7 ∧ t.rd (POD_EVT_FAULT p) = 1 ∧ natBit t.eng.pod.pwrEn p = false ∧
      t.rd (POD_PWR_STAT_CUR_MA p) = peak % 2 ^ (POD_PWR_STAT_CUR_MA p).width ∧ t.mem = s.mem) ∧
    (∀ peak u, podPowered s.eng p = false → Completes (.podOvercurrent p peak u) s fun t => Only [] s t)

/-- R95, R98 and the read of POD_PWR_STAT. -/
def Obligations.PodButtonIdentityAndSideband : Prop :=
  ∀ (s : State) (p : Nat), s.up → p < 8 →
    (Completes (.attnPress p) s fun t => t.rd (POD_EVT_ATTN p) = 1 ∧ t.mem = s.mem ∧
      (s.rd (POD_STAT_STATE p) = 1 → s.rd (POD_CTRL_POLICY p) = 2 → t.rd (POD_STAT_STATE p) = 2 ∧ t.rd (POD_CTRL_PWR_REQ p) = 1) ∧
      (s.rd (POD_STAT_STATE p) = 5 → s.rd (POD_CTRL_ATTN_REM p) = 1 ∨ natBit s.eng.pod.attnOff p = true →
        natBit t.eng.pod.attnOff p = !natBit s.eng.pod.attnOff p ∧ t.rd (POD_CTRL_PWR_REQ p) = s.rd (POD_CTRL_PWR_REQ p)) ∧
      (¬(s.rd (POD_STAT_STATE p) = 1 ∧ s.rd (POD_CTRL_POLICY p) = 2) → ¬(s.rd (POD_STAT_STATE p) = 5 ∧ (s.rd (POD_CTRL_ATTN_REM p) ≠ 0 ∨ natBit s.eng.pod.attnOff p = true)) →
        Kept [(POD_EVT_ATTN p).key] s t)) ∧
    (∀ u, natBit s.eng.pod.attnOff p = true → podPowered s.eng p = true → tileSamples s.eng p = false →
      natBit s.eng.pod.offWait p = false → Completes (.attnPowerOff p u) s fun t =>
        t.rd (POD_CTRL_PWR_REQ p) = 0 ∧ t.rd (POD_STAT_STATE p) = 1 ∧ natBit t.eng.pod.attnOff p = false ∧ t.mem = s.mem) ∧
    (∀ u, natBit s.eng.pod.attnOff p = true → podPowered s.eng p = true → tileSamples s.eng p = true →
      Completes (.attnPowerOff p u) s fun t =>
        t.rd (POD_CTRL_PWR_REQ p) = 0 ∧ natBit t.eng.pod.offWait p = true ∧ natBit t.eng.pod.attnOff p = false ∧ t.mem = s.mem) ∧
    (∀ u, natBit s.eng.pod.attnOff p = true → natBit s.eng.pod.offWait p = true → Completes (.attnPowerOff p u) s fun t =>
      t.rd (POD_CTRL_PWR_REQ p) = 0 ∧ natBit t.eng.pod.attnOff p = false ∧ Kept [(POD_CTRL_PWR_REQ p).key] s t) ∧
    (∀ u, natBit s.eng.pod.attnOff p = false → Completes (.attnPowerOff p u) s fun t => Only [] s t) ∧
    (∀ r : IdRead, s.rd (POD_STAT_STATE p) = 3 → natBit s.eng.pod.sbFirst p = false →
      let err := match r with
        | .nack => 1
        | .busStuck => 2
        | .bytes b => idCheck b (s.rd (POD_PWR_CFG_LIMIT p))
      Completes (.identDone p r) s fun t =>
        t.rd (POD_STAT_ID_ERR p) = err ∧ t.rd (POD_EVT_ID_DONE p) = 1 ∧ t.mem = s.mem ∧
        (∀ b, r = .bytes b → ∀ w < 64, t.rd (POD_ID_BYTES p w) = bytesAt b (4 * w) 4 % 2 ^ 32) ∧
        (err = 0 → t.rd (POD_STAT_ID_VALID p) = 1 ∧ (t.rd (POD_STAT_STATE p) = 4 ∨ t.rd (POD_STAT_STATE p) = 5)) ∧
        (err = 5 → t.rd (POD_STAT_STATE p) = 7 ∧ t.rd (POD_EVT_FAULT p) = 1 ∧ natBit t.eng.pod.pwrEn p = false) ∧
        (err ≠ 0 → err ≠ 5 → t.rd (POD_STAT_STATE p) = 6 ∧ t.rd (POD_STAT_ID_VALID p) = 0)) ∧
    (∀ r : IdRead, s.rd (POD_STAT_STATE p) ≠ 3 ∨ natBit s.eng.pod.sbFirst p = true → Completes (.identDone p r) s fun t => Only [] s t) ∧
    (s.rd (POD_STAT_STATE p) = 6 → Completes (.reread p) s fun t =>
      t.rd (POD_STAT_STATE p) = 3 ∧ (s.rd (POD_SB_CMD_BUSY p) = 0 → Only [(POD_STAT_STATE p).key, (POD_CTRL_IND p).key, (POD_STAT_ID_VALID p).key] s t) ∧
      (s.rd (POD_SB_CMD_BUSY p) ≠ 0 → natBit t.eng.pod.sbFirst p = true ∧ Kept [(POD_STAT_STATE p).key, (POD_CTRL_IND p).key, (POD_STAT_ID_VALID p).key] s t)) ∧
    (s.rd (POD_STAT_STATE p) ≠ 6 → Completes (.reread p) s fun t => Only [] s t) ∧
    (s.rd (POD_SB_CMD_BUSY p) = 0 → podPowered s.eng p = true → Completes (.sbGo p) s fun t =>
      t.rd (POD_SB_CMD_BUSY p) = 1 ∧ Only [(POD_SB_CMD_BUSY p).key] s t) ∧
    (s.rd (POD_SB_CMD_BUSY p) = 0 → podPowered s.eng p = false → Completes (.sbGo p) s fun t =>
      t.rd (POD_SB_CMD_BUSY p) = 0 ∧ t.rd (POD_SB_CMD_NACK p) = 1 ∧ t.rd (POD_EVT_SB_DONE p) = 1 ∧
      Kept [(POD_SB_CMD_BUSY p).key, (POD_SB_CMD_NACK p).key, (POD_EVT_SB_DONE p).key] s t) ∧
    (s.rd (POD_SB_CMD_BUSY p) ≠ 0 → Completes (.sbGo p) s fun t => Only [] s t) ∧
    (∀ nack data, s.rd (POD_SB_CMD_BUSY p) ≠ 0 → s.rd (POD_STAT_STATE p) ≠ 3 ∨ natBit s.eng.pod.sbFirst p = true → Completes (.sbDone p nack data) s fun t =>
      t.rd (POD_SB_CMD_BUSY p) = 0 ∧ t.rd (POD_EVT_SB_DONE p) = 1 ∧ (nack = true → t.rd (POD_SB_CMD_NACK p) = 1) ∧
      (nack = false → s.rd (POD_SB_CMD_RD p) = 1 →
        t.rd (POD_SB_DATA_DATA p) = data % 2 ^ (8 * s.rd (POD_SB_CMD_LEN p)) % 2 ^ 32) ∧
      Kept [(POD_SB_CMD_BUSY p).key, (POD_SB_CMD_NACK p).key, (POD_EVT_SB_DONE p).key, (POD_SB_DATA_DATA p).key] s t) ∧
    (∀ nack data, s.rd (POD_SB_CMD_BUSY p) = 0 ∨ (s.rd (POD_STAT_STATE p) = 3 ∧ natBit s.eng.pod.sbFirst p = false) → Completes (.sbDone p nack data) s fun t => Only [] s t) ∧
    Completes (.podPwrStatRead p) s fun t =>
      t.rd (POD_PWR_STAT_PEAK_MA p) = s.rd (POD_PWR_STAT_CUR_MA p) % 2 ^ (POD_PWR_STAT_PEAK_MA p).width ∧
      Only [(POD_PWR_STAT_PEAK_MA p).key] s t

/-- R99: X3 and J2. -/
def Obligations.TileLeavesAndRejoins : Prop :=
  ∀ (s : State) (p : Nat), s.up → p < 8 →
    (∀ a, getAbsent s.eng p = some a → drained (drainNow s.eng) p = true → tileWrites (drainNow s.eng) p = false →
      Completes (.portAbsentRecord p) s fun t =>
      getAbsent t.eng p = some { a with written := true } ∧
      (natBit s.eng.pod.offWait p = true → natBit t.eng.pod.offWait p = false ∧
        t.rd (POD_STAT_STATE p) = (if s.rd (POD_CTRL_PWR_REQ p) = 0 then 1 else 2) ∧
        natBit t.eng.pod.pwrEn p = (s.rd (POD_CTRL_PWR_REQ p) != 0))) ∧
    (getAbsent s.eng p = none ∨ drained (drainNow s.eng) p = false ∨ tileWrites (drainNow s.eng) p = true → Inv s →
      Completes (.portAbsentRecord p) s fun t => Only [] s t) ∧
    ∀ v, s.eng.inAcq = true → s.eng.inService p = false → s.rd GLB_MODE_STAT_BUSY = 0 → calBusy s.eng p = false →
      (drained (drainNow s.eng) p = true → tileWrites (drainNow s.eng) p = false →
        (s.rd (POD_STAT_STATE p) = 4 → Completes (.tileRejoin p v) s fun t =>
          t.rd (POD_STAT_STATE p) = 5 ∧ t.rd (POD_EVT_READY p) = 1 ∧ getAbsent t.eng p = none ∧
          (t.eng.getEla p).wPos = stopBoundary s.eng p v) ∧
        (s.rd (POD_STAT_STATE p) = 5 → natBit s.eng.pod.rejoin p = true → Completes (.tileRejoin p v) s fun t =>
          natBit t.eng.pod.rejoin p = false ∧ getAbsent t.eng p = none ∧ (t.eng.getEla p).wPos = stopBoundary s.eng p v)) ∧
      (drained (drainNow s.eng) p = false ∨ tileWrites (drainNow s.eng) p = true → Inv s →
        Completes (.tileRejoin p v) s fun t => Only [] s t)

/-- R283. A request is late at 100 % of TARGET_NS (R282). -/
def Obligations.RequestLatencyIsCounted : Prop :=
  ∀ (s : State) (p line lat : Nat) (wr : Option (Nat × List Byte)) (resp : List SecResp), s.up → p < 6 →
    s.fabIdle → portFree s.eng p = true → (s.eng.getStk (stackOf line)).trq = [] →
    memWaits p line (!rowHit s.eng line) s.eng = false →
    Completes (.memoryRequest p line wr resp lat) s fun t =>
      t.rd (MEM_QOS_LATE_CNT p) = (if s.rd (MEM_QOS_TARGET_NS p) ≤ lat then
        min (s.rd (MEM_QOS_LATE_CNT p) + 1) (2 ^ 32 - 1) else s.rd (MEM_QOS_LATE_CNT p)) ∧
      t.rd (MEM_QOS_MAX_NS p) = max (s.rd (MEM_QOS_MAX_NS p)) (min lat (2 ^ 24 - 1)) % 2 ^ 24 ∧
      ∀ q < 6, q ≠ p → t.rd (MEM_QOS_LATE_CNT q) = s.rd (MEM_QOS_LATE_CNT q) ∧ t.rd (MEM_QOS_MAX_NS q) = s.rd (MEM_QOS_MAX_NS q)

/-- R32, R33, R261 and R264: where a request goes, what it does to the line, and its frame over memory. -/
def Obligations.MemoryRequestMovesLine : Prop :=
  ∀ (s : State) (p line lat : Nat) (resp : List SecResp), s.up → Inv s → p < 6 → s.fabIdle →
    (∀ wr, portFree s.eng p = false → Completes (.memoryRequest p line wr resp lat) s fun t =>
      t.eng.mc = { s.eng.mc with stalled := [{ port := p, line := line, wr := wr, resp := resp, lat := lat, since := s.eng.now }] } ∧ Kept [] s t) ∧
    (∀ wr, portFree s.eng p = true → memWaits p line (!rowHit s.eng line) s.eng = true →
      Completes (.memoryRequest p line wr resp lat) s fun t =>
        t.eng.mc = { s.eng.mc with fab := [{ port := p, line := line, wr := wr, resp := resp, lat := lat, since := s.eng.now }] } ∧ t.rd (MEM_FAB_OUT_CUR p) = 1 ∧
        Kept (MEM_FAB_STAT_SHARED_FREE.key :: (List.range 6).flatMap fun q => [(MEM_FAB_OUT_CUR q).key, (MEM_FAB_OUT_PEAK q).key]) s t) ∧
    (portFree s.eng p = true → (s.eng.getStk (stackOf line)).trq = [] → memWaits p line (!rowHit s.eng line) s.eng = false →
      let lr := lineRead s.eng s.mem line resp
      (Completes (.memoryRequest p line none resp lat) s fun t => t.mem = s.mem ∧ t.eng.mc.fab = [] ∧
        t.eng.out.getLast? = some (.line p line (if lr.result = 2 then List.replicate 256 0 else lr.data) (if lr.result = 2 then 255 else lr.pois))) ∧
      (∀ mask data, mask % 2 ^ 256 = 2 ^ 256 - 1 → Completes (.memoryRequest p line (some (mask, data)) resp lat) s fun t =>
        (∀ b < 256, memGet t.mem.cap (line * 256 + b) = data.getD b 0) ∧
        (∀ k < 8, idxMem t.mem.capPois (line * 8 + k) = false) ∧
        (∀ a, a < line * 256 ∨ line * 256 + 256 ≤ a → memGet t.mem.cap a = memGet s.mem.cap a)) ∧
      ∀ mask data, mask % 2 ^ 256 ≠ 2 ^ 256 - 1 → Completes (.memoryRequest p line (some (mask, data)) resp lat) s fun t =>
        (∀ k < 8,
          let covered := ∀ j < 32, natBit mask (32 * k + j) = true
          let hurt := ∃ j < 32, natBit lr.cw j = true ∧ natBit mask (32 * k + j) = false
          let pois := hurt ∨ (natBit lr.pois k = true ∧ ¬covered)
          (pois → idxMem t.mem.capPois (line * 8 + k) = true ∧ ∀ j < 32, memGet t.mem.cap (line * 256 + (32 * k + j)) = 0) ∧
          (¬pois → idxMem t.mem.capPois (line * 8 + k) = false ∧ ∀ j < 32,
            memGet t.mem.cap (line * 256 + (32 * k + j)) =
              if natBit mask (32 * k + j) then data.getD (32 * k + j) 0 else lr.data.getD (32 * k + j) 0)) ∧
        (∀ a, a < line * 256 ∨ line * 256 + 256 ≤ a → memGet t.mem.cap a = memGet s.mem.cap a))

/-- R262 and R266. -/
def Obligations.ConservatorReadsOn : Prop :=
  ∀ (s : State) (resp : List SecResp), s.up → Inv s →
    (s.eng.mc.cons = [] → Completes (.conservatorReread resp) s fun t => Only [] s t) ∧
    (∀ x rest, s.eng.mc.cons = x :: rest → memRuns s.eng = true → Completes (.conservatorReread resp) s fun t =>
      t.eng.mc.cons = rest ∧
      ((lineRead s.eng s.mem x.line resp).result = 2 → (∀ k < 8, idxMem t.mem.capPois (x.line * 8 + k) = true) ∧
        t.rd MEM_ERR_UE_CNT_CNT = min (s.rd MEM_ERR_UE_CNT_CNT + 1) (2 ^ MEM_ERR_UE_CNT_CNT.width - 1)) ∧
      (∀ a, a < x.line * 256 ∨ x.line * 256 + 256 ≤ a → memGet t.mem.cap a = memGet s.mem.cap a)) ∧
    (s.rd MEM_CONS_CFG_PATROL_EN = 0 → Completes (.patrolRead resp) s fun t => Only [] s t) ∧
    (s.rd MEM_CONS_CFG_PATROL_EN = 1 → memRuns s.eng = true →
      let line := s.rd MEM_CONS_POS_LINE
      Completes (.patrolRead resp) s fun t =>
        (line + 1 < 2 ^ 29 → t.rd MEM_CONS_POS_LINE = line + 1 ∧ t.rd MEM_CONS_PASS_CNT = s.rd MEM_CONS_PASS_CNT) ∧
        (2 ^ 29 ≤ line + 1 → t.rd MEM_CONS_POS_LINE = 0 ∧ t.rd MEM_CONS_PASS_CNT = (s.rd MEM_CONS_PASS_CNT + 1) % 2 ^ 32) ∧
        (∀ a, a < line * 256 ∨ line * 256 + 256 ≤ a → memGet t.mem.cap a = memGet s.mem.cap a))

/-- R268 steps 1, 3 and 5, and R270. -/
def Obligations.InventoryIsTested : Prop :=
  ∀ s : State, s.up →
    (∀ resp x, memRuns s.eng = true → s.eng.mc.inv.find? (fun y => y.due) = some x →
      Completes (.inventoryWriteback resp) s fun t =>
        ∀ z ∈ t.eng.mc.inv, z.line = x.line → z.pos = x.pos → z.due = false ∧ (z.count = x.count ∨ z.count = x.count + 1)) ∧
    (∀ resps x, memRuns s.eng = true → (s.eng.mc.inv.filter fun y => y.count != 0) = [x] →
      Completes (.inventoryRetest resps) s fun t =>
        ∀ z ∈ t.eng.mc.inv, z.line = x.line → z.pos = x.pos → z.due = false ∧ (z.count = x.count ∨ z.count = x.count + 1)) ∧
    (∀ resps, (s.eng.mc.inv.filter fun y => y.count != 0) = [] → Inv s →
      Completes (.inventoryRetest resps) s fun t => Only [] s t) ∧
    (s.eng.mc.inv ≠ [] → Completes .inventoryAge s fun t =>
      (∀ z ∈ t.eng.mc.inv, t.eng.now < z.seen + s.rd MEM_INV_CFG_AGE_H * hourTicks) ∧
      (∃ x ∈ s.eng.mc.inv, x.seen + s.rd MEM_INV_CFG_AGE_H * hourTicks ≤ t.eng.now) ∧ t.mem = s.mem) ∧
    Completes .scoreHalve s fun t =>
      (∀ st < 4, ∀ r < 12, t.rd (MEM_RANK_STAT_SCORE st r) = s.rd (MEM_RANK_STAT_SCORE st r) / 2 % 2 ^ 16) ∧ t.mem = s.mem

/-- R269, R273 and R275. -/
def Obligations.RanksAreRepairedAndRetired : Prop :=
  ∀ s : State, s.up →
    (∀ x, s.rd MEM_RET_CFG_AUTO_PPR = 1 → memRuns s.eng = true → x.pos < 10 →
      s.eng.mc.inv.find? (fun y => y.hard && !y.unrep && !pprExhausted s.eng y && pprReady s.eng y) = some x →
      Completes .pprStart s fun t => posState t.eng (stackOf x.line) x.pos = 1 ∧
        ((t.eng.getStk (stackOf x.line)).ppr.map fun y => y.1) = some x.pos ∧ t.mem = s.mem) ∧
    (∀ st < 4, ∀ x, (s.eng.getStk st).ppr = some x → x.1 < 10 →
      (Completes (.pprDone st true) s fun t => posState t.eng st x.1 = 2 ∧ t.rd (MEM_STK_SWEEP_ACT st) = 1 ∧
        t.rd (MEM_STK_SWEEP_PTR st) = 0 ∧ t.rd (MEM_STK_SWEEP_POS st) = x.1 ∧ (t.eng.getStk st).ppr = none ∧
        (t.eng.getStk st).rebuild = some x ∧ Kept [(MEM_STK_SWEEP_ACT st).key, (MEM_STK_SWEEP_PTR st).key,
          (MEM_STK_SWEEP_POS st).key, (MEM_STK_PSTATE_STATE st).key] s t) ∧
      Completes (.pprDone st false) s fun t => t.rd MEM_ERR_EVT_PPR_FAIL = 1 ∧ (t.eng.getStk st).ppr = none ∧ t.mem = s.mem) ∧
    (∀ st < 4, ∀ ok, (s.eng.getStk st).ppr = none → Completes (.pprDone st ok) s fun t => Only [] s t) ∧
    (∀ st < 4, ∀ p < 10, posState s.eng st p ≠ 3 → posState s.eng st p ≠ 4 → Completes (.retire st p) s fun t =>
      posState t.eng st p = (if (freeSpare s.eng st).isSome then 3 else 4) ∧ t.rd MEM_ERR_EVT_RETIRE = 1 ∧
      ((freeSpare s.eng st).isNone = true → t.rd MEM_ERR_EVT_NO_SPARE = 1) ∧ t.mem = s.mem) ∧
    (∀ st < 4, ∀ resp, s.rd (MEM_STK_SWEEP_ACT st) = 1 → memRuns s.eng = true → s.rd MEM_RET_CFG_AUTO_RET = 0 →
      s.rd (MEM_STK_SWEEP_PTR st) + 1 < 2 ^ 27 → Completes (.sweepLine st resp false) s fun t =>
        t.rd (MEM_STK_SWEEP_PTR st) = s.rd (MEM_STK_SWEEP_PTR st) + 1 ∧ t.rd (MEM_STK_SWEEP_ACT st) = 1) ∧
    (∀ st < 4, ∀ resp r, s.rd (MEM_STK_SWEEP_ACT st) = 1 → memRuns s.eng = true → (s.eng.getStk st).target = some r →
      s.rd (MEM_STK_SWEEP_POS st) < 10 → Inv s → Completes (.sweepLine st resp true) s fun t =>
        (posState t.eng st (s.rd (MEM_STK_SWEEP_POS st)) = 3 ∨ posState t.eng st (s.rd (MEM_STK_SWEEP_POS st)) = 4) ∧ t.mem = s.mem) ∧
    ∀ st < 4, ∀ resp bad, s.rd (MEM_STK_SWEEP_ACT st) = 0 → Inv s → Completes (.sweepLine st resp bad) s fun t => Only [] s t

/-- R279 and R272. -/
def Obligations.InjectionAndDividerWrites : Prop :=
  ∀ s : State, s.up →
    (∀ line, ¬(s.eng.mode = .service ∨ s.eng.mode = .review) → Completes (.injectArm line true) s fun t =>
      t.rd MEM_INJ_REJ = 1 ∧ Kept [MEM_INJ_REJ.key] s t) ∧
    (∀ line arm, arm = false ∨ s.eng.mode = .service ∨ s.eng.mode = .review → Completes (.injectArm line arm) s fun t =>
      t.rd MEM_INJ_LINE = line % 2 ^ 29 ∧ t.rd MEM_INJ_ARM = (if arm then 1 else 0) ∧
      Only [MEM_INJ_LINE.key, MEM_INJ_ARM.key] s t) ∧
    ∀ v, Completes (.ceDivWrite v) s fun t =>
      t.rd MEM_ERR_CFG_CE_DIV = min (v % 32) 24 ∧ t.eng.mc = { s.eng.mc with ceDiv := 0 } ∧ Kept [MEM_ERR_CFG_CE_DIV.key] s t

/-- R287 to R295, per stack. Where a wait has passed already, nothing but the fields named changes. -/
def Obligations.RefreshDebtAccrues : Prop :=
  ∀ (s : State) (st : Nat) (eyes : List (Option (Nat × Nat × Nat))), s.up → st < 4 →
    let stk := s.eng.getStk st
    (s.rd (MEM_REF_STAT_PWR st) ≠ 2 → debt s.eng st + 1 < s.rd MEM_REF_CFG_POSTPONE → Completes (.refreshAccrual st eyes) s fun t =>
      t.rd (MEM_REF_STAT_DEBT st) = toField 8 (debt s.eng st + 1) ∧ Only [(MEM_REF_STAT_DEBT st).key] s t) ∧
    (s.rd (MEM_REF_STAT_PWR st) ≠ 2 → s.rd MEM_REF_CFG_POSTPONE ≤ debt s.eng st + 1 → Completes (.refreshAccrual st eyes) s fun t =>
      t.rd (MEM_REF_FORCED_CNT st) = min (s.rd (MEM_REF_FORCED_CNT st) + 1) (2 ^ 32 - 1) ∧ t.rd MEM_OP_EVT_FORCED = 1 ∧ t.mem = s.mem) ∧
    (s.rd (MEM_REF_STAT_PWR st) = 2 → Completes (.refreshAccrual st eyes) s fun t =>
      t.rd (MEM_REF_STAT_DEBT st) = 0 ∧ Only [(MEM_REF_STAT_DEBT st).key] s t) ∧
    (∀ idle, s.eng.mc.resume = false → s.eng.mc.pass = false → s.rd (MEM_REF_STAT_PWR st) ≠ 2 → memRuns s.eng = true →
      s.fabIdle → Inv s →
      (0 < debt s.eng st → roundHere s.eng st = true → Completes (.refreshRound st idle eyes) s fun t =>
        t.rd (MEM_REF_STAT_DEBT st) = toField 8 (debt s.eng st - 1) ∧ Kept [(MEM_REF_STAT_DEBT st).key] s t) ∧
      (debt s.eng st ≤ 0 → -(s.rd MEM_REF_CFG_PULLIN : Int) < debt s.eng st → burstNear s.eng = true →
        Completes (.refreshRound st idle eyes) s fun t =>
          t.rd (MEM_REF_STAT_DEBT st) = toField 8 (debt s.eng st - 1) ∧ Kept [(MEM_REF_STAT_DEBT st).key] s t) ∧
      (debt s.eng st ≤ 0 → -(s.rd MEM_REF_CFG_PULLIN : Int) < debt s.eng st → burstNear s.eng = false → idle = true →
        Completes (.refreshRound st idle eyes) s fun t =>
          t.rd (MEM_REF_STAT_DEBT st) = toField 8 (debt s.eng st - 1) ∧ stk.heldAt + 1280 ≤ t.eng.now ∧ t.mem = s.mem) ∧
      ((0 < debt s.eng st ∧ roundHere s.eng st = false) ∨ debt s.eng st ≤ -(s.rd MEM_REF_CFG_PULLIN : Int) →
        Completes (.refreshRound st idle eyes) s fun t => Only [] s t)) ∧
    (Completes .burstNotice s fun t => t.eng.mc = { s.eng.mc with burstAt := some s.eng.now } ∧ Kept [] s t) ∧
    (Completes (.rdTableClear st) s fun t => (t.eng.getStk st).table = [] ∧ (t.eng.getStk st).clearAt = t.eng.now ∧
      stk.clearAt + 409600000 / 2 ^ s.rd (MEM_REF_STAT_MULT st) ≤ t.eng.now ∧ t.mem = s.mem ∧
      (stk.clearAt + 409600000 / 2 ^ s.rd (MEM_REF_STAT_MULT st) ≤ s.eng.now → Kept [] s t)) ∧
    (∀ x rest, stk.trq = x :: rest → s.fabIdle → Completes (.targetedRefresh st) s fun t =>
      (t.eng.getStk st).trq = rest ∧ (t.eng.getStk st).full = false ∧
      t.rd (MEM_RD_TRR_CNT st) = (if x.2.2 then min (s.rd (MEM_RD_TRR_CNT st) + 1) (2 ^ (MEM_RD_TRR_CNT st).width - 1) else s.rd (MEM_RD_TRR_CNT st)) ∧
      Kept [(MEM_RD_TRR_CNT st).key] s t) ∧
    (let wait := if s.rd PWR_STAT_STATE = 2 then 256 else s.rd MEM_PD_CFG_PD_NS * 128
     (s.rd (MEM_REF_STAT_PWR st) = 0 → wait ≠ 0 → unasked s.eng st = true → Completes (.powerDownEntry st) s fun t =>
       t.rd (MEM_REF_STAT_PWR st) = 1 ∧ stk.heldAt + wait ≤ t.eng.now ∧ t.mem = s.mem ∧
       (stk.heldAt + wait ≤ s.eng.now → Only [(MEM_REF_STAT_PWR st).key] s t)) ∧
     (s.rd (MEM_REF_STAT_PWR st) ≠ 0 ∨ wait = 0 ∨ unasked s.eng st = false → Inv s → Completes (.powerDownEntry st) s fun t => Only [] s t)) ∧
    (let wait := s.rd MEM_PD_CFG_SR_US * 12800
     (wait ≠ 0 → unasked s.eng st = true → Completes (.selfRefreshEntry st) s fun t =>
       t.rd (MEM_REF_STAT_PWR st) = 2 ∧ t.rd (MEM_REF_STAT_DEBT st) = 0 ∧ stk.heldAt + wait ≤ t.eng.now ∧ t.mem = s.mem ∧
       (stk.heldAt + wait ≤ s.eng.now → Kept [(MEM_REF_STAT_PWR st).key, (MEM_REF_STAT_DEBT st).key] s t)) ∧
     (wait = 0 ∨ unasked s.eng st = false → Inv s → Completes (.selfRefreshEntry st) s fun t => Only [] s t))

/-- R297 and R300 to R303. -/
def Obligations.SpeedBinChanges : Prop :=
  ∀ s : State, s.up →
    (∀ bin pol c, binCheck s.eng (bin % 4) = some c → Completes (.binRequest bin pol) s fun t =>
      t.rd MEM_BIN_STAT_REJ = 1 ∧ t.rd MEM_BIN_STAT_REJ_CODE = c ∧ t.rd MEM_BIN_STAT_BUSY = s.rd MEM_BIN_STAT_BUSY ∧
      t.rd MEM_BIN_CTRL_BIN = bin % 4 ∧
      Kept [MEM_BIN_STAT_REJ.key, MEM_BIN_STAT_REJ_CODE.key, MEM_BIN_CTRL_BIN.key, MEM_BIN_CTRL_TRN_POL.key] s t) ∧
    (∀ bin pol, binCheck s.eng (bin % 4) = none → bin % 4 ≠ s.rd MEM_BIN_STAT_CUR → Completes (.binRequest bin pol) s fun t =>
      t.rd MEM_BIN_STAT_BUSY = 1 ∧ (t.eng.mc.bin.map fun b => (b.bin, b.prev)) = some (bin % 4, s.rd MEM_BIN_STAT_CUR) ∧
      Kept [MEM_BIN_STAT_BUSY.key, MEM_BIN_CTRL_BIN.key, MEM_BIN_CTRL_TRN_POL.key] s t) ∧
    (∀ bin pol, binCheck s.eng (bin % 4) = none → bin % 4 = s.rd MEM_BIN_STAT_CUR → Completes (.binRequest bin pol) s fun t =>
      t.rd MEM_BIN_STAT_BUSY = s.rd MEM_BIN_STAT_BUSY ∧ Only [MEM_BIN_CTRL_BIN.key, MEM_BIN_CTRL_TRN_POL.key] s t) ∧
    (∀ b, s.eng.mc.bin = some b → b.stall = false → (∀ st < 4, (s.eng.getStk st).ppr = none) →
      (s.eng.mc.pass = false ∨ s.rd MEM_BIN_CTRL_TRN_POL = 1 ∨ b.since + 12800000 ≤ s.eng.now) → Completes .binChange s fun t =>
        (∀ st < 4, t.rd (MEM_REF_STAT_PWR st) = 2 ∧ t.rd (MEM_REF_STAT_DEBT st) = 0) ∧
        (t.eng.mc.bin.map fun x => x.stall) = some true ∧ t.eng.mc.pass = false ∧
        t.rda (MEM_TIM_A_TRCD 0) = s.rd (MEM_TIM_A_TRCD b.bin) % 2 ^ 8 ∧ t.mem = s.mem) ∧
    (∀ b, s.eng.mc.bin = some b → b.stall = true → b.restore = false → loopLocked s.eng 5 = false →
      Completes .binLockTimeout s fun t => (t.eng.mc.bin.map fun x => x.restore) = some true ∧
        t.rda (MEM_TIM_A_TRCD 0) = s.rd (MEM_TIM_A_TRCD b.prev) % 2 ^ 8 ∧ t.mem = s.mem) ∧
    (s.rd MEM_TRN_STAT_INIT_DONE = 1 → s.eng.mc.pass = false → s.eng.mc.bin = none → memRuns s.eng = true →
      Completes .trainingPassStart s fun t => t.rd MEM_TRN_STAT_GATHER = 1 ∧ t.eng.mc.pass = true ∧
        (∀ st < 4, (t.eng.getStk st).pauses = 0 ∧ (t.eng.getStk st).applied = false) ∧ t.mem = s.mem ∧
        s.eng.mc.passFrom + s.rd MEM_TRN_CFG_PERIOD_MS * 12800000 ≤ t.eng.now ∧
        (s.eng.mc.passFrom + s.rd MEM_TRN_CFG_PERIOD_MS * 12800000 ≤ s.eng.now → Kept [MEM_TRN_STAT_GATHER.key] s t)) ∧
    ∀ master p, master < 3 → p < 6 → Completes (.qosMaxRead master p) s fun t =>
      t.rd (MEM_QOS_MAX_NS p) = 0 ∧ latched t.eng master (MEM_QOS_MAX_NS p) = some (s.rd (MEM_QOS_MAX_NS p)) ∧
      Kept [(MEM_QOS_MAX_NS p).key] s t

/-- R105 to R107: the commit of each loop that the mask names. -/
def Obligations.LoopCommitStartsOrIsRejected : Prop :=
  ∀ (s : State) (mask n : Nat), s.up → n < 8 → natBit mask n = true →
    let legal := loopLegal s.eng n (loopShadow s.eng n) = true
    let used := 1 ≤ n ∧ n ≤ 4 ∧ ∃ k < 8, tileSamples s.eng k = true ∧ s.rda (FE_TILE_CFG_CLKSEL k) = n - 1
    let allowed := (n = 0 → (s.eng.mode = .service ∨ s.eng.mode = .review) ∧ s.rd GLB_MODE_STAT_BUSY = 0) ∧ n ≠ 5 ∧
      (n = 7 → s.eng.mode = .service)
    let vals := [CLK_LOOP_CFG_REFMUL n, CLK_LOOP_CFG_RDIV n, CLK_LOOP_CFG_NINT n, CLK_LOOP_CFG_ODIV n, CLK_LOOP_FRAC_NFRAC n]
    (¬(legal ∧ allowed) → Completes (.loopCommit mask) s fun t =>
      t.rd CLK_EVT_CMT_REJ = 1 ∧ loopState t.eng n = loopState s.eng n ∧ (∀ f ∈ vals, t.rda f = s.rda f) ∧ t.mem = s.mem) ∧
    (legal → allowed → used → Completes (.loopCommit mask) s fun t =>
      t.rd (CLK_LOOP_STAT_CMT_PEND n) = 1 ∧ loopState t.eng n = loopState s.eng n ∧ (∀ f ∈ vals, t.rda f = s.rda f) ∧ t.mem = s.mem) ∧
    (legal → allowed → ¬used → Completes (.loopCommit mask) s fun t =>
      loopState t.eng n = (if loopState s.eng n = 3 ∨ loopState s.eng n = 5 then 3 else 1) ∧
      (∀ f ∈ vals, t.rda f = s.rd f % 2 ^ f.width) ∧ t.rd (CLK_LOOP_STAT_CMT_PEND n) = 0 ∧ t.mem = s.mem)

/-- R107 step 5, R111, R112 and R119. -/
def Obligations.LockDetectorsDeclare : Prop :=
  ∀ s : State, s.up → s.quiet →
    (∀ n fb t0 : Nat, n < 8 → t0 < 2 ^ 64 → loopState s.eng n ≠ 0 → refFailed s.eng n = false → analogueOn s.eng n = false →
      let ok := ((fb : Int) - 2 ^ (6 + s.rd (CLK_LOOP_LD_WIN n))).natAbs ≤ s.rd (CLK_LOOP_LD_TOL n)
      (ok → Completes (.lockWindowEnd n fb t0) s fun t => t.eng.rdq (CLK_LOOP_LASTGOOD n) = t0 ∧
        ((s.eng.getLoop n).decl = false → s.rd (CLK_LOOP_LD_CONSEC n) ≤ (s.eng.getLoop n).passes → (t.eng.getLoop n).decl = true)) ∧
      (¬ok → Completes (.lockWindowEnd n fb t0) s fun t => (t.eng.getLoop n).passes = 0 ∧
        ((s.eng.getLoop n).decl = true → s.rd (CLK_LOOP_LD_LOSS n) ≤ (s.eng.getLoop n).fails → (t.eng.getLoop n).decl = false))) ∧
    (∀ lock volt t0, s.rda CLK_LD_AN_EN = 1 → s.rda CLK_LD_AN_LOOP < 8 → loopState s.eng (s.rda CLK_LD_AN_LOOP) ≠ 0 →
      Completes (.analogueLock lock volt t0) s fun t => t.rd CLK_LD_AN_VOLT = volt % 2 ^ 8 ∧
        (lock = false ∨ refFailed s.eng (s.rda CLK_LD_AN_LOOP) = false → t.rd CLK_LD_AN_DECL = (if lock then 1 else 0) ∧
          (t.eng.getLoop (s.rda CLK_LD_AN_LOOP)).decl = lock) ∧
        (lock = true → refFailed s.eng (s.rda CLK_LD_AN_LOOP) = true → t.rd CLK_LD_AN_DECL = s.rd CLK_LD_AN_DECL ∧
          (t.eng.getLoop (s.rda CLK_LD_AN_LOOP)).decl = (s.eng.getLoop (s.rda CLK_LD_AN_LOOP)).decl)) ∧
    (loopState s.eng 0 = 4 → Completes .phaseAlignDone s fun t =>
      loopState t.eng 0 = 2 ∧ t.rd (CLK_LOOP_STAT_LOCKED 0) = 1 ∧ t.rd (CLK_LOOP_STAT_BYPASS 0) = 0 ∧ t.eng.bit CLK_EVT_RELOCK 0 = true) ∧
    (loopState s.eng 0 ≠ 4 → Inv s → Completes .phaseAlignDone s fun t => Only [] s t) ∧
    ∀ mask n, n < 8 → natBit mask n = true → loopState s.eng n = 5 → Completes (.loopReturn mask) s fun t =>
      loopState t.eng n = if n = 0 then 4 else 2

/-- R115 and R116. -/
def Obligations.ClockMonitorsReport : Prop :=
  (∀ (s : State) (t0 : Nat), s.up → s.quiet →
    (Completes (.clockMonitorFail 0 t0 false) s fun t => t.rd CLK_MON_STAT_XREF_OK = 0 ∧ t.rd CLK_EVT_XREF_LOSS = 1 ∧
      natBit t.eng.clk.refBad 0 = true) ∧
    (∀ m < 4, ∀ far, s.rda (FE_STCLK_EN m) = 1 → Completes (.clockMonitorFail (1 + m) t0 far) s fun t =>
      t.eng.bit CLK_MON_STAT_DUT_OK m = false ∧ t.eng.bit CLK_EVT_DUT_LOSS m = true ∧ natBit t.eng.clk.refBad (1 + m) = true) ∧
    ∀ n < 8, ∀ far, loopLocked s.eng n = true → Completes (.clockMonitorFail (8 + n) t0 far) s fun t =>
      loopState t.eng n = 3 ∧ t.rd (CLK_LOOP_STAT_LOCKED n) = 0 ∧ t.rd (CLK_LOOP_STAT_BYPASS n) = 1 ∧
      t.rd (CLK_LOOP_STAT_LOSS_CNT n) = min (s.rd (CLK_LOOP_STAT_LOSS_CNT n) + 1) 255 ∧ t.eng.bit CLK_EVT_LOSS n = true) ∧
  ∀ s : State, s.up →
    (Completes (.clockMonitorPass 0) s fun t => t.rd CLK_MON_STAT_XREF_OK = 1 ∧ natBit t.eng.clk.refBad 0 = false ∧
      (natBit s.eng.clk.refBad 0 = true → t.rd CLK_EVT_XREF_BACK = 1) ∧ t.mem = s.mem) ∧
    (∀ m < 4, s.rda (FE_STCLK_EN m) = 0 → Inv s → (∀ t0 far, Completes (.clockMonitorFail (1 + m) t0 far) s fun t => s.quiet → Only [] s t) ∧
      Completes (.clockMonitorPass (1 + m)) s fun t => Only [] s t) ∧
    (∀ m < 4, s.rda (FE_STCLK_EN m) = 1 → Completes (.clockMonitorPass (1 + m)) s fun t => t.eng.bit CLK_MON_STAT_DUT_OK m = true ∧
      natBit t.eng.clk.refBad (1 + m) = false ∧ Kept [CLK_MON_STAT_DUT_OK.key] s t) ∧
    ∀ n < 8, loopLocked s.eng n = true → Completes (.clockMonitorPass (8 + n)) s fun t =>
      t.eng.bit CLK_MON_STAT_LOOP_OK n = true ∧ Only [CLK_MON_STAT_LOOP_OK.key] s t

/-- R114, R118, R122, R123, R125. -/
def Obligations.ClockConfigurationWrites : Prop :=
  ∀ s : State, s.up →
    (∀ en loop win,
      let en1 := if en then 1 else 0
      let win1 := if win % 16 = 0 then 1 else win % 16
      let same := s.rda CLK_LD_AN_EN = en1 ∧ s.rda CLK_LD_AN_LOOP = loop % 8
      let concerned (n : Nat) : Prop := (s.rda CLK_LD_AN_EN ≠ 0 ∧ n = s.rda CLK_LD_AN_LOOP) ∨ (en = true ∧ n = loop % 8)
      let waits := ¬same ∧ ∃ n < 8, concerned n ∧ loopLocked s.eng n = true
      Completes (.clkLdAnWrite en loop win) s fun t =>
        t.rd CLK_LD_AN_EN = en1 ∧ t.rd CLK_LD_AN_LOOP = loop % 8 ∧ t.rd CLK_LD_AN_WIN = win1 ∧ t.mem = s.mem ∧
        (¬waits → t.rda CLK_LD_AN_EN = en1 ∧ t.rda CLK_LD_AN_LOOP = loop % 8 ∧ t.rda CLK_LD_AN_WIN = win1) ∧
        (waits → t.rda CLK_LD_AN_EN = s.rda CLK_LD_AN_EN ∧ t.rda CLK_LD_AN_LOOP = s.rda CLK_LD_AN_LOOP ∧
          t.rda CLK_LD_AN_WIN = s.rda CLK_LD_AN_WIN ∧
          ∀ n < 8, concerned n → loopLocked s.eng n = true → t.rd (CLK_LOOP_STAT_CMT_PEND n) = 1)) ∧
    (∀ m sg dur fin, m < 4 → sg < 64 →
      (s.rd (CLK_RAMP_CTRL_EN m) ≠ 0 → Completes (.rampSegWrite m sg dur fin) s fun t =>
        t.rd CLK_EVT_CMT_REJ = 1 ∧ Kept [CLK_EVT_CMT_REJ.key] s t) ∧
      (s.rd (CLK_RAMP_CTRL_EN m) = 0 → Completes (.rampSegWrite m sg dur fin) s fun t =>
        t.rd (CLK_RAMP_SEG_DUR m sg) = (if dur % 2 ^ 16 = 0 then 1 else dur % 2 ^ 16) ∧
        t.rd (CLK_RAMP_SEG_END m sg) = toField 16 (clampInt (-10000) 10000 (signed 16 (fin % 2 ^ 16))) ∧
        Only [(CLK_RAMP_SEG_DUR m sg).key, (CLK_RAMP_SEG_END m sg).key] s t)) ∧
    (∀ m resid shift, m < 4 → s.rd (CLK_RAMP_CTRL_EN m) = 1 → s.rd (CLK_RAMP_CTRL_FOLLOW m) = 1 →
      let c := s.eng.clk.ramp.getD m {}
      Completes (.rampPeriod m resid shift) s fun t =>
        t.rd (CLK_RAMP_STAT_RESID m) = min resid 255 ∧ t.rd (CLK_RAMP_STAT_SEG m) = 0 ∧
        (resid ≤ 5 → 3 ≤ c.good → t.rd (CLK_RAMP_STAT_ALIGNED m) = 1) ∧
        (10 < resid → 3 ≤ c.bad → t.rd (CLK_RAMP_STAT_ALIGNED m) = 0) ∧
        (0 < rampTotal s.eng m → ((t.eng.now : Int) - c.start) % rampTotal s.eng m = 0) ∧
        (((t.eng.clk.ramp.getD m {}).start : Int) - t.eng.now).natAbs ≤ rampTotal s.eng m / 256 ∧ t.mem = s.mem) ∧
    (∀ m resid shift, m < 4 → ¬(s.rd (CLK_RAMP_CTRL_EN m) = 1 ∧ s.rd (CLK_RAMP_CTRL_FOLLOW m) = 1) → Inv s →
      Completes (.rampPeriod m resid shift) s fun t => Only [] s t) ∧
    (∀ master k value, k < 4 →
      let m (f : Fld) : Nat := natAndNot (s.rd f) (bitsOf (2 ^ 32 - 1) (f.key % 32) f.width) +
        (bitsOf value (f.key % 32) f.width &&& bitsOf (2 ^ 32 - 1) (f.key % 32) f.width)
      let cfg := [CLK_OUT_CFG_EN k, CLK_OUT_CFG_FMT k, CLK_OUT_CFG_SRC k, CLK_OUT_CFG_TSEL k, CLK_OUT_CFG_DIV k, CLK_OUT_CFG_LEVEL k, CLK_OUT_CFG_ONLOSS k]
      m (CLK_OUT_CFG_FMT k) ≤ 4 → m (CLK_OUT_CFG_SRC k) ≤ 6 → m (CLK_OUT_CFG_ONLOSS k) ≤ 2 →
      let fast := outMax (m (CLK_OUT_CFG_FMT k)) * 1000 * (m (CLK_OUT_CFG_DIV k) % 2 ^ 11 + 1) <
        outSrcKhz s.eng (m (CLK_OUT_CFG_SRC k)) (m (CLK_OUT_CFG_TSEL k) % 2 ^ 2)
      (fast → Completes (.clkoutCfgWrite master k value (2 ^ 32 - 1)) s fun t =>
        t.rd (CLK_OUT_STAT_REJ k) = 1 ∧ Kept [(CLK_OUT_STAT_REJ k).key] s t) ∧
      (¬fast → Completes (.clkoutCfgWrite master k value (2 ^ 32 - 1)) s fun t =>
        (∀ f ∈ cfg, t.rd f = m f % 2 ^ f.width) ∧
        Kept (cfg.map (·.key) ++ [(CLK_OUT_STAT_ACTIVE k).key, (CLK_OUT_STAT_SRCLOSS k).key, (CLK_OUT_STAT_FOUT_KHZ k).key]) s t)) ∧
    (∀ k a b q l, k < 8 → nextItem s.eng k = some (.unlock a b q l) → capFlows s.eng = true → Completes (.unlockRecord k) s fun t =>
      (t.eng.getEla k).aPos = (b + 1) % 2 ^ 64) ∧
    ∀ k, k < 8 → (nextItem s.eng k).all (fun i => match i with
        | .unlock _ _ _ _ => false
        | _ => true) = true ∨ capFlows s.eng = false → Inv s →
      Completes (.unlockRecord k) s fun t => Only [] s t

/-- R129 to R131 and R133. -/
def Obligations.TimeCommandsApply : Prop :=
  ∀ s : State, s.up →
    let rejected (c : Instr) : Prop := Completes c s fun t =>
      t.rd TIME_EVT_CMD_REJ = 1 ∧ t.eng.ts = s.eng.ts ∧ t.eng.tod = s.eng.tod ∧ t.eng.steer = s.eng.steer ∧ Kept [TIME_EVT_CMD_REJ.key] s t
    let held (c : Instr) (op : Nat) : Prop := Completes c s fun t =>
      t.rd TIME_CMD_BUSY = 1 ∧ (t.eng.steer.pend.map fun x => (x.op, x.since)) = some (op, s.eng.now) ∧ t.eng.ts = s.eng.ts ∧
      t.eng.tod = s.eng.tod ∧ Kept [TIME_CMD_BUSY.key] s t
    let gen := (s.rd TIME_EPOCH_GEN + 1) % 2 ^ 16
    (∀ atPps, tsChangeable s.eng = false → rejected (.set atPps) ∧ rejected (.step atPps)) ∧
    (tsChangeable s.eng = true → held (.set true) 1 ∧ held (.step true) 2 ∧
      (Completes (.set false) s fun t => t.eng.ts = s.eng.rdq TIME_SET % 2 ^ 64 ∧ t.rd TIME_EPOCH_GEN = gen ∧
        t.rd TIME_EVT_CMD_DONE = 1 ∧ t.rd TIME_CMD_BUSY = 0 ∧ t.mem = s.mem) ∧
      Completes (.step false) s fun t => t.eng.ts = (s.eng.ts + s.eng.rdq TIME_SET % 2 ^ 64) % 2 ^ 64 ∧ t.rd TIME_EPOCH_GEN = gen ∧
        t.rd TIME_EVT_CMD_DONE = 1 ∧ t.rd TIME_CMD_BUSY = 0 ∧ t.mem = s.mem) ∧
    (∀ atPps, tps ≤ s.eng.rdq TIME_TODSET_TICK → rejected (.todSet atPps)) ∧
    (s.eng.rdq TIME_TODSET_TICK < tps → held (.todSet true) 3 ∧
      Completes (.todSet false) s fun t => todAt t.eng t.eng.ts = (s.eng.rdq TIME_TODSET_SEC % 2 ^ 48, s.eng.rdq TIME_TODSET_TICK) ∧
        t.rd TIME_EVT_CMD_DONE = 1 ∧ t.eng.ts = s.eng.ts ∧ t.mem = s.mem) ∧
    held (.todStep true) 4 ∧
    (Completes (.todStep false) s fun t =>
      let x := ((((todAt s.eng s.eng.ts).1 * tps + (todAt s.eng s.eng.ts).2 : Nat) : Int) + signed 64 (s.eng.rdq TIME_SET)) % ((2 ^ 48 * tps : Nat) : Int)
      todAt t.eng t.eng.ts = (x.toNat / tps, x.toNat % tps) ∧ t.rd TIME_EVT_CMD_DONE = 1 ∧ t.eng.ts = s.eng.ts ∧ t.mem = s.mem) ∧
    (∀ c, s.eng.steer.pend = some c → Completes .timeCmdAbandon s fun t =>
      t.eng.steer.pend = none ∧ t.rd TIME_CMD_BUSY = 0 ∧ t.rd TIME_EVT_CMD_REJ = 1 ∧ c.since + 2 * tps ≤ t.eng.now ∧ t.mem = s.mem) ∧
    (s.eng.steer.pend = none → Completes .timeCmdAbandon s fun t => Only [] s t)

/-- R128, R139, R140 and the capture of TIME_TS. The tick on an empty queue is the model's choice (log entry 3). -/
def Obligations.TimePassesAndIsRead : Prop :=
  ∀ s : State, s.up →
    (tbSource s.eng = 0 → s.pending = [] → ∃ t, step s = .next t ∧ t.eng.ts = (s.eng.ts + 1) % 2 ^ 64 ∧ t.eng.now = s.eng.now + 1 ∧
      (2 ^ 64 ≤ s.eng.ts + 1 → t.rd TIME_EPOCH_GEN = (s.rd TIME_EPOCH_GEN + 1) % 2 ^ 16 ∧ t.rd TIME_EVT_TS_WRAP = 1)) ∧
    (tbSource s.eng = 0 → Completes .ts64Wrap s fun t => t.eng.ts = 0 ∧ t.eng.now = s.eng.now + (2 ^ 64 - s.eng.ts % 2 ^ 64) ∧
      t.rd TIME_EPOCH_GEN = (s.rd TIME_EPOCH_GEN + 1) % 2 ^ 16 ∧ t.rd TIME_EVT_TS_WRAP = 1 ∧ t.mem = s.mem) ∧
    (Completes .todSecond s fun t => (tbSource s.eng = 0 → t.eng.now = s.eng.now + toNextSecond s.eng) ∧
      (s.rd TIME_PPSOUT_CFG_EN = 1 → s.rd TIME_PPSOUT_CFG_GATE = 7 → t.eng.tout.ppsOn = true ∧
        (s.rd TIME_PPSOUT_OFS_OFS = 0 → s.rd TIME_PPSOUT_CFG_WIDTH_MS ≠ 0 → s.eng.tout.lead = none → t.eng.tout.pulse = true)) ∧
      (s.rd TIME_PPSOUT_CFG_EN = 0 → t.eng.tout.ppsOn = false ∧ t.eng.tout.pulse = false) ∧
      (s.rd TIME_TREFOUT_CFG_EN = 0 → t.eng.tout.trefOn = false) ∧
      (s.rd TIME_IRIG_CFG_EN = 0 → t.eng.tout.irig = none) ∧ t.mem = s.mem) ∧
    (s.eng.tout.pulse = true → Completes .ppsOutPulseEnd s fun t => t.eng.tout.pulse = false ∧ t.eng.tout.lead = s.eng.tout.lead ∧
      s.eng.tout.lead.getD 0 + s.rd TIME_PPSOUT_CFG_WIDTH_MS * 12800000 ≤ t.eng.now ∧ t.mem = s.mem) ∧
    (s.eng.tout.pulse = false → Completes .ppsOutPulseEnd s fun t => Only [] s t) ∧
    ∀ master < 3, Completes (.timeTsRead master) s fun t =>
      t.rd TIME_TS.lo = s.eng.ts % 2 ^ 32 ∧ t.rd TIME_TS.hi = s.eng.ts / 2 ^ 32 % 2 ^ 32 ∧
      t.rd TIME_TOD_SEC.lo = (todAt s.eng s.eng.ts).1 % 2 ^ 32 ∧ t.rd TIME_TOD_TICK.lo = (todAt s.eng s.eng.ts).2 % 2 ^ 32 ∧
      latched t.eng master TIME_TS.hi = some (s.eng.ts / 2 ^ 32 % 2 ^ 32) ∧
      Kept [TIME_TS.lo.key, TIME_TS.hi.key, TIME_TOD_SEC.lo.key, TIME_TOD_SEC.hi.key, TIME_TOD_TICK.lo.key, TIME_TOD_TICK.hi.key] s t

/-- R132, R135, R137 and R138. -/
def Obligations.SteeringFollowsEdges : Prop :=
  ∀ s : State, s.up →
    (∀ t0 tref, t0 < 2 ^ 64 → s.eng.steer.pend = none →
      let p := (t0 + 2 ^ 64 - s.rd TIME_PPS_DLY_DLY) % 2 ^ 64
      let live := ∃ q, s.eng.steer.prev = some q ∧ (tsDiff p q).natAbs ≤ missTicks s.eng
      (¬live → s.eng.steer.cand = none → Completes (.ppsInEdge t0 tref) s fun t =>
        t.eng.steer.cand = some p ∧ t.eng.steer.prev = none ∧ t.rd TIME_STEER_STAT_GOOD = 0 ∧ Kept [TIME_STEER_STAT_GOOD.key] s t) ∧
      (∀ q, (live ∧ s.eng.steer.prev = some q) ∨ (¬live ∧ s.eng.steer.cand = some q) → ppsWindow s.eng p q = true →
        Completes (.ppsInEdge t0 tref) s fun t =>
          t.eng.steer.prev = some p ∧ t.eng.rdq TIME_PPSIN = p ∧ t.rd TIME_EVT_PPS_IN = 1 ∧ t.mem = s.mem)) ∧
    (s.rd TIME_STEER_STAT_STATE = 1 ∨ s.rd TIME_STEER_STAT_STATE = 2 → aqFollows s.eng = false → Completes .ppsMiss s fun t =>
      t.rd TIME_STEER_STAT_STATE = 3 ∧ t.rd TIME_EVT_PPS_MISS = 1 ∧ t.rd TIME_EVT_HOLDOVER = 1 ∧ t.rd TIME_STEER_STAT_GOOD = 0 ∧
      t.eng.steer.prev = none ∧ t.mem = s.mem) ∧
    (¬(s.rd TIME_STEER_STAT_STATE = 1 ∨ s.rd TIME_STEER_STAT_STATE = 2) ∨ aqFollows s.eng = true → Completes .ppsMiss s fun t => Only [] s t) ∧
    (s.rd TIME_STEER_STAT_STATE = 3 → s.eng.steer.hoDone = false → s.rd TIME_HO_CFG_STAB_PPB ≠ 0 → aqFollows s.eng = false →
      Completes .hoLimit s fun t => t.rd TIME_EVT_HO_LIMIT = 1 ∧ t.eng.steer.hoDone = true ∧ t.mem = s.mem) ∧
    (s.rd TIME_STEER_STAT_STATE ≠ 3 ∨ s.eng.steer.hoDone = true ∨ aqFollows s.eng = true → Completes .hoLimit s fun t => Only [] s t) ∧
    (∀ v, s.rd TIME_STEER_CFG_MODE = 0 → Completes (.rateWrite v) s fun t =>
      t.rd TIME_RATE_RATE = toField 22 (clampInt (-858993) 858993 (signed 22 (v % 2 ^ 22))) ∧
      todAt t.eng t.eng.ts = todAt s.eng s.eng.ts ∧ Kept [TIME_RATE_RATE.key] s t) ∧
    (∀ v, s.rd TIME_STEER_CFG_MODE ≠ 0 → Completes (.rateWrite v) s fun t => Only [] s t) ∧
    (∀ tref, s.rd TIME_STEER_CFG_MODE = 3 → steerOff s.eng = false → Completes (.trefUpdate tref) s fun t =>
      t.rd TIME_RATE_RATE = toField 22 (clampInt (-858993) 858993 (steerRate (-tref))) ∧ t.eng.steer.fInt = -tref ∧
      Kept [TIME_RATE_RATE.key] s t) ∧
    (∀ mode, s.rd TIME_GCTRL_LOCK = 0 → Completes (.steerModeWrite mode) s fun t =>
      t.rd TIME_STEER_CFG_MODE = mode % 4 ∧ t.rd TIME_STEER_STAT_STATE = 0 ∧
      Kept [TIME_STEER_CFG_MODE.key, TIME_STEER_STAT_STATE.key, TIME_STEER_STAT_QUAL.key] s t) ∧
    ∀ mode, s.rd TIME_GCTRL_LOCK ≠ 0 → Completes (.steerModeWrite mode) s fun t => Only [] s t

/-- R145 to R151. -/
def Obligations.AqurnLinkWorks : Prop :=
  ∀ s : State, s.up →
    (∀ down raw t0 ph, s.rd TIME_AQL_CTRL_ROLE = 0 → Completes (.aqlFrameRx down raw t0 ph) s fun t => Only [] s t) ∧
    (∀ down raw t0 ph, s.rd TIME_AQL_CTRL_ROLE ≠ 0 → parseFrame raw = none → Completes (.aqlFrameRx down raw t0 ph) s fun t =>
      t.rd TIME_AQL_ERR_CRC = min (s.rd TIME_AQL_ERR_CRC + 1) (2 ^ 16 - 1) ∧
      (s.rd (portState down) = 2 → 3 ≤ (aqPort down s.eng).bad → t.rd (portState down) = 1 ∧ t.rd TIME_EVT_AQL_DOWN = 1) ∧
      ((aqPort down s.eng).bad < 3 → t.rd (portState down) = s.rd (portState down)) ∧ t.mem = s.mem) ∧
    (∀ down raw t0 ph f, s.rd TIME_AQL_CTRL_ROLE ≠ 0 → parseFrame raw = some f → s.rd (portState down) ≠ 2 →
      Completes (.aqlFrameRx down raw t0 ph) s fun t => (aqPort down t.eng).good = (aqPort down s.eng).good + 1 ∧
        (7 ≤ (aqPort down s.eng).good → t.rd (portState down) = 2 ∧ t.rd TIME_EVT_AQL_UP = 1) ∧
        ((aqPort down s.eng).good < 7 → t.rd (portState down) = 1) ∧ t.mem = s.mem) ∧
    (∀ down, s.rd TIME_AQL_CTRL_ROLE ≠ 0 →
      let e0 := toSlot down s.eng
      Completes (.aqlFrameTx down) s fun t =>
        (∃ f, t.eng.out.getLast? = some (.aql down (frameBytes f)) ∧
          (∀ g q, e0.aq.trigQ = [] → takeType 4 (aqPort down e0).txq = some (g, q) → f = stampFrame e0.ts g ∧ (aqPort down t.eng).txq = q)) ∧
        (aqPort down t.eng).slots = (aqPort down e0).slots + 1 ∧ (aqPort down t.eng).sent = some t.eng.ts ∧ t.eng.ts = e0.ts ∧
        Kept [] { s with eng := e0 } t) ∧
    (s.rd TIME_AQL_CTRL_ROLE = 1 → Completes .enum s fun t => t.rd TIME_AQL_STAT_ID = 0 ∧ t.rd TIME_AQL_STAT_COUNT = 0 ∧
      t.eng.aq.dn.txq = s.eng.aq.dn.txq ++ [⟨7, 0, 0, [0]⟩] ∧ Kept [TIME_AQL_STAT_ID.key, TIME_AQL_STAT_COUNT.key] s t) ∧
    (s.rd TIME_AQL_CTRL_ROLE ≠ 1 → Completes .enum s fun t => Only [] s t) ∧
    (s.rd TIME_AQL_CTRL_ROLE ≠ 1 ∨ tsDiff (s.eng.rdq TIME_AQL_ARM) s.eng.ts < 1280000 → Completes .aqlArm s fun t =>
      t.rd TIME_EVT_CMD_REJ = 1 ∧ t.eng.aq = s.eng.aq ∧ Kept [TIME_EVT_CMD_REJ.key] s t) ∧
    (s.rd TIME_AQL_CTRL_ROLE = 1 → 1280000 ≤ tsDiff (s.eng.rdq TIME_AQL_ARM) s.eng.ts →
      (s.rd TIME_AQL_ARM_CFG_OP = 1 ∨ s.rd TIME_AQL_ARM_CFG_OP = 2) → Completes .aqlArm s fun t =>
        ∃ f : AqFrame, f.ty = 3 ∧ f.num 2 8 = s.eng.rdq TIME_AQL_ARM % 2 ^ 64 ∧ t.eng.aq.dn.txq = s.eng.aq.dn.txq ++ [f, f, f] ∧ t.mem = s.mem) ∧
    (aqFollows s.eng = true → 1024 ≤ s.eng.aq.exN →
      let ofs := halfMean s.eng.aq.exN s.eng.aq.exOfs
      let dly := halfMean s.eng.aq.exN s.eng.aq.exDly
      Completes .aqlOffsetAverage s fun t =>
        t.rd TIME_AQL_OFS_OFS = toField 32 ofs ∧ t.rd TIME_AQL_DLY_DLY = toField 32 dly % 2 ^ TIME_AQL_DLY_DLY.width ∧
        (ofs.natAbs ≤ 64 → t.rd TIME_AQL_STAT_OFS_VALID = if s.eng.aq.unnumbered then 0 else 1) ∧
        (64 < ofs.natAbs → s.eng.aq.ofsBad = 3 → t.rd TIME_AQL_STAT_OFS_VALID = 0 ∧ t.rd TIME_EVT_AQL_OFS = 1) ∧
        t.eng.aq.exN = 0 ∧ t.mem = s.mem) ∧
    (aqFollows s.eng = false ∨ s.eng.aq.exN < 1024 → Inv s → Completes .aqlOffsetAverage s fun t => Only [] s t) ∧
    (s.rd TIME_AQL_CTRL_ROLE ≠ 2 ∨ s.eng.mode ≠ .service ∨ s.rd GLB_MODE_STAT_BUSY ≠ 0 → Completes .adopt s fun t =>
      t.rd TIME_EVT_CMD_REJ = 1 ∧ t.eng.ts = s.eng.ts ∧ Kept [TIME_EVT_CMD_REJ.key] s t) ∧
    (s.rd TIME_AQL_CTRL_ROLE = 2 → s.eng.mode = .service → s.rd GLB_MODE_STAT_BUSY = 0 → Completes .adopt s fun t =>
      t.eng.ts = (((s.eng.ts : Int) + (signed 32 (s.rd TIME_AQL_OFS_OFS)).tdiv 64) % ((2 ^ 64 : Nat) : Int)).toNat ∧
      t.rd TIME_EPOCH_GEN = (s.rd TIME_EPOCH_GEN + 1) % 2 ^ 16 ∧ t.rd TIME_EVT_CMD_DONE = 1 ∧
      (loopLocked s.eng 0 = true → loopState t.eng 0 = 4) ∧ t.mem = s.mem)

/-- R162, R168, R170, R172, R174, R175. -/
def Obligations.TriggerResourcesCommit : Prop :=
  ∀ (s : State) (n : Nat), s.up → ctxExists s.eng n = true →
    (∀ id, Completes (.resCommit n id) s fun t => t.rd (TRIG_RES_STAT_PEND n) = 1 ∧
      (t.eng.getCx n).commits = (s.eng.getCx n).commits ++ [id] ∧ Kept [(TRIG_RES_STAT_PEND n).key] s t) ∧
    (∀ id rest ic, (s.eng.getCx n).commits = id :: rest →
      (evals s.eng n = true → (s.eng.getCx n).inst = 0 ∧ hasInstant s.eng s.mem n ic = true ∧ (s.eng.getCx n).cmtAt ≠ some ic) → ic < 2 ^ 64 →
      let ids := commitIds s.eng n id
      let stat (t : State) : Prop := t.rd (TRIG_RES_STAT_PEND n) = (if rest = [] then 0 else 1) ∧ (t.eng.getCx n).commits = rest ∧
        (evals s.eng n = true → t.eng.rdq (TRIG_RES_CMT_TS n) = ic) ∧ t.mem = s.mem
      (∀ i, (ids.find? fun j => commitWhy s.eng n ids j != 0) = some i → Completes (.resCommitApply n ic) s fun t =>
        stat t ∧ t.rd (TRIG_RES_STAT_CMT_REJ n) = 1 ∧ t.rd (TRIG_RES_STAT_REJ_ID n) = i % 2 ^ 8 ∧
        t.rd (TRIG_RES_STAT_REJ_WHY n) = commitWhy s.eng n ids i % 2 ^ 3 ∧ t.eng.act = s.eng.act) ∧
      ((∀ j ∈ ids, commitWhy s.eng n ids j = 0) → Completes (.resCommitApply n ic) s fun t => stat t ∧
        (∀ w < 64, w ∈ ids → ∀ f ∈ [TRIG_WR_CFG_GRP w, TRIG_WR_CFG_NEG w, TRIG_WR_CFG_EVT w, TRIG_WR_VAL_LO_VAL w,
          TRIG_WR_VAL_HI_VAL w, TRIG_WR_MASK_LO_MASK w, TRIG_WR_MASK_HI_MASK w], t.rda f = s.rd f % 2 ^ f.width) ∧
        (∀ c < 32, 0x90 + c ∈ ids → ∀ f ∈ [TRIG_CNT_CFG_SRC c, TRIG_CNT_CFG_OUT c, TRIG_CNT_CFG_ON_TC c, TRIG_CNT_CFG_RUN0 c,
          TRIG_CNT_TC_LO_TC c, TRIG_CNT_TC_HI_TC c, TRIG_CNT_INIT_LO_INIT c, TRIG_CNT_INIT_HI_INIT c],
          t.rda f = s.rd f % 2 ^ f.width) ∧
        FieldsKept [(TRIG_RES_STAT_PEND n).key, (TRIG_RES_CMT_TS_LO_TS n).key, (TRIG_RES_CMT_TS_HI_TS n).key] s t)) ∧
    (∀ ic, (s.eng.getCx n).commits = [] ∨ (evals s.eng n = true ∧ ((s.eng.getCx n).inst ≠ 0 ∨ hasInstant s.eng s.mem n ic = false ∨
      (s.eng.getCx n).cmtAt = some ic)) → Inv s → Completes (.resCommitApply n ic) s fun t => Only [] s t) ∧
    (∀ master off value mask i, resourceAt off = some i →
      (owns s.eng n i = false → Completes (.resFieldWrite master n off value mask) s fun t =>
        t.rd (TRIG_RES_STAT_OWN_ERR n) = 1 ∧ Kept [(TRIG_RES_STAT_OWN_ERR n).key] s t) ∧
      (owns s.eng n i = true → Completes (.resFieldWrite master n off value mask) s fun t => t.mem = s.mem ∧
        ∀ g : Fld, g.key / 32 * 4 ≠ 0x500000 + off → g.key ∉ [GLB_STATUS_BAD_ENC.key, GLB_BAD_ENC_LOG_OFFS.key,
          GLB_BAD_ENC_LOG_MASTER.key] ++ reportKeys → t.rd g = s.rd g)) ∧
    (∀ master value w, w < 64 → owns s.eng n w = true →
      Completes (.resFieldWrite master n (0x10004 + 0x20 * w) value (2 ^ 32 - 1)) s fun t =>
        t.rd (TRIG_WR_VAL_LO_VAL w) = value % 2 ^ 32 ∧ Kept [(TRIG_WR_VAL_LO_VAL w).key] s t) ∧
    (∀ i < 208, Completes (.lastRead n i) s fun t => (t.eng.getCx n).lastHi.find? (fun x => x.1 == i) = some (i, s.rd (lastFld i).hi) ∧
      t.rd (TRIG_RES_STAT_LAST_EMPTY n) = (if lastEmpty s.eng i then 1 else 0) ∧ Kept [(TRIG_RES_STAT_LAST_EMPTY n).key] s t) ∧
    (∀ c < 32, isDue s.eng (0x90 + c) = true →
      Completes (.counterTerminal c) s fun t => t.rd (TRIG_CNT_STAT_TCHIT c) = 1 ∧ t.mem = s.mem ∧
        (s.rda (TRIG_CNT_CFG_ON_TC c) = 0 → Kept [(TRIG_CNT_STAT_TCHIT c).key] s t) ∧
        (s.rda (TRIG_CNT_CFG_ON_TC c) = 1 → t.rd (TRIG_CNT_STAT_RUN c) = 0 ∧
          Kept [(TRIG_CNT_STAT_TCHIT c).key, (TRIG_CNT_STAT_RUN c).key] s t) ∧
        (s.rda (TRIG_CNT_CFG_ON_TC c) = 2 → t.eng.rdq (TRIG_CNT_VAL c) = s.eng.rdqa (TRIG_CNT_INIT c) % 2 ^ 48 ∧
          t.rd (TRIG_CNT_STAT_SAT c) = 0)) ∧
    (∀ m < 16, isDue s.eng (0xB0 + m) = true →
      Completes (.timerLimit m) s fun t => t.rd (TRIG_TMR_STAT_LIMHIT m) = 1 ∧ t.mem = s.mem ∧
        (s.rda (TRIG_TMR_CFG_ON_LIM m) = 0 → Kept [(TRIG_TMR_STAT_LIMHIT m).key] s t) ∧
        (s.rda (TRIG_TMR_CFG_ON_LIM m) = 1 → t.rd (TRIG_TMR_STAT_RUN m) = 0) ∧
        (s.rda (TRIG_TMR_CFG_ON_LIM m) = 2 → 0 < s.eng.rdqa (TRIG_TMR_LIM m) → s.eng.rdq (TRIG_TMR_VAL m) < 2 ^ 48 →
          t.eng.rdq (TRIG_TMR_VAL m) = s.eng.rdq (TRIG_TMR_VAL m) % s.eng.rdqa (TRIG_TMR_LIM m))) ∧
    (∀ c < 32, isDue s.eng (0x90 + c) = false → Inv s → Completes (.counterTerminal c) s fun t => Only [] s t) ∧
    ∀ m < 16, isDue s.eng (0xB0 + m) = false → Inv s → Completes (.timerLimit m) s fun t => Only [] s t

/-- R185 to R188. -/
def Obligations.SequencerCommandsApply : Prop :=
  ∀ (s : State) (n : Nat), s.up → ctxExists s.eng n = true →
    (evals s.eng n = true →
      (Completes (.arm n) s fun t => (t.eng.getCx n).cmds = (s.eng.getCx n).cmds ++ [.arm] ∧ Kept [] s t) ∧
      Completes (.disarm n) s fun t => (t.eng.getCx n).cmds = (s.eng.getCx n).cmds ++ [.disarm] ∧ Kept [] s t) ∧
    (evals s.eng n = false → ∀ c ∈ [Instr.arm n, Instr.disarm n], Completes c s fun t =>
      t.rd (TRIG_SEQ_EVT_ARM_IGN n) = 1 ∧ Kept [(TRIG_SEQ_EVT_ARM_IGN n).key] s t) ∧
    (Inv s → ∀ t0 : Nat, t0 < 2 ^ 64 → hasInstant s.eng s.mem n t0 = true →
      let u : State := { s with eng := retentionsAt n t0 s.eng }
      (nextCmd (s.eng.getCx n) t0 = some .arm →
        (seqState u.eng n = 1 ∨ seqState u.eng n = 4 → Completes (.armApply n t0) s fun t =>
          seqState t.eng n = 2 ∧ t.rd (TRIG_SEQ_STAT_LEVEL n) = 0 ∧ t.eng.rdq (TRIG_SEQ_ARM_TS n) = t0 ∧
          t.rd (TRIG_SEQ_STAT_MARK_SET n) = 0 ∧ (t.eng.getCx n).trigd = false ∧
          Kept ([(TRIG_SEQ_STAT_STATE n).key, (TRIG_SEQ_STAT_LEVEL n).key, (TRIG_SEQ_ARM_TS_LO_TS n).key,
            (TRIG_SEQ_ARM_TS_HI_TS n).key, (TRIG_SEQ_STAT_MARK_SET n).key, (TRIG_SEQ_STAT_MARK_VALID n).key] ++
            (List.range 16).map fun r => (ACC_CREG_STAT_FROZEN_NOW r).key) u t) ∧
        (¬(seqState u.eng n = 1 ∨ seqState u.eng n = 4) → Completes (.armApply n t0) s fun t =>
          t.rd (TRIG_SEQ_EVT_ARM_IGN n) = 1 ∧ Kept [(TRIG_SEQ_EVT_ARM_IGN n).key] u t)) ∧
      (nextCmd (s.eng.getCx n) t0 = some .disarm →
        (seqState u.eng n = 2 ∨ seqState u.eng n = 3 → Completes (.disarmApply n t0) s fun t =>
          seqState t.eng n = 1 ∧ t.rd (TRIG_SEQ_STAT_LEVEL n) = 0 ∧ (t.eng.getCx n).rets = [] ∧ t.mem = u.mem) ∧
        (¬(seqState u.eng n = 2 ∨ seqState u.eng n = 3) → Completes (.disarmApply n t0) s fun t =>
          (t.eng.getCx n).cmds = (u.eng.getCx n).cmds.erase .disarm ∧ Kept [] u t))) ∧
    (Completes (.seqCommit n) s fun t => t.rd (TRIG_SEQ_STAT_CMT_PEND n) = 1 ∧ Only [(TRIG_SEQ_STAT_CMT_PEND n).key] s t) ∧
    (s.rd (TRIG_SEQ_STAT_CMT_PEND n) = 1 → (evals s.eng n = true → (s.eng.getCx n).inst = 0) →
      (∀ l b, (allBranches.find? fun p => branchWhy s.eng n p.1 p.2 != 0) = some (l, b) → Completes (.seqCommitApply n) s fun t =>
        t.rd (TRIG_SEQ_STAT_CMT_PEND n) = 0 ∧ t.rd (TRIG_SEQ_EVT_CMT_REJ n) = 1 ∧ t.rd (TRIG_SEQ_REJ_LVL n) = l ∧
        t.rd (TRIG_SEQ_REJ_BR n) = b ∧ t.rd (TRIG_SEQ_REJ_WHY n) = branchWhy s.eng n l b ∧ t.eng.act = s.eng.act ∧
        Kept [(TRIG_SEQ_STAT_CMT_PEND n).key, (TRIG_SEQ_EVT_CMT_REJ n).key, (TRIG_SEQ_REJ_LVL n).key, (TRIG_SEQ_REJ_BR n).key,
          (TRIG_SEQ_REJ_WHY n).key] s t) ∧
      ((∀ l < 16, ∀ b < 4, branchWhy s.eng n l b = 0) → Completes (.seqCommitApply n) s fun t =>
        (∀ l < 16, ∀ b < 4, ∀ f ∈ branchFlds n l b, t.rda f = s.rd f % 2 ^ f.width) ∧
        OnlyActive [(TRIG_SEQ_STAT_CMT_PEND n).key]
          (allBranches.flatMap fun p => (branchFlds n p.1 p.2).map (·.key)) s t)) ∧
    ∀ cont auto frz tgt,
      let set (t : State) : Prop := t.rd (TRIG_SEQ_CFG_MODE n) = (if cont then 1 else 0) ∧
        t.rd (TRIG_SEQ_CFG_AUTOARM n) = (if auto then 1 else 0) ∧ t.rd (TRIG_SEQ_CFG_FREEZE n) = (if frz then 1 else 0) ∧
        t.rd (TRIG_SEQ_CFG_TGT n) = tgt % 2 ^ 16
      let ks := (seqCfgFlds n).map (·.key)
      (evals s.eng n = true → Completes (.seqCfgWrite n cont auto frz tgt) s fun t =>
        set t ∧ t.rd (TRIG_SEQ_STAT_CFG_PEND n) = 1 ∧ Only (ks ++ [(TRIG_SEQ_STAT_CFG_PEND n).key]) s t) ∧
      (evals s.eng n = false → Completes (.seqCfgWrite n cont auto frz tgt) s fun t =>
        set t ∧ (∀ f ∈ seqCfgFlds n, t.rda f = t.rd f) ∧ OnlyActive ks ks s t)

/-- R154, R156, R179, R180, R190, R192, R200, R203. -/
def Obligations.InstantsDecideAndResultsEnd : Prop :=
  ∀ s : State, s.up →
    (∀ t0 ctxs caught : Nat, Completes (.evaluationInstant t0 ctxs caught) s fun t =>
      (∀ n < 4, natBit ctxs n = false → (t.eng.getCx n).last = (s.eng.getCx n).last) ∧
      ∀ n ∈ instantCtxs (fabricReads t0 s.eng) s.mem ctxs t0, (t.eng.getCx n).last = some t0) ∧
    (∀ n : Nat, n < 4 → Completes (.retentionEnd n) s fun t =>
      (∀ x, (t.eng.getCx n).rets.head? = some x → retentionDue (s.eng.getCx n).last x = none) ∧
      (t.eng.getCx n).last = (s.eng.getCx n).last) ∧
    (∀ t0 ctxs caught : Nat,
      let e1 := fabricReads t0 s.eng
      let cs := instantCtxs e1 s.mem ctxs t0
      (cs = [] → Inv s → Completes (.evaluationInstant t0 ctxs caught) s fun t => Only [] s t) ∧
      (∀ n ∈ cs, Completes (.evaluationInstant t0 ctxs caught) s fun t => (t.eng.getCx n).last = some t0) ∧
      ∀ n, cs = [n] → inRun s.eng = true →
        let e2 := stepStart n (retentionsAt n t0 s.eng)
        let seen := runSeen e2 s.mem n t0
        let e3 := evalInputs n seen e2
        let p : Pres := ⟨e2, addTimerFlags e2 n t0 e3.tr.out, t0, 2 ^ n⟩
        ∀ l b, decideBranch p n = some (l, b) → Completes (.evaluationInstant t0 ctxs caught) s fun t =>
          t.eng.rdq TRIG_RR_POS = t0 % 2 ^ 64 ∧ (t.eng.getCx n).vals = seen.vals ∧
          t.rd (TRIG_SEQ_STAT_LEVEL n) = (if s.rda (TRIG_LVL_BR_ACT_HALT n l b) ≠ 0 ∧ seqState e2 n = 2 then 0
            else s.rda (TRIG_LVL_BR_CTL_NEXT n l b) % 16)) ∧
    (∀ (n : Nat) (x : Retention) (fin : Nat), n < 4 → Inv s → (s.eng.getCx n).rets = [x] → retentionDue (s.eng.getCx n).last x = some fin →
      fin < 2 ^ 64 → x.t < 2 ^ 64 →
      Completes (.retentionEnd n) s fun t => (t.eng.getCx n).rets = [] ∧ t.eng.rdq (TRIG_SEQ_RES_T n) = x.t ∧
        (x.onFrozen = false → t.eng.rdq (TRIG_SEQ_RES_POST n) = (fin + 2 ^ 64 - x.t) % 2 ^ 64) ∧
        t.rd (TRIG_SEQ_RES_STAT_VALID n) = 1 ∧ t.rd (TRIG_SEQ_RES_STAT_GEN n) = (s.rd (TRIG_SEQ_RES_STAT_GEN n) + 1) % 2 ^ 16 ∧
        t.rd (TRIG_SEQ_EVT_RESULT n) = 1 ∧ (seqState s.eng n = 3 → seqState t.eng n = 4) ∧ t.mem = s.mem) ∧
    (∀ n, n < 4 → Inv s → (s.eng.getCx n).rets = [] → Completes (.retentionEnd n) s fun t => Only [] s t) ∧
    (Inv s →
      (let lo := s.eng.rdq TRIG_RR_FROM
       let hi := s.eng.rdq TRIG_RR_TO
       let g := s.rd TRIG_RR_CTRL_REG
       let bad := hi ≤ lo ∨ rangeHeld s.eng s.mem g lo hi = false ∨ s.eng.mode ≠ .review ∨
         ∃ n < 4, natBit (s.rd TRIG_RR_CTRL_CTX) n = true ∧ (ctxExists s.eng n = false ∨ s.eng.inService (8 + n) = true)
       (inRun s.eng = true → Completes .rrStart s fun t => Only [] s t) ∧
       (inRun s.eng = false → bad → Completes .rrStart s fun t =>
         t.rd TRIG_RR_STAT_END = 3 ∧ t.rd TRIG_RR_STAT_VALID = 1 ∧ t.rd TRIG_RR_STAT_BUSY = 0 ∧
         t.rd TRIG_RR_STAT_GEN = (s.rd TRIG_RR_STAT_GEN + 1) % 2 ^ 16 ∧
         (∀ n < 4, natBit (s.rd TRIG_RR_CTRL_CTX) n = true → t.rd (TRIG_SEQ_EVT_RR_END n) = 1) ∧
         Kept ([TRIG_RR_STAT_END.key, TRIG_RR_STAT_VALID.key, TRIG_RR_STAT_BUSY.key, TRIG_RR_STAT_GEN.key] ++
           (List.range 4).map fun n => (TRIG_SEQ_EVT_RR_END n).key) s t) ∧
       (inRun s.eng = false → ¬bad → Completes .rrStart s fun t =>
         t.rd TRIG_RR_STAT_BUSY = 1 ∧ t.rd TRIG_RR_STAT_VALID = 0 ∧ t.rd TRIG_RR_HOLES_CNT = 0 ∧ t.rd TRIG_RR_NENT_CNT = 0 ∧
         t.rd TRIG_RR_DROP_CNT = 0 ∧ t.eng.rr.start = lo ∧ t.eng.rr.upto = hi ∧ t.eng.rr.region = g ∧ t.mem = s.mem ∧
         ∀ n < 4, natBit (s.rd TRIG_RR_CTRL_CTX) n = true → t.rd (TRIG_SEQ_STAT_EVAL n) = 1 ∧ t.rd (TRIG_SEQ_STAT_LEVEL n) = 0 ∧
           seqState t.eng n = if s.rd TRIG_RR_CTRL_ARM ≠ 0 ∨ s.rda (TRIG_SEQ_CFG_AUTOARM n) ≠ 0 then 2 else 1)) ∧
      (inRun s.eng = true → s.eng.rr.req = none → Completes .rrStop s fun t =>
        t.eng.rr = { s.eng.rr with req := some 1 } ∧ Kept [] s t) ∧
      (inRun s.eng = false ∨ s.eng.rr.req ≠ none → Completes .rrStop s fun t => Only [] s t) ∧
      (∀ c, inRun s.eng = true → s.eng.md.trans = none → rrCode s.eng s.mem = some c → Completes .rrEnd s fun t =>
        t.rd TRIG_RR_STAT_BUSY = 0 ∧ t.rd TRIG_RR_STAT_VALID = 1 ∧ t.rd TRIG_RR_STAT_END = c % 2 ^ TRIG_RR_STAT_END.width ∧
        t.rd TRIG_RR_STAT_GEN = (s.rd TRIG_RR_STAT_GEN + 1) % 2 ^ 16 ∧ t.mem = s.mem ∧
        ∀ n < 4, natBit s.eng.rr.ctx n = true → t.rd (TRIG_SEQ_EVT_RR_END n) = 1) ∧
      (inRun s.eng = false ∨ rrCode s.eng s.mem = none → Completes .rrEnd s fun t => Only [] s t)) ∧
    (let held := s.eng.rdq TRIG_RR_FROM < s.eng.rdq TRIG_RR_TO ∧
       rangeHeld s.eng s.mem (s.rd TRIG_RR_CTRL_REG) (s.eng.rdq TRIG_RR_FROM) (s.eng.rdq TRIG_RR_TO) = true ∧ s.eng.mode = .review ∧
       ∀ n < 4, natBit (s.rd TRIG_RR_CTRL_CTX) n = true → ctxExists s.eng n = true ∧ s.eng.inService (8 + n) = false
     Completes .rrStart s fun t => (t.rd TRIG_RR_STAT_BUSY ≠ 0 ↔ inRun s.eng = true ∨ held) ∧ t.mem.cap = s.mem.cap) ∧
    (Completes .rrStop s fun t => (inRun s.eng = true → t.eng.rr.req.isSome = true) ∧ t.rd TRIG_RR_STAT_BUSY = s.rd TRIG_RR_STAT_BUSY) ∧
    Completes .rrEnd s fun t => t.rd TRIG_RR_STAT_BUSY = 0 ↔ inRun s.eng = false ∨ (rrCode s.eng s.mem).isSome = true

/-- R7 to R12, R327, R328, R482 and R484. -/
def Obligations.RegisterWritesActByFieldType : Prop :=
  let gk := [GLB_FLT_COND_ENV, GLB_FLT_COND_IMAGE, GLB_FLT_COND_PATROL, GLB_FLT_COND_CURATOR, GLB_FLT_COND_MARGIN, GLB_FLT_COND_GUAR,
    GLB_FLT_GLOST_CNT_CNT, GLB_FLT_EVT_GUAR_LOST, GLB_FLT_EVT_GUAR_BACK].map (·.key)
  (∀ (s : State) (master value : Nat), s.up → s.quiet → Inv s → master < 2 →
    (s.rd GLB_SLK_CTRL_FLOOR < 2 ^ 8 → s.rd GLB_SLK_CTRL_WIN < 2 ^ 4 →
      let win := value / 2 ^ 16 % 16
      (Completes (.registerWrite master 0x400 value 15) s fun t =>
        t.rd GLB_SLK_CTRL_EN = value % 2 ∧ t.rd GLB_SLK_CTRL_FLOOR = min 100 (value / 2 ^ 8 % 2 ^ 8) ∧
        (win ≤ 8 → t.rd GLB_SLK_CTRL_WIN = win ∧
          Kept ([GLB_SLK_CTRL_EN.key, GLB_SLK_CTRL_FLOOR.key, GLB_SLK_CTRL_WIN.key] ++ gk) s t) ∧
        (8 < win → win ≠ s.rd GLB_SLK_CTRL_WIN → t.rd GLB_SLK_CTRL_WIN = s.rd GLB_SLK_CTRL_WIN ∧ t.rd GLB_STATUS_BAD_ENC = 1 ∧
          t.rd GLB_BAD_ENC_LOG_OFFS = 0x100 ∧ t.rd GLB_BAD_ENC_LOG_MASTER = master)) ∧
      Completes (.registerWrite master 0x400 value 1) s fun t => t.rd GLB_SLK_CTRL_EN = value % 2 ∧
        Kept (GLB_SLK_CTRL_EN.key :: gk) s t) ∧
    (s.rd HOST_EVT_CTO < 2 → Completes (.registerWrite master 0xB00010 value 15) s fun t =>
      t.rd HOST_EVT_CTO = if value % 2 = 1 then 0 else s.rd HOST_EVT_CTO) ∧
    (s.rd GLB_GCTRL_LOCK < 2 → Completes (.registerWrite master 0x18 value 15) s fun t =>
      t.rd GLB_GCTRL_LOCK = (if value % 2 = 1 then 1 else s.rd GLB_GCTRL_LOCK) ∧ Kept (GLB_GCTRL_LOCK.key :: gk) s t) ∧
    (∀ off be, off % 4 = 0 → off ≠ 0xD00014 → ¬(0xA80000 ≤ off ∧ off < 0xB00000) →
      (findReg off = none ∨ ∃ row, findReg off = some row ∧ ∀ f ∈ row.fields, f.ty = .ro) →
      ¬(0xA02000 ≤ off ∧ off < 0xA020C0) → Completes (.registerWrite master off value be) s fun t => Kept gk s t)) ∧
  (∀ (s : State) (value be : Nat), s.up → s.quiet → Inv s → Completes (.registerWrite 1 0xD00014 value be) s fun t =>
    t.rd HOST_DENY_CNT_CNT = min (s.rd HOST_DENY_CNT_CNT + 1) (2 ^ 32 - 1) ∧ t.rd HOST_EVT_DENIED = 1 ∧
    Kept [HOST_DENY_CNT_CNT.key, HOST_EVT_DENIED.key] s t) ∧
  ∀ s : State, s.up →
    (Completes .lockAll s fun t => (∀ f ∈ lockBits, t.rd f = 1) ∧ Only (lockBits.map (·.key)) s t) ∧
    (∀ read, Completes (.bar0InvalidAccess read) s fun t =>
      t.rd HOST_DENY_CNT_CNT = min (s.rd HOST_DENY_CNT_CNT + 1) (2 ^ 32 - 1) ∧ Kept [HOST_DENY_CNT_CNT.key] s t ∧
      t.eng.out = s.eng.out ++ (if read then [.cpl 1 [] false] else []))

/-- R10: writes to RWL fields while LOCK is set are discarded without an error. -/
def Obligations.LockedFieldsKeepTheirValue : Prop :=
  ∀ (s : State) (master off value be : Nat) (row : RegRow) (f : FieldRow), s.up → s.quiet → master < 3 →
    findReg (off / 4 * 4) = some row → f ∈ row.fields → f.ty = .rwl → locked s.eng (off / 4 * 4) = true →
    s.rd (rowFld row (off / 4 * 4) f) < 2 ^ f.width →
    Completes (.registerWrite master off value be) s fun t =>
      t.rd (rowFld row (off / 4 * 4) f) = s.rd (rowFld row (off / 4 * 4) f)

/-- R42, with the conditions of R41, R442 and R446. -/
def Obligations.RejectedModeRequestChangesNothingElse : Prop :=
  (∀ (s : State) (master mode : Nat) (dbl : Bool) (stop c : Nat), s.up → Inv s → mode < 6 →
    ¬(mode = s.rd GLB_MODE_STAT_CUR ∧ s.rd GLB_MODE_STAT_BUSY = 0) →
    let acq := mode = 1 ∨ mode = 2 ∨ mode = 3 ∨ mode = 4
    let now := s.rd GLB_MODE_STAT_CUR = 1 ∨ s.rd GLB_MODE_STAT_CUR = 2 ∨ s.rd GLB_MODE_STAT_CUR = 3 ∨ s.rd GLB_MODE_STAT_CUR = 4
    let lc := s.rd SEC_LC_STAT_STATE
    ¬(acq ∧ s.rd PWR_STRT_FILL_DONE = 0 ∧ s.rd GLB_MODE_STAT_BUSY = 0) →
    let image := s.rd CFG_STATUS_STATE = 2 ∧ (s.rd CFG_STATUS_DEFAULTED = 0 ∨ (s.rd CFG_STATUS_ACT_SLOT = 0 ∧ lc = 0))
    let fails (k : Nat) : Prop :=
      (k = 1 ∧ acq ∧ ¬image) ∨
      (k = 2 ∧ acq ∧ s.rd MEM_TRN_STAT_INIT_DONE = 0) ∨
      (k = 4 ∧ acq ∧ ∀ k < 8, s.eng.inService k = true ∨ s.rd (POD_STAT_PRSNT k) = 0) ∨
      (k = 5 ∧ acq ∧ ∀ r < 16, ¬((regionKind s.eng r = 1 ∨ regionKind s.eng r = 2) ∧ formPermitted (.ofCode mode) (regionForm s.eng r) = true)) ∨
      (k = 6 ∧ acq ∧ now ∧ mode ≠ s.rd GLB_MODE_STAT_CUR) ∨
      (k = 7 ∧ (s.rd GLB_MODE_STAT_BUSY ≠ 0 ∨ s.rd TIME_CMD_BUSY ≠ 0 ∨ s.rd MEM_BIN_STAT_BUSY ≠ 0)) ∨
      (k = 8 ∧ ((lc = 3 ∧ acq ∧ s.rd SEC_DBG_STAT_STATE ≠ 1) ∨ (lc = 4 ∧ mode ≠ 0) ∨ (acq ∧ s.rd SEC_TAMPER_STAT_LATCH ≠ 0)))
    fails c → (∀ d < c, ¬fails d) →
    Completes (.modeRequest master mode dbl stop) s fun t =>
      t.rd GLB_MODE_STAT_REJ_CODE = c ∧ t.rd GLB_MODE_STAT_REJ = 1 ∧ t.rd GLB_MODE_MODE = mode ∧
      t.rd GLB_MODE_STAT_CUR = s.rd GLB_MODE_STAT_CUR ∧ t.eng.hush = s.eng.hush ∧
      Kept [GLB_MODE_STAT_REJ_CODE.key, GLB_MODE_STAT_REJ.key, GLB_MODE_MODE.key, GLB_MODE_DOUBLE.key] s t) ∧
  (∀ (s : State) (master mode : Nat) (dbl : Bool) (stop : Nat), s.up → 6 ≤ mode → mode < 8 → s.rd GLB_MODE_MODE ≠ mode →
    Completes (.modeRequest master mode dbl stop) s fun t => t.rd GLB_MODE_MODE = s.rd GLB_MODE_MODE ∧ t.rd GLB_STATUS_BAD_ENC = 1 ∧
      Kept [GLB_MODE_DOUBLE.key, GLB_STATUS_BAD_ENC.key, GLB_BAD_ENC_LOG_OFFS.key, GLB_BAD_ENC_LOG_MASTER.key] s t) ∧
  ∀ (s : State) (tr : Trans), s.up → s.eng.md.trans = some tr → OpMode.acq (.ofCode tr.target) = true → s.eng.inAcq = false →
    inRun s.eng = false → (∃ n ∈ modeLoops s.eng tr.target, loopLocked s.eng n = false) →
    Completes .modeLockFail s fun t => t.rd GLB_MODE_STAT_REJ_CODE = 3 ∧ t.rd GLB_MODE_STAT_REJ = 1 ∧ t.rd GLB_MODE_STAT_BUSY = 0 ∧
      t.rd GLB_MODE_STAT_CUR = s.rd GLB_MODE_STAT_CUR ∧ t.rd GLB_MODE_MODE = s.rd GLB_MODE_MODE ∧ t.eng.md.trans = none ∧ t.mem = s.mem

/-- R40, R43 to R45, R47, R468. -/
def Obligations.ModeTransitionsRun : Prop :=
  ∀ s : State, s.up →
    (∀ master mode dbl stop, mode < 6 →
      let req := Instr.modeRequest master mode dbl stop
      let stored := [GLB_MODE_MODE.key, GLB_MODE_DOUBLE.key]
      (mode = s.rd GLB_MODE_STAT_CUR → s.rd GLB_MODE_STAT_BUSY = 0 → Completes req s fun t =>
        t.rd GLB_MODE_MODE = mode ∧ t.rd GLB_MODE_DOUBLE = (if dbl then 1 else 0) ∧ Only stored s t) ∧
      (mode ≠ s.rd GLB_MODE_STAT_CUR → 1 ≤ mode → mode ≤ 4 → s.rd PWR_STRT_FILL_DONE = 0 → s.rd GLB_MODE_STAT_BUSY = 0 →
        Completes req s fun t => t.rd GLB_MODE_STAT_BUSY = 1 ∧ t.rd GLB_MODE_STAT_TARGET = mode ∧
          t.eng.md.heldReq = some (mode, dbl) ∧ Kept (stored ++ [GLB_MODE_STAT_BUSY.key, GLB_MODE_STAT_TARGET.key]) s t) ∧
      (mode ≠ s.rd GLB_MODE_STAT_CUR → modeCheck s.eng mode = none → (1 ≤ mode ∧ mode ≤ 4 → s.rd PWR_STRT_FILL_DONE ≠ 0) →
        (s.eng.inAcq = true → Completes req s fun t => t.rd GLB_MODE_STAT_BUSY = 1 ∧ t.rd GLB_MODE_STAT_TARGET = mode ∧
          t.rd GLB_MODE_STAT_CUR = s.rd GLB_MODE_STAT_CUR ∧ (∃ tr, t.eng.md.trans = some tr ∧ tr.target = mode ∧ tr.stop ≠ none) ∧ t.mem = s.mem ∧
          ((∀ p < 8, s.rd (POD_STAT_STATE p) ≠ 4) → Kept (stored ++ [GLB_MODE_STAT_BUSY.key, GLB_MODE_STAT_TARGET.key]) s t)) ∧
        (s.eng.inAcq = false → inRun s.eng = true → Completes req s fun t => t.rd GLB_MODE_STAT_BUSY = 1 ∧
          t.rd GLB_MODE_STAT_TARGET = mode ∧ t.eng.rr.req = some 2 ∧ t.mem = s.mem ∧
          ((∀ p < 8, s.rd (POD_STAT_STATE p) ≠ 4) → Kept (stored ++ [GLB_MODE_STAT_BUSY.key, GLB_MODE_STAT_TARGET.key]) s t)) ∧
        (s.eng.inAcq = false → inRun s.eng = false → mode = 0 ∨ mode = 5 → s.eng.md.heldSvc = [] → Completes req s fun t =>
          t.rd GLB_MODE_STAT_CUR = mode ∧ t.rd GLB_MODE_STAT_BUSY = 0 ∧ t.eng.md.trans = none ∧
          t.rd GLB_MODE_STAT_GEN = (s.rd GLB_MODE_STAT_GEN + 1) % 2 ^ 16 ∧ t.mem = s.mem) ∧
        (s.eng.inAcq = false → inRun s.eng = false → 1 ≤ mode → mode ≤ 4 → s.eng.md.heldSvc = [] → Completes req s fun t =>
          t.rd GLB_MODE_STAT_CUR = s.rd GLB_MODE_STAT_CUR ∧ t.mem = s.mem ∧
          ((t.rd GLB_MODE_STAT_BUSY = 1 ∧ t.rd GLB_MODE_STAT_TARGET = mode ∧ ∃ tr, t.eng.md.trans = some tr ∧ tr.target = mode) ∨
           (t.rd GLB_MODE_STAT_BUSY = 0 ∧ t.rd GLB_MODE_STAT_REJ_CODE = 3 ∧ t.rd GLB_MODE_STAT_REJ = 1))))) ∧
    (∀ tr t0, s.eng.md.trans = some tr → tr.target < 6 → s.eng.md.heldSvc = [] →
      (entryReady s.eng tr t0 = true → Completes (.acquisitionEntry t0) s fun t =>
        t.rd GLB_MODE_STAT_CUR = tr.target ∧ t.rd GLB_MODE_STAT_BUSY = 0 ∧ t.eng.md.trans = none) ∧
      (entryReady s.eng tr t0 = false → Inv s → Completes (.acquisitionEntry t0) s fun t => Only [] s t) ∧
      ∀ st, tr.stop = some st → s.quiet → Inv s →
        let e := drainNow s.eng
        let done := memRuns e = true ∧ (∀ n < 4, ctxDrained e st n = true) ∧ ∀ k < 8, drained e k = true ∧ tileAwaited e k = false
        (done → Completes .acquisitionStop s fun t =>
          t.rd GLB_MODE_STAT_CUR = tr.target ∧ t.rd GLB_MODE_STAT_BUSY = 0 ∧ t.eng.md.trans = none) ∧
        (¬done → Completes .acquisitionStop s fun t => Only [] s t) ∧
        ∀ stages, Completes (.forcedStop stages) s fun t =>
          t.rd GLB_MODE_STAT_CUR = tr.target ∧ t.rd GLB_MODE_STAT_BUSY = 0 ∧ t.eng.md.trans = none ∧ t.rd GLB_MODE_STAT_FORCED = 1) ∧
    (s.eng.md.trans = none → Inv s → ∀ t0, Completes (.acquisitionEntry t0) s fun t => Only [] s t)

/-- R50, with the rows of R49 that may refuse. -/
def Obligations.RefusedTileServiceSetsRej : Prop :=
  ∀ (s : State) (req k : Nat), s.up → s.rd GLB_MODE_STAT_BUSY = 0 → natBit req k = true → s.eng.inService k = false →
    natBit s.eng.md.entering k = false →
    (k = 12 ∧ ((∃ q < 4, (jobState s.eng q = 1 ∨ jobState s.eng q = 2) ∧ s.rd (CMP_JOB_CTRL_OP q) = 1) ∨
        (s.eng.inAcq = true ∧ ∃ r < 16, receives s.eng r = true ∧ regionForm s.eng r = 2))) ∨
      (k = 14 ∧ ((s.eng.mode ≠ .service ∧ s.eng.mode ≠ .review) ∨ ∃ c < 8, s.rd (HOST_DMA_STAT_STATE c) = 1)) →
    Completes (.tileSvcRequest req) s fun t => t.eng.inService k = false ∧ natBit t.eng.md.entering k = false ∧
      t.eng.bit GLB_TILE_SVC_STAT_REJ k = true ∧ t.eng.bit GLB_TILE_SVC_REQ k = false ∧ t.mem = s.mem

/-- R49 to R53 and R508. -/
def Obligations.TileServiceBeginsAndEnds : Prop :=
  ∀ s : State, s.up →
    (∀ req, s.rd GLB_MODE_STAT_BUSY ≠ 0 → Completes (.tileSvcRequest req) s fun t =>
      t.eng.md.heldSvc = s.eng.md.heldSvc ++ [req] ∧ Kept [] s t) ∧
    (∀ req k, s.rd GLB_MODE_STAT_BUSY = 0 → k < 15 → k ≠ 12 → k ≠ 14 → natBit req k = true → s.eng.inService k = false →
      natBit s.eng.md.entering k = false → Completes (.tileSvcRequest req) s fun t =>
        t.eng.bit GLB_TILE_SVC_REQ k = true ∧ natBit t.eng.md.entering k = true ∧ t.eng.inService k = false ∧ t.mem = s.mem) ∧
    (∀ k u, k < 15 → s.eng.inAcq = false → Inv s →
      (natBit s.eng.md.entering k = true → Completes (.tileServiceEntry k u) s fun t =>
        t.eng.inService k = true ∧ natBit t.eng.md.entering k = false ∧
        (s.eng.md.svcStart.length = 15 → t.eng.md.svcStart.getD k none = some s.eng.ts) ∧ (k ≠ 13 → t.mem = s.mem)) ∧
      (natBit s.eng.md.entering k = false → Completes (.tileServiceEntry k u) s fun t => Only [] s t)) ∧
    (∀ k v u, k < 15 → s.eng.inAcq = false → Inv s → natBit s.eng.md.leaving k = true → s.eng.inService k = true →
      natBit s.eng.md.entering k = false → s.rd CFG_TILE_STAT_BUSY = 0 → s.eng.md.svcStart.getD k none = some u →
      s.eng.ldg.queue.length < 200 →
      Completes (.tileServiceExit k v) s fun t => t.eng.inService k = false ∧ natBit t.eng.md.leaving k = false ∧ t.mem = s.mem ∧
        ∃ c ∈ t.eng.ldg.queue, c.cause = 6 * 2 ^ 29 + 0x20 ∧
          c.data = [BitVec.ofNat 8 k] ++ leBytes 8 u ++ leBytes 8 (prevTick s.eng.ts)) ∧
    ∀ k v, k < 15 → s.eng.inService k = false → Inv s → Completes (.tileServiceExit k v) s fun t => Only [] s t

/-- R56, R57, R59, R60, R220, R221, R223, R226 to R228. -/
def Obligations.RegionsKeepSealAndClear : Prop :=
  ∀ s : State, s.up →
    (∀ n w, s.quiet → Inv s → (s.eng.getKr n).wins.head? = some w → w.begun ≠ none →
      ((s.eng.getKp w.dest).busy = none ∨ (s.eng.getKp w.dest).busy = some n) → 0 < keptFree s.eng w.dest →
      memRuns s.eng = true →
      (∀ k b, copyLook s.eng s.mem n = .take k b → b.length = 256 → Completes (.keptLineCopy n) s fun t =>
        let a := lineAddr s.eng w.dest (max 1 (s.rd (ACC_CREG_POS_WPTR w.dest)))
        (∀ i < 256, memGet t.mem.cap (a + i) = b.getD i 0) ∧
        (∀ x, ¬(a ≤ x ∧ x < a + 256) → memGet t.mem.cap x = memGet s.mem.cap x) ∧
        t.rd (ACC_CREG_GS_SEQ w.dest) = (s.rd (ACC_CREG_GS_SEQ w.dest) + 1) % 2 ^ 24 ∧
        (t.eng.getKr n).wins.head?.map (·.lines) = some (w.lines + 1) ∧
        t.mem.scr = s.mem.scr ∧ t.mem.vlt = s.mem.vlt ∧ t.mem.ram = s.mem.ram) ∧
      (windowComplete s.eng n w = true → copyLook s.eng s.mem n = .idle → Completes (.seal n) s fun t =>
        t.rd (ACC_KEEP_CNT_CNT n) = (s.rd (ACC_KEEP_CNT_CNT n) + 1) % 2 ^ 32 ∧ t.rd (ACC_CREG_STAT_SEALED n) = 1 ∧
        (t.eng.getKr n).wins = (s.eng.getKr n).wins.drop 1 ∧ (t.eng.getKp w.dest).next = (s.eng.getKp w.dest).next + 1 ∧
        t.mem.scr = s.mem.scr ∧ t.mem.vlt = s.mem.vlt)) ∧
    (∀ n, s.quiet → Inv s → (s.eng.getKr n).wins = [] ∨ memRuns s.eng = false →
      (Completes (.keptLineCopy n) s fun t => Only [] s t) ∧ Completes (.seal n) s fun t => Only [] s t) ∧
    (∀ n en pol dest, n < 16 → dest < 16 →
      (en = true → ¬(regionKind s.eng n = 1 ∧ regionKind s.eng dest = 3) → Completes (.keepCtrlWrite n en pol dest) s fun t =>
        t.rd ACC_STAT_REJ = 1 ∧ Kept [ACC_STAT_REJ.key] s t) ∧
      (¬(en = true ∧ ¬(regionKind s.eng n = 1 ∧ regionKind s.eng dest = 3)) → Completes (.keepCtrlWrite n en pol dest) s fun t =>
        t.rd (ACC_KEEP_CTRL_EN n) = (if en then 1 else 0) ∧ t.rd (ACC_KEEP_CTRL_FULL_POL n) = (if pol then 1 else 0) ∧
        t.rd (ACC_KEEP_CTRL_DEST n) = dest ∧
        Only [(ACC_KEEP_CTRL_EN n).key, (ACC_KEEP_CTRL_FULL_POL n).key, (ACC_KEEP_CTRL_DEST n).key] s t)) ∧
    (let due := wakeDue s.eng ≠ 0 ∧ (s.eng.hl.cold = true ∨ s.rd CS_PM_STATE = 3) ∧ s.rd CS_PME_EN ≠ 0 ∧
       (wakeSpaced s.eng = true ∨ natBit (wakeDue s.eng) 2 = true)
     (due → Completes .wakeAssert s fun t => t.eng.wakeLow = true ∧ t.eng.wakeAt = some s.eng.now ∧ t.rd CS_PME_STATUS = 1 ∧
       Kept [CS_PME_STATUS.key] s t) ∧
     (¬due → Completes .wakeAssert s fun t => Only [] s t)) ∧
    (let n := s.rd ACC_CMD_REG
     let ok := (s.eng.mode = .service ∨ s.eng.mode = .review) ∧ s.rd GLB_MODE_STAT_BUSY = 0 ∧ s.rd ACC_STAT_BUSY = 0 ∧
       ∀ c ∈ s.eng.dma, c.region ≠ some n
     (ok → Completes .clear s fun t => t.rd ACC_STAT_BUSY = 1 ∧ t.eng.clr = some n ∧ Kept [ACC_STAT_BUSY.key] s t) ∧
     (¬ok → Completes .clear s fun t => t.rd ACC_STAT_REJ = 1 ∧ t.eng.clr = s.eng.clr ∧ Kept [ACC_STAT_REJ.key] s t)) ∧
    (∀ n < 16, Inv s → s.eng.clr = some n →
      let a := s.rd (ACC_CREG_BASE_LINE n) * 256
      let l := s.rd (ACC_CREG_SIZE_LINES n) * 256
      (regionKind s.eng n ≠ 3 → Completes .clearDone s fun t =>
        t.rd ACC_STAT_BUSY = 0 ∧ t.eng.clr = none ∧ t.rd (ACC_CREG_POS_WPTR n) = 0 ∧ t.rd (ACC_CREG_GS_GEN n) = 0 ∧
        t.rd (ACC_CREG_GS_SEQ n) = 0 ∧ t.rd (ACC_CREG_STAT_HVALID n) = 0 ∧ t.rd (ACC_CREG_STAT_FULL_NOW n) = 0 ∧
        t.rd (ACC_CREG_STAT_FROZEN_NOW n) = 0 ∧ (∀ x, a ≤ x → x < a + l → memGet t.mem.cap x = 0) ∧
        (∀ x, ¬(a ≤ x ∧ x < a + l) → memGet t.mem.cap x = memGet s.mem.cap x) ∧ t.mem.scr = s.mem.scr ∧ t.mem.vlt = s.mem.vlt ∧
        Kept [ACC_STAT_BUSY.key, (ACC_CREG_POS_WPTR n).key, (ACC_CREG_GS_GEN n).key, (ACC_CREG_GS_SEQ n).key,
          (ACC_CREG_STAT_HVALID n).key, (ACC_CREG_STAT_FULL_NOW n).key, (ACC_CREG_STAT_FROZEN_NOW n).key] { s with mem := t.mem } t) ∧
      (regionKind s.eng n = 3 → Completes .clearDone s fun t => t.rd ACC_STAT_BUSY = 0 ∧ t.rd (ACC_CREG_POS_WPTR n) = 1 ∧
        (t.eng.getKp n).genesis = s.eng.ts ∧ (t.eng.getKp n).held = [])) ∧
    (s.eng.clr = none → Inv s → Completes .clearDone s fun t => Only [] s t) ∧
    (∀ master n, n < 16 → Completes (.cregPosRead master n) s fun t => Kept [] s t ∧
      ∀ f ∈ [ACC_CREG_GS_GEN n, ACC_CREG_GS_SEQ n, ACC_CREG_HOR_LO_TS n, ACC_CREG_HOR_HI_TS n], latched t.eng master f = some (s.rd f)) ∧
    ∀ n en, n < 16 → Completes (.cregEnWrite n en) s fun t => t.rd (ACC_CREG_CFG_EN n) = (if en then 1 else 0) ∧
      (s.eng.inAcq = true → Only [(ACC_CREG_CFG_EN n).key] s t) ∧
      (s.eng.inAcq = false → t.rda (ACC_CREG_CFG_EN n) = (if en then 1 else 0) ∧
        OnlyActive [(ACC_CREG_CFG_EN n).key] [(ACC_CREG_CFG_EN n).key] s t)

/-- R242, R245, R247, R249 to R253. -/
def Obligations.ContainersAndJobsWork : Prop :=
  ∀ s : State, s.up →
    (∀ n mm, Inv s → (s.eng.getRg n).outQ = [] → Completes (.containerCommit n mm) s fun t => Only [] s t) ∧
    (∀ n mm sp edges, Inv s → inRun s.eng = false → cmpFlows s.eng = true → (s.eng.getRg n).outQ = [.cont sp edges] → laneOf s.eng n sp.tile < 8 →
      let lane := laneOf s.eng n sp.tile
      Completes (.containerCommit n mm) s fun t => (t.eng.getRg n).outQ = [] ∧ t.mem.scr = s.mem.scr ∧ t.mem.vlt = s.mem.vlt ∧
        (mm = true → t.rd (CMP_LANE_VFAIL_CNT lane) = min (s.rd (CMP_LANE_VFAIL_CNT lane) + 1) (2 ^ 32 - 1) ∧
          t.eng.bit CMP_EVT_VFAIL lane = true) ∧
        (mm = false → t.rd (CMP_LANE_BLK_CNT lane) = (s.rd (CMP_LANE_BLK_CNT lane) + 1) % 2 ^ 32)) ∧
    (∀ user slot a, Inv s →
      let r := decodeLines s.eng s.mem (capPlaces s.eng s.mem a)
      let why := r.dec.why
      let sound := ∀ l ∈ r.read, lineQuiet s.eng s.mem l = true
      ((why = 0 ∧ sound) ∨ cmpFlows s.eng = false → Completes (.containerDecode user slot a) s fun t => Only [] s t) ∧
      (∀ l k, r.read = [l] → lineSound s.eng l = true → k < 8 → sectorPois s.mem l k = true → cmpFlows s.eng = true →
        Completes (.containerDecode user slot a) s fun t =>
          t.rd MEM_ERR_PRD_CNT_CNT = min (s.rd MEM_ERR_PRD_CNT_CNT + 1) (2 ^ 32 - 1) ∧ t.rd MEM_ERR_EVT_POISON_RD = 1 ∧ t.mem = s.mem) ∧
      (why ≠ 0 → cmpFlows s.eng = true → why < 8 → user < 4 → slot < 4 → Completes (.containerDecode user slot a) s fun t =>
        t.rd CMP_DEC_BAD_CNT = min (s.rd CMP_DEC_BAD_CNT + 1) (2 ^ 32 - 1) ∧ t.rd CMP_DEC_LAST_WHY = why ∧
        t.rd CMP_DEC_LAST_USER = user ∧ t.rd CMP_DEC_LAST_SLOT = slot ∧ t.rd CMP_EVT_DEC_BAD = 1 ∧
        (sound → Kept [CMP_DEC_BAD_CNT.key, CMP_DEC_LAST_WHY.key, CMP_DEC_LAST_USER.key, CMP_DEC_LAST_SLOT.key, CMP_EVT_DEC_BAD.key] s t))) ∧
    (∀ q < 4,
      let st (t : State) : Nat := t.rd (CMP_JOB_STAT_STATE q)
      let op := s.rd (CMP_JOB_CTRL_OP q)
      let active := st s = 1 ∨ st s = 2 ∨ st s = 3
      let barred := s.eng.mode = .chronicle ∨ s.eng.mode = .archive
      let stat := [(CMP_JOB_STAT_STATE q).key, (CMP_JOB_STAT_GEN q).key, (CMP_JOB_STAT_VALID q).key, (CMP_JOB_STAT_ERR q).key, CMP_EVT_JOB_END.key]
      let ends (t : State) (s1 e1 : Nat) : Prop := st t = s1 ∧ (s1 = 5 → t.rd (CMP_JOB_STAT_ERR q) = e1) ∧
        t.rd (CMP_JOB_STAT_GEN q) = (s.rd (CMP_JOB_STAT_GEN q) + 1) % 2 ^ 16 ∧ t.rd (CMP_JOB_STAT_VALID q) = 1 ∧
        t.eng.bit CMP_EVT_JOB_END q = true
      (active → Completes (.jobGo q) s fun t => Only [] s t) ∧
      (¬active → (s.eng.inService 12 = true ∨ (op = 1 ∧ barred)) → Completes (.jobGo q) s fun t => ends t 5 1 ∧ Kept stat s t) ∧
      (¬active → s.eng.inService 12 = false → ¬(op = 1 ∧ barred) →
        (jobRangeBad s.eng q = true → Completes (.jobGo q) s fun t => ends t 5 2 ∧ Kept stat s t) ∧
        (jobRangeBad s.eng q = false → jobParamBad s.eng q = true → Completes (.jobGo q) s fun t => ends t 5 3 ∧ Kept stat s t) ∧
        (jobRangeBad s.eng q = false → jobParamBad s.eng q = false → Completes (.jobGo q) s fun t =>
          st t = 1 ∧ t.rd (CMP_JOB_STAT_VALID q) = 0 ∧ t.rd (CMP_JOB_DONE_IN_CNT q) = 0 ∧ t.rd (CMP_JOB_DONE_OUT_CNT q) = 0 ∧
          t.rd (CMP_JOB_NBLK_CNT q) = 0 ∧ t.rd (CMP_JOB_NBAD_CNT q) = 0 ∧
          Kept [(CMP_JOB_STAT_STATE q).key, (CMP_JOB_STAT_VALID q).key, (CMP_JOB_DONE_IN_CNT q).key, (CMP_JOB_DONE_OUT_CNT q).key,
            (CMP_JOB_NBLK_CNT q).key, (CMP_JOB_NBAD_CNT q).key] s t)) ∧
      (st s ≠ 3 → Completes (.resume q) s fun t => Only [] s t) ∧
      (st s = 3 → s.eng.inService 12 = true ∨ (op = 1 ∧ barred) → Completes (.resume q) s fun t =>
        t.rd (CMP_JOB_STAT_ERR q) = 1 ∧ Only [(CMP_JOB_STAT_ERR q).key] s t) ∧
      (st s = 3 → s.eng.inService 12 = false → ¬(op = 1 ∧ barred) → Completes (.resume q) s fun t =>
        st t = 1 ∧ t.rd (CMP_JOB_STAT_VALID q) = 0 ∧ t.rd (CMP_JOB_DONE_OUT_CNT q) = 0 ∧
        Only [(CMP_JOB_STAT_STATE q).key, (CMP_JOB_STAT_VALID q).key, (CMP_JOB_DONE_OUT_CNT q).key] s t) ∧
      (active → Completes (.jobAbort q) s fun t => ends t 5 6 ∧ Kept stat s t) ∧
      (¬active → Completes (.jobAbort q) s fun t => Only [] s t) ∧
      (∀ mm, Inv s →
        let a := s.eng.rdq (CMP_JOB_DST q)
        let l := s.rd (CMP_JOB_DSTLEN_LEN q)
        let out := s.rd (CMP_JOB_DONE_OUT_CNT q)
        (st s ≠ 1 → st s ≠ 2 → Completes (.jobContainer q mm) s fun t => Only [] s t) ∧
        (Completes (.jobContainer q mm) s fun t => (∀ x, ¬(a ≤ x ∧ x < a + l) → memGet t.mem.cap x = memGet s.mem.cap x) ∧
          t.mem.scr = s.mem.scr ∧ t.mem.vlt = s.mem.vlt ∧ t.mem.ram = s.mem.ram) ∧
        (cmpFlows s.eng = false ∨ laneWaits (takeLane q s.eng) q = true → Completes (.jobContainer q mm) s fun t => Only [] s t) ∧
        (∀ r, st s = 1 ∨ st s = 2 → op = 2 → s.eng.inService 12 = false → cmpFlows s.eng = true → laneWaits (takeLane q s.eng) q = false →
          decompressNext q s.eng s.mem = some r →
          let d := r.dec
          let used := r.used
          let bytes := resultHeader r ++ (if d.why = 0 then unitBytes d.units else [])
          (d.why = 0 → out + bytes.length ≤ l → out + bytes.length < 2 ^ 32 → Completes (.jobContainer q mm) s fun t =>
            (∀ i < bytes.length, memGet t.mem.cap (a + out + i) = bytes.getD i 0) ∧
            t.rd (CMP_JOB_DONE_OUT_CNT q) = out + bytes.length ∧ t.rd (CMP_JOB_DONE_IN_CNT q) = (s.rd (CMP_JOB_DONE_IN_CNT q) + used) % 2 ^ 32 ∧
            t.rd (CMP_JOB_NBLK_CNT q) = (s.rd (CMP_JOB_NBLK_CNT q) + 1) % 2 ^ 32 ∧
            (s.rd (CMP_JOB_SRCLEN_LEN q) ≤ s.rd (CMP_JOB_DONE_IN_CNT q) + used → ends t 4 0) ∧
            (s.rd (CMP_JOB_DONE_IN_CNT q) + used < s.rd (CMP_JOB_SRCLEN_LEN q) → st t = 2)) ∧
          (d.why = 0 → l < out + bytes.length → Completes (.jobContainer q mm) s fun t => ends t 3 0 ∧
            t.rd (CMP_JOB_STAT_STOP_WHY q) = 0 ∧ t.rd (CMP_JOB_NEED_BYTES q) = bytes.length % 2 ^ 32 ∧ t.mem = s.mem) ∧
          (d.why ≠ 0 → s.rd (CMP_JOB_CTRL_CONT_ON_ERR q) = 0 → Completes (.jobContainer q mm) s fun t => ends t 5 4 ∧
            t.rd (CMP_JOB_NBAD_CNT q) = (s.rd (CMP_JOB_NBAD_CNT q) + 1) % 2 ^ 32 ∧ t.eng.bit CMP_EVT_JOB_BAD q = true ∧ t.mem = s.mem)))) ∧
    ∀ master n tbl cls nbr, n < 16 → tbl < 3 → cls < 4 → Completes (.cmpRegCfgWrite master n tbl cls nbr) s fun t =>
      let ks := [(CMP_REG_CFG_TBL n).key, (CMP_REG_CFG_CLASS n).key, (CMP_REG_CFG_NBR n).key]
      t.rd (CMP_REG_CFG_TBL n) = tbl ∧ t.rd (CMP_REG_CFG_CLASS n) = cls ∧ t.rd (CMP_REG_CFG_NBR n) = (if nbr then 1 else 0) ∧
      (s.eng.inAcq = true → Only ks s t) ∧
      (s.eng.inAcq = false → t.rda (CMP_REG_CFG_TBL n) = tbl ∧ t.rda (CMP_REG_CFG_CLASS n) = cls ∧
        t.rda (CMP_REG_CFG_NBR n) = (if nbr then 1 else 0) ∧ OnlyActive ks ks s t)

/-- R306 to R312, R317, R328. -/
def Obligations.ScratchAccessesAreServedOrRefused : Prop :=
  ∀ s : State, s.up →
    (∀ x : ScrAcc, Inv s → scrPermits s.eng x = true → scrWaits s.eng x.addr x.len = false →
      (∀ bs, x.wr = some bs → bs.length = x.len → Completes (.scratchAccess x none) s fun t =>
        (∀ i < x.len, memGet t.mem.scr (x.addr + i) = bs.getD i 0) ∧
        (∀ a, ¬(x.addr ≤ a ∧ a < x.addr + x.len) → memGet t.mem.scr a = memGet s.mem.scr a) ∧
        (x.addr % 8 = 0 → x.len % 8 = 0 → (∀ w ∈ scrWords x.addr x.len, idxMem t.mem.scrPois w = false) ∧
          t.eng.rest = s.eng.rest ∧ FieldsKept [] s t) ∧
        t.mem.cap = s.mem.cap ∧ t.mem.vlt = s.mem.vlt ∧ t.mem.ram = s.mem.ram) ∧
      (x.wr = none → x.resp = [] → (∀ w ∈ scrWords x.addr x.len, idxMem s.mem.scrPois w = false) →
        Completes (.scratchAccess x none) s fun t => Kept [] s t ∧
          t.eng.out = s.eng.out ++ [.scr x.who x.addr (memRead s.mem.scr x.addr x.len) false])) ∧
    (∀ x : ScrAcc, Inv s → scrPermits s.eng x = true → scrWaits s.eng x.addr x.len = true → Completes (.scratchAccess x none) s fun t =>
      t.eng.sc.hold = s.eng.sc.hold ++ [.acc x] ∧ Kept [] s t) ∧
    (∀ x : ScrAcc, Inv s → scrPermits s.eng x = false → x.who < 11 → Completes (.scratchAccess x none) s fun t => t.mem = s.mem ∧
      (x.who < 8 → t.rd SCR_PART_CNT_CNT = min (s.rd SCR_PART_CNT_CNT + 1) (2 ^ 32 - 1) ∧ t.rd SCR_PART_LOG_UNIT = x.who ∧
        t.rd SCR_PART_LOG_ADDR = x.addr % 2 ^ 25 ∧ t.rd SCR_EVT_PART_ERR = 1 ∧
        Kept [SCR_PART_CNT_CNT.key, SCR_PART_LOG_UNIT.key, SCR_PART_LOG_ADDR.key, SCR_EVT_PART_ERR.key] s t) ∧
      (8 ≤ x.who → t.rd SCR_PRIV_CNT_CNT = min (s.rd SCR_PRIV_CNT_CNT + 1) (2 ^ 32 - 1) ∧ t.rd SCR_PRIV_LOG_MASTER = x.who - 8 ∧
        t.rd SCR_PRIV_LOG_ADDR = x.addr % 2 ^ 25 ∧ t.rd SCR_EVT_PRIV_ERR = 1) ∧
      (x.who = 9 → t.rd HOST_DENY_CNT_CNT = min (s.rd HOST_DENY_CNT_CNT + 1) (2 ^ 32 - 1) ∧ t.rd HOST_EVT_DENIED = 1)) ∧
    (∀ m < 3, Inv s → s.rd (SCR_ATOM_STAT_BUSY m) = 0 →
      let a := s.rd (SCR_ATOM_ADDR_ADDR m)
      let n := if s.rd (SCR_ATOM_CMD_SIZE m) ≠ 0 then 8 else 4
      let old := leNat (memRead s.mem.scr a n)
      let new := (if s.rd (SCR_ATOM_CMD_OP m) ≠ 0 then s.eng.rdq (SCR_ATOM_OPND m) else old + s.eng.rdq (SCR_ATOM_OPND m)) % 2 ^ (8 * n)
      let stat := [(SCR_ATOM_RES_LO_RES m).key, (SCR_ATOM_RES_HI_RES m).key, (SCR_ATOM_STAT_ERR m).key, (SCR_ATOM_STAT_GEN m).key,
        (SCR_ATOM_STAT_VALID m).key, (SCR_ATOM_STAT_BUSY m).key]
      let ended (t : State) (err : Nat) : Prop := t.rd (SCR_ATOM_STAT_ERR m) = err ∧ t.rd (SCR_ATOM_STAT_VALID m) = 1 ∧
        t.rd (SCR_ATOM_STAT_BUSY m) = 0 ∧ t.rd (SCR_ATOM_STAT_GEN m) = (s.rd (SCR_ATOM_STAT_GEN m) + 1) % 2 ^ 16
      (privPermits s.eng m a n true true = true → a % n = 0 → scrWaits s.eng a n = false → idxMem s.mem.scrPois (a / 8) = false →
        Completes (.atomicGo m m .clean) s fun t => ended t 0 ∧ t.eng.rdq (SCR_ATOM_RES m) = old ∧
          (∀ i < n, memGet t.mem.scr (a + i) = (leBytes n new).getD i 0) ∧
          (∀ x, ¬(a ≤ x ∧ x < a + n) → memGet t.mem.scr x = memGet s.mem.scr x) ∧ t.mem.cap = s.mem.cap ∧
          t.mem.vlt = s.mem.vlt ∧ FieldsKept stat s t) ∧
      (∀ r, privPermits s.eng m a n true true = true → a % n ≠ 0 → Completes (.atomicGo m m r) s fun t => ended t 2 ∧ Kept stat s t) ∧
      (∀ r, privPermits s.eng m a n true true = false → Completes (.atomicGo m m r) s fun t => ended t 1 ∧ t.mem = s.mem ∧
        t.rd SCR_PRIV_CNT_CNT = min (s.rd SCR_PRIV_CNT_CNT + 1) (2 ^ 32 - 1)) ∧
      ∀ r master, master ≠ m → Completes (.atomicGo master m r) s fun t => t.rd SCR_EVT_PRIV_ERR = 1 ∧ Kept [SCR_EVT_PRIV_ERR.key] s t) ∧
    ∀ m j v, m < 3 → j < 8 →
      (∀ master reg, master ≠ 0 → Completes (.scrRgnWrite master m j reg v) s fun t =>
        t.rd SCR_EVT_PRIV_ERR = 1 ∧ Kept [SCR_EVT_PRIV_ERR.key] s t) ∧
      (Completes (.scrRgnWrite 0 m j 0 v) s fun t => t.rd (SCR_RGN_BASE_BASE m j) = v % 2 ^ (SCR_RGN_BASE_BASE m j).width ∧
        Only [(SCR_RGN_BASE_BASE m j).key] s t) ∧
      (Completes (.scrRgnWrite 0 m j 1 v) s fun t => t.rd (SCR_RGN_LIMIT_LIMIT m j) = v % 2 ^ (SCR_RGN_LIMIT_LIMIT m j).width ∧
        Only [(SCR_RGN_LIMIT_LIMIT m j).key] s t) ∧
      Completes (.scrRgnWrite 0 m j 2 v) s fun t => t.rd (SCR_RGN_PERM_EN m j) = v % 2 ∧ t.rd (SCR_RGN_PERM_R m j) = v / 2 % 2 ∧
        t.rd (SCR_RGN_PERM_W m j) = v / 4 % 2 ∧
        Only [(SCR_RGN_PERM_EN m j).key, (SCR_RGN_PERM_R m j).key, (SCR_RGN_PERM_W m j).key] s t

/-- R314 to R318. -/
def Obligations.ScratchIsPatrolledRepairedWipedAndTested : Prop :=
  ∀ s : State, s.up →
    (∀ r again, Inv s →
      let w := s.eng.sc.patrol
      (s.rd SCR_PATROL_CFG_EN = 0 → Completes (.scratchPatrol r again) s fun t => Only [] s t) ∧
      (s.rd SCR_PATROL_CFG_EN ≠ 0 → s.rd SCR_STAT_WIPING ≠ 0 → 28 ≤ scrBank w → Completes (.scratchPatrol r again) s fun t => Only [] s t) ∧
      (s.rd SCR_PATROL_CFG_EN ≠ 0 → s.rd SCR_STAT_WIPING = 0 → w < 2 ^ 22 → Completes (.scratchPatrol r again) s fun t =>
        t.eng.sc.patrol = (w + 1) % 2 ^ 22 ∧
        (w + 1 = 2 ^ 22 → t.rd SCR_PATROL_PASS_CNT = (s.rd SCR_PATROL_PASS_CNT + 1) % 2 ^ 32) ∧
        (bankTested s.eng (scrBank w) = false → idxMem s.mem.scrPois w = false → r = .uncorrectable →
          t.rd SCR_ERR_UE_CNT_CNT = min (s.rd SCR_ERR_UE_CNT_CNT + 1) (2 ^ 32 - 1) ∧ t.rd SCR_EVT_UE = 1 ∧
          t.rd SCR_UE_LOG_ADDR = w * 8 % 2 ^ 25 ∧ idxMem t.mem.scrPois w = true) ∧
        (∀ b, bankTested s.eng (scrBank w) = false → idxMem s.mem.scrPois w = false → r = .corrected b →
          t.rd SCR_ERR_CE_CNT_CNT = min (s.rd SCR_ERR_CE_CNT_CNT + 1) (2 ^ 32 - 1) ∧ t.rd SCR_EVT_CE = 1) ∧
        t.mem.scr = s.mem.scr ∧ t.mem.cap = s.mem.cap ∧ t.mem.vlt = s.mem.vlt)) ∧
    ((∀ x ∈ s.eng.sc.inv, x.count ≠ 0) → Completes .scratchInvAge s fun t => Only [] s t) ∧
    ((∃ x ∈ s.eng.sc.inv, x.count = 0) → Completes .scratchInvAge s fun t => t.mem = s.mem ∧
      (∀ x, x ∈ t.eng.sc.inv ↔ x ∈ s.eng.sc.inv ∧ ¬(x.count = 0 ∧ x.seen + 24 * 3600 * tps ≤ t.eng.now)) ∧
      ∃ x ∈ s.eng.sc.inv, x.count = 0 ∧ x.seen + 24 * 3600 * tps ≤ t.eng.now) ∧
    (∀ b < 32, (∀ r ∈ s.eng.sc.reps, scrBank r.1 ≠ b) → Completes (.scratchRepairDone b) s fun t => Only [] s t) ∧
    (∀ b r, b < 32 → (s.eng.sc.reps.find? fun x => scrBank x.1 == b) = some r → Completes (.scratchRepairDone b) s fun t =>
      let left := if r.2.2 then SCR_REP_COLS_LEFT b else SCR_REP_ROWS_LEFT b
      t.rd left = (s.rd left - 1) % 2 ^ 4 ∧ t.rd SCR_EVT_REPAIRED = 1 ∧ t.eng.sc.reps = s.eng.sc.reps.erase r ∧
      Kept [left.key, SCR_EVT_REPAIRED.key, SCR_INV_STAT_USED.key, SCR_INV_STAT_UNREP.key] s t) ∧
    (∀ fail, s.quiet → Inv s → s.rd SCR_STAT_WIPING ≠ 0 → s.eng.sc.hold = [] → s.eng.se.trans = none →
      Completes (.secureWipeDone fail) s fun t => t.rd SCR_STAT_WIPING = 0 ∧ t.rd SCR_EVT_WIPED = 1 ∧
        (∀ a, 28 * 2 ^ 20 ≤ a → a < 32 * 2 ^ 20 → memGet t.mem.scr a = 0) ∧
        (∀ a, ¬(28 * 2 ^ 20 ≤ a ∧ a < 32 * 2 ^ 20) → memGet t.mem.scr a = memGet s.mem.scr a) ∧
        t.mem.cap = s.mem.cap ∧ t.mem.vlt = s.mem.vlt ∧ t.mem.ram = s.mem.ram) ∧
    (∀ fail, s.quiet → Inv s → s.rd SCR_STAT_WIPING = 0 → Completes (.secureWipeDone fail) s fun t => Only [] s t) ∧
    (let bad := s.rd SCR_MT_STAT_BUSY ≠ 0 ∨ (s.rd SCR_MT_CTRL_MODE = 0 ∧ marchAllowed s.eng = false)
     (bad → Completes .marchTestStart s fun t => t.rd SCR_MT_STAT_REJ = 1 ∧ Kept [SCR_MT_STAT_REJ.key] s t) ∧
     (¬bad → Completes .marchTestStart s fun t => t.rd SCR_MT_STAT_BUSY = 1 ∧
       t.eng.sc.march = some ⟨s.rd SCR_MT_CTRL_MODE, s.rd SCR_MT_BANKS_BANKS⟩ ∧ Kept [SCR_MT_STAT_BUSY.key] s t)) ∧
    ∀ mt rows fails, s.quiet → Inv s → s.eng.sc.march = some mt →
      let ended (t : State) (err rows : Nat) : Prop := t.rd SCR_MT_STAT_BUSY = 0 ∧ t.rd SCR_MT_STAT_VALID = 1 ∧ t.rd SCR_MT_STAT_ERR = err ∧
        t.rd SCR_EVT_MT_END = 1 ∧ t.rd SCR_MT_STAT_GEN = (s.rd SCR_MT_STAT_GEN + 1) % 2 ^ 16 ∧ t.eng.sc.march = none ∧
        t.mem.cap = s.mem.cap ∧
        (∀ b k, b < 32 → mt.mode = 0 → natBit mt.banks b = true → k < min rows 2048 * 512 → memGet t.mem.scr (b * 2 ^ 20 + k) = 0) ∧
        (∀ a, ¬(mt.mode = 0 ∧ a < 2 ^ 25 ∧ natBit mt.banks (a / 2 ^ 20) = true ∧ a % 2 ^ 20 < min rows 2048 * 512) →
          memGet t.mem.scr a = memGet s.mem.scr a)
      (Completes (.marchTestEnd fails) s fun t => ended t 0 2048) ∧ Completes (.marchTestAbort rows fails) s fun t => ended t 1 rows

/-- R321 to R323, R330 to R333, R345, R349. -/
def Obligations.HostLinkResetsAndStates : Prop :=
  ∀ s : State, s.up →
    (∀ off wr mask, s.eng.hl.ready = false → Completes (.configRequest off wr mask) s fun t =>
      t.eng.out = s.eng.out ++ [.cfg 2 0] ∧ Kept [] s t) ∧
    (∀ off mask, s.eng.hl.ready = true → Completes (.configRequest off none mask) s fun t =>
      t.eng.out = s.eng.out ++ [.cfg 0 (cfgRead s.eng (off / 4 * 4))] ∧ Kept [] s t) ∧
    (∀ v, s.eng.hl.ready = true → Completes (.configRequest 4 (some v) (2 ^ 32 - 1)) s fun t =>
      t.rd CS_MSE = v / 2 % 2 ∧ t.rd CS_BME = v / 4 % 2 ∧ .cfg 0 0 ∈ t.eng.out ∧ t.mem = s.mem) ∧
    (let stopped (t : State) : Prop := ∀ c < 8, (dmaRuns s.eng c = true → t.rd (HOST_DMA_STAT_STATE c) = 3 ∧ t.rd (HOST_DMA_STAT_ERR c) = 7 ∧
         t.rd (HOST_DMA_EVT_END c) = 1 ∧ t.rd (HOST_DMA_HEAD_IDX c) = s.rd (HOST_DMA_HEAD_IDX c)) ∧
       (dmaRuns s.eng c = false → t.rd (HOST_DMA_STAT_STATE c) = s.rd (HOST_DMA_STAT_STATE c) ∧
         t.rd (HOST_DMA_STAT_ERR c) = s.rd (HOST_DMA_STAT_ERR c))
     (Completes .d3hotEntry s fun t => t.rd CS_PM_STATE = 3 ∧ t.rd HOST_LINK_STAT_DSTATE = 3 ∧ stopped t ∧ t.mem = s.mem) ∧
     Completes .linkDown s fun t => t.eng.hl.up = false ∧ t.rd HOST_LINK_STAT_SPEED = 0 ∧ t.rd HOST_LINK_STAT_WIDTH = 0 ∧
       stopped t ∧ t.mem = s.mem) ∧
    (Completes .d0Entry s fun t => t.rd CS_PM_STATE = 0 ∧ t.rd HOST_LINK_STAT_DSTATE = 0 ∧ t.eng.wakeLow = false ∧
      Kept [CS_PM_STATE.key, HOST_LINK_STAT_DSTATE.key] s t) ∧
    (let fresh (t : State) : Prop :=
       (∀ c < 8, t.rd (HOST_DMA_STAT_STATE c) = 0 ∧ t.rd (HOST_DMA_HEAD_IDX c) = 0 ∧ t.rd (HOST_DMA_TAIL_IDX c) = 0) ∧
       (∀ w < 16, ∀ f ∈ winFields w, t.rda f = imgVal s.eng f % 2 ^ f.width ∧ t.rd f = imgVal s.eng f % 2 ^ f.width) ∧
       t.eng.hl.reqs = [] ∧ (∀ r ∈ s.eng.hl.reqs, r.tag ∈ t.eng.hl.quar.map (·.1)) ∧ t.mem = s.mem ∧
       ∀ g : Fld, (g.key < 8 * 0xB00000 ∨ 8 * 0xC00000 ≤ g.key) → g.key < 8 * 2 ^ 32 → g.key ∉ reportKeys → t.rd g = s.rd g
     (Completes .hotReset s fun t => fresh t ∧ t.rd HOST_RST_STAT_HOT = 1 ∧ t.eng.hl.up = false ∧
       t.rd HOST_BAR2_LOG2 = s.rd HOST_BAR2_PEND % 2 ^ 6) ∧
     Completes .functionLevelReset s fun t => fresh t ∧ t.rd HOST_RST_STAT_FLR = 1 ∧ t.eng.hl.up = s.eng.hl.up ∧
       t.rd HOST_BAR2_LOG2 = s.rd HOST_BAR2_LOG2 % 2 ^ 6)

/-- R335, R337, R340, R341. -/
def Obligations.InterruptsAndEventFifo : Prop :=
  ∀ s : State, s.up →
    (∀ v < 64,
      (asserted s.eng v = false → Completes (.irqEoi v) s fun t => inService t.eng v = false ∧ t.eng.out = s.eng.out ∧ Kept [] s t) ∧
      (asserted s.eng v = true → s.rd CS_PM_STATE ≠ 3 → s.rd CS_MSIX_EN ≠ 0 →
        (s.rd CS_MSIX_FMASK = 0 → natBit s.eng.vmask v = false → Completes (.irqEoi v) s fun t =>
          inService t.eng v = true ∧ t.eng.out = s.eng.out ++ [.msix v] ∧ Kept [] s t) ∧
        (natBit s.eng.vmask v = true → Completes (.irqEoi v) s fun t =>
          inService t.eng v = false ∧ t.eng.out = s.eng.out ∧ natBit t.eng.pba v = true ∧ Kept [] s t)) ∧
      (Completes (.msixUnmask v true) s fun t => natBit t.eng.vmask v = true ∧ t.eng.pba = s.eng.pba ∧ t.eng.out = s.eng.out ∧ Kept [] s t) ∧
      (Completes (.msixUnmask v false) s fun t => natBit t.eng.vmask v = false ∧ Kept [] s t ∧
        (natBit s.eng.pba v = true → s.rd CS_MSIX_FMASK = 0 → natBit t.eng.pba v = false ∧
          (asserted s.eng v = true → s.rd CS_PM_STATE ≠ 3 → s.rd CS_MSIX_EN ≠ 0 → inService s.eng v = false →
            t.eng.out = s.eng.out ++ [.msix v] ∧ inService t.eng v = true)) ∧
        (natBit s.eng.pba v = false → t.eng.pba = s.eng.pba ∧ t.eng.out = s.eng.out))) ∧
    (let data := (List.range 8).map fun k => (HOST_EVQ_DATA_ITEM k).key
     (s.eng.evq.latched ≠ none → Completes .evqRead s fun t => Only [] s t) ∧
     (s.eng.evq.latched = none → s.eng.evq.items = [] → Completes .evqRead s fun t => (∀ k < 8, t.rd (HOST_EVQ_DATA_ITEM k) = 0) ∧ Only data s t) ∧
     (s.eng.evq.latched = none → s.eng.evq.items ≠ [] → Completes .evqRead s fun t =>
       t.eng.evq.latched = some (evqWord s.eng.evq.items) ∧ t.eng.evq.items = s.eng.evq.items ∧ t.rd HOST_EVQ_STAT_LATCHED = 1 ∧
       (∀ k < 8, k < s.eng.evq.items.length → t.rd (HOST_EVQ_DATA_ITEM k) = s.eng.evq.items.getD k 0 % 2 ^ 32) ∧
       (s.eng.evq.items.length < 8 → t.rd (HOST_EVQ_DATA_ITEM 7) = 2 * 2 ^ 29 + 4 * s.eng.evq.items.length) ∧
       Kept (HOST_EVQ_STAT_LATCHED.key :: data) s t) ∧
     (s.eng.evq.latched = none → Completes .evqPop s fun t => Only [] s t) ∧
     ∀ w, s.eng.evq.latched = some w → Completes .evqPop s fun t =>
       t.eng.evq.latched = none ∧ t.eng.evq.lost = 0 ∧ t.rd HOST_EVQ_STAT_LATCHED = 0 ∧
       t.eng.evq.items = s.eng.evq.items.drop (wordItems w) ++ (if s.eng.evq.lost = 0 then [] else [5 * 2 ^ 29 + s.eng.evq.lost]) ∧
       t.rd HOST_EVQ_STAT_COUNT = t.eng.evq.items.length % 2 ^ 13 ∧ Kept (HOST_EVQ_STAT_LATCHED.key :: data) s t)

/-- R342 to R345. -/
def Obligations.DmaChannelsRunAndStop : Prop :=
  ∀ (s : State) (c : Nat), s.up → Inv s → c < 8 →
    let runs := s.rd (HOST_DMA_STAT_STATE c) = 1
    let d := s.eng.getDma c
    let head (t : State) : Prop := t.rd (HOST_DMA_HEAD_IDX c) = (s.rd (HOST_DMA_HEAD_IDX c) + 1) % 2 ^ 32
    let stat := [(HOST_DMA_STAT_STATE c).key, (HOST_DMA_STAT_ERR c).key, (HOST_DMA_STAT_GEN c).key, (HOST_DMA_STAT_VALID c).key,
      (HOST_DMA_EVT_END c).key]
    let ended (t : State) (st err : Nat) : Prop := t.rd (HOST_DMA_STAT_STATE c) = st ∧ t.rd (HOST_DMA_STAT_ERR c) = err ∧
      t.rd (HOST_DMA_STAT_VALID c) = 1 ∧ t.rd (HOST_DMA_STAT_GEN c) = (s.rd (HOST_DMA_STAT_GEN c) + 1) % 2 ^ 16 ∧
      t.rd (HOST_DMA_EVT_END c) = 1
    let wrote (t : State) (done : Nat) (err flags : Nat) : Prop := ∃ bs, .mwr (slotAddr s.eng c + 24) bs false ∈ t.eng.out ∧
      bs = leBytes 4 done ++ leBytes 1 (err + 128) ++ leBytes 1 flags ++ leBytes 2 (s.rd (HOST_DMA_HEAD_IDX c) % 2 ^ 16)
    (∀ v < 2 ^ 32,
      let ahead := (v + 2 ^ 32 - s.rd (HOST_DMA_HEAD_IDX c)) % 2 ^ 32
      (2 ^ s.rd (HOST_DMA_RING_CFG_LOG2 c) < ahead → Completes (.dmaTailWrite c v) s fun t =>
        t.rd (HOST_DMA_STAT_TAIL_REJ c) = 1 ∧ Kept [(HOST_DMA_STAT_TAIL_REJ c).key] s t) ∧
      (ahead ≤ 2 ^ s.rd (HOST_DMA_RING_CFG_LOG2 c) → Completes (.dmaTailWrite c v) s fun t =>
        t.rd (HOST_DMA_TAIL_IDX c) = v ∧ Only [(HOST_DMA_TAIL_IDX c).key] s t)) ∧
    (runs → Completes (.dmaEnable c) s fun t => t.rd (HOST_DMA_CTRL_EN c) = 1 ∧ Kept [(HOST_DMA_CTRL_EN c).key] s t) ∧
    (¬runs → busOk s.eng = true → Completes (.dmaEnable c) s fun t => t.rd (HOST_DMA_CTRL_EN c) = 1 ∧
      t.rd (HOST_DMA_STAT_STATE c) = 1 ∧ (t.eng.getDma c).phase = 0 ∧ Kept [(HOST_DMA_CTRL_EN c).key, (HOST_DMA_STAT_STATE c).key] s t) ∧
    (¬runs → busOk s.eng = false → Completes (.dmaEnable c) s fun t => t.rd (HOST_DMA_CTRL_EN c) = 1 ∧ ended t 3 7 ∧
      Kept ((HOST_DMA_CTRL_EN c).key :: stat) s t) ∧
    (¬runs → Completes (.dmaDisable c) s fun t => t.rd (HOST_DMA_CTRL_EN c) = 0 ∧ Only [(HOST_DMA_CTRL_EN c).key] s t) ∧
    (runs → d.phase = 0 → Completes (.dmaDisable c) s fun t => t.rd (HOST_DMA_CTRL_EN c) = 0 ∧ ended t 2 0 ∧
      Kept ((HOST_DMA_CTRL_EN c).key :: stat) s t) ∧
    (runs → d.phase ≠ 0 → Completes (.dmaDisable c) s fun t => t.rd (HOST_DMA_CTRL_EN c) = 0 ∧ (t.eng.getDma c).stop = true ∧
      Kept [(HOST_DMA_CTRL_EN c).key] s t) ∧
    (¬runs → (∀ moved, Completes (.dmaAbort c moved) s fun t => Only [] s t) ∧
      (Completes (.dmaDescriptor c) s fun t => Only [] s t) ∧ (Completes (.dmaDescriptorDone c) s fun t => Only [] s t) ∧
      Completes (.streamFlush c) s fun t => Only [] s t) ∧
    (∀ moved, runs → d.phase ≤ 1 → Completes (.dmaAbort c moved) s fun t => ended t 2 6 ∧ Kept stat s t) ∧
    (s.rd CS_ATS_EN = 0 →
      (∀ moved, runs → d.phase = 2 → d.desc.op = 1 → Completes (.dmaAbort c moved) s fun t => ended t 2 6 ∧ head t ∧ t.mem = s.mem ∧
        ∃ flags, wrote t (doneBytes s.eng c) 6 flags) ∧
      (∀ tag, runs → d.phase = 0 → s.rd (HOST_DMA_HEAD_IDX c) ≠ s.rd (HOST_DMA_TAIL_IDX c) → freeTag s.eng = some tag →
        (∀ r ∈ s.eng.hl.reqs, r.chan = c → r.kind = 1 → r.orphan = true) →
        Completes (.dmaDescriptor c) s fun t => (t.eng.getDma c).phase = 1 ∧ t.eng.out = s.eng.out ++ [.mrd tag (slotAddr s.eng c) 32] ∧
          (∃ r, t.eng.hl.reqs = s.eng.hl.reqs ++ [r] ∧ r.tag = tag ∧ r.chan = c ∧ r.kind = 1) ∧ Kept [] s t) ∧
      (runs → d.phase = 0 → s.rd (HOST_DMA_HEAD_IDX c) = s.rd (HOST_DMA_TAIL_IDX c) → Completes (.dmaDescriptor c) s fun t => Only [] s t) ∧
      (runs → d.phase = 2 → d.desc.op = 1 → d.pos = d.desc.len → (∀ r ∈ s.eng.hl.reqs, r.chan = c → r.kind = 0 → r.orphan = true) →
        Completes (.dmaDescriptorDone c) s fun t => head t ∧ (d.desc.irq = true → t.rd (HOST_DMA_EVT_DESC c) = 1) ∧ t.mem = s.mem ∧
          (∃ flags, wrote t d.desc.len 0 flags) ∧ (d.stop = true → ended t 2 0) ∧
          (d.stop = false → t.rd (HOST_DMA_STAT_STATE c) = 1)) ∧
      (∀ g, runs → d.phase = 2 → d.desc.op = 2 → 0 < d.pos → d.pos < d.desc.len →
        d.rpos = some (s.rd (ACC_CREG_POS_WPTR d.desc.region), g, s.rd (ACC_CREG_GS_SEQ d.desc.region)) →
        Completes (.streamFlush c) s fun t => head t ∧ t.mem = s.mem ∧ ∃ flags, natBit flags 2 = true ∧ flags < 8 ∧ wrote t d.pos 0 flags))

/-- R350. The Ledger cause is posted where the event bit changes from 0 to 1 (R458). -/
def Obligations.UnexpectedCompletionIsCounted : Prop :=
  ∀ (s : State) (tag status : Nat) (ep : Bool) (bytes : List Byte) (cplid : Nat), s.up → Inv s →
    (∀ r ∈ s.eng.hl.reqs, r.tag ≠ tag) → tag < 2 ^ 10 → cplid < 2 ^ 16 →
    let q := s.eng.hl.quar.any fun x => x.1 == tag
    Completes (.completionReceived tag status ep bytes cplid) s fun t =>
      t.eng.bit CS_AER_UE 16 = true ∧ t.rd HOST_UNEXP_CNT_CNT = min (s.rd HOST_UNEXP_CNT_CNT + 1) (2 ^ 32 - 1) ∧
      t.rd HOST_UNEXP_LOG_TAG = tag ∧ t.rd HOST_UNEXP_LOG_QUAR = (if q then 1 else 0) ∧ t.rd HOST_UNEXP_LOG_CPLID = cplid ∧
      t.rd HOST_EVT_UNEXP = 1 ∧ t.eng.hl = s.eng.hl ∧
      (s.rd HOST_EVT_UNEXP = 0 → s.eng.ldg.queue.length < 250 →
        ∃ x ∈ t.eng.ldg.queue, x.data = leBytes 2 tag ++ leBytes 1 (if q then 1 else 0) ++ leBytes 2 cplid) ∧
      Kept [CS_AER_UE.key, HOST_UNEXP_CNT_CNT.key, HOST_UNEXP_LOG_TAG.key, HOST_UNEXP_LOG_QUAR.key, HOST_UNEXP_LOG_CPLID.key,
        HOST_EVT_UNEXP.key] s t

/-- R329, R347 to R353. -/
def Obligations.RequestsTimeOutAndWindowsMap : Prop :=
  ∀ s : State, s.up → Inv s →
    (∀ tag r, (s.eng.hl.reqs.find? fun x => x.tag == tag) = some r → tag < 2 ^ 10 →
      (s.rd CS_CTO_DIS ≠ 0 → Completes (.completionTimeout tag) s fun t => Only [] s t) ∧
      (s.rd CS_CTO_DIS = 0 → Completes (.completionTimeout tag) s fun t =>
        t.rd HOST_CTO_CNT_CNT = min (s.rd HOST_CTO_CNT_CNT + 1) (2 ^ 32 - 1) ∧ t.rd HOST_CTO_LOG_TAG = tag ∧
        t.rd HOST_CTO_LOG_KIND = r.kind % 2 ^ 2 ∧ t.rd HOST_CTO_LOG_CHAN = r.chan % 2 ^ 3 ∧ t.rd HOST_EVT_CTO = 1 ∧
        t.eng.bit CS_AER_UE 14 = true ∧ (tag, s.eng.now + s.rd HOST_CTO_CFG_QUAR_MS * msTicks) ∈ t.eng.hl.quar ∧ t.mem = s.mem) ∧
      (∀ status bytes cplid, status ≠ 0 → r.orphan = true → Completes (.completionReceived tag status false bytes cplid) s fun t =>
        (∀ x ∈ t.eng.hl.reqs, x.tag ≠ tag) ∧ Kept [] s t) ∧
      ∀ bytes cplid, (r.got ++ bytes).length < r.len → Completes (.completionReceived tag 0 false bytes cplid) s fun t =>
        t.eng.hl.reqs = (s.eng.hl.reqs.map fun x => if x.tag = tag then { x with got := r.got ++ bytes } else x) ∧ Kept [] s t) ∧
    (∀ tag, (∀ r ∈ s.eng.hl.reqs, r.tag ≠ tag) → Completes (.completionTimeout tag) s fun t => Only [] s t) ∧
    (s.eng.hl.quar = [] → Completes .quarantineExpiry s fun t => Only [] s t) ∧
    (s.eng.hl.quar ≠ [] → Completes .quarantineExpiry s fun t =>
      t.eng.hl.quar = s.eng.hl.quar.filter (fun x => decide (t.eng.now < x.2)) ∧ ∃ x ∈ s.eng.hl.quar, x.2 ≤ t.eng.now) ∧
    (∀ itag page pages, s.eng.hl.inv = [] → (∀ r ∈ s.eng.hl.reqs, ∀ p, r.page = some p → ¬(page ≤ p ∧ p < page + pages)) →
      Completes (.atsInvalidate itag page pages) s fun t => t.eng.hl.inv = [] ∧ t.eng.out = s.eng.out ++ [.invCpl itag] ∧
        (∀ x, x ∈ t.eng.hl.ats ↔ x ∈ s.eng.hl.ats ∧ ¬(page ≤ x.page ∧ x.page < page + pages)) ∧
        t.rd HOST_ATS_INV_CNT = (s.rd HOST_ATS_INV_CNT + 1) % 2 ^ 32 ∧ Kept [HOST_ATS_INV_CNT.key] s t) ∧
    (winFail s.eng = none → Completes .winCommit s fun t => (∀ w < 16, ∀ f ∈ winFields w, t.rda f = s.rd f % 2 ^ f.width) ∧
      t.rd HOST_WIN_STAT_GEN = (s.rd HOST_WIN_STAT_GEN + 1) % 2 ^ 16 ∧ FieldsKept [HOST_WIN_STAT_GEN.key] s t ∧ t.mem = s.mem) ∧
    (∀ w y, winFail s.eng = some (w, y) → Completes .winCommit s fun t => t.rd HOST_WIN_STAT_WIN = w ∧ t.rd HOST_WIN_STAT_WHY = y ∧
      t.rd HOST_WIN_STAT_REJ = 1 ∧ t.eng.act = s.eng.act ∧
      Kept [HOST_WIN_STAT_WIN.key, HOST_WIN_STAT_WHY.key, HOST_WIN_STAT_REJ.key] s t) ∧
    ∀ a n wr ep,
      let tlp := Instr.apertureAccess a n wr ep
      let missed (t : State) : Prop := t.rd HOST_WIN_MISS_CNT_CNT = min (s.rd HOST_WIN_MISS_CNT_CNT + 1) (2 ^ 32 - 1) ∧
        t.rd HOST_EVT_WIN_MISS = 1 ∧ Kept [HOST_WIN_MISS_CNT_CNT.key, HOST_EVT_WIN_MISS.key, CS_AER_UE.key] s t
      let decodes := barDecodes s.eng = true ∧ s.eng.inService 14 = false
      (¬decodes → Completes tlp s fun t => Kept [CS_AER_UE.key] s t ∧ (wr = none → t.eng.out = s.eng.out ++ [.cpl 1 [] false])) ∧
      (decodes → wr ≠ none → ep = true → Completes tlp s fun t => t.eng.bit CS_AER_UE 12 = true ∧ Kept [CS_AER_UE.key] s t) ∧
      (decodes → ¬(wr ≠ none ∧ ep = true) → winHit s.eng a n = none → Completes tlp s fun t => missed t ∧
        (wr = none → .cpl 1 [] false ∈ t.eng.out)) ∧
      ∀ w, decodes → ¬(wr ≠ none ∧ ep = true) → winHit s.eng a n = some w →
        let ca := s.rda (HOST_WIN_CAP_BASE w) * 2 ^ 20 + (a - s.rda (HOST_WIN_AP_BASE w) * 2 ^ 20)
        let waits := ∃ l ∈ capLines ca n, memWaits hstPort l false s.eng = true
        (waits → Completes tlp s fun t => Only [] s t) ∧
        (¬waits → wr = none → 0 < n → Completes tlp s fun t => ∃ bs p, .cpl 0 bs p ∈ t.eng.out) ∧
        (¬waits → ∀ bs, wr = some bs → (s.rda (HOST_WIN_CFG_RO w) ≠ 0 → Completes tlp s fun t => missed t) ∧
          (s.rda (HOST_WIN_CFG_RO w) = 0 → bs.length = n → n % 256 = 0 → ca % 256 = 0 → Completes tlp s fun t =>
            (∀ i < n, memGet t.mem.cap (ca + i) = bs.getD i 0) ∧
            (∀ x, ¬(ca ≤ x ∧ x < ca + n) → memGet t.mem.cap x = memGet s.mem.cap x) ∧ t.mem.scr = s.mem.scr ∧ t.mem.vlt = s.mem.vlt))

/-- R358 to R361. -/
def Obligations.DisplayLinkTrainsAndReports : Prop :=
  ∀ s : State, s.up →
    let busy := s.rd VIT_LINK_STAT_BUSY ≠ 0
    let half := if s.rd VIT_LINK_CFG_RATE = 0 then 810000 else if s.rd VIT_LINK_CFG_RATE = 1 then 1350000 else 2700000
    let fout := s.rd (CLK_LOOP_ACT_FOUT_KHZ 6)
    let atRate := s.rd (CLK_LOOP_STAT_STATE 6) = 2 ∧ fout * 1000000 ≤ half * 1000300 ∧ half * 999700 ≤ fout * 1000000
    let began (t : State) : Prop := t.rd VIT_LINK_STAT_BUSY = 1 ∧ t.rd VIT_STAT_LINK_UP = 0 ∧ t.rd VIT_LINK_STAT_FAIL = s.rd VIT_LINK_STAT_FAIL
    let failed (t : State) (code : Nat) : Prop := t.rd VIT_LINK_STAT_BUSY = 0 ∧ t.rd VIT_STAT_LINK_UP = 0 ∧
      t.rd VIT_LINK_STAT_FAIL = code ∧ t.rd VIT_EVT_LINK_FAIL = 1
    let link := [VIT_LINK_STAT_BUSY.key, VIT_LINK_STAT_FAIL.key, VIT_STAT_LINK_UP.key, VIT_EVT_LINK_FAIL.key]
    let levels := [VIT_LINK_STAT_SWING.key, VIT_LINK_STAT_PREEMPH.key]
    let trained (t : State) : Prop := (atRate → began t) ∧ (¬atRate → failed t 1)
    (busy → Completes .train s fun t => Only [] s t) ∧
    (¬busy → Completes .train s fun t => trained t ∧ Kept link s t) ∧
    (∀ fail swing pre psr, fail < 8 → swing < 4 → pre < 4 →
      (¬busy → Completes (.linkTrainDone fail swing pre psr) s fun t => Only [] s t) ∧
      (busy → Completes (.linkTrainDone fail swing pre psr) s fun t =>
        t.rd VIT_LINK_STAT_SWING = swing ∧ t.rd VIT_LINK_STAT_PREEMPH = pre ∧ Kept (link ++ levels) s t ∧
        (fail = 0 → t.eng.vt.await = true ∧ t.rd VIT_LINK_STAT_BUSY = 0 ∧ t.rd VIT_STAT_LINK_UP = 1 ∧ t.rd VIT_LINK_STAT_FAIL = 0 ∧
          t.rd VIT_EVT_LINK_FAIL = s.rd VIT_EVT_LINK_FAIL) ∧
        (fail ≠ 0 → failed t fail))) ∧
    (∀ lost, Completes (.hpdIrq lost) s fun t => t.rd VIT_EVT_HPD_IRQ = 1 ∧ Kept (VIT_EVT_HPD_IRQ.key :: link) s t ∧
      ((lost = true ∧ s.rd VIT_LINK_CFG_AUTO ≠ 0 ∧ ¬busy) → trained t) ∧
      (¬(lost = true ∧ s.rd VIT_LINK_CFG_AUTO ≠ 0 ∧ ¬busy) → Kept [VIT_EVT_HPD_IRQ.key] s t)) ∧
    (let hpd := [VIT_HPD_STAT_PRESENT.key, VIT_HPD_STAT_LEVEL.key, VIT_EVT_HPD_PLUG.key]
     (Completes .hpdUnplug s fun t => t.rd VIT_HPD_STAT_PRESENT = 0 ∧ t.rd VIT_HPD_STAT_LEVEL = 0 ∧ t.rd VIT_STAT_LINK_UP = 0 ∧
       t.rd VIT_EVT_HPD_PLUG = 1 ∧ (busy → failed t 5 ∧ Kept (link ++ hpd) s t) ∧
       (¬busy → Kept (VIT_STAT_LINK_UP.key :: hpd) s t)) ∧
     Completes .hpdPlug s fun t => t.rd VIT_HPD_STAT_PRESENT = 1 ∧ t.rd VIT_HPD_STAT_LEVEL = 1 ∧ t.rd VIT_EVT_HPD_PLUG = 1 ∧
       (s.rd VIT_LINK_CFG_AUTO ≠ 0 ∧ ¬busy → trained t ∧ Kept (link ++ hpd) s t) ∧
       (¬(s.rd VIT_LINK_CFG_AUTO ≠ 0 ∧ ¬busy) → Kept hpd s t)) ∧
    (let op := s.rd VIT_AUX_CMD_OP
     let n := s.rd VIT_AUX_CMD_LEN + 1
     let aux := [VIT_AUX_STAT_BUSY.key, VIT_AUX_STAT_RESULT.key, VIT_AUX_STAT_GEN.key, VIT_AUX_STAT_VALID.key, VIT_EVT_AUX_DONE.key]
     (s.rd VIT_AUX_STAT_BUSY ≠ 0 → Completes .auxGo s fun t => Only [] s t) ∧
     (s.rd VIT_AUX_STAT_BUSY = 0 →
       let asked : OutMsg := .aux op (decide (s.rd VIT_AUX_CMD_MOT ≠ 0)) (s.rd VIT_AUX_CMD_ADDR) n
         (if op % 2 = 0 then (auxBytes s.eng).take n else [])
       Completes .auxGo s fun t => t.rd VIT_AUX_STAT_BUSY = 1 ∧ Kept [VIT_AUX_STAT_BUSY.key] s t ∧
         (s.rd VIT_LINK_STAT_BUSY = 0 → t.eng.out = s.eng.out ++ [asked] ∧ t.eng.vt = { s.eng.vt with auxOp := op, auxLen := n }) ∧
         (s.rd VIT_LINK_STAT_BUSY ≠ 0 → t.eng.out = s.eng.out ∧
           t.eng.vt = { s.eng.vt with auxOp := op, auxLen := n, auxWait := some asked })) ∧
     ∀ result bs, result < 4 →
       let op := s.eng.vt.auxOp
       let n := s.eng.vt.auxLen
       (s.rd VIT_AUX_STAT_BUSY = 0 ∨ s.eng.vt.auxWait ≠ none → Completes (.auxDone result bs) s fun t => Only [] s t) ∧
       (s.rd VIT_AUX_STAT_BUSY ≠ 0 → s.eng.vt.auxWait = none → Completes (.auxDone result bs) s fun t => t.rd VIT_AUX_STAT_BUSY = 0 ∧
         t.rd VIT_AUX_STAT_RESULT = result ∧ t.rd VIT_AUX_STAT_GEN = (s.rd VIT_AUX_STAT_GEN + 1) % 2 ^ 16 ∧ t.rd VIT_AUX_STAT_VALID = 1 ∧
         t.rd VIT_EVT_AUX_DONE = 1 ∧ (¬(op % 2 = 1 ∧ result = 0) → Kept aux s t) ∧
         (op % 2 = 1 → result = 0 → bs.length = n → n ≤ 16 →
           auxBytes t.eng = bs ++ (auxBytes s.eng).drop n ∧
           Kept (aux ++ (List.range 4).map fun j => (VIT_AUX_DATA_DATA j).key) s t)))

/-- R362 to R365, R368, R369, R372, R373, R375, R377, R378, R380. -/
def Obligations.FramesFlipsAndRenders : Prop :=
  ∀ s : State, s.up → Inv s →
    let locked := s.rd (CLK_LOOP_STAT_STATE 6) = 2
    let legal (f : Fld) (lo hi : Nat) : Prop := lo ≤ s.rd f ∧ s.rd f ≤ hi
    let shape := legal VIT_TIM_H0_ACT 64 4096 ∧ legal VIT_TIM_V0_ACT 64 4096 ∧ legal VIT_TIM_H0_FP 1 4095 ∧ legal VIT_TIM_H1_SYNC 1 4095 ∧
      legal VIT_TIM_H1_BP 1 4095 ∧ legal VIT_TIM_V0_FP 1 4095 ∧ legal VIT_TIM_V1_SYNC 1 4095 ∧ legal VIT_TIM_V1_BP 1 4095
    let clock := legal VIT_TIM_PCLK_KHZ 25000 600000
    let fits := s.rd VIT_STAT_LINK_UP ≠ 0 → s.rd VIT_TIM_PCLK_KHZ * 1000 * (if s.rd VIT_CTRL_BPC ≠ 0 then 18 else 24) ≤ linkRoom s.eng
    let rejected (now : Bool) (why : Nat) : Prop := Completes (.timingCommit now) s fun t => t.rd VIT_STAT_TIM_WHY = why ∧
      t.rd VIT_EVT_TIM_REJ = 1 ∧ t.eng.act = s.eng.act ∧ t.eng.vt = s.eng.vt ∧ Kept [VIT_STAT_TIM_WHY.key, VIT_EVT_TIM_REJ.key] s t
    let result (t : State) (err buf : Nat) : Prop := t.rd VIT_TR_STAT_ERR = err ∧ t.rd VIT_TR_STAT_BUF = buf % 2 ∧ t.rd VIT_TR_STAT_BUSY = 0 ∧
      t.rd VIT_TR_STAT_VALID = 1 ∧ t.rd VIT_TR_STAT_GEN = (s.rd VIT_TR_STAT_GEN + 1) % 2 ^ 16 ∧ t.rd VIT_EVT_RENDER = 1 ∧ t.eng.vt.render = none
    let resultKeys := [VIT_TR_STAT_ERR.key, VIT_TR_STAT_BUF.key, VIT_TR_STAT_BUSY.key, VIT_TR_STAT_VALID.key, VIT_TR_STAT_GEN.key,
      VIT_TR_RLEFT_LO_TS.key, VIT_TR_RLEFT_HI_TS.key, VIT_TR_HOLES_COLS.key, VIT_EVT_RENDER.key]
    (∀ now, (¬shape → rejected now 1) ∧ (shape → ¬clock → rejected now 2) ∧ (shape → clock → ¬fits → rejected now 3) ∧
      (shape → clock → fits → s.eng.vt.commit = true → rejected now 4)) ∧
    (shape → clock → fits → s.eng.vt.commit = false →
      (Completes (.timingCommit false) s fun t => t.rd VIT_STAT_TIM_PEND = 1 ∧ t.eng.vt.commit = true ∧ t.eng.act = s.eng.act ∧
        Kept [VIT_STAT_TIM_PEND.key] s t) ∧
      Completes (.timingCommit true) s fun t => (∀ f ∈ timFields, t.rda f = s.rd f % 2 ^ f.width) ∧ t.eng.vt.black = true ∧
        t.rd VIT_EVT_TIM_DONE = 1 ∧ Kept [VIT_EVT_TIM_DONE.key] s t) ∧
    (∀ layers, Completes (.flip layers) s fun t =>
      (∀ k < 3, t.rd (VIT_GEN_REQ k) = if natBit layers k then (s.rd (VIT_GEN_REQ k) + 1) % 2 ^ 16 else s.rd (VIT_GEN_REQ k)) ∧
      FieldsKept ((List.range 3).map fun k => (VIT_GEN_REQ k).key) s t ∧ t.eng.act = s.eng.act ∧ t.mem = s.mem) ∧
    (Completes .dirty s fun t => t.eng.vt.dirty = true ∧ Kept [] s t) ∧
    (¬locked → Completes .latchPoint s fun t => Only [] s t) ∧
    (locked → s.rd VIT_STAT_PSR_ACT = 0 → Completes .latchPoint s fun t =>
      t.rd VIT_FRAME_CNT = (s.rd VIT_FRAME_CNT + 1) % 2 ^ 32 ∧ t.rd VIT_EVT_VBLANK = 1 ∧ t.eng.vt.black = false ∧ t.mem = s.mem ∧
      (∀ f ∈ liveFields, t.rda f = s.rd f % 2 ^ f.width) ∧
      (s.eng.vt.commit = true → (∀ f ∈ timFields, t.rda f = s.rd f % 2 ^ f.width) ∧ t.rd VIT_STAT_TIM_PEND = 0 ∧
        t.rd VIT_EVT_TIM_DONE = 1 ∧ t.eng.vt.commit = false) ∧
      (∀ k < 3, s.eng.vt.flips.getD k 0 ≠ 0 → s.eng.inService 13 = false →
        t.rd (VIT_GEN_RETIRE k) = s.rd (VIT_GEN_REQ k) % 2 ^ 16 ∧ t.rd VIT_EVT_FLIP = 1) ∧
      (∀ k < 3, s.eng.vt.flips.getD k 0 = 0 ∨ s.eng.inService 13 = true → t.rd (VIT_GEN_RETIRE k) = s.rd (VIT_GEN_RETIRE k)) ∧
      (s.eng.vt.flips.getD 1 0 ≠ 0 → s.eng.inService 13 = false → t.rda VIT_OVL_ADDR_LO_ADDR = s.rd VIT_OVL_ADDR_LO_ADDR % 2 ^ 32 ∧
        t.rda VIT_OVL_ADDR_HI_ADDR = s.rd VIT_OVL_ADDR_HI_ADDR % 2 ^ 5)) ∧
    (s.rd VIT_TR_STAT_BUSY ≠ 0 ∨ s.rd VIT_TR_CFG_FOLLOW ≠ 0 → Completes .render s fun t => Only [] s t) ∧
    (s.eng.vt.render ≠ none → vitFlows s.eng = false → Completes .renderDone s fun t => Only [] s t) ∧
    (s.rd VIT_TR_STAT_BUSY = 0 → s.rd VIT_TR_CFG_FOLLOW = 0 → s.eng.vt.render = none →
      let noRegion := regionKind s.eng (s.rd VIT_TR_CFG_REG) = 0 ∨ regionKind s.eng (s.rd VIT_TR_CFG_REG) = 3
      (noRegion → Completes .render s fun t => result t 1 (s.rd VIT_TR_CFG_TARGET) ∧ Kept resultKeys s t) ∧
      (¬noRegion → s.rd VIT_TR_TPP_TICKS = 0 → Completes .render s fun t => result t 2 (s.rd VIT_TR_CFG_TARGET) ∧ Kept resultKeys s t) ∧
      (renderErr s.eng (renderCfg s.eng (s.rd VIT_TR_CFG_TARGET) (s.eng.rdq VIT_TR_LEFT) false) = 0 → s.eng.inService 13 = true →
        Completes .render s fun t => result t 4 (s.rd VIT_TR_CFG_TARGET) ∧ Kept resultKeys s t) ∧
      (renderErr s.eng (renderCfg s.eng (s.rd VIT_TR_CFG_TARGET) (s.eng.rdq VIT_TR_LEFT) false) = 0 → s.eng.inService 13 = false →
        Completes .render s fun t => t.rd VIT_TR_STAT_BUSY = 1 ∧ t.rd VIT_TR_STAT_VALID = 0 ∧ t.eng.vt.render ≠ none ∧
        Kept [VIT_TR_STAT_BUSY.key, VIT_TR_STAT_VALID.key] s t)) ∧
    (s.eng.vt.render = none → (Completes .renderStop s fun t => Only [] s t) ∧ Completes .renderDone s fun t => Only [] s t) ∧
    (∀ r, s.eng.vt.render = some r → (Completes .renderStop s fun t => result t 3 r.buf ∧ Kept resultKeys s t) ∧
      (vitFlows s.eng = true → Completes .renderDone s fun t => t.rd VIT_TR_STAT_ERR = 0 ∧ t.rd VIT_TR_STAT_BUSY = 0 ∧ t.rd VIT_TR_STAT_VALID = 1 ∧
        t.rd VIT_EVT_RENDER = 1 ∧ t.eng.vt.render = none ∧ t.rd (VIT_GEN_REQ 1) = s.rd (VIT_GEN_REQ 1) ∧ t.mem.scr = s.mem.scr ∧
        t.mem.vlt = s.mem.vlt)) ∧
    (let still := locked ∧ s.eng.inService 13 = false ∧ (∀ k < 3, s.eng.vt.flips.getD k 0 = 0) ∧ s.eng.vt.dirty = false ∧
       liveChanged s.eng = false ∧ s.eng.vt.commit = false
     let static := s.rda VIT_TIM_SLOW_STATIC_N ≠ 0 ∧ s.rda VIT_TIM_SLOW_STATIC_N ≤ s.eng.vt.still + 1
     let psr := s.rd VIT_CTRL_PSR_EN ≠ 0 ∧ s.eng.vt.psrCap = true ∧ s.rd VIT_STAT_LINK_UP ≠ 0
     (s.eng.vt.flips.length = 3 → still → static → psr → s.rd VIT_STAT_PSR_ACT = 0 → s.rd VIT_TR_CFG_FOLLOW = 0 → Completes .latchPoint s fun t =>
       t.eng.vt.psrMark = !s.eng.vt.psrMark ∧ t.rd VIT_STAT_PSR_ACT = (if s.eng.vt.psrMark then 1 else 0) ∧
       (s.eng.vt.psrMark = true → t.rd VIT_EVT_PSR_ENTRY = 1)) ∧
     (locked → s.rd VIT_STAT_PSR_ACT ≠ 0 → s.eng.inService 13 = true → Completes .latchPoint s fun t => Only [] s t)) ∧
    ∀ y late fill,
      let shown := locked ∧ s.rd VIT_STAT_LINK_UP ≠ 0 ∧ s.rd VIT_CTRL_EN ≠ 0 ∧ s.rd VIT_STAT_PSR_ACT = 0 ∧ y < s.rda VIT_TIM_V0_ACT ∧
        (s.eng.vt.await = true → y = 0)
      let mark : List OutMsg := if y = 0 then [.frame s.eng.vt.psrMark (mvid s.eng) 32768] else []
      let sound := ∀ p ∈ lineSpans s.eng y, ∀ l ∈ capLines p.1 p.2, lineQuiet s.eng s.mem l = true
      let w := s.rda VIT_TIM_H0_ACT
      let keys := [VIT_LB_STAT_FILL.key, VIT_UNDER_CNT_CNT.key, VIT_EVT_UNDER.key, VIT_POISON_CNT_CNT.key, VIT_EVT_POISON.key]
      (¬shown → Completes (.scanoutLine y late fill) s fun t => Only [] s t) ∧
      (shown → s.eng.inService 13 = true ∨ s.eng.vt.black = true → Completes (.scanoutLine y late fill) s fun t =>
        t.eng.out = s.eng.out ++ mark ++ [.pixels y (List.replicate w 0)] ∧ (y = 0 → t.eng.vt.await = false) ∧ Kept [] s t) ∧
      (shown → s.eng.inService 13 = false → s.eng.vt.black = false → fill < 256 → Completes (.scanoutLine y late fill) s fun t =>
        (∃ px, .pixels y px ∈ t.eng.out ∧ px.length = w ∧ (∀ x < w, x ∉ late → px[x]? = some (composePixel s.eng s.mem y x)) ∧
          (∀ x, x + 1 < w → x + 1 ∈ late → px[x + 1]? = px[x]?) ∧ (0 < w → 0 ∈ late → px[0]? = some s.eng.vt.lastPx) ∧
          (0 < w → px.getLast? = some t.eng.vt.lastPx)) ∧
        ((∃ x ∈ late, x < w) → t.rd VIT_UNDER_CNT_CNT = min (s.rd VIT_UNDER_CNT_CNT + 1) (2 ^ 32 - 1) ∧ t.rd VIT_EVT_UNDER = 1) ∧
        ((∀ x ∈ late, w ≤ x) → t.rd VIT_UNDER_CNT_CNT = s.rd VIT_UNDER_CNT_CNT) ∧ t.rd VIT_LB_STAT_FILL = fill ∧ t.mem = s.mem ∧
        (sound → Kept keys s t))

/-- R381 to R391, R439, R441, R461. -/
def Obligations.CuratorRestartsSensesAndTrips : Prop :=
  ∀ s : State, s.up → Inv s →
    let guar := [GLB_FLT_COND_ENV.key, GLB_FLT_COND_IMAGE.key, GLB_FLT_COND_PATROL.key, GLB_FLT_COND_CURATOR.key,
      GLB_FLT_COND_MARGIN.key, GLB_FLT_COND_GUAR.key, GLB_FLT_GLOST_CNT_CNT.key, GLB_FLT_EVT_GUAR_LOST.key, GLB_FLT_EVT_GUAR_BACK.key]
    let fourth := 4 ≤ (s.eng.cu.restarts.filter fun x => decide (s.eng.now ≤ x + 3600 * tps)).length + 1
    let restarted (why : Nat) (t : State) : Prop :=
      t.rd CUR_STAT_RESTARTS = min (s.rd CUR_STAT_RESTARTS + 1) (2 ^ 8 - 1) ∧ t.rd CUR_STAT_WHY = why ∧ t.rd CUR_STAT_RUN = 0 ∧
      t.rd CUR_EVT_RESTART = 1 ∧ (∀ k < 4, t.rd (MEM_REF_STAT_MULT k) = 2) ∧ t.rd GLB_FLT_COND_CURATOR = 0 ∧ t.rd GLB_FLT_COND_GUAR = 0 ∧
      (fourth → t.rd CUR_STAT_HALTED = 1 ∧ t.rd CUR_EVT_HALT = 1 ∧ t.rd GLB_FLT_EVT_CUR_HALT = 1) ∧
      (¬fourth → t.rd CUR_STAT_HALTED = s.rd CUR_STAT_HALTED) ∧ t.mem = { s.mem with ram := [] } ∧
      (s.eng.cu.mbx = none → FieldsKept (guar ++ [CUR_STAT_RESTARTS.key, CUR_STAT_WHY.key, CUR_STAT_RUN.key, CUR_EVT_RESTART.key,
        CUR_STAT_HALTED.key, CUR_EVT_HALT.key, GLB_FLT_EVT_CUR_HALT.key, MEM_OP_EVT_MULT_CHG.key] ++
        ((List.range 4).map fun k => (MEM_REF_STAT_MULT k).key) ++ reportKeys) s t)
    let runs := s.rd CUR_STAT_RUN ≠ 0 ∧ s.rd CUR_STAT_HALTED = 0 ∧ s.rd SEC_DBG_STAT_CUR_HALT = 0 ∧ s.eng.cu.restarting = false
    (runs → (Completes .lockstepMismatch s (restarted 1)) ∧ Completes .watchdogExpiry s (restarted 2)) ∧
    (¬runs → (Completes .lockstepMismatch s fun t => Only [] s t) ∧ Completes .watchdogExpiry s fun t => Only [] s t) ∧
    (Completes (.curRamPatrol .clean) s fun t => Only [] s t) ∧
    (∀ b, Completes (.curRamPatrol (.corrected b)) s fun t =>
      t.rd CUR_RAM_CE_CNT = min (s.rd CUR_RAM_CE_CNT + 1) (2 ^ 32 - 1) ∧ Only [CUR_RAM_CE_CNT.key] s t) ∧
    (s.rd CUR_STAT_HALTED = 0 → s.eng.cu.restarting = false → Completes (.curRamPatrol .uncorrectable) s (restarted 3)) ∧
    (s.rd CUR_STAT_HALTED ≠ 0 ∨ s.eng.cu.restarting = true → Completes (.curRamPatrol .uncorrectable) s fun t => Only [] s t) ∧
    (∀ a n wr resp lat,
      let legal := a < 2 ^ 16 ∧ (n = 1 ∨ n = 2 ∨ n = 4) ∧ a % n = 0
      let ca := s.rd CUR_WIN_BASE * 2 ^ 16 + a
      let store := wr.map fun v => ((2 ^ n - 1) * 2 ^ (ca % 256), List.replicate (ca % 256) (0 : Byte) ++ leBytes n v)
      (¬(runs ∧ legal) → Completes (.curWindowAccess a n wr resp lat) s fun t => Only [] s t) ∧
      (runs ∧ legal → wr = none → s.fabIdle → portFree s.eng 4 = true → (s.eng.getStk (stackOf (ca / 256))).trq = [] →
        memWaits 4 (ca / 256) (!rowHit s.eng (ca / 256)) s.eng = false → s.eng.ldg.queue.length < 200 →
        let lr := lineRead s.eng s.mem (ca / 256) resp
        lr.result ≠ 2 → natBit lr.pois (ca % 256 / 32) = true → Completes (.curWindowAccess a n wr resp lat) s fun t =>
          t.rd MEM_ERR_EVT_POISON_RD = 1 ∧ t.rd MEM_ERR_PRD_CNT_CNT = min (s.rd MEM_ERR_PRD_CNT_CNT + 1) (2 ^ 32 - 1) ∧
          ∃ c ∈ t.eng.ldg.queue, c.cause = evItem (MEM_ERR_EVT_POISON_RD.key / 32 * 4) (MEM_ERR_EVT_POISON_RD.key % 32)) ∧
      (runs ∧ legal → exec (.curWindowAccess a n wr resp lat) s = onMem s (fabRequest
          { port := 4, line := ca / 256, wr := store, resp := resp, lat := lat, since := s.eng.now, want := 2 ^ (ca % 256 / 32) }) ∧
        Completes (.curWindowAccess a n wr resp lat) s fun t => t.mem.scr = s.mem.scr ∧ t.mem.vlt = s.mem.vlt ∧ t.mem.ram = s.mem.ram)) ∧
    (s.quiet → s.eng.inAcq = false →
      (∀ i < 24, ∀ v : Int, -2048 ≤ v → v < 2048 →
        let logic := i < 8 ∨ 13 ≤ i
        let warn := signed 12 (s.rd (CUR_TLIM_WARN i))
        let crit := signed 12 (s.rd (CUR_TLIM_CRIT i))
        let hotNow := logic ∧ 600 ≤ v
        (¬(hotNow ∧ natBit s.eng.cu.hot i = true) → ¬(logic ∧ v < -220) → Completes (.tempSample i v) s fun t =>
          signed 12 (t.rd (CUR_TEMP_VAL i)) = v ∧ t.rd (CUR_TEMP_VALID i) = 1 ∧ t.mem = s.mem ∧
          (warn ≤ v → natBit s.eng.cu.warn i = false → t.rd CUR_EVT_T_WARN = 1 ∧ t.eng.bit CUR_TEVT_PT i = true) ∧
          (v ≤ warn - 8 → natBit s.eng.cu.warn i = true → t.eng.bit CUR_TEVT_PT i = true) ∧
          (crit ≤ v → natBit s.eng.cu.crit i = false → t.rd CUR_EVT_T_CRIT = 1 ∧ t.eng.bit CUR_TEVT_PT i = true) ∧
          (crit ≤ v → t.rd GLB_FLT_COND_ENV = 0) ∧
          (8 ≤ i → i < 12 → t.rd (MEM_REF_STAT_OVER (i - 8)) = (if 540 < v then 1 else 0) ∧
            (420 ≤ v → t.rd (MEM_REF_STAT_MULT (i - 8)) = 2)) ∧
          (12 ≤ i → Kept ([(CUR_TEMP_VAL i).key, (CUR_TEMP_VALID i).key, CUR_TEVT_PT.key, CUR_EVT_T_WARN.key, CUR_EVT_T_CRIT.key] ++ guar) s t)) ∧
        (hotNow → natBit s.eng.cu.hot i = true → Completes (.tempSample i v) s fun t =>
          t.eng.pw.off = true ∧ t.eng.pw.latched = true ∧ t.eng.nv.srec.therm = some (i, toField 12 v) ∧ t.rd CUR_PWR_STAT_EN = 0 ∧
          t.rd CUR_PWR_STAT_STATE = 0 ∧ t.mem.cap = s.mem.cap ∧ t.mem.scr = s.mem.scr)) ∧
      (∀ j < 16, ∀ mv < 2 ^ 14,
        let lo := s.rd (CUR_VLIM_LO j)
        let hi := s.rd (CUR_VLIM_HI j)
        lo * 9 ≤ mv * 10 → mv * 10 ≤ hi * 11 → Completes (.voltSample j mv) s fun t =>
          t.rd (CUR_VOLT_MV j) = mv ∧ t.rd (CUR_VOLT_VALID j) = 1 ∧
          ((mv < lo ∧ s.eng.cu.low.getD j 0 = 3) ∨ (hi < mv ∧ s.eng.cu.high.getD j 0 = 3) →
            t.rd CUR_EVT_V_OUT = 1 ∧ t.eng.bit CUR_VEVT_MON j = true) ∧
          (lo ≤ mv → mv ≤ hi → t.rd CUR_EVT_V_OUT = s.rd CUR_EVT_V_OUT ∧ t.eng.cu.low.getD j 0 = 0 ∧ t.eng.cu.high.getD j 0 = 0 ∧
            (natBit s.eng.cu.vout j = true → t.eng.bit CUR_VEVT_MON j = true ∧ natBit t.eng.cu.vout j = false)) ∧
          Kept ([(CUR_VOLT_MV j).key, (CUR_VOLT_VALID j).key, CUR_EVT_V_OUT.key, CUR_VEVT_MON.key] ++ guar) s t) ∧
      Completes .tamperDetection s fun t => t.rd CUR_TAMPER_LEVEL = 0 ∧ t.rd CUR_TAMPER_SEEN = 1 ∧ t.rd CUR_EVT_TAMPER = 1 ∧
        t.rd SEC_TAMPER_CNT_CNT = min (s.rd SEC_TAMPER_CNT_CNT + 1) (2 ^ 32 - 1) ∧ t.eng.bit SEC_TAMPER_STAT_SEEN 0 = true ∧ t.mem = s.mem ∧
        (tamperAct s.eng 0 = 0 → Kept [CUR_TAMPER_LEVEL.key, CUR_TAMPER_SEEN.key, CUR_EVT_TAMPER.key, SEC_TAMPER_CNT_CNT.key,
          SEC_TAMPER_STAT_SEEN.key] s t) ∧
        (tamperAct s.eng 0 = 1 → t.rd SEC_EVT_TAMPER = 1 ∧ t.rd SEC_TAMPER_STAT_LATCH = s.rd SEC_TAMPER_STAT_LATCH) ∧
        (2 ≤ tamperAct s.eng 0 → t.rd SEC_TAMPER_STAT_LATCH = 1 ∧ t.rd SEC_DBG_STAT_STATE = 0 ∧ t.rd SCR_STAT_WIPING = 1 ∧
          (∀ w < 64, t.rd (SEC_BUF_BYTES w) = 0) ∧ (s.eng.md.trans = none → inRun s.eng = false → t.rd GLB_MODE_STAT_CUR = 0) ∧ t.eng.se.events = [0])) ∧
    ∀ x : Int, Completes (.lifeHour x) s fun t =>
      let b := (clampInt 0 15 ((x + 400) / 100)).toNat
      t.eng.nv.srec.life.hours = min (s.eng.nv.srec.life.hours + 1) (2 ^ 32 - 1) ∧
      t.rd CUR_LIFE_HOURS_H = t.eng.nv.srec.life.hours % 2 ^ 32 ∧ t.eng.nv.srec.life.tsum = s.eng.nv.srec.life.tsum + x ∧
      t.rd (CUR_LIFE_BAND_H b) = min (s.eng.nv.srec.life.bands.getD b 0 + 1) (2 ^ 32 - 1) ∧
      (20000 < t.rd (CUR_LIFE_BAND_H 15) → t.rd GLB_FLT_PROF_HOT = 1) ∧
      t.mem.cap = s.mem.cap ∧ t.mem.scr = s.mem.scr ∧ t.mem.ram = s.mem.ram

/-- R392 to R396, R401, R403, R404. -/
def Obligations.LedgerRecordsReadsAndSuppresses : Prop :=
  ∀ s : State, s.up → Inv s →
    let runs := s.rd CUR_STAT_RUN ≠ 0 ∧ s.rd CUR_STAT_HALTED = 0 ∧ s.rd SEC_DBG_STAT_CUR_HALT = 0 ∧ s.eng.cu.restarting = false
    let seq := s.rd CUR_LDG_NEXT_SEQ
    let ring := [CUR_LDG_NEXT_SEQ.key, CUR_LDG_OLDEST_SEQ.key, CUR_EVT_LDG.key]
    let same := s.eng.ldg.cut = false ∧ s.eng.ldg.sec = s.eng.ts / tps ∧ s.eng.ldg.dropped = 0
    (s.quiet → (¬runs ∨ s.eng.ldg.queue = [] → Completes .ledgerWrite s fun t => Only [] s t) ∧
      ∀ c rest, runs → s.eng.ldg.queue = c :: rest → same → Completes .ledgerWrite s fun t =>
        let n := ldgParts c.data
        let written := 2 ≤ c.sev ∨ s.eng.ldg.used + n ≤ max 1 (s.rd CUR_LDG_CFG_RATE)
        FieldsKept (ring ++ reportKeys) s t ∧ t.mem.cap = s.mem.cap ∧ t.mem.scr = s.mem.scr ∧ t.mem.ram = s.mem.ram ∧
        (written → t.rd CUR_LDG_NEXT_SEQ = (seq + n) % 2 ^ 32) ∧
        (written → c.data.length ≤ 6 → memRead t.mem.vlt (vltLedger + seq % 2 ^ 18 * 32) 32 =
          ldgEntry seq c.ts c.egen (s.eng.nv.srec.boot % 2 ^ 16) c.cause 0 1 c.sev c.data) ∧
        (written → s.rd CUR_LDG_CFG_IRQ_SEV ≤ c.sev → t.rd CUR_EVT_LDG = 1) ∧
        (¬written → t.rd CUR_LDG_NEXT_SEQ = seq ∧ t.mem.vlt = s.mem.vlt ∧ t.eng.ldg.suppressed = s.eng.ldg.suppressed + n)) ∧
    (¬runs ∨ s.eng.ldg.suppressed = 0 → Completes .ledgerSecond s fun t => Only [] s t) ∧
    (runs → s.eng.ldg.suppressed ≠ 0 → Completes .ledgerSecond s fun t => t.rd CUR_LDG_NEXT_SEQ = (seq + 1) % 2 ^ 32 ∧
      t.eng.ldg.suppressed = 0 ∧ t.eng.ldg.used = 0 ∧ t.eng.ldg.cut = false ∧ t.mem.cap = s.mem.cap ∧ t.mem.scr = s.mem.scr) ∧
    (s.rd CUR_LDG_RDSTAT_BUSY ≠ 0 → Completes .ledgerRead s fun t => Only [] s t) ∧
    (s.rd CUR_LDG_RDSTAT_BUSY = 0 →
      let want := s.rd CUR_LDG_RDSEQ_SEQ
      let old := s.rd CUR_LDG_OLDEST_SEQ
      let held := (want + 2 ^ 32 - old) % 2 ^ 32 < (seq + 2 ^ 32 - old) % 2 ^ 32
      let a := vltLedger + want % 2 ^ 18 * 32
      let b := memRead s.mem.vlt a 32
      let good := idxMem s.mem.vltBad (a / 64) = false ∧ leNat ((b.drop 28).take 4) = crc32c (b.take 28)
      Completes .ledgerRead s fun t => t.rd CUR_LDG_RDSTAT_VALID = 1 ∧ t.rd CUR_LDG_RDSTAT_GEN = (s.rd CUR_LDG_RDSTAT_GEN + 1) % 2 ^ 16 ∧
        (¬held → t.rd CUR_LDG_RDSTAT_ERR = 1 ∧ ∀ k < 8, t.rd (CUR_LDG_DATA_BYTES k) = 0) ∧
        (held → t.rd CUR_LDG_RDSTAT_ERR = (if good then 0 else 2) ∧ ∀ k < 8, t.rd (CUR_LDG_DATA_BYTES k) = leNat ((b.drop (4 * k)).take 4)) ∧
        Only ([CUR_LDG_RDSTAT_ERR.key, CUR_LDG_RDSTAT_GEN.key, CUR_LDG_RDSTAT_VALID.key] ++
          (List.range 8).map fun k => (CUR_LDG_DATA_BYTES k).key) s t) ∧
    (s.eng.cu.trialEnd = none ∨ trialSlot s.eng = none → Completes .trialExpiry s fun t => Only [] s t) ∧
    (∀ x y, s.eng.cu.trialEnd = some x → trialSlot s.eng = some y → Completes .trialExpiry s fun t =>
      slotState t.eng y = 2 ∧ t.rd (CUR_SLOT_STATE y) = 2 ∧ t.eng.nv.srec.bootSlot = s.eng.nv.srec.prev ∧
      t.rd CUR_STAT_BOOT_SLOT = s.eng.nv.srec.prev % 4 ∧ t.rd CUR_STAT_TRIAL = 0 ∧ t.eng.cu.trialEnd = none ∧
      t.eng.now = max s.eng.now x ∧ t.rd CUR_STAT_RUN_SLOT = s.rd CUR_STAT_RUN_SLOT ∧
      (s.eng.ldg.queue.length < 250 → ∃ c ∈ t.eng.ldg.queue, c.cause = 6 * 2 ^ 29 + 0x11 ∧ c.sev = 2)) ∧
    ∀ key,
      let b := s.eng.cu.vp % 2 ^ 20
      let pass (t : State) : Prop := t.eng.cu.vp = (b + 1) % 2 ^ 20 ∧
        t.rd CUR_VLT_PASS_CNT = if b + 1 = 2 ^ 20 then (s.rd CUR_VLT_PASS_CNT + 1) % 2 ^ 32 else s.rd CUR_VLT_PASS_CNT
      let bad := idxMem s.mem.vltBad b = true
      (¬bad → Completes (.vaultPatrol .clean key) s fun t => pass t ∧ Kept [CUR_VLT_PASS_CNT.key] s t) ∧
      (¬bad → ∀ n, Completes (.vaultPatrol (.corrected n) key) s fun t => pass t ∧
        t.rd CUR_VLT_CE_CNT = min (s.rd CUR_VLT_CE_CNT + 1) (2 ^ 32 - 1) ∧ t.rd CUR_EVT_VLT_CE = 1 ∧
        Kept [CUR_VLT_PASS_CNT.key, CUR_VLT_CE_CNT.key, CUR_EVT_VLT_CE.key] s t) ∧
      (Completes (.vaultPatrol .uncorrectable key) s fun t => pass t ∧
        t.rd CUR_VLT_UE_CNT = min (s.rd CUR_VLT_UE_CNT + 1) (2 ^ 32 - 1) ∧ t.rd CUR_EVT_VLT_UE = 1 ∧ idxMem t.mem.vltBad b = true ∧
        (64 * b < vltLedger → slotState t.eng (64 * b / 2 ^ 24) = 5 ∧ t.rd (CUR_SLOT_STATE (64 * b / 2 ^ 24)) = 5) ∧
        (∀ x, ¬(64 * b < vltLedger ∧ x = 64 * b / 2 ^ 24) → slotState t.eng x = slotState s.eng x))

/-- R384, R397 to R399, R403 to R405, R421, R432. -/
def Obligations.MailboxAnswersEveryRequest : Prop :=
  ∀ (s : State) (sq : Nat), s.up → Inv s → sq < 256 →
    let arg (k : Nat) : Nat := s.rd (CUR_MBX_REQ_ARG k)
    let x := arg 0
    let cmd := [CUR_MBX_CMD_OP.key, CUR_MBX_CMD_SEQ.key]
    let stat := cmd ++ [CUR_MBX_STAT_BUSY.key, CUR_MBX_STAT_VALID.key, CUR_MBX_STAT_STATUS.key, CUR_MBX_STAT_SEQ.key,
      CUR_MBX_STAT_GEN.key, CUR_EVT_MBX.key]
    let answered (st : Nat) (t : State) : Prop := t.rd CUR_MBX_STAT_STATUS = st ∧ t.rd CUR_MBX_STAT_SEQ = sq ∧
      t.rd CUR_MBX_STAT_GEN = (s.rd CUR_MBX_STAT_GEN + 1) % 2 ^ 16 ∧ t.rd CUR_MBX_STAT_VALID = 1 ∧ t.rd CUR_MBX_STAT_BUSY = 0 ∧
      t.rd CUR_EVT_MBX = 1 ∧ t.eng.cu.mbx = none
    let refused (st : Nat) (t : State) : Prop := answered st t ∧ Kept stat s t
    let runs := s.rd CUR_STAT_RUN ≠ 0 ∧ s.rd CUR_STAT_HALTED = 0 ∧ s.rd SEC_DBG_STAT_CUR_HALT = 0 ∧ s.eng.cu.restarting = false
    let st := slotState s.eng x
    let denied := (x = 0 ∧ s.eng.nv.lc ≠ 0) ∨ s.eng.nv.lc = 4
    let taken (op : Nat) : Eng := (((s.eng.wr CUR_MBX_CMD_OP op).wr CUR_MBX_CMD_SEQ sq).wr CUR_MBX_STAT_VALID 0).wr CUR_MBX_STAT_BUSY 1
    let moved (n : Nat) (t : State) : Prop := answered 0 t ∧ slotState t.eng x = n ∧ t.rd (CUR_SLOT_STATE x) = n
    (∀ c ∈ [Instr.info sq, .slotInfo sq, .updBegin sq, .updWrite sq, .updCheck sq, .updCommit sq, .updConfirm sq, .bootSelect sq,
        .ldgNote sq],
      (s.rd CUR_MBX_STAT_BUSY ≠ 0 → Completes c s fun t => Only cmd s t) ∧
      (s.rd CUR_MBX_STAT_BUSY = 0 → s.rd CUR_STAT_HALTED ≠ 0 → Completes c s (refused 12)) ∧
      (s.rd CUR_MBX_STAT_BUSY = 0 → s.rd CUR_STAT_HALTED = 0 → ¬runs → Completes c s fun t => t.rd CUR_MBX_STAT_BUSY = 1 ∧
        t.rd CUR_MBX_STAT_VALID = 0 ∧ t.eng.cu.mbx ≠ none ∧ Kept (cmd ++ [CUR_MBX_STAT_BUSY.key, CUR_MBX_STAT_VALID.key]) s t)) ∧
    (s.rd CUR_MBX_STAT_BUSY = 0 → runs → s.eng.cu.rom = true →
      (Completes (.updConfirm sq) s (refused 10)) ∧ Completes (.ldgNote sq) s (refused 10)) ∧
    (s.rd CUR_MBX_STAT_BUSY = 0 → runs → s.eng.cu.rom = false →
      (Completes (.info sq) s fun t => answered 0 t ∧ t.rd (CUR_MBX_RSP_VAL 1) = s.eng.nv.srec.boot % 2 ^ 16 ∧
        t.rd (CUR_MBX_RSP_VAL 2) = (s.rd CUR_STAT_RUN_SLOT + 4 * s.rd CUR_STAT_BOOT_SLOT) % 2 ^ 32 ∧
        Kept (stat ++ (List.range 3).map fun k => (CUR_MBX_RSP_VAL k).key) s t) ∧
      (2 < x → (Completes (.slotInfo sq) s (refused 2)) ∧ (Completes (.updBegin sq) s (refused 2)) ∧
        (Completes (.updCheck sq) s (refused 2)) ∧ (Completes (.updCommit sq) s (refused 2)) ∧ Completes (.bootSelect sq) s (refused 2)) ∧
      (x ≤ 2 →
        (Completes (.slotInfo sq) s fun t => answered 0 t ∧ t.rd (CUR_MBX_RSP_VAL 0) = st % 2 ^ 32 ∧
          (2 ≤ st → t.rd (CUR_MBX_RSP_VAL 1) = slotLength s.mem x) ∧ (st ≤ 1 → t.rd (CUR_MBX_RSP_VAL 1) = 0) ∧
          Kept (stat ++ (List.range 4).map fun k => (CUR_MBX_RSP_VAL k).key) s t) ∧
        (let active := x = s.rd CUR_STAT_RUN_SLOT ∨ (trialSlot s.eng ≠ none ∧ s.eng.nv.srec.prev = x)
         (active → Completes (.updBegin sq) s (refused 4)) ∧ (¬active → denied → Completes (.updBegin sq) s (refused 10)) ∧
         (¬active → ¬denied → Completes (.updBegin sq) s (moved 1))) ∧
        (st ≠ 1 → Completes (.updCheck sq) s (refused 3)) ∧ (st = 1 → denied → Completes (.updCheck sq) s (refused 10)) ∧
        (st = 1 → ¬denied → Completes (.updCheck sq) s fun t =>
          match checkImage (taken 0x12) (slotSrc s.mem x) none with
          | .ok _ => moved 2 t
          | .error w => answered (if w.1 = 4 then 8 else if w.1 = 5 then 9 else 7) t ∧ slotState t.eng x = 5 ∧ t.rd (CUR_SLOT_STATE x) = 5) ∧
        (let trial := arg 1 % 2 = 1
         let secs := if arg 2 = 0 then 600 else arg 2
         let badTime := trial ∧ (secs < 60 ∨ 86400 < secs)
         (badTime → Completes (.updCommit sq) s (refused 2)) ∧ (¬badTime → st ≠ 2 → Completes (.updCommit sq) s (refused 3)) ∧
         (¬badTime → st = 2 → denied → Completes (.updCommit sq) s (refused 10)) ∧
         (¬badTime → st = 2 → ¬denied → Completes (.updCommit sq) s fun t => moved (if arg 1 % 2 = 1 then 3 else 4) t ∧
           t.eng.nv.srec.bootSlot = x ∧ t.rd CUR_STAT_BOOT_SLOT = x ∧ t.rd CUR_STAT_RUN_SLOT = s.rd CUR_STAT_RUN_SLOT ∧
           (trial → t.eng.nv.srec.prev = s.eng.nv.srec.bootSlot ∧ t.eng.nv.srec.trialSec = secs))) ∧
        (x ≠ 0 → st ≠ 4 → Completes (.bootSelect sq) s (refused 3)) ∧
        (x = 0 ∨ st = 4 → Completes (.bootSelect sq) s fun t => answered 0 t ∧ t.eng.nv.srec.bootSlot = x ∧ t.rd CUR_STAT_BOOT_SLOT = x ∧
          FieldsKept (stat ++ CUR_STAT_BOOT_SLOT.key :: reportKeys) s t)) ∧
      (trialSlot s.eng = none → Completes (.updConfirm sq) s (refused 3)) ∧
      (∀ y, trialSlot s.eng = some y → Completes (.updConfirm sq) s fun t => answered 0 t ∧ slotState t.eng y = 4 ∧
        t.eng.cu.trialEnd = none ∧ t.rd CUR_STAT_TRIAL = 0) ∧
      (let off := arg 1
       let a := arg 2 + 2 ^ 32 * arg 3
       let n := arg 4
       let aligned := x ≤ 2 ∧ off % 4 = 0 ∧ a % 256 = 0 ∧ n % 4 = 0 ∧ off + n ≤ 2 ^ 24
       let r := portBytes curPort a n (taken 0x11) s.mem
       let ready := ∀ l ∈ capLines a n, memWaits curPort l false s.eng = false
       ready → (¬aligned → Completes (.updWrite sq) s (refused 2)) ∧ (aligned → st ≠ 1 → Completes (.updWrite sq) s (refused 3)) ∧
         (aligned → st = 1 → 2 ^ 37 < a + n ∨ sourceBusy (taken 0x11) a n = true → Completes (.updWrite sq) s (refused 5)) ∧
         (aligned → st = 1 → a + n ≤ 2 ^ 37 → sourceBusy (taken 0x11) a n = false → (denied → Completes (.updWrite sq) s (refused 10)) ∧
           (¬denied → r.2.2 = true → Completes (.updWrite sq) s fun t => answered 6 t ∧ t.mem.vlt = s.mem.vlt) ∧
           (¬denied → r.2.2 = false → Completes (.updWrite sq) s fun t => answered 0 t ∧
             (∀ i < n, memGet t.mem.vlt (vltSlot x + off + i) = r.2.1.getD i 0) ∧
             (∀ y, ¬(vltSlot x + off ≤ y ∧ y < vltSlot x + off + n) → memGet t.mem.vlt y = memGet s.mem.vlt y)))) ∧
      (let sev := arg 0 / 2 ^ 16 % 4
       (Completes (.ldgNote sq) s (answered 0)) ∧
       (s.eng.ldg.queue = [] → s.eng.ldg.cut = false → s.eng.ldg.sec = s.eng.ts / tps → s.eng.ldg.dropped = 0 →
         2 ≤ sev ∨ s.eng.ldg.used + 1 ≤ max 1 (s.rd CUR_LDG_CFG_RATE) → Completes (.ldgNote sq) s fun t =>
           let n := s.rd CUR_LDG_NEXT_SEQ
           answered 0 t ∧ t.rd (CUR_MBX_RSP_VAL 0) = n % 2 ^ 32 ∧ t.rd CUR_LDG_NEXT_SEQ = (n + 1) % 2 ^ 32 ∧
           memRead t.mem.vlt (vltLedger + n % 2 ^ 18 * 32) 32 = ldgEntry n s.eng.ts (s.rd TIME_EPOCH_GEN)
             (s.eng.nv.srec.boot % 2 ^ 16) (7 * 2 ^ 29 + arg 0 % 2 ^ 16) 0 1 sev (leBytes 4 (arg 1) ++ leBytes 2 (arg 2))))) ∧
    (s.eng.cu.restarting = false → s.quiet → Completes .curatorResume s fun t => Only [] s t) ∧
    (s.eng.cu.restarting = true → s.quiet → Completes .curatorResume s fun t => t.rd CUR_STAT_RUN = 1 ∧ t.eng.cu.restarting = false ∧
      t.rd CUR_STAT_RESTARTS = s.rd CUR_STAT_RESTARTS ∧ t.rd CUR_STAT_WHY = s.rd CUR_STAT_WHY ∧ t.mem.cap = s.mem.cap)

/-- R404, R407, R419 to R423, R425, R451. -/
def Obligations.ImagesLoadFallBackAndScan : Prop :=
  ∀ s : State, s.up → Inv s →
    let accepts := s.rd GLB_MODE_STAT_CUR = 0 ∧ s.rd GLB_MODE_STAT_BUSY = 0 ∧ s.rd CFG_STATUS_STATE ≠ 1 ∧ s.rd CFG_TILE_STAT_BUSY = 0 ∧
      s.rd SEC_LC_STAT_BUSY = 0
    let taken := guarCheck (dmaStopAll (s.eng.wr CFG_STATUS_STATE 1))
    let x := loadSlot s.eng
    let tile := [CFG_TILE_STAT_ERR.key, CFG_TILE_STAT_SECT.key, CFG_TILE_STAT_GEN.key, CFG_TILE_STAT_VALID.key, CFG_TILE_STAT_BUSY.key,
      CFG_EVT_TILE_END.key]
    let tileEnded (err : Nat) (t : State) : Prop := t.rd CFG_TILE_STAT_ERR = err ∧ t.rd CFG_TILE_STAT_VALID = 1 ∧
      t.rd CFG_TILE_STAT_BUSY = 0 ∧ t.rd CFG_TILE_STAT_GEN = (s.rd CFG_TILE_STAT_GEN + 1) % 2 ^ 16 ∧ t.rd CFG_EVT_TILE_END = 1
    let active (slot : Nat) (i : Image) (t : State) : Prop := t.rd CFG_STATUS_STATE = 2 ∧ t.rd CFG_STATUS_ACT_SLOT = slot ∧
      t.rd CFG_STATUS_MODIFIED = 0 ∧ t.rd CFG_EVT_LOADED = 1 ∧ t.rd CFG_IMG_VER_VER = i.ver % 2 ^ 32 ∧
      t.rd CFG_IMG_SECVER_VER = i.sec % 2 ^ 32 ∧ t.rd CUR_STAT_RUN_SLOT = slot ∧
      (s.rd CUR_STAT_HALTED = 0 → t.rd CUR_STAT_WHY = 4 ∧ t.rd CUR_EVT_RESTART = 1)
    (∀ bad, (¬accepts → Completes (.load bad false) s fun t => t.rd CFG_STATUS_FAIL_WHY = 10 ∧ Only [CFG_STATUS_FAIL_WHY.key] s t) ∧
      (¬accepts → s.rd CFG_STATUS_STATE = 1 ∨ s.rd GLB_MODE_STAT_CUR ≠ 0 → Completes (.load bad true) s fun t =>
        t.rd CFG_STATUS_FAIL_WHY = 10 ∧ tileEnded 10 t ∧ Kept (CFG_STATUS_FAIL_WHY.key :: tile) s t) ∧
      (accepts → x ≤ 2 → Completes (.load bad false) s fun t =>
        match trySlot x bad taken s.mem with
        | .ok i => active x i t ∧ t.rd CFG_STATUS_DEFAULTED = 0 ∧
          (slotState s.eng x = 3 → t.rd CUR_STAT_TRIAL = 1 ∧ t.eng.cu.trialEnd = some (s.eng.now + s.eng.nv.srec.trialSec * tps))
        | .error w => x ≠ 0 →
          match trySlot 0 bad (slotFailed x w s.mem taken) s.mem with
          | .ok i => active 0 i t ∧ t.rd CFG_STATUS_DEFAULTED = 1 ∧ t.rd CFG_EVT_DEFAULTED = 1 ∧
            (slotState s.eng x = 3 → slotState t.eng x = 5 ∧ t.eng.nv.srec.bootSlot = s.eng.nv.srec.prev) ∧
            (w.1 ≠ 0 → t.rd CFG_STATUS_FAIL_WHY = w.1 % 2 ^ 4 ∧ t.rd CFG_STATUS_FAIL_SECT = w.2 % 2 ^ 6)
          | .error _ => t.rd CFG_STATUS_STATE = 0 ∧ t.rd CFG_STATUS_ACT_SLOT = 3 ∧ t.rd CUR_STAT_RUN_SLOT = 3 ∧
            t.rd CFG_STATUS_MODIFIED = 0 ∧ t.eng.cu.rom = true)) ∧
    (∀ bad, (tileAccepts s.eng = false → Completes (.tileLoad bad) s fun t => tileEnded 10 t ∧ t.rd CFG_TILE_STAT_SECT = 0 ∧ Kept tile s t) ∧
      (tileAccepts s.eng = true → Completes (.tileLoad bad) s fun t =>
        match tileSection bad s.eng s.mem with
        | .error w => tileEnded (w.1 % 2 ^ 4) t ∧ t.rd CFG_TILE_STAT_SECT = (if s.rd CFG_CMD_SRC = 1 then 0 else w.2 % 2 ^ 6) ∧
            (s.rd CFG_CMD_SRC = 0 ∨ (∀ l ∈ capLines (s.eng.rdq CFG_PKG_ADDR) (s.rd CFG_PKG_LEN_LEN), lineQuiet s.eng s.mem l = true) → Kept tile s t)
        | .ok _ => tileEnded 0 t ∧ t.rd CFG_STATUS_MODIFIED = 1 ∧ t.rd CFG_STATUS_STATE = 2)) ∧
    (s.rd CFG_STATUS_STATE ≠ 2 → ∀ bad, Completes (.readbackScan bad) s fun t => Only [] s t) ∧
    (s.rd CFG_STATUS_STATE = 2 → ∀ bad, bad ≠ 0 → bad < 2 ^ 16 → Completes (.readbackScan bad) s fun t =>
      t.rd CFG_SCAN_CNT_CNT = min (s.rd CFG_SCAN_CNT_CNT + ((List.range 16).filter (natBit bad)).length) (2 ^ 32 - 1) ∧
      natBit bad (t.rd CFG_SCAN_LAST_UNIT) = true ∧ t.rd CFG_EVT_SCAN ≠ 0 ∧ t.rd GLB_FLT_COND_IMAGE = 0 ∧ t.rd GLB_FLT_COND_GUAR = 0 ∧
      (∀ u < 16, natBit t.eng.cf.mism u = (natBit s.eng.cf.mism u || natBit bad u)) ∧
      Kept [CFG_SCAN_CNT_CNT.key, CFG_SCAN_LAST_UNIT.key, CFG_EVT_SCAN.key, GLB_FLT_COND_ENV.key, GLB_FLT_COND_IMAGE.key,
        GLB_FLT_COND_PATROL.key, GLB_FLT_COND_CURATOR.key, GLB_FLT_COND_MARGIN.key, GLB_FLT_COND_GUAR.key, GLB_FLT_GLOST_CNT_CNT.key,
        GLB_FLT_EVT_GUAR_LOST.key, GLB_FLT_EVT_GUAR_BACK.key] s t) ∧
    ∀ ch < 8,
      let step := s.eng.cf.up.findIdx? fun y => y.ch == ch && y.on && y.pg
      (step = none ∨ s.eng.bit CUR_PWR_STAT_EN ch = false → Completes (.powerFault ch) s fun t => Only [] s t) ∧
      ∀ k, step = some k → s.eng.bit CUR_PWR_STAT_EN ch = true → Completes (.powerFault ch) s fun t =>
        t.eng.pw.off = true ∧ t.eng.pw.latched = true ∧ t.eng.nv.srec.pwr = some (ch, k) ∧
        t.eng.nv.srec.faults = min (s.eng.nv.srec.faults + 1) (2 ^ 32 - 1) ∧ t.rd CUR_PWR_FAULTS_CNT = t.eng.nv.srec.faults ∧
        t.rd CUR_PWR_STAT_EN = 0 ∧ t.rd CUR_PWR_STAT_PG = 0 ∧ t.rd CUR_PWR_STAT_STATE = 4 ∧ t.rd CUR_PWR_STAT_FAULT_CH = ch ∧
        t.rd CUR_PWR_DOM_ON = 0 ∧ t.mem.cap = s.mem.cap ∧ t.mem.scr = s.mem.scr

/-- R428 to R430, R433 to R438, R442, R444, R445, R448. -/
def Obligations.SecurityCommandsCheckAndAct : Prop :=
  ∀ (s : State) (k : Nat), s.up → Inv s → s.eng.cu.mbx = none → k < 8 →
    let lc := s.eng.nv.lc
    let field := lc = 1 ∨ lc = 2
    let free := s.rd SEC_CMD_STAT_BUSY = 0
    let taken (op : Nat) : Eng :=
      powerCheck ((((s.eng.wr SEC_CMD_OP op).wr SEC_CMD_SLOT k).wr SEC_CMD_STAT_VALID 0).wr SEC_CMD_STAT_BUSY 1)
    let mode := s.rd GLB_MODE_STAT_CUR = 0 ∧ s.rd GLB_MODE_STAT_BUSY = 0
    let cmd := [SEC_CMD_OP.key, SEC_CMD_SLOT.key]
    let stat := cmd ++ [SEC_CMD_STAT_BUSY.key, SEC_CMD_STAT_VALID.key, SEC_CMD_STAT_ERR.key, SEC_CMD_STAT_GEN.key, SEC_EVT_CMD_DONE.key,
      PWR_STAT_TRK_BLOCK.key]
    let ended (err : Nat) (t : State) : Prop := t.rd SEC_CMD_STAT_ERR = err ∧ t.rd SEC_CMD_STAT_BUSY = 0 ∧ t.rd SEC_CMD_STAT_VALID = 1 ∧
      t.rd SEC_CMD_STAT_GEN = (s.rd SEC_CMD_STAT_GEN + 1) % 2 ^ 16 ∧ t.rd SEC_EVT_CMD_DONE = 1
    let refused (err : Nat) (ks : List Nat) (t : State) : Prop := ended err t ∧ t.eng.nv = s.eng.nv ∧ t.eng.se = s.eng.se ∧
      t.mem = s.mem ∧ (s.rd PWR_STAT_STATE = 0 → Kept (stat ++ ks) s t)
    let token (c : Instr) (e : Eng) (purpose : Nat) (argOk : Bool) (slot : Nat) (ks : List Nat) (ok : State → Prop) : Prop :=
      (tokenLocked s.eng = true → Completes c s (refused 10 ks)) ∧
      (tokenLocked s.eng = false → Completes c s fun t =>
        let err := tokenErr e purpose argOk slot
        if err = 0 then t.rd SEC_DBG_STAT_FAIL = 0 ∧ ok t
        else ended err t ∧
          (s.rd SEC_DBG_STAT_FAIL < 15 → t.rd SEC_DBG_STAT_FAIL = s.rd SEC_DBG_STAT_FAIL + 1 ∧
            t.eng.se.lockUntil = some (s.eng.now + tps) ∧ t.eng.nv = s.eng.nv ∧ t.mem = s.mem) ∧
          (s.rd SEC_DBG_STAT_FAIL = 15 → t.rd SEC_DBG_STAT_FAIL = 0 ∧
            t.eng.bit SEC_TAMPER_STAT_SEEN 4 = true ∧ t.rd SEC_TAMPER_CNT_CNT = min (s.rd SEC_TAMPER_CNT_CNT + 1) (2 ^ 32 - 1)))
    let started (target op : Nat) (t : State) : Prop := t.rd SEC_CMD_STAT_BUSY = 1 ∧ t.rd SEC_LC_STAT_BUSY = 1 ∧
      t.eng.se.trans = some (target, op) ∧ t.rd SCR_STAT_WIPING = 1 ∧ t.rd SEC_DBG_STAT_STATE = 0 ∧ t.eng.nv.lc = lc ∧
      ∀ w < 64, t.rd (SEC_BUF_BYTES w) = 0
    (s.rd SEC_CMD_STAT_BUSY ≠ 0 →
      ∀ c ∈ [Instr.provision k, .transition k [], .keyLoad k, .keyErase k, .sealGen k, .sealUse k, .raiseMinver k, .dbgAuth k, .dbgClose k,
        .dbgOpen k, .tamperAck k false, .nonce k], Completes c s fun t => Only cmd s t) ∧
    (free →
      (let key := bufAt s.eng 0 96
       let point := onCurve (beNat (key.take 48)) (beNat (key.drop 48))
       let c := Instr.provision k
       (lc ≠ 0 → Completes c s (refused 2 [])) ∧ (lc = 0 → ¬mode → Completes c s (refused 3 [])) ∧
       (lc = 0 → mode → point = false → Completes c s (refused 7 ((List.range 8).map fun i => (SEC_NONCE_BYTES i).key))) ∧
       (lc = 0 → mode → point = true → s.eng.se.rngBad = true → Completes c s (refused 8 [])) ∧
       (lc = 0 → mode → point = true → s.eng.se.rngBad = false → Completes c s fun t => started 1 1 t ∧ (keySlot t.eng 2).key = key ∧
         t.eng.nv.rootHash = sha384 key ∧ t.eng.nv.sealAct = 5 ∧ (keySlot t.eng 5).key.length = 96)) ∧
      (∀ moved, let c := Instr.transition k moved
       (lc = 0 → ¬mode → Completes c s (refused 3 [])) ∧ (lc = 0 → mode → Completes c s (started 4 2)) ∧
       (lc ≠ 0 → transSlot lc (tokenArg s.eng) = none → Completes c s (refused 2 [])) ∧
       ∀ j, lc ≠ 0 → transSlot lc (tokenArg s.eng) = some j →
         (¬mode → Completes c s (refused 3 [])) ∧ (mode → token c (taken 2) 1 true j [] (started (tokenArg s.eng) 2))) ∧
      (let rec1 := recordErr (taken 3)
       let j := bufNat s.eng 4 1
       (¬field → Completes (.keyLoad k) s (refused 2 [])) ∧ (field → Completes (.keyLoad k) s fun t =>
         if rec1 ≠ 0 then refused rec1 [] t
         else ended 0 t ∧ (keySlot t.eng j).key = bufAt s.eng 24 96 ∧
           (keySlot t.eng j).kver = bufNat s.eng 16 4 ∧ (∀ i, i ≠ j → keySlot t.eng i = keySlot s.eng i) ∧ t.mem = s.mem)) ∧
      ((¬field → Completes (.keyErase k) s (refused 2 [])) ∧
       (field → keySlotOk k = false → Completes (.keyErase k) s (refused 7 [])) ∧
       (field → keySlotOk k = true → token (.keyErase k) (taken 4) 3 (tokenArg s.eng == k) 2 [] fun t => ended 0 t ∧
         (keySlot t.eng k).key = [] ∧ (keySlot t.eng k).kver = (keySlot s.eng k).kver)) ∧
      (let own := k = 5 ∨ k = 6
       (2 < lc → (Completes (.sealGen k) s (refused 2 [])) ∧ Completes (.sealUse k) s (refused 2 [])) ∧
       (lc ≤ 2 → ¬own → (Completes (.sealGen k) s (refused 7 [])) ∧ Completes (.sealUse k) s (refused 7 [])) ∧
       (lc ≤ 2 → own →
         (k = s.eng.nv.sealAct → Completes (.sealGen k) s (refused 2 [])) ∧
         (k ≠ s.eng.nv.sealAct → s.eng.se.rngBad = true → Completes (.sealGen k) s (refused 8 [])) ∧
         (k ≠ s.eng.nv.sealAct → s.eng.se.rngBad = false → Completes (.sealGen k) s fun t => ended 0 t ∧
           (keySlot t.eng k).key.length = 96 ∧ t.eng.nv.sealAct = s.eng.nv.sealAct ∧ t.mem = s.mem) ∧
         (slotKey s.eng k = none → Completes (.sealUse k) s (refused 7 [])) ∧
         (slotKey s.eng k ≠ none → Completes (.sealUse k) s fun t => ended 0 t ∧ t.eng.nv.sealAct = k ∧ t.rd SEC_KEY_STAT_SEAL_ACT = k ∧
           t.mem = s.mem))) ∧
      (let allowed := field ∧ s.rd CFG_STATUS_DEFAULTED = 0
       (¬allowed → Completes (.raiseMinver k) s (refused 2 [])) ∧
       (allowed → Completes (.raiseMinver k) s fun t => ended 0 t ∧ t.eng.nv.minver = max s.eng.nv.minver (s.rd CFG_IMG_SECVER_VER) ∧
         t.rd SEC_MINVER_VER = t.eng.nv.minver % 2 ^ 32 ∧ t.mem = s.mem)) ∧
      (let secs := tokenSecs s.eng
       let fail := [SEC_EVT_DBG_FAIL.key]
       (lc = 0 ∨ lc = 4 → Completes (.dbgAuth k) s fun t => refused 2 fail t ∧ t.rd SEC_EVT_DBG_FAIL = 1) ∧
       (lc ≠ 0 → lc ≠ 4 → token (.dbgAuth k) (taken 8) 2 (decide (1 ≤ secs ∧ secs ≤ 86400)) (debugSlot s.eng) fail fun t => ended 0 t ∧
         t.rd SEC_DBG_STAT_STATE = 1 ∧ t.rd SEC_DBG_STAT_SCOPE = tokenArg s.eng % 16 ∧ t.rd SEC_DBG_REMAIN_SEC = secs ∧
         t.eng.se.dbgEnd = some (s.eng.now + secs * tps) ∧ t.rd SEC_EVT_DBG_AUTH = 1)) ∧
      (Completes (.dbgClose k) s fun t => ended 0 t ∧ t.rd SEC_DBG_STAT_STATE = 0 ∧ t.mem = s.mem ∧
        (s.rd SEC_DBG_STAT_STATE ≠ 0 → t.rd SEC_DBG_STAT_SCOPE = 0 ∧ t.rd SEC_DBG_REMAIN_SEC = 0 ∧ t.rd SEC_DBG_STAT_CUR_HALT = 0 ∧
          t.rd SEC_EVT_DBG_END = 1 ∧ t.eng.se.dbgEnd = none)) ∧
      (lc ≠ 0 → Completes (.dbgOpen k) s (refused 2 [])) ∧
      (lc = 0 → Completes (.dbgOpen k) s fun t => ended 0 t ∧ t.rd SEC_DBG_STAT_STATE = 2 ∧ t.rd SEC_DBG_STAT_SCOPE = 15 ∧ t.mem = s.mem) ∧
      (let acked (t : State) : Prop := ended 0 t ∧ t.rd SEC_TAMPER_STAT_LATCH = 0 ∧ t.rd SEC_TAMPER_STAT_SEEN = 0 ∧ t.rd CUR_TAMPER_SEEN = 0 ∧
         t.mem = s.mem
       let level := [CUR_TAMPER_LEVEL.key]
       (∀ low, lc = 4 → Completes (.tamperAck k low) s (refused 2 level)) ∧ (lc ≠ 4 → Completes (.tamperAck k true) s (refused 11 level)) ∧
       (lc = 2 → token (.tamperAck k false) ((taken 11).wr CUR_TAMPER_LEVEL 1) 4 (tokenArg s.eng == 0) 2 level acked) ∧
       (lc ≠ 4 → lc ≠ 2 → Completes (.tamperAck k false) s acked)) ∧
      (s.eng.se.rngBad = true → Completes (.nonce k) s (refused 8 [])) ∧
      (s.eng.se.rngBad = false → Completes (.nonce k) s fun t => ended 0 t ∧ t.mem = s.mem ∧
        (s.rd PWR_STAT_STATE = 0 → t.eng.free = s.eng.free + 1 ∧
          ∀ i < 8, t.rd (SEC_NONCE_BYTES i) = bitsOf (s.eng.freeVal 256) (32 * i) 32))) ∧
    (s.eng.se.lockUntil = none → Completes .tokenLockoutEnd s fun t => Only [] s t) ∧
    (∀ x, s.eng.se.lockUntil = some x → Completes .tokenLockoutEnd s fun t => t.eng.se.lockUntil = none ∧ t.eng.now = max s.eng.now x ∧
      tokenLocked t.eng = false) ∧
    (Completes .rngHealthFail s fun t => t.rd SEC_RNG_STAT_OK = 0 ∧ t.rd SEC_RNG_STAT_FAILS = min (s.rd SEC_RNG_STAT_FAILS + 1) (2 ^ 16 - 1) ∧
      t.rd SEC_EVT_RNG_FAIL = 1 ∧ t.eng.se.rngBad = true ∧
      Kept [SEC_RNG_STAT_OK.key, SEC_RNG_STAT_FAILS.key, SEC_EVT_RNG_FAIL.key] s t) ∧
    (Completes .rngHealthRestored s fun t => t.rd SEC_RNG_STAT_OK = 1 ∧ t.eng.se.rngBad = false ∧ t.mem = s.mem ∧
      FieldsKept [SEC_RNG_STAT_OK.key] s t) ∧
    (s.eng.se.dbgEnd = none → Completes .debugSessionExpiry s fun t => Only [] s t) ∧
    ∀ x, s.eng.se.dbgEnd = some x → s.rd SEC_DBG_STAT_STATE ≠ 0 → Completes .debugSessionExpiry s fun t => t.eng.now = max s.eng.now x ∧
      t.rd SEC_DBG_STAT_STATE = 0 ∧ t.rd SEC_DBG_STAT_SCOPE = 0 ∧ t.rd SEC_EVT_DBG_END = 1 ∧ t.eng.se.dbgEnd = none

/-- R443 to R448, R451. -/
def Obligations.DebugPortAnswersWithinItsScopes : Prop :=
  (∀ (s : State) (pins load : List Bool) (op : DapOp) (au : AuthOp), s.eng.pw.off = true →
    ∀ c ∈ [Instr.tapReset, .bypass, .idcode, .samplePreload pins load, .extest pins load, .clamp, .highz, .dap op, .dapAuth au],
      Completes c s fun t => t = s) ∧
  ∀ s : State, s.eng.pw.off = false → Inv s → s.eng.cu.mbx = none →
    let tap (ir : Nat) (msg : OutMsg) (t : State) : Prop := t.eng.tap.ir = ir ∧ t.eng.out = s.eng.out ++ [msg] ∧ Kept [] s t ∧
      t.eng.rest = { s.eng.rest with tap := t.eng.tap, out := t.eng.out }
    let bscan := s.eng.bit SEC_DBG_STAT_SCOPE 2 = true ∧ s.rd GLB_MODE_STAT_CUR = 0
    let reg := s.eng.bit SEC_DBG_STAT_SCOPE 0 = true
    let cur := s.eng.bit SEC_DBG_STAT_SCOPE 1 = true
    let none0 (c : Instr) : Prop := Completes c s fun t => t.eng.out = s.eng.out ∧ Kept [] s t ∧ t.eng.rest = { s.eng.rest with tap := t.eng.tap }
    let guar := [GLB_FLT_COND_ENV.key, GLB_FLT_COND_IMAGE.key, GLB_FLT_COND_PATROL.key, GLB_FLT_COND_CURATOR.key,
      GLB_FLT_COND_MARGIN.key, GLB_FLT_COND_GUAR.key, GLB_FLT_GLOST_CNT_CNT.key, GLB_FLT_EVT_GUAR_LOST.key, GLB_FLT_EVT_GUAR_BACK.key]
    (Completes .tapReset s fun t => t.eng.tap = {} ∧ t.eng.tap.ir = 1 ∧ t.eng.out = s.eng.out ∧ Kept [] s t) ∧
    (Completes .bypass s (tap 0xFF (.tdo 1 0))) ∧
    (Completes .idcode s (tap 1 (.tdo 32 (s.eng.nv.rev % 16 * 2 ^ 28 + 0x01600545)))) ∧
    (∀ pins load, (Completes (.samplePreload pins load) s fun t => tap 2 (.tdo pins.length (bitsNat pins)) t ∧ t.eng.tap.bsr = load) ∧
      (bscan → Completes (.extest pins load) s fun t => tap 3 (.tdo pins.length (bitsNat pins)) t ∧ t.eng.tap.bsr = load) ∧
      (¬bscan → Completes (.extest pins load) s fun t => tap 0xFF (.tdo 1 0) t ∧ t.eng.tap.bsr = s.eng.tap.bsr)) ∧
    (bscan → (Completes .clamp s (tap 4 (.tdo 1 0))) ∧ Completes .highz s (tap 5 (.tdo 1 0))) ∧
    (¬bscan → (Completes .clamp s (tap 0xFF (.tdo 1 0))) ∧ Completes .highz s (tap 0xFF (.tdo 1 0))) ∧
    (∀ off, (¬reg → Completes (.dap (.regRead off)) s (tap 0x10 (.tdo 32 0))) ∧
      (reg → Completes (.dap (.regRead off)) s (tap 0x10 (.tdo 32 (busRead 2 (off / 4 * 4) s.eng))))) ∧
    (∀ off v be, (¬reg → none0 (.dap (.regWrite off v be))) ∧
      (off / 2 ^ 20 = 15 → ¬(off / 4 * 4 = 0xF00008 ∧ v % 16 = 9) → none0 (.dap (.regWrite off v be))) ∧
      (reg → off / 4 * 4 = 0xF00008 → v % 16 = 9 → natBit be 0 = true → natBit v 4 = true → s.rd SEC_CMD_STAT_BUSY = 0 →
        s.rd SEC_DBG_STAT_STATE ≠ 0 → Completes (.dap (.regWrite off v be)) s fun t => t.rd SEC_DBG_STAT_STATE = 0 ∧
          t.rd SEC_DBG_STAT_SCOPE = 0 ∧ t.rd SEC_CMD_STAT_ERR = 0 ∧ t.rd SEC_EVT_DBG_END = 1)) ∧
    (∀ a, ¬reg → Completes (.dap (.scratch a)) s (tap 0x10 (.tdo (8 * a.len) 0))) ∧
    (∀ a, reg → Completes (.dap (.scratch a)) s fun t => t.eng.tap.ir = 0x10 ∧ t.mem.cap = s.mem.cap ∧ t.mem.vlt = s.mem.vlt ∧
      t.mem.ram = s.mem.ram) ∧
    (¬cur → (none0 (.dap .halt)) ∧ (none0 (.dap .resume)) ∧
      ∀ a n bs, (Completes (.dap (.ramRead a n)) s (tap 0x10 (.tdo (8 * n) 0))) ∧ none0 (.dap (.ramWrite a bs))) ∧
    (none0 (.dap .step)) ∧
    (cur →
      (s.rd CUR_STAT_HALTED = 0 → Completes (.dap .halt) s fun t => t.rd SEC_DBG_STAT_CUR_HALT = 1 ∧ t.rd GLB_FLT_COND_CURATOR = 0 ∧
        t.rd GLB_FLT_COND_GUAR = 0 ∧ (∀ k < 4, t.rd (MEM_REF_STAT_MULT k) = 2) ∧
        Kept (guar ++ [SEC_DBG_STAT_CUR_HALT.key, MEM_OP_EVT_MULT_CHG.key] ++ (List.range 4).map fun k => (MEM_REF_STAT_MULT k).key) s t) ∧
      (s.rd SEC_DBG_STAT_CUR_HALT ≠ 0 → Completes (.dap .resume) s fun t => t.rd SEC_DBG_STAT_CUR_HALT = 0 ∧ t.mem = s.mem) ∧
      (∀ a n, a + n ≤ 2 ^ 21 → Completes (.dap (.ramRead a n)) s (tap 0x10 (.tdo (8 * n) (leNat (memRead s.mem.ram a n))))) ∧
      ∀ a bs, a + bs.length ≤ 2 ^ 21 → Completes (.dap (.ramWrite a bs)) s fun t =>
        (∀ i < bs.length, memGet t.mem.ram (a + i) = bs.getD i 0) ∧
        (∀ x, ¬(a ≤ x ∧ x < a + bs.length) → memGet t.mem.ram x = memGet s.mem.ram x) ∧ t.mem = { s.mem with ram := t.mem.ram } ∧
        FieldsKept [] s t) ∧
    (s.eng.nv.lc = 4 → ∀ au, Completes (.dapAuth au) s (tap 0xFF (.tdo 1 0))) ∧
    (s.eng.nv.lc ≠ 4 →
      (Completes (.dapAuth .nonce) s (tap 0x11 (.tdo 256 (leNat (nonceBytes s.eng))))) ∧
      (∀ bs, s.rd SEC_CMD_STAT_BUSY ≠ 0 → none0 (.dapAuth (.buf bs))) ∧
      (∀ bs, bs.length = 256 → s.rd SEC_CMD_STAT_BUSY = 0 → Completes (.dapAuth (.buf bs)) s fun t => bufBytes t.eng = bs ∧
        t.eng.tap.ir = 0x11 ∧ Kept ((List.range 64).map fun w => (SEC_BUF_BYTES w).key) s t) ∧
      (∀ op k, op ≠ 8 → op ≠ 9 → none0 (.dapAuth (.cmd op k))) ∧
      ∀ k < 8, s.eng.down = false → ∀ t : State,
        (exec (.dbgAuth k) { s with eng := { s.eng with tap := { s.eng.tap with ir := 0x11 } } } = .next t → exec (.dapAuth (.cmd 8 k)) s = .next t) ∧
        (exec (.dbgClose k) { s with eng := { s.eng with tap := { s.eng.tap with ir := 0x11 } } } = .next t → exec (.dapAuth (.cmd 9 k)) s = .next t))

/-- R452 to R454. -/
def Obligations.DatapathFaultsAreCountedAndContained : Prop :=
  ∀ (s : State) (n : Nat), s.up → Inv s → n < 16 →
    let par (t : State) : Prop := t.rd (GLB_FLT_DP_PAR n) = min (s.rd (GLB_FLT_DP_PAR n) + 1) (2 ^ 16 - 1) ∧ t.rd GLB_FLT_LAST_STAGE = n ∧
      t.rd GLB_FLT_LAST_KIND = 0 ∧ t.rd GLB_FLT_EVT_DP_PAR = 1
    let wdt (t : State) : Prop := t.rd (GLB_FLT_DP_WDT n) = min (s.rd (GLB_FLT_DP_WDT n) + 1) (2 ^ 16 - 1) ∧ t.rd GLB_FLT_LAST_STAGE = n ∧
      t.rd GLB_FLT_LAST_KIND = 1 ∧ t.rd GLB_FLT_EVT_DP_WDT = 1
    let last := [GLB_FLT_LAST_STAGE.key, GLB_FLT_LAST_KIND.key]
    let recent := (s.eng.dp.trips.getD n []).filter fun t => decide (s.eng.now ≤ t + tps)
    let both (x : Lost) (p : State → Prop) : Prop := (Completes (.datapathParity n x) s fun t => par t ∧ p t) ∧
      Completes (.handshakeWatchdog n x) s fun t => wdt t ∧ p t
    (∀ x, both x fun _ => True) ∧
    (Completes (.datapathParity n .nothing) s fun t => Kept ([(GLB_FLT_DP_PAR n).key, GLB_FLT_EVT_DP_PAR.key] ++ last) s t) ∧
    (Completes (.handshakeWatchdog n .nothing) s fun t => t.eng.dp.trips.getD n [] = recent ++ [s.eng.now] ∧
      Kept ([(GLB_FLT_DP_WDT n).key, GLB_FLT_EVT_DP_WDT.key, GLB_FLT_EVT_DP_STUCK.key, GLB_FLT_LAST_STUCK.key] ++ last) s t ∧
      (2 ≤ recent.length → natBit s.eng.dp.stuck n = false → natBit t.eng.dp.stuck n = true ∧ t.rd GLB_FLT_LAST_STUCK = 1 ∧
        t.rd GLB_FLT_EVT_DP_STUCK = 1) ∧
      (recent.length < 2 → t.eng.dp.stuck = s.eng.dp.stuck ∧ t.rd GLB_FLT_LAST_STUCK = s.rd GLB_FLT_LAST_STUCK)) ∧
    (∀ k, n < 8 →
      let el := s.eng.getEla n
      let ws := headWords k (el.items.drop el.aRead)
      el.aRead ≤ el.items.length → ws ≠ [] →
        (capFlows s.eng = false → both (.words [k]) fun t =>
          (t.eng.getEla n).items.drop (t.eng.getEla n).aRead = dropOf s.eng ws ++ el.items.drop (el.aRead + ws.length) ∧ t.mem = s.mem) ∧
        (capFlows s.eng = true → both (.words [k]) fun t =>
          (t.eng.getEla n).items.drop (t.eng.getEla n).aRead = el.items.drop (el.aRead + ws.length) ∧
          t.rd (GLB_EB_OVF_CNT n) = min (s.rd (GLB_EB_OVF_CNT n) + 1) (2 ^ (GLB_EB_OVF_CNT n).width - 1) % 2 ^ (GLB_EB_OVF_CNT n).width)) ∧
    (∀ port line, n = 12 ∨ n = 13 → line < 2 ^ 29 →
      (both (.request port line false) fun t => .line port line (List.replicate 256 0) 255 ∈ t.eng.out) ∧
      both (.request port line true) fun t => (∀ i < 256, memGet t.mem.cap (line * 256 + i) = 0) ∧
        (∀ k < 8, idxMem t.mem.capPois (line * 8 + k) = true) ∧
        ∀ x, ¬(line * 256 ≤ x ∧ x < line * 256 + 256) → memGet t.mem.cap x = memGet s.mem.cap x) ∧
    (∀ port line, n = 12 ∨ n = 13 → line < 2 ^ 29 → inRun s.eng = true → port < 2 →
      let g := s.eng.rr.region
      both (.request port line false) fun t => ∀ x ∈ srcLines s.eng s.mem g, s.eng.rr.seen ≤ x.k →
        (offsetOf s.eng g x.k).map (fun o => lineAddr s.eng g o / 256) = some line → x.k ∈ t.eng.rr.unread) ∧
    (n = 11 → both (.decode 1 0) fun t => t.rd CMP_DEC_LAST_WHY = 3 ∧ t.rd CMP_DEC_LAST_USER = 1 ∧ t.rd CMP_EVT_DEC_BAD = 1 ∧
      t.rd CMP_DEC_BAD_CNT = min (s.rd CMP_DEC_BAD_CNT + 1) (2 ^ 32 - 1) ∧ t.mem = s.mem) ∧
    (n = 15 → both .pixels fun t => t.rd VIT_POISON_CNT_CNT = min (s.rd VIT_POISON_CNT_CNT + 1) (2 ^ 32 - 1) ∧
      t.rd VIT_EVT_POISON = 1 ∧ t.mem = s.mem) ∧
    (let back (j : Nat) : Bool := match (s.eng.dp.trips.getD j []).getLast? with
       | some t => decide (t + tps ≤ s.eng.now)
       | none => true
     Completes .stageResetRetry s fun t => FieldsKept [GLB_FLT_LAST_STUCK.key] s t ∧ t.mem = s.mem ∧
       (∀ j < 16, natBit t.eng.dp.stuck j = (natBit s.eng.dp.stuck j && !back j)) ∧
       (t.rd GLB_FLT_LAST_STUCK = 0 ↔ ∀ j < 16, natBit s.eng.dp.stuck j = true → back j = true))

/-- R330, R385, R402, R406, R407, R464 to R475; LEVEL_CHANGE by chapter 3. -/
def Obligations.PowerResetsAndStartUp : Prop :=
  ∀ s : State, Inv s →
    let resets : Instr → Prop := fun c => match c with
      | .powerOnReset _ _ _ | .perstN | .perstNRelease _ _ _ | .tapReset | .bypass | .idcode | .samplePreload _ _ | .extest _ _ | .clamp
      | .highz | .dap _ | .dapAuth _ => True
      | _ => False
    let begun (cause : Nat) (pgFail : Option Nat) (bad : List (Nat × Nat)) (e : Eng) (t : State) : Prop :=
      let e1 := startRecord s.mem (startFuses cause e)
      (s.mem.vltBad = [] → t.eng.nv.srec.boot = (s.eng.nv.srec.boot + 1) % 2 ^ 16) ∧ (cause ≠ 0 → t.rd PWR_RST_CAUSE_CAUSE = cause) ∧
      t.rd GLB_MODE_STAT_CUR = 0 ∧ t.eng.nv.lc = s.eng.nv.lc ∧
      match startTables bad e1 s.mem with
      | none => t.rd PWR_STRT_PFAIL = 1 ∧ t.rd PWR_STRT_STEP = 4 ∧ t.eng.pw.start = none
      | some tb =>
        let up := upTable pgFail 0 tb.1 { e1.wr CUR_PWR_STAT_STATE 1 with cf := { e1.cf with up := tb.1, down := tb.2 } }
        match up.2 with
        | none => t.rd PWR_STRT_STEP = 6 ∧ t.rd CUR_PWR_STAT_STATE = 2 ∧ t.rd CUR_STAT_RUN = 1 ∧ t.rd SCR_MT_STAT_BUSY = 1 ∧
          t.rd PWR_STRT_DONE = 0 ∧ t.eng.hl.ready = true
        | some f => t.eng.pw.off = true ∧ t.eng.pw.latched = true ∧ t.eng.nv.srec.pwr = some f ∧ t.rd CUR_PWR_STAT_EN = 0 ∧
          t.rd CUR_PWR_STAT_STATE = 4
    (s.eng.down = true → ∀ c, ¬resets c → Completes c s fun t => t = s) ∧
    (let pw := s.eng.pw
     let kept := [CUR_LDG_NEXT_SEQ.key, CUR_LDG_OLDEST_SEQ.key, CUR_PWR_STAT_EN.key, CUR_PWR_STAT_PG.key]
     (pw.held = true ∨ (pw.off = true ∧ pw.latched = true) → Completes .perstN s fun t => t = s) ∧
     (pw.held = false → (pw.off = true ∧ pw.latched = false) ∨ (pw.off = false ∧ s.rd HOST_RST_CFG_KEEP = 0) → Completes .perstN s fun t =>
       t.eng.down = true ∧ t.eng.pw = { held := true } ∧ (∀ g : Fld, g.key ∉ kept → t.rd g = g.reset) ∧
       t.rd CUR_LDG_NEXT_SEQ = s.rd CUR_LDG_NEXT_SEQ % 2 ^ 32 ∧ t.rd CUR_PWR_STAT_EN = s.rd CUR_PWR_STAT_EN % 2 ^ 8 ∧ t.eng.act = [] ∧
       t.eng.tap = s.eng.tap ∧ t.eng.nv.keys = s.eng.nv.keys ∧ t.eng.nv.lc = s.eng.nv.lc ∧ t.eng.nv.srec.slots = s.eng.nv.srec.slots ∧
       t.mem = { s.mem with ram := [] }) ∧
     (s.up → s.rd HOST_RST_CFG_KEEP ≠ 0 → Completes .perstN s fun t => t.eng.hl.cold = true ∧ t.eng.hl.up = false ∧
       t.rd HOST_RST_STAT_LINK = 1 ∧ t.mem = s.mem ∧ t.eng.md = s.eng.md ∧
       ∀ g : Fld, (g.key < 8 * 0xB00000 ∨ 8 * 0xC00000 ≤ g.key) → g.key < 8 * 2 ^ 32 → g.key ∉ reportKeys → t.rd g = s.rd g)) ∧
    (∀ pgFail train bad,
      (Completes (.powerOnReset pgFail train bad) s (begun 0 pgFail bad (fundReset true s.eng))) ∧
      ((∃ e0, s.eng = { fundReset false e0 with pw := { held := true }, wq := [] }) → Completes (.perstNRelease pgFail train bad) s
        (begun 1 pgFail bad { s.eng with hl := { s.eng.hl with cold := false }, pw := { s.eng.pw with held := false } })) ∧
      (s.eng.pw.held = false → Completes (.perstNRelease pgFail train bad) s fun t =>
        t = { s with eng := { s.eng with hl := { s.eng.hl with cold := false } } }) ∧
      ∀ key, s.up →
        let may := key = 0xA5 ∧ s.eng.inAcq = false ∧ s.rd GLB_MODE_STAT_BUSY = 0
        (¬may → Completes (.swrst key pgFail train bad) s fun t => t.rd PWR_EVT_CMD_REJ = 1 ∧ Kept [PWR_EVT_CMD_REJ.key] s t) ∧
        (may → Completes (.swrst key pgFail train bad) s (begun 2 pgFail bad (fundReset false s.eng)))) ∧
    (s.up →
      (s.quiet → ∀ key moved,
        (key ≠ 0xA5 → Completes (.off key moved) s fun t => t.rd PWR_EVT_CMD_REJ = 1 ∧ Kept [PWR_EVT_CMD_REJ.key] s t) ∧
        (key = 0xA5 → s.eng.md.trans = none → (∀ c < 8, dmaRuns s.eng c = false) →
          (s.eng.inAcq = true → Completes (.off key moved) s fun t => t.eng.pw.offPend = true ∧ t.eng.pw.off = false ∧
            t.rd GLB_MODE_STAT_BUSY = 1 ∧ t.rd GLB_MODE_STAT_TARGET = 0 ∧ t.rd GLB_MODE_STAT_CUR = s.rd GLB_MODE_STAT_CUR) ∧
          (s.eng.inAcq = false → sealsDone s.eng = true → s.eng.ldg.queue = [] → Completes (.off key moved) s fun t =>
            t.eng.pw.off = true ∧ t.eng.pw.latched = false ∧ t.eng.pw.offPend = false ∧ t.rd CUR_PWR_STAT_EN = 0 ∧
            t.rd CUR_PWR_STAT_STATE = 0 ∧ t.eng.hl.up = false ∧ t.eng.wakeLow = false ∧ (∀ k < 4, t.rd (MEM_REF_STAT_PWR k) = 1) ∧
            t.mem.cap = s.mem.cap ∧ t.mem.scr = s.mem.scr))) ∧
      (trickleBlock s.eng = 0 → s.rd PWR_STAT_STATE = 0 → Completes .trickleEntry s fun t => t.rd PWR_STAT_STATE = 2 ∧
        t.rd PWR_EVT_STATE_CHG = 1 ∧ t.rd PWR_STAT_TRK_BLOCK = 0 ∧ (∀ n ∈ [1, 2, 3, 4, 6], t.rd (CLK_LOOP_STAT_STATE n) = 0) ∧ t.mem = s.mem) ∧
      (¬(trickleBlock s.eng = 0 ∧ s.rd PWR_STAT_STATE = 0) → Completes .trickleEntry s fun t =>
        t.rd PWR_STAT_TRK_BLOCK = trickleBlock s.eng ∧ Only [PWR_STAT_TRK_BLOCK.key] s t) ∧
      (let holds := s.rd GLB_MODE_STAT_CUR = 0 ∧ s.rd PWR_CTRL_FE_IDLE ≠ 0 ∧ feActive s.eng = false ∧ s.eng.md.trans = none ∧
         s.eng.pw.start = none ∧ s.rd PWR_STAT_STATE = 0
       (holds → Completes .idleReturn s fun t => t.rd PWR_STAT_STATE = 1 ∧ t.rd PWR_EVT_STATE_CHG = 1 ∧
         (∀ n < 5, t.rd (CLK_LOOP_STAT_STATE n) = 0) ∧ t.mem = s.mem) ∧
       (¬holds → Completes .idleReturn s fun t => Only [] s t)) ∧
      (∀ speed width flit, speed < 8 → width < 32 →
        (s.rd CUR_PWR_STAT_PG = 0 ∨ s.eng.hl.cold = true → Completes (.pcieLinkUp speed width flit) s fun t => Only [] s t) ∧
        (s.rd CUR_PWR_STAT_PG ≠ 0 → s.eng.hl.cold = false → Completes (.pcieLinkUp speed width flit) s fun t =>
          t.rd HOST_LINK_STAT_SPEED = speed ∧ t.rd HOST_LINK_STAT_WIDTH = width ∧ t.rd HOST_LINK_STAT_FLIT = (if flit then 1 else 0) ∧
          t.eng.hl.up = true ∧ Kept [HOST_LINK_STAT_SPEED.key, HOST_LINK_STAT_WIDTH.key, HOST_LINK_STAT_FLIT.key] s t)) ∧
      ∀ (c : Nat) (vd : Int),
        let level := compOut s.eng c vd
        let on := c < 256 ∧ s.eng.bit CUR_PWR_DOM_ON (c / 32) = true
        let changes := decide (s.rd (FE_CH_STAT_LEVEL c) ≠ 0) ≠ level
        (on → changes → Completes (.levelChange c vd) s fun t => t.rd (FE_CH_STAT_LEVEL c) = (if level then 1 else 0) ∧
          t.rd (FE_CH_STAT_ACT c) = 1 ∧ natBit t.eng.fe.comp c = level ∧ Kept [(FE_CH_STAT_LEVEL c).key, (FE_CH_STAT_ACT c).key] s t) ∧
        (on → ¬changes → Completes (.levelChange c vd) s fun t => natBit t.eng.fe.comp c = level ∧ Kept [] s t) ∧
        (¬on → Completes (.levelChange c vd) s fun t => Only [] s t))

end
end

