-- ==== Sys2Proof/Laws/Lists.lean ====
section
/-!
SUPPORT. Reading an element of a list after `putAt`.
-/
namespace Sys2Proof

@[simp] theorem putAt_same {α : Type} (l : List α) (i : Nat) (v d : α) : (putAt l i v d).getD i d = v := by
  induction i generalizing l with
  | zero => cases l <;> simp [putAt]
  | succ i ih => cases l <;> simpa [putAt] using ih _

theorem putAt_other {α : Type} (l : List α) (i j : Nat) (v d : α) (h : i ≠ j) : (putAt l i v d).getD j d = l.getD j d := by
  induction i generalizing l j with
  | zero =>
    cases j with
    | zero => exact absurd rfl h
    | succ j => cases l <;> simp [putAt]
  | succ i ih =>
    cases j with
    | zero => cases l <;> simp [putAt]
    | succ j =>
      cases l with
      | nil => simpa [putAt] using ih [] j (by omega)
      | cons a l => simpa [putAt] using ih l j (by omega)

end Sys2Proof
end

