-- ==== Sys2Proof/Laws/Memory.lean ====
section
/-!
SUPPORT. The laws of the memories: a read after a write, and that every memory write keeps the canonical form (R5, the
model's own form).
-/
namespace Sys2Proof
namespace Machine

theorem memGet_filter (m : Mem) (p : Nat → Bool) (a : Nat) : memGet (m.filter fun c => p c.1) a = if p a then memGet m a else 0 := by
  induction m with
  | nil => simp [memGet]
  | cons c m ih =>
    obtain ⟨c1, c2⟩ := c
    by_cases hc : p c1
    · simp only [List.filter_cons, hc, if_true, memGet, ih]
      by_cases hq : c1 = a
      · subst hq; simp [hc]
      · simp [hq]
    · simp only [List.filter_cons, hc, memGet, ih]
      by_cases hq : c1 = a
      · subst hq; simp [hc, ih]
      · simp [hq, ih]

theorem memGet_insert (m : Mem) (a : Nat) (v : Byte) (x : Nat) : memGet (memInsert m a v) x = if a = x then v else memGet m x := by
  induction m with
  | nil => simp [memInsert, memGet]
  | cons c m ih =>
    obtain ⟨c1, c2⟩ := c
    simp only [memInsert]
    split
    · simp [memGet]
    · split
      · rename_i h1 h2; subst h2
        by_cases hx : a = x <;> simp [memGet, hx]
      · rename_i h1 h2
        simp only [memGet, ih]
        by_cases hx : a = x
        · subst hx; simp [h2, Ne.symm h2]
        · simp [hx]

/-- A byte reads as it was written; the others stay. -/
theorem memGet_put (m : Mem) (a : Nat) (v : Byte) (x : Nat) : memGet (memPut m a v) x = if a = x then v else memGet m x := by
  unfold memPut
  split
  · rename_i h
    have hf := memGet_filter m (fun y => y != a) x
    rw [hf]
    by_cases hx : a = x
    · subst hx; simp [h]
    · have : x ≠ a := fun h => hx h.symm
      simp [hx, this]
  · exact memGet_insert m a v x

/-- A read of any address after a write of bytes. -/
theorem memGet_write (m : Mem) (a : Nat) (bs : List Byte) (x : Nat) :
    memGet (memWrite m a bs) x = if a ≤ x ∧ x < a + bs.length then bs.getD (x - a) 0 else memGet m x := by
  induction bs generalizing m a with
  | nil =>
    simp only [memWrite, List.length_nil]
    rw [if_neg (by omega)]
  | cons b bs ih =>
    simp only [memWrite, ih, memGet_put, List.length_cons]
    by_cases h1 : a = x
    · subst h1
      rw [if_neg (by omega), if_pos rfl, if_pos (by omega)]
      simp
    · by_cases h2 : a + 1 ≤ x ∧ x < a + 1 + bs.length
      · rw [if_pos h2, if_pos (by omega)]
        obtain ⟨k, rfl⟩ : ∃ k, x = a + (k + 1) := ⟨x - a - 1, by omega⟩
        have e1 : a + (k + 1) - (a + 1) = k := by omega
        have e2 : a + (k + 1) - a = k + 1 := by omega
        rw [e1, e2]
        simp
      · rw [if_neg h2, if_neg h1, if_neg (by omega)]

/-! ### The canonical form -/

theorem memRising_iff (m : Mem) : memRising m = true ↔ m.Pairwise fun a b => a.1 < b.1 := by
  induction m with
  | nil => simp [memRising]
  | cons a m ih =>
    cases m with
    | nil => simp [memRising]
    | cons b m =>
      simp only [memRising, Bool.and_eq_true, decide_eq_true_eq, ih, List.pairwise_cons]
      constructor
      · rintro ⟨h, h2, h3⟩
        refine ⟨?_, h2, h3⟩
        intro c hc
        rcases List.mem_cons.1 hc with rfl | hc
        · exact h
        · exact lt_trans h (h2 c hc)
      · rintro ⟨h1, h2, h3⟩
        exact ⟨h1 b (by simp), h2, h3⟩

theorem memWf_iff (m : Mem) : memWf m = true ↔ (m.Pairwise fun a b => a.1 < b.1) ∧ ∀ c ∈ m, c.2 ≠ 0 := by
  simp [memWf, memRising_iff, memNonzero]

theorem memWf_filter (m : Mem) (p : Host.Cell → Bool) (h : memWf m = true) : memWf (m.filter p) = true := by
  rw [memWf_iff] at h ⊢
  exact ⟨h.1.filter _, fun c hc => h.2 c (List.mem_of_mem_filter hc)⟩

theorem memInsert_mem (m : Mem) (a : Nat) (v : Byte) (c : Host.Cell) (h : c ∈ memInsert m a v) : c = (a, v) ∨ c ∈ m := by
  induction m with
  | nil => simpa [memInsert] using h
  | cons d m ih =>
    obtain ⟨d1, d2⟩ := d
    simp only [memInsert] at h
    split at h
    · simpa using h
    · split at h
      · rcases List.mem_cons.1 h with h | h
        · exact .inl h
        · exact .inr (by simp [h])
      · rcases List.mem_cons.1 h with h | h
        · exact .inr (by simp [h])
        · rcases ih h with h | h
          · exact .inl h
          · exact .inr (by simp [h])

theorem memInsert_wf (m : Mem) (a : Nat) (v : Byte) (hv : v ≠ 0) (h : memWf m = true) : memWf (memInsert m a v) = true := by
  rw [memWf_iff] at h ⊢
  refine ⟨?_, ?_⟩
  · have h1 := h.1
    clear h
    induction m with
    | nil => simp [memInsert]
    | cons d m ih =>
      obtain ⟨d1, d2⟩ := d
      obtain ⟨g1, g2⟩ := List.pairwise_cons.1 h1
      simp only [memInsert]
      split
      · rename_i hk
        refine List.pairwise_cons.2 ⟨?_, h1⟩
        intro c hc
        rcases List.mem_cons.1 hc with rfl | hc
        · exact hk
        · exact lt_trans hk (g1 c hc)
      · split
        · rename_i hk; subst hk
          exact List.pairwise_cons.2 ⟨g1, g2⟩
        · rename_i hk hk2
          refine List.pairwise_cons.2 ⟨?_, ih g2⟩
          intro c hc
          rcases memInsert_mem _ _ _ _ hc with rfl | hc
          · show d1 < a; omega
          · exact g1 c hc
  · intro c hc
    rcases memInsert_mem _ _ _ _ hc with rfl | hc
    · exact hv
    · exact h.2 c hc

theorem memPut_wf (m : Mem) (a : Nat) (v : Byte) (h : memWf m = true) : memWf (memPut m a v) = true := by
  unfold memPut
  split
  · exact memWf_filter _ _ h
  · rename_i hv; exact memInsert_wf m a v hv h

theorem memWrite_wf (m : Mem) (a : Nat) (bs : List Byte) (h : memWf m = true) : memWf (memWrite m a bs) = true := by
  induction bs generalizing m a with
  | nil => exact h
  | cons b bs ih => exact ih _ _ (memPut_wf m a b h)

theorem idxRising_iff (s : IdxSet) : idxRising s = true ↔ s.Pairwise (· < ·) := by
  induction s with
  | nil => simp [idxRising]
  | cons a s ih =>
    cases s with
    | nil => simp [idxRising]
    | cons b s =>
      simp only [idxRising, Bool.and_eq_true, decide_eq_true_eq, ih, List.pairwise_cons]
      constructor
      · rintro ⟨h, h2, h3⟩
        refine ⟨?_, h2, h3⟩
        intro c hc
        rcases List.mem_cons.1 hc with rfl | hc
        · exact h
        · exact lt_trans h (h2 c hc)
      · rintro ⟨h1, h2, h3⟩
        exact ⟨h1 b (by simp), h2, h3⟩

theorem idxRising_filter (s : IdxSet) (p : Nat → Bool) (h : idxRising s = true) : idxRising (s.filter p) = true := by
  rw [idxRising_iff] at h ⊢
  exact h.filter _

theorem idxAdd_mem (s : IdxSet) (i c : Nat) (h : c ∈ idxAdd s i) : c = i ∨ c ∈ s := by
  induction s with
  | nil => simpa [idxAdd] using h
  | cons d s ih =>
    simp only [idxAdd] at h
    split at h
    · simpa using h
    · split at h
      · exact .inr h
      · rcases List.mem_cons.1 h with h | h
        · exact .inr (by simp [h])
        · rcases ih h with h | h
          · exact .inl h
          · exact .inr (by simp [h])

theorem idxAdd_rising (s : IdxSet) (i : Nat) (h : idxRising s = true) : idxRising (idxAdd s i) = true := by
  rw [idxRising_iff] at h ⊢
  induction s with
  | nil => simp [idxAdd]
  | cons d s ih =>
    obtain ⟨g1, g2⟩ := List.pairwise_cons.1 h
    simp only [idxAdd]
    split
    · rename_i hk
      refine List.pairwise_cons.2 ⟨?_, h⟩
      intro c hc
      rcases List.mem_cons.1 hc with rfl | hc
      · exact hk
      · exact lt_trans hk (g1 c hc)
    · split
      · exact h
      · rename_i hk hk2
        refine List.pairwise_cons.2 ⟨?_, ih g2⟩
        intro c hc
        rcases idxAdd_mem _ _ _ hc with rfl | hc
        · omega
        · exact g1 c hc

theorem idxPut_rising (s : IdxSet) (i : Nat) (on : Bool) (h : idxRising s = true) : idxRising (idxPut s i on) = true := by
  unfold idxPut
  split
  · exact idxAdd_rising _ _ h
  · exact idxRising_filter _ _ h

/-- Every memory write keeps the canonical form. -/
theorem Mems.apply_wf (m : Mems) (o : MemOp) (h : m.wf = true) : (m.apply o).wf = true := by
  simp only [Mems.wf, Bool.and_eq_true] at h ⊢
  obtain ⟨⟨⟨⟨⟨⟨h1, h2⟩, h3⟩, h4⟩, h5⟩, h6⟩, h7⟩ := h
  cases o <;> simp only [Mems.apply, Bool.and_eq_true] <;>
    refine ⟨⟨⟨⟨⟨⟨?_, ?_⟩, ?_⟩, ?_⟩, ?_⟩, ?_⟩, ?_⟩ <;>
    first
      | assumption
      | exact memWrite_wf _ _ _ ‹_›
      | exact idxPut_rising _ _ _ ‹_›
      | exact idxRising_filter _ _ ‹_›
      | exact memWf_filter _ _ ‹_›
      | rfl

theorem Mems.applyAll_wf (m : Mems) (os : List MemOp) (h : m.wf = true) : (m.applyAll os).wf = true := by
  induction os generalizing m with
  | nil => exact h
  | cons o os ih => exact ih _ (Mems.apply_wf m o h)

end Machine
end Sys2Proof
end

