-- ==== Sys2Proof/Laws/State.lean ====
section
/-!
SUPPORT. What the elementary updates of the engine leave alone: one lemma per field per update.
-/
namespace Sys2Proof
namespace Machine

@[simp] theorem Eng.wr_act (e : Eng) (f : Fld) (v : Nat) : (e.wr f v).act = e.act := rfl
@[simp] theorem Eng.wr_img (e : Eng) (f : Fld) (v : Nat) : (e.wr f v).img = e.img := rfl
@[simp] theorem Eng.wr_now (e : Eng) (f : Fld) (v : Nat) : (e.wr f v).now = e.now := rfl
@[simp] theorem Eng.wr_ts (e : Eng) (f : Fld) (v : Nat) : (e.wr f v).ts = e.ts := rfl
@[simp] theorem Eng.wr_free (e : Eng) (f : Fld) (v : Nat) : (e.wr f v).free = e.free := rfl
@[simp] theorem Eng.wr_wq (e : Eng) (f : Fld) (v : Nat) : (e.wr f v).wq = e.wq := rfl
@[simp] theorem Eng.wr_out (e : Eng) (f : Fld) (v : Nat) : (e.wr f v).out = e.out := rfl
@[simp] theorem Eng.wr_evq (e : Eng) (f : Fld) (v : Nat) : (e.wr f v).evq = e.evq := rfl
@[simp] theorem Eng.wr_ldg (e : Eng) (f : Fld) (v : Nat) : (e.wr f v).ldg = e.ldg := rfl
@[simp] theorem Eng.wr_vmask (e : Eng) (f : Fld) (v : Nat) : (e.wr f v).vmask = e.vmask := rfl
@[simp] theorem Eng.wr_pba (e : Eng) (f : Fld) (v : Nat) : (e.wr f v).pba = e.pba := rfl
@[simp] theorem Eng.wr_hl (e : Eng) (f : Fld) (v : Nat) : (e.wr f v).hl = e.hl := rfl
@[simp] theorem Eng.wr_tod (e : Eng) (f : Fld) (v : Nat) : (e.wr f v).tod = e.tod := rfl
@[simp] theorem Eng.wr_steer (e : Eng) (f : Fld) (v : Nat) : (e.wr f v).steer = e.steer := rfl
@[simp] theorem Eng.wr_tout (e : Eng) (f : Fld) (v : Nat) : (e.wr f v).tout = e.tout := rfl
@[simp] theorem Eng.wr_clk (e : Eng) (f : Fld) (v : Nat) : (e.wr f v).clk = e.clk := rfl
@[simp] theorem Eng.wr_mc (e : Eng) (f : Fld) (v : Nat) : (e.wr f v).mc = e.mc := rfl
@[simp] theorem Eng.wr_sc (e : Eng) (f : Fld) (v : Nat) : (e.wr f v).sc = e.sc := rfl
@[simp] theorem Eng.wr_vt (e : Eng) (f : Fld) (v : Nat) : (e.wr f v).vt = e.vt := rfl
@[simp] theorem Eng.wr_nv (e : Eng) (f : Fld) (v : Nat) : (e.wr f v).nv = e.nv := rfl
@[simp] theorem Eng.wr_cf (e : Eng) (f : Fld) (v : Nat) : (e.wr f v).cf = e.cf := rfl
@[simp] theorem Eng.wr_cu (e : Eng) (f : Fld) (v : Nat) : (e.wr f v).cu = e.cu := rfl
@[simp] theorem Eng.wr_se (e : Eng) (f : Fld) (v : Nat) : (e.wr f v).se = e.se := rfl
@[simp] theorem Eng.wr_pw (e : Eng) (f : Fld) (v : Nat) : (e.wr f v).pw = e.pw := rfl
@[simp] theorem Eng.wr_tap (e : Eng) (f : Fld) (v : Nat) : (e.wr f v).tap = e.tap := rfl
@[simp] theorem Eng.wr_dp (e : Eng) (f : Fld) (v : Nat) : (e.wr f v).dp = e.dp := rfl
@[simp] theorem Eng.wr_ela (e : Eng) (f : Fld) (v : Nat) : (e.wr f v).ela = e.ela := rfl
@[simp] theorem Eng.wr_paceAt (e : Eng) (f : Fld) (v : Nat) : (e.wr f v).paceAt = e.paceAt := rfl
@[simp] theorem Eng.wr_md (e : Eng) (f : Fld) (v : Nat) : (e.wr f v).md = e.md := rfl
@[simp] theorem Eng.wr_fe (e : Eng) (f : Fld) (v : Nat) : (e.wr f v).fe = e.fe := rfl
@[simp] theorem Eng.wr_pod (e : Eng) (f : Fld) (v : Nat) : (e.wr f v).pod = e.pod := rfl
@[simp] theorem Eng.wr_rg (e : Eng) (f : Fld) (v : Nat) : (e.wr f v).rg = e.rg := rfl
@[simp] theorem Eng.wr_cx (e : Eng) (f : Fld) (v : Nat) : (e.wr f v).cx = e.cx := rfl
@[simp] theorem Eng.wr_tr (e : Eng) (f : Fld) (v : Nat) : (e.wr f v).tr = e.tr := rfl
@[simp] theorem Eng.wr_rr (e : Eng) (f : Fld) (v : Nat) : (e.wr f v).rr = e.rr := rfl
@[simp] theorem Eng.wr_kr (e : Eng) (f : Fld) (v : Nat) : (e.wr f v).kr = e.kr := rfl
@[simp] theorem Eng.wr_kp (e : Eng) (f : Fld) (v : Nat) : (e.wr f v).kp = e.kp := rfl
@[simp] theorem Eng.wr_wakeAt (e : Eng) (f : Fld) (v : Nat) : (e.wr f v).wakeAt = e.wakeAt := rfl
@[simp] theorem Eng.wr_wakeLow (e : Eng) (f : Fld) (v : Nat) : (e.wr f v).wakeLow = e.wakeLow := rfl
@[simp] theorem Eng.wr_aq (e : Eng) (f : Fld) (v : Nat) : (e.wr f v).aq = e.aq := rfl
@[simp] theorem Eng.wr_latch (e : Eng) (f : Fld) (v : Nat) : (e.wr f v).latch = e.latch := rfl
@[simp] theorem Eng.wr_clr (e : Eng) (f : Fld) (v : Nat) : (e.wr f v).clr = e.clr := rfl
@[simp] theorem Eng.wr_dma (e : Eng) (f : Fld) (v : Nat) : (e.wr f v).dma = e.dma := rfl
@[simp] theorem Eng.wr_job (e : Eng) (f : Fld) (v : Nat) : (e.wr f v).job = e.job := rfl

@[simp] theorem Eng.wra_regs (e : Eng) (f : Fld) (v : Nat) : (e.wra f v).regs = e.regs := rfl
@[simp] theorem Eng.wra_img (e : Eng) (f : Fld) (v : Nat) : (e.wra f v).img = e.img := rfl
@[simp] theorem Eng.wra_now (e : Eng) (f : Fld) (v : Nat) : (e.wra f v).now = e.now := rfl
@[simp] theorem Eng.wra_ts (e : Eng) (f : Fld) (v : Nat) : (e.wra f v).ts = e.ts := rfl
@[simp] theorem Eng.wra_free (e : Eng) (f : Fld) (v : Nat) : (e.wra f v).free = e.free := rfl
@[simp] theorem Eng.wra_wq (e : Eng) (f : Fld) (v : Nat) : (e.wra f v).wq = e.wq := rfl
@[simp] theorem Eng.wra_out (e : Eng) (f : Fld) (v : Nat) : (e.wra f v).out = e.out := rfl
@[simp] theorem Eng.wra_evq (e : Eng) (f : Fld) (v : Nat) : (e.wra f v).evq = e.evq := rfl
@[simp] theorem Eng.wra_ldg (e : Eng) (f : Fld) (v : Nat) : (e.wra f v).ldg = e.ldg := rfl
@[simp] theorem Eng.wra_vmask (e : Eng) (f : Fld) (v : Nat) : (e.wra f v).vmask = e.vmask := rfl
@[simp] theorem Eng.wra_pba (e : Eng) (f : Fld) (v : Nat) : (e.wra f v).pba = e.pba := rfl
@[simp] theorem Eng.wra_hl (e : Eng) (f : Fld) (v : Nat) : (e.wra f v).hl = e.hl := rfl
@[simp] theorem Eng.wra_tod (e : Eng) (f : Fld) (v : Nat) : (e.wra f v).tod = e.tod := rfl
@[simp] theorem Eng.wra_steer (e : Eng) (f : Fld) (v : Nat) : (e.wra f v).steer = e.steer := rfl
@[simp] theorem Eng.wra_tout (e : Eng) (f : Fld) (v : Nat) : (e.wra f v).tout = e.tout := rfl
@[simp] theorem Eng.wra_clk (e : Eng) (f : Fld) (v : Nat) : (e.wra f v).clk = e.clk := rfl
@[simp] theorem Eng.wra_mc (e : Eng) (f : Fld) (v : Nat) : (e.wra f v).mc = e.mc := rfl
@[simp] theorem Eng.wra_sc (e : Eng) (f : Fld) (v : Nat) : (e.wra f v).sc = e.sc := rfl
@[simp] theorem Eng.wra_vt (e : Eng) (f : Fld) (v : Nat) : (e.wra f v).vt = e.vt := rfl
@[simp] theorem Eng.wra_nv (e : Eng) (f : Fld) (v : Nat) : (e.wra f v).nv = e.nv := rfl
@[simp] theorem Eng.wra_cf (e : Eng) (f : Fld) (v : Nat) : (e.wra f v).cf = e.cf := rfl
@[simp] theorem Eng.wra_cu (e : Eng) (f : Fld) (v : Nat) : (e.wra f v).cu = e.cu := rfl
@[simp] theorem Eng.wra_se (e : Eng) (f : Fld) (v : Nat) : (e.wra f v).se = e.se := rfl
@[simp] theorem Eng.wra_pw (e : Eng) (f : Fld) (v : Nat) : (e.wra f v).pw = e.pw := rfl
@[simp] theorem Eng.wra_tap (e : Eng) (f : Fld) (v : Nat) : (e.wra f v).tap = e.tap := rfl
@[simp] theorem Eng.wra_dp (e : Eng) (f : Fld) (v : Nat) : (e.wra f v).dp = e.dp := rfl
@[simp] theorem Eng.wra_ela (e : Eng) (f : Fld) (v : Nat) : (e.wra f v).ela = e.ela := rfl
@[simp] theorem Eng.wra_paceAt (e : Eng) (f : Fld) (v : Nat) : (e.wra f v).paceAt = e.paceAt := rfl
@[simp] theorem Eng.wra_md (e : Eng) (f : Fld) (v : Nat) : (e.wra f v).md = e.md := rfl
@[simp] theorem Eng.wra_fe (e : Eng) (f : Fld) (v : Nat) : (e.wra f v).fe = e.fe := rfl
@[simp] theorem Eng.wra_pod (e : Eng) (f : Fld) (v : Nat) : (e.wra f v).pod = e.pod := rfl
@[simp] theorem Eng.wra_rg (e : Eng) (f : Fld) (v : Nat) : (e.wra f v).rg = e.rg := rfl
@[simp] theorem Eng.wra_cx (e : Eng) (f : Fld) (v : Nat) : (e.wra f v).cx = e.cx := rfl
@[simp] theorem Eng.wra_tr (e : Eng) (f : Fld) (v : Nat) : (e.wra f v).tr = e.tr := rfl
@[simp] theorem Eng.wra_rr (e : Eng) (f : Fld) (v : Nat) : (e.wra f v).rr = e.rr := rfl
@[simp] theorem Eng.wra_kr (e : Eng) (f : Fld) (v : Nat) : (e.wra f v).kr = e.kr := rfl
@[simp] theorem Eng.wra_kp (e : Eng) (f : Fld) (v : Nat) : (e.wra f v).kp = e.kp := rfl
@[simp] theorem Eng.wra_wakeAt (e : Eng) (f : Fld) (v : Nat) : (e.wra f v).wakeAt = e.wakeAt := rfl
@[simp] theorem Eng.wra_wakeLow (e : Eng) (f : Fld) (v : Nat) : (e.wra f v).wakeLow = e.wakeLow := rfl
@[simp] theorem Eng.wra_aq (e : Eng) (f : Fld) (v : Nat) : (e.wra f v).aq = e.aq := rfl
@[simp] theorem Eng.wra_latch (e : Eng) (f : Fld) (v : Nat) : (e.wra f v).latch = e.latch := rfl
@[simp] theorem Eng.wra_clr (e : Eng) (f : Fld) (v : Nat) : (e.wra f v).clr = e.clr := rfl
@[simp] theorem Eng.wra_dma (e : Eng) (f : Fld) (v : Nat) : (e.wra f v).dma = e.dma := rfl
@[simp] theorem Eng.wra_job (e : Eng) (f : Fld) (v : Nat) : (e.wra f v).job = e.job := rfl

@[simp] theorem Eng.emit_regs (e : Eng) (o : MemOp) : (e.emit o).regs = e.regs := rfl
@[simp] theorem Eng.emit_act (e : Eng) (o : MemOp) : (e.emit o).act = e.act := rfl
@[simp] theorem Eng.emit_img (e : Eng) (o : MemOp) : (e.emit o).img = e.img := rfl
@[simp] theorem Eng.emit_now (e : Eng) (o : MemOp) : (e.emit o).now = e.now := rfl
@[simp] theorem Eng.emit_ts (e : Eng) (o : MemOp) : (e.emit o).ts = e.ts := rfl
@[simp] theorem Eng.emit_free (e : Eng) (o : MemOp) : (e.emit o).free = e.free := rfl
@[simp] theorem Eng.emit_out (e : Eng) (o : MemOp) : (e.emit o).out = e.out := rfl
@[simp] theorem Eng.emit_evq (e : Eng) (o : MemOp) : (e.emit o).evq = e.evq := rfl
@[simp] theorem Eng.emit_ldg (e : Eng) (o : MemOp) : (e.emit o).ldg = e.ldg := rfl
@[simp] theorem Eng.emit_vmask (e : Eng) (o : MemOp) : (e.emit o).vmask = e.vmask := rfl
@[simp] theorem Eng.emit_pba (e : Eng) (o : MemOp) : (e.emit o).pba = e.pba := rfl
@[simp] theorem Eng.emit_hl (e : Eng) (o : MemOp) : (e.emit o).hl = e.hl := rfl
@[simp] theorem Eng.emit_tod (e : Eng) (o : MemOp) : (e.emit o).tod = e.tod := rfl
@[simp] theorem Eng.emit_steer (e : Eng) (o : MemOp) : (e.emit o).steer = e.steer := rfl
@[simp] theorem Eng.emit_tout (e : Eng) (o : MemOp) : (e.emit o).tout = e.tout := rfl
@[simp] theorem Eng.emit_clk (e : Eng) (o : MemOp) : (e.emit o).clk = e.clk := rfl
@[simp] theorem Eng.emit_mc (e : Eng) (o : MemOp) : (e.emit o).mc = e.mc := rfl
@[simp] theorem Eng.emit_sc (e : Eng) (o : MemOp) : (e.emit o).sc = e.sc := rfl
@[simp] theorem Eng.emit_vt (e : Eng) (o : MemOp) : (e.emit o).vt = e.vt := rfl
@[simp] theorem Eng.emit_nv (e : Eng) (o : MemOp) : (e.emit o).nv = e.nv := rfl
@[simp] theorem Eng.emit_cf (e : Eng) (o : MemOp) : (e.emit o).cf = e.cf := rfl
@[simp] theorem Eng.emit_cu (e : Eng) (o : MemOp) : (e.emit o).cu = e.cu := rfl
@[simp] theorem Eng.emit_se (e : Eng) (o : MemOp) : (e.emit o).se = e.se := rfl
@[simp] theorem Eng.emit_pw (e : Eng) (o : MemOp) : (e.emit o).pw = e.pw := rfl
@[simp] theorem Eng.emit_tap (e : Eng) (o : MemOp) : (e.emit o).tap = e.tap := rfl
@[simp] theorem Eng.emit_dp (e : Eng) (o : MemOp) : (e.emit o).dp = e.dp := rfl
@[simp] theorem Eng.emit_ela (e : Eng) (o : MemOp) : (e.emit o).ela = e.ela := rfl
@[simp] theorem Eng.emit_paceAt (e : Eng) (o : MemOp) : (e.emit o).paceAt = e.paceAt := rfl
@[simp] theorem Eng.emit_md (e : Eng) (o : MemOp) : (e.emit o).md = e.md := rfl
@[simp] theorem Eng.emit_fe (e : Eng) (o : MemOp) : (e.emit o).fe = e.fe := rfl
@[simp] theorem Eng.emit_pod (e : Eng) (o : MemOp) : (e.emit o).pod = e.pod := rfl
@[simp] theorem Eng.emit_rg (e : Eng) (o : MemOp) : (e.emit o).rg = e.rg := rfl
@[simp] theorem Eng.emit_cx (e : Eng) (o : MemOp) : (e.emit o).cx = e.cx := rfl
@[simp] theorem Eng.emit_tr (e : Eng) (o : MemOp) : (e.emit o).tr = e.tr := rfl
@[simp] theorem Eng.emit_rr (e : Eng) (o : MemOp) : (e.emit o).rr = e.rr := rfl
@[simp] theorem Eng.emit_kr (e : Eng) (o : MemOp) : (e.emit o).kr = e.kr := rfl
@[simp] theorem Eng.emit_kp (e : Eng) (o : MemOp) : (e.emit o).kp = e.kp := rfl
@[simp] theorem Eng.emit_wakeAt (e : Eng) (o : MemOp) : (e.emit o).wakeAt = e.wakeAt := rfl
@[simp] theorem Eng.emit_wakeLow (e : Eng) (o : MemOp) : (e.emit o).wakeLow = e.wakeLow := rfl
@[simp] theorem Eng.emit_aq (e : Eng) (o : MemOp) : (e.emit o).aq = e.aq := rfl
@[simp] theorem Eng.emit_latch (e : Eng) (o : MemOp) : (e.emit o).latch = e.latch := rfl
@[simp] theorem Eng.emit_clr (e : Eng) (o : MemOp) : (e.emit o).clr = e.clr := rfl
@[simp] theorem Eng.emit_dma (e : Eng) (o : MemOp) : (e.emit o).dma = e.dma := rfl
@[simp] theorem Eng.emit_job (e : Eng) (o : MemOp) : (e.emit o).job = e.job := rfl

@[simp] theorem Eng.send_regs (e : Eng) (m : OutMsg) : (e.send m).regs = e.regs := rfl
@[simp] theorem Eng.send_act (e : Eng) (m : OutMsg) : (e.send m).act = e.act := rfl
@[simp] theorem Eng.send_img (e : Eng) (m : OutMsg) : (e.send m).img = e.img := rfl
@[simp] theorem Eng.send_now (e : Eng) (m : OutMsg) : (e.send m).now = e.now := rfl
@[simp] theorem Eng.send_ts (e : Eng) (m : OutMsg) : (e.send m).ts = e.ts := rfl
@[simp] theorem Eng.send_free (e : Eng) (m : OutMsg) : (e.send m).free = e.free := rfl
@[simp] theorem Eng.send_wq (e : Eng) (m : OutMsg) : (e.send m).wq = e.wq := rfl
@[simp] theorem Eng.send_evq (e : Eng) (m : OutMsg) : (e.send m).evq = e.evq := rfl
@[simp] theorem Eng.send_ldg (e : Eng) (m : OutMsg) : (e.send m).ldg = e.ldg := rfl
@[simp] theorem Eng.send_vmask (e : Eng) (m : OutMsg) : (e.send m).vmask = e.vmask := rfl
@[simp] theorem Eng.send_pba (e : Eng) (m : OutMsg) : (e.send m).pba = e.pba := rfl
@[simp] theorem Eng.send_hl (e : Eng) (m : OutMsg) : (e.send m).hl = e.hl := rfl
@[simp] theorem Eng.send_tod (e : Eng) (m : OutMsg) : (e.send m).tod = e.tod := rfl
@[simp] theorem Eng.send_steer (e : Eng) (m : OutMsg) : (e.send m).steer = e.steer := rfl
@[simp] theorem Eng.send_tout (e : Eng) (m : OutMsg) : (e.send m).tout = e.tout := rfl
@[simp] theorem Eng.send_clk (e : Eng) (m : OutMsg) : (e.send m).clk = e.clk := rfl
@[simp] theorem Eng.send_mc (e : Eng) (m : OutMsg) : (e.send m).mc = e.mc := rfl
@[simp] theorem Eng.send_sc (e : Eng) (m : OutMsg) : (e.send m).sc = e.sc := rfl
@[simp] theorem Eng.send_vt (e : Eng) (m : OutMsg) : (e.send m).vt = e.vt := rfl
@[simp] theorem Eng.send_nv (e : Eng) (m : OutMsg) : (e.send m).nv = e.nv := rfl
@[simp] theorem Eng.send_cf (e : Eng) (m : OutMsg) : (e.send m).cf = e.cf := rfl
@[simp] theorem Eng.send_cu (e : Eng) (m : OutMsg) : (e.send m).cu = e.cu := rfl
@[simp] theorem Eng.send_se (e : Eng) (m : OutMsg) : (e.send m).se = e.se := rfl
@[simp] theorem Eng.send_pw (e : Eng) (m : OutMsg) : (e.send m).pw = e.pw := rfl
@[simp] theorem Eng.send_tap (e : Eng) (m : OutMsg) : (e.send m).tap = e.tap := rfl
@[simp] theorem Eng.send_dp (e : Eng) (m : OutMsg) : (e.send m).dp = e.dp := rfl
@[simp] theorem Eng.send_ela (e : Eng) (m : OutMsg) : (e.send m).ela = e.ela := rfl
@[simp] theorem Eng.send_paceAt (e : Eng) (m : OutMsg) : (e.send m).paceAt = e.paceAt := rfl
@[simp] theorem Eng.send_md (e : Eng) (m : OutMsg) : (e.send m).md = e.md := rfl
@[simp] theorem Eng.send_fe (e : Eng) (m : OutMsg) : (e.send m).fe = e.fe := rfl
@[simp] theorem Eng.send_pod (e : Eng) (m : OutMsg) : (e.send m).pod = e.pod := rfl
@[simp] theorem Eng.send_rg (e : Eng) (m : OutMsg) : (e.send m).rg = e.rg := rfl
@[simp] theorem Eng.send_cx (e : Eng) (m : OutMsg) : (e.send m).cx = e.cx := rfl
@[simp] theorem Eng.send_tr (e : Eng) (m : OutMsg) : (e.send m).tr = e.tr := rfl
@[simp] theorem Eng.send_rr (e : Eng) (m : OutMsg) : (e.send m).rr = e.rr := rfl
@[simp] theorem Eng.send_kr (e : Eng) (m : OutMsg) : (e.send m).kr = e.kr := rfl
@[simp] theorem Eng.send_kp (e : Eng) (m : OutMsg) : (e.send m).kp = e.kp := rfl
@[simp] theorem Eng.send_wakeAt (e : Eng) (m : OutMsg) : (e.send m).wakeAt = e.wakeAt := rfl
@[simp] theorem Eng.send_wakeLow (e : Eng) (m : OutMsg) : (e.send m).wakeLow = e.wakeLow := rfl
@[simp] theorem Eng.send_aq (e : Eng) (m : OutMsg) : (e.send m).aq = e.aq := rfl
@[simp] theorem Eng.send_latch (e : Eng) (m : OutMsg) : (e.send m).latch = e.latch := rfl
@[simp] theorem Eng.send_clr (e : Eng) (m : OutMsg) : (e.send m).clr = e.clr := rfl
@[simp] theorem Eng.send_dma (e : Eng) (m : OutMsg) : (e.send m).dma = e.dma := rfl
@[simp] theorem Eng.send_job (e : Eng) (m : OutMsg) : (e.send m).job = e.job := rfl

@[simp] theorem Eng.drawn_regs (e : Eng) : (e.drawn).regs = e.regs := rfl
@[simp] theorem Eng.drawn_act (e : Eng) : (e.drawn).act = e.act := rfl
@[simp] theorem Eng.drawn_img (e : Eng) : (e.drawn).img = e.img := rfl
@[simp] theorem Eng.drawn_now (e : Eng) : (e.drawn).now = e.now := rfl
@[simp] theorem Eng.drawn_ts (e : Eng) : (e.drawn).ts = e.ts := rfl
@[simp] theorem Eng.drawn_wq (e : Eng) : (e.drawn).wq = e.wq := rfl
@[simp] theorem Eng.drawn_out (e : Eng) : (e.drawn).out = e.out := rfl
@[simp] theorem Eng.drawn_evq (e : Eng) : (e.drawn).evq = e.evq := rfl
@[simp] theorem Eng.drawn_ldg (e : Eng) : (e.drawn).ldg = e.ldg := rfl
@[simp] theorem Eng.drawn_vmask (e : Eng) : (e.drawn).vmask = e.vmask := rfl
@[simp] theorem Eng.drawn_pba (e : Eng) : (e.drawn).pba = e.pba := rfl
@[simp] theorem Eng.drawn_hl (e : Eng) : (e.drawn).hl = e.hl := rfl
@[simp] theorem Eng.drawn_tod (e : Eng) : (e.drawn).tod = e.tod := rfl
@[simp] theorem Eng.drawn_steer (e : Eng) : (e.drawn).steer = e.steer := rfl
@[simp] theorem Eng.drawn_tout (e : Eng) : (e.drawn).tout = e.tout := rfl
@[simp] theorem Eng.drawn_clk (e : Eng) : (e.drawn).clk = e.clk := rfl
@[simp] theorem Eng.drawn_mc (e : Eng) : (e.drawn).mc = e.mc := rfl
@[simp] theorem Eng.drawn_sc (e : Eng) : (e.drawn).sc = e.sc := rfl
@[simp] theorem Eng.drawn_vt (e : Eng) : (e.drawn).vt = e.vt := rfl
@[simp] theorem Eng.drawn_nv (e : Eng) : (e.drawn).nv = e.nv := rfl
@[simp] theorem Eng.drawn_cf (e : Eng) : (e.drawn).cf = e.cf := rfl
@[simp] theorem Eng.drawn_cu (e : Eng) : (e.drawn).cu = e.cu := rfl
@[simp] theorem Eng.drawn_se (e : Eng) : (e.drawn).se = e.se := rfl
@[simp] theorem Eng.drawn_pw (e : Eng) : (e.drawn).pw = e.pw := rfl
@[simp] theorem Eng.drawn_tap (e : Eng) : (e.drawn).tap = e.tap := rfl
@[simp] theorem Eng.drawn_dp (e : Eng) : (e.drawn).dp = e.dp := rfl
@[simp] theorem Eng.drawn_ela (e : Eng) : (e.drawn).ela = e.ela := rfl
@[simp] theorem Eng.drawn_paceAt (e : Eng) : (e.drawn).paceAt = e.paceAt := rfl
@[simp] theorem Eng.drawn_md (e : Eng) : (e.drawn).md = e.md := rfl
@[simp] theorem Eng.drawn_fe (e : Eng) : (e.drawn).fe = e.fe := rfl
@[simp] theorem Eng.drawn_pod (e : Eng) : (e.drawn).pod = e.pod := rfl
@[simp] theorem Eng.drawn_rg (e : Eng) : (e.drawn).rg = e.rg := rfl
@[simp] theorem Eng.drawn_cx (e : Eng) : (e.drawn).cx = e.cx := rfl
@[simp] theorem Eng.drawn_tr (e : Eng) : (e.drawn).tr = e.tr := rfl
@[simp] theorem Eng.drawn_rr (e : Eng) : (e.drawn).rr = e.rr := rfl
@[simp] theorem Eng.drawn_kr (e : Eng) : (e.drawn).kr = e.kr := rfl
@[simp] theorem Eng.drawn_kp (e : Eng) : (e.drawn).kp = e.kp := rfl
@[simp] theorem Eng.drawn_wakeAt (e : Eng) : (e.drawn).wakeAt = e.wakeAt := rfl
@[simp] theorem Eng.drawn_wakeLow (e : Eng) : (e.drawn).wakeLow = e.wakeLow := rfl
@[simp] theorem Eng.drawn_aq (e : Eng) : (e.drawn).aq = e.aq := rfl
@[simp] theorem Eng.drawn_latch (e : Eng) : (e.drawn).latch = e.latch := rfl
@[simp] theorem Eng.drawn_clr (e : Eng) : (e.drawn).clr = e.clr := rfl
@[simp] theorem Eng.drawn_dma (e : Eng) : (e.drawn).dma = e.dma := rfl
@[simp] theorem Eng.drawn_job (e : Eng) : (e.drawn).job = e.job := rfl

@[simp] theorem Eng.rd_with_act (e : Eng) (x : RegFile) (g : Fld) : Eng.rd { e with act := x } g = e.rd g := rfl
@[simp] theorem Eng.rd_with_img (e : Eng) (x : RegFile) (g : Fld) : Eng.rd { e with img := x } g = e.rd g := rfl
@[simp] theorem Eng.rd_with_now (e : Eng) (x : Nat) (g : Fld) : Eng.rd { e with now := x } g = e.rd g := rfl
@[simp] theorem Eng.rd_with_ts (e : Eng) (x : Nat) (g : Fld) : Eng.rd { e with ts := x } g = e.rd g := rfl
@[simp] theorem Eng.rd_with_free (e : Eng) (x : Nat) (g : Fld) : Eng.rd { e with free := x } g = e.rd g := rfl
@[simp] theorem Eng.rd_with_wq (e : Eng) (x : List MemOp) (g : Fld) : Eng.rd { e with wq := x } g = e.rd g := rfl
@[simp] theorem Eng.rd_with_out (e : Eng) (x : List OutMsg) (g : Fld) : Eng.rd { e with out := x } g = e.rd g := rfl
@[simp] theorem Eng.rd_with_evq (e : Eng) (x : EvqSt) (g : Fld) : Eng.rd { e with evq := x } g = e.rd g := rfl
@[simp] theorem Eng.rd_with_ldg (e : Eng) (x : LedgerSt) (g : Fld) : Eng.rd { e with ldg := x } g = e.rd g := rfl
@[simp] theorem Eng.rd_with_vmask (e : Eng) (x : Nat) (g : Fld) : Eng.rd { e with vmask := x } g = e.rd g := rfl
@[simp] theorem Eng.rd_with_pba (e : Eng) (x : Nat) (g : Fld) : Eng.rd { e with pba := x } g = e.rd g := rfl
@[simp] theorem Eng.rd_with_hl (e : Eng) (x : LinkSt) (g : Fld) : Eng.rd { e with hl := x } g = e.rd g := rfl
@[simp] theorem Eng.rd_with_tod (e : Eng) (x : TodSt) (g : Fld) : Eng.rd { e with tod := x } g = e.rd g := rfl
@[simp] theorem Eng.rd_with_steer (e : Eng) (x : SteerSt) (g : Fld) : Eng.rd { e with steer := x } g = e.rd g := rfl
@[simp] theorem Eng.rd_with_tout (e : Eng) (x : TimeOut) (g : Fld) : Eng.rd { e with tout := x } g = e.rd g := rfl
@[simp] theorem Eng.rd_with_clk (e : Eng) (x : ClkSt) (g : Fld) : Eng.rd { e with clk := x } g = e.rd g := rfl
@[simp] theorem Eng.rd_with_mc (e : Eng) (x : MemSt) (g : Fld) : Eng.rd { e with mc := x } g = e.rd g := rfl
@[simp] theorem Eng.rd_with_sc (e : Eng) (x : ScrSt) (g : Fld) : Eng.rd { e with sc := x } g = e.rd g := rfl
@[simp] theorem Eng.rd_with_vt (e : Eng) (x : VitSt) (g : Fld) : Eng.rd { e with vt := x } g = e.rd g := rfl
@[simp] theorem Eng.rd_with_nv (e : Eng) (x : NvSt) (g : Fld) : Eng.rd { e with nv := x } g = e.rd g := rfl
@[simp] theorem Eng.rd_with_cf (e : Eng) (x : CfgSt) (g : Fld) : Eng.rd { e with cf := x } g = e.rd g := rfl
@[simp] theorem Eng.rd_with_cu (e : Eng) (x : CurSt) (g : Fld) : Eng.rd { e with cu := x } g = e.rd g := rfl
@[simp] theorem Eng.rd_with_se (e : Eng) (x : SecSt) (g : Fld) : Eng.rd { e with se := x } g = e.rd g := rfl
@[simp] theorem Eng.rd_with_pw (e : Eng) (x : PwrSt) (g : Fld) : Eng.rd { e with pw := x } g = e.rd g := rfl
@[simp] theorem Eng.rd_with_tap (e : Eng) (x : TapSt) (g : Fld) : Eng.rd { e with tap := x } g = e.rd g := rfl
@[simp] theorem Eng.rd_with_dp (e : Eng) (x : DpSt) (g : Fld) : Eng.rd { e with dp := x } g = e.rd g := rfl
@[simp] theorem Eng.rd_with_ela (e : Eng) (x : List ElaTile) (g : Fld) : Eng.rd { e with ela := x } g = e.rd g := rfl
@[simp] theorem Eng.rd_with_paceAt (e : Eng) (x : List (Option Nat)) (g : Fld) : Eng.rd { e with paceAt := x } g = e.rd g := rfl
@[simp] theorem Eng.rd_with_md (e : Eng) (x : ModeSt) (g : Fld) : Eng.rd { e with md := x } g = e.rd g := rfl
@[simp] theorem Eng.rd_with_fe (e : Eng) (x : FeSt) (g : Fld) : Eng.rd { e with fe := x } g = e.rd g := rfl
@[simp] theorem Eng.rd_with_pod (e : Eng) (x : PodSt) (g : Fld) : Eng.rd { e with pod := x } g = e.rd g := rfl
@[simp] theorem Eng.rd_with_rg (e : Eng) (x : List RegionSt) (g : Fld) : Eng.rd { e with rg := x } g = e.rd g := rfl
@[simp] theorem Eng.rd_with_cx (e : Eng) (x : List CtxSt) (g : Fld) : Eng.rd { e with cx := x } g = e.rd g := rfl
@[simp] theorem Eng.rd_with_tr (e : Eng) (x : TrigSt) (g : Fld) : Eng.rd { e with tr := x } g = e.rd g := rfl
@[simp] theorem Eng.rd_with_rr (e : Eng) (x : RrSt) (g : Fld) : Eng.rd { e with rr := x } g = e.rd g := rfl
@[simp] theorem Eng.rd_with_kr (e : Eng) (x : List KeepRing) (g : Fld) : Eng.rd { e with kr := x } g = e.rd g := rfl
@[simp] theorem Eng.rd_with_kp (e : Eng) (x : List KeptSt) (g : Fld) : Eng.rd { e with kp := x } g = e.rd g := rfl
@[simp] theorem Eng.rd_with_wakeAt (e : Eng) (x : Option Nat) (g : Fld) : Eng.rd { e with wakeAt := x } g = e.rd g := rfl
@[simp] theorem Eng.rd_with_wakeLow (e : Eng) (x : Bool) (g : Fld) : Eng.rd { e with wakeLow := x } g = e.rd g := rfl
@[simp] theorem Eng.rd_with_aq (e : Eng) (x : AqSt) (g : Fld) : Eng.rd { e with aq := x } g = e.rd g := rfl
@[simp] theorem Eng.rd_with_latch (e : Eng) (x : RegFile) (g : Fld) : Eng.rd { e with latch := x } g = e.rd g := rfl
@[simp] theorem Eng.rd_with_clr (e : Eng) (x : Option Nat) (g : Fld) : Eng.rd { e with clr := x } g = e.rd g := rfl
@[simp] theorem Eng.rd_with_dma (e : Eng) (x : List DmaSt) (g : Fld) : Eng.rd { e with dma := x } g = e.rd g := rfl
@[simp] theorem Eng.rd_with_job (e : Eng) (x : List JobSt) (g : Fld) : Eng.rd { e with job := x } g = e.rd g := rfl

@[simp] theorem Eng.rda_with_regs (e : Eng) (x : RegFile) (g : Fld) : Eng.rda { e with regs := x } g = e.rda g := rfl
@[simp] theorem Eng.rda_with_img (e : Eng) (x : RegFile) (g : Fld) : Eng.rda { e with img := x } g = e.rda g := rfl
@[simp] theorem Eng.rda_with_now (e : Eng) (x : Nat) (g : Fld) : Eng.rda { e with now := x } g = e.rda g := rfl
@[simp] theorem Eng.rda_with_ts (e : Eng) (x : Nat) (g : Fld) : Eng.rda { e with ts := x } g = e.rda g := rfl
@[simp] theorem Eng.rda_with_free (e : Eng) (x : Nat) (g : Fld) : Eng.rda { e with free := x } g = e.rda g := rfl
@[simp] theorem Eng.rda_with_wq (e : Eng) (x : List MemOp) (g : Fld) : Eng.rda { e with wq := x } g = e.rda g := rfl
@[simp] theorem Eng.rda_with_out (e : Eng) (x : List OutMsg) (g : Fld) : Eng.rda { e with out := x } g = e.rda g := rfl
@[simp] theorem Eng.rda_with_evq (e : Eng) (x : EvqSt) (g : Fld) : Eng.rda { e with evq := x } g = e.rda g := rfl
@[simp] theorem Eng.rda_with_ldg (e : Eng) (x : LedgerSt) (g : Fld) : Eng.rda { e with ldg := x } g = e.rda g := rfl
@[simp] theorem Eng.rda_with_vmask (e : Eng) (x : Nat) (g : Fld) : Eng.rda { e with vmask := x } g = e.rda g := rfl
@[simp] theorem Eng.rda_with_pba (e : Eng) (x : Nat) (g : Fld) : Eng.rda { e with pba := x } g = e.rda g := rfl
@[simp] theorem Eng.rda_with_hl (e : Eng) (x : LinkSt) (g : Fld) : Eng.rda { e with hl := x } g = e.rda g := rfl
@[simp] theorem Eng.rda_with_tod (e : Eng) (x : TodSt) (g : Fld) : Eng.rda { e with tod := x } g = e.rda g := rfl
@[simp] theorem Eng.rda_with_steer (e : Eng) (x : SteerSt) (g : Fld) : Eng.rda { e with steer := x } g = e.rda g := rfl
@[simp] theorem Eng.rda_with_tout (e : Eng) (x : TimeOut) (g : Fld) : Eng.rda { e with tout := x } g = e.rda g := rfl
@[simp] theorem Eng.rda_with_clk (e : Eng) (x : ClkSt) (g : Fld) : Eng.rda { e with clk := x } g = e.rda g := rfl
@[simp] theorem Eng.rda_with_mc (e : Eng) (x : MemSt) (g : Fld) : Eng.rda { e with mc := x } g = e.rda g := rfl
@[simp] theorem Eng.rda_with_sc (e : Eng) (x : ScrSt) (g : Fld) : Eng.rda { e with sc := x } g = e.rda g := rfl
@[simp] theorem Eng.rda_with_vt (e : Eng) (x : VitSt) (g : Fld) : Eng.rda { e with vt := x } g = e.rda g := rfl
@[simp] theorem Eng.rda_with_nv (e : Eng) (x : NvSt) (g : Fld) : Eng.rda { e with nv := x } g = e.rda g := rfl
@[simp] theorem Eng.rda_with_cf (e : Eng) (x : CfgSt) (g : Fld) : Eng.rda { e with cf := x } g = e.rda g := rfl
@[simp] theorem Eng.rda_with_cu (e : Eng) (x : CurSt) (g : Fld) : Eng.rda { e with cu := x } g = e.rda g := rfl
@[simp] theorem Eng.rda_with_se (e : Eng) (x : SecSt) (g : Fld) : Eng.rda { e with se := x } g = e.rda g := rfl
@[simp] theorem Eng.rda_with_pw (e : Eng) (x : PwrSt) (g : Fld) : Eng.rda { e with pw := x } g = e.rda g := rfl
@[simp] theorem Eng.rda_with_tap (e : Eng) (x : TapSt) (g : Fld) : Eng.rda { e with tap := x } g = e.rda g := rfl
@[simp] theorem Eng.rda_with_dp (e : Eng) (x : DpSt) (g : Fld) : Eng.rda { e with dp := x } g = e.rda g := rfl
@[simp] theorem Eng.rda_with_ela (e : Eng) (x : List ElaTile) (g : Fld) : Eng.rda { e with ela := x } g = e.rda g := rfl
@[simp] theorem Eng.rda_with_paceAt (e : Eng) (x : List (Option Nat)) (g : Fld) : Eng.rda { e with paceAt := x } g = e.rda g := rfl
@[simp] theorem Eng.rda_with_md (e : Eng) (x : ModeSt) (g : Fld) : Eng.rda { e with md := x } g = e.rda g := rfl
@[simp] theorem Eng.rda_with_fe (e : Eng) (x : FeSt) (g : Fld) : Eng.rda { e with fe := x } g = e.rda g := rfl
@[simp] theorem Eng.rda_with_pod (e : Eng) (x : PodSt) (g : Fld) : Eng.rda { e with pod := x } g = e.rda g := rfl
@[simp] theorem Eng.rda_with_rg (e : Eng) (x : List RegionSt) (g : Fld) : Eng.rda { e with rg := x } g = e.rda g := rfl
@[simp] theorem Eng.rda_with_cx (e : Eng) (x : List CtxSt) (g : Fld) : Eng.rda { e with cx := x } g = e.rda g := rfl
@[simp] theorem Eng.rda_with_tr (e : Eng) (x : TrigSt) (g : Fld) : Eng.rda { e with tr := x } g = e.rda g := rfl
@[simp] theorem Eng.rda_with_rr (e : Eng) (x : RrSt) (g : Fld) : Eng.rda { e with rr := x } g = e.rda g := rfl
@[simp] theorem Eng.rda_with_kr (e : Eng) (x : List KeepRing) (g : Fld) : Eng.rda { e with kr := x } g = e.rda g := rfl
@[simp] theorem Eng.rda_with_kp (e : Eng) (x : List KeptSt) (g : Fld) : Eng.rda { e with kp := x } g = e.rda g := rfl
@[simp] theorem Eng.rda_with_wakeAt (e : Eng) (x : Option Nat) (g : Fld) : Eng.rda { e with wakeAt := x } g = e.rda g := rfl
@[simp] theorem Eng.rda_with_wakeLow (e : Eng) (x : Bool) (g : Fld) : Eng.rda { e with wakeLow := x } g = e.rda g := rfl
@[simp] theorem Eng.rda_with_aq (e : Eng) (x : AqSt) (g : Fld) : Eng.rda { e with aq := x } g = e.rda g := rfl
@[simp] theorem Eng.rda_with_latch (e : Eng) (x : RegFile) (g : Fld) : Eng.rda { e with latch := x } g = e.rda g := rfl
@[simp] theorem Eng.rda_with_clr (e : Eng) (x : Option Nat) (g : Fld) : Eng.rda { e with clr := x } g = e.rda g := rfl
@[simp] theorem Eng.rda_with_dma (e : Eng) (x : List DmaSt) (g : Fld) : Eng.rda { e with dma := x } g = e.rda g := rfl
@[simp] theorem Eng.rda_with_job (e : Eng) (x : List JobSt) (g : Fld) : Eng.rda { e with job := x } g = e.rda g := rfl

@[simp] theorem Eng.rd_emit (e : Eng) (o : MemOp) (g : Fld) : (e.emit o).rd g = e.rd g := rfl
@[simp] theorem Eng.rd_send (e : Eng) (m : OutMsg) (g : Fld) : (e.send m).rd g = e.rd g := rfl
@[simp] theorem Eng.rd_drawn (e : Eng) (g : Fld) : e.drawn.rd g = e.rd g := rfl
@[simp] theorem Eng.rd_wra (e : Eng) (f : Fld) (v : Nat) (g : Fld) : (e.wra f v).rd g = e.rd g := rfl
@[simp] theorem Eng.rda_emit (e : Eng) (o : MemOp) (g : Fld) : (e.emit o).rda g = e.rda g := rfl
@[simp] theorem Eng.rda_send (e : Eng) (m : OutMsg) (g : Fld) : (e.send m).rda g = e.rda g := rfl
@[simp] theorem Eng.rda_drawn (e : Eng) (g : Fld) : e.drawn.rda g = e.rda g := rfl
@[simp] theorem Eng.rda_wr (e : Eng) (f : Fld) (v : Nat) (g : Fld) : (e.wr f v).rda g = e.rda g := rfl
@[simp] theorem Eng.send_out (e : Eng) (m : OutMsg) : (e.send m).out = e.out ++ [m] := rfl
@[simp] theorem Eng.emit_wq (e : Eng) (o : MemOp) : (e.emit o).wq = e.wq ++ [o] := rfl
@[simp] theorem Eng.drawn_free (e : Eng) : e.drawn.free = e.free + 1 := rfl

end Machine
end Sys2Proof
end

