-- ==== Sys2Proof/Laws/Regs.lean ====
section
/-!
SUPPORT. The laws of the register file: a read after a write of the same field gives the value written, modulo the field's
width; a write leaves every other field alone; the register file keeps its order.
-/
namespace Sys2Proof
namespace Machine

theorem rfFind_insert_same (r : RegFile) (k v : Nat) : rfFind (rfInsert r k v) k = some v := by
  induction r with
  | nil => simp [rfInsert, rfFind]
  | cons a r ih =>
    obtain ⟨a1, a2⟩ := a
    simp only [rfInsert]
    split
    · simp [rfFind]
    · split
      · simp [rfFind]
      · rename_i h1 h2
        simp only [rfFind, ih]
        rw [if_neg (by omega)]

theorem rfFind_insert_other (r : RegFile) (k v q : Nat) (h : k ≠ q) : rfFind (rfInsert r k v) q = rfFind r q := by
  induction r with
  | nil => simp [rfInsert, rfFind, h]
  | cons a r ih =>
    obtain ⟨a1, a2⟩ := a
    simp only [rfInsert]
    split
    · simp [rfFind, h]
    · split
      · rename_i h1 h2
        subst h2
        simp [rfFind, h]
      · simp [rfFind, ih]

theorem rfFind_filter (r : RegFile) (p : Nat → Bool) (q : Nat) :
    rfFind (r.filter fun x => p x.1) q = if p q then rfFind r q else none := by
  induction r with
  | nil => simp [rfFind]
  | cons a r ih =>
    obtain ⟨a1, a2⟩ := a
    by_cases ha : p a1
    · simp only [List.filter_cons, ha, if_true, rfFind, ih]
      by_cases hq : a1 = q
      · subst hq; simp [ha]
      · simp [hq]
    · simp only [List.filter_cons, ha, rfFind, ih]
      by_cases hq : a1 = q
      · subst hq; simp [ha, ih]
      · simp [hq, ih]

theorem rfFind_erase (r : RegFile) (k q : Nat) : rfFind (rfErase r k) q = if k = q then none else rfFind r q := by
  have h := rfFind_filter r (fun x => x != k) q
  simp only [rfErase, h]
  by_cases hk : k = q
  · simp [hk]
  · have : q ≠ k := fun h => hk h.symm
    simp [hk, this]

theorem rfGet_set_same (r : RegFile) (f : Fld) (v : Nat) : rfGet (rfSet r f v) f = v % 2 ^ f.width := by
  unfold rfGet rfSet
  split
  · rename_i h; rw [rfFind_erase]; simp [h]
  · rw [rfFind_insert_same]; rfl

theorem rfGet_set_other (r : RegFile) (f g : Fld) (v : Nat) (h : f.key ≠ g.key) : rfGet (rfSet r f v) g = rfGet r g := by
  unfold rfGet rfSet
  split
  · rw [rfFind_erase]; simp [h]
  · rw [rfFind_insert_other _ _ _ _ h]

/-- A read after a write of the same field. -/
@[simp] theorem Eng.rd_wr (e : Eng) (f : Fld) (v : Nat) : (e.wr f v).rd f = v % 2 ^ f.width := rfGet_set_same _ _ _

/-- A write leaves every other field alone. -/
theorem Eng.rd_wr_other (e : Eng) {f g : Fld} (v : Nat) (h : f.key ≠ g.key) : (e.wr f v).rd g = e.rd g :=
  rfGet_set_other _ _ _ _ h

@[simp] theorem Eng.rda_wra (e : Eng) (f : Fld) (v : Nat) : (e.wra f v).rda f = v % 2 ^ f.width := rfGet_set_same _ _ _

theorem Eng.rda_wra_other (e : Eng) {f g : Fld} (v : Nat) (h : f.key ≠ g.key) : (e.wra f v).rda g = e.rda g :=
  rfGet_set_other _ _ _ _ h

/-! ### Order -/

theorem rfSorted_iff (r : RegFile) : rfSorted r = true ↔ r.Pairwise fun a b => a.1 < b.1 := by
  induction r with
  | nil => simp [rfSorted]
  | cons a r ih =>
    cases r with
    | nil => simp [rfSorted]
    | cons b r =>
      simp only [rfSorted, Bool.and_eq_true, decide_eq_true_eq, ih, List.pairwise_cons]
      constructor
      · rintro ⟨h, h2, h3⟩
        refine ⟨?_, h2, h3⟩
        intro c hc
        rcases List.mem_cons.1 hc with rfl | hc
        · exact h
        · exact lt_trans h (h2 c hc)
      · rintro ⟨h1, h2, h3⟩
        exact ⟨h1 b (by simp), h2, h3⟩

theorem rfInsert_mem (r : RegFile) (k v : Nat) (p : Nat × Nat) (h : p ∈ rfInsert r k v) : p = (k, v) ∨ p ∈ r := by
  induction r with
  | nil => simpa [rfInsert] using h
  | cons a r ih =>
    obtain ⟨a1, a2⟩ := a
    simp only [rfInsert] at h
    split at h
    · simpa using h
    · split at h
      · rcases List.mem_cons.1 h with h | h
        · exact .inl h
        · exact .inr (by simp [h])
      · rcases List.mem_cons.1 h with h | h
        · exact .inr (by simp [h])
        · rcases ih h with h | h
          · exact .inl h
          · exact .inr (by simp [h])

theorem rfInsert_sorted (r : RegFile) (k v : Nat) (h : rfSorted r = true) : rfSorted (rfInsert r k v) = true := by
  rw [rfSorted_iff] at h ⊢
  induction r with
  | nil => simp [rfInsert]
  | cons a r ih =>
    obtain ⟨a1, a2⟩ := a
    obtain ⟨h1, h2⟩ := List.pairwise_cons.1 h
    simp only [rfInsert]
    split
    · rename_i hk
      refine List.pairwise_cons.2 ⟨?_, h⟩
      intro c hc
      rcases List.mem_cons.1 hc with rfl | hc
      · exact hk
      · exact lt_trans hk (h1 c hc)
    · split
      · rename_i hk; subst hk
        exact List.pairwise_cons.2 ⟨h1, h2⟩
      · rename_i hk hk2
        refine List.pairwise_cons.2 ⟨?_, ih h2⟩
        intro c hc
        rcases rfInsert_mem _ _ _ _ hc with rfl | hc
        · show a1 < k; omega
        · exact h1 c hc

/-- A write keeps the register file in order. -/
theorem rfSet_sorted (r : RegFile) (f : Fld) (v : Nat) (h : rfSorted r = true) : rfSorted (rfSet r f v) = true := by
  unfold rfSet
  split
  · rw [rfSorted_iff] at h ⊢
    exact h.filter _
  · exact rfInsert_sorted _ _ _ h

end Machine
end Sys2Proof
end

