-- ==== Sys2Proof/Laws/Outcome.lean ====
section
/-!
SUPPORT. What the ways in which a command runs can answer (Ops.lean, Security.lean, Access.lean, Startup.lean): always a next
state, the queue as it was, the memories changed by the writes the command issued only, no write left over.
-/
namespace Sys2Proof
namespace Machine

/-- Everything a command's wrapper can do: the engine of the next state has no write left over, the memories are the old
ones with writes applied, and the queue is unchanged. -/
def Ran (s t : State) : Prop := t.pending = s.pending ∧ (∃ os, t.mem = s.mem.applyAll os) ∧ (t.eng = s.eng ∨ t.eng.wq = [])

theorem onEng_ran (s : State) (f : Eng → Eng) : ∃ t, onEng s f = .next t ∧ Ran s t := by
  unfold onEng
  split
  · exact ⟨s, rfl, rfl, ⟨[], rfl⟩, .inl rfl⟩
  · exact ⟨_, rfl, rfl, ⟨[], rfl⟩, .inr rfl⟩

theorem applyMem_ran (s : State) (f : Eng → Mems → Eng) : ∃ t, applyMem s f = .next t ∧ Ran s t :=
  ⟨_, rfl, rfl, ⟨_, rfl⟩, .inr rfl⟩

theorem onMem_ran (s : State) (f : Eng → Mems → Eng) : ∃ t, onMem s f = .next t ∧ Ran s t := by
  unfold onMem
  split
  · exact ⟨s, rfl, rfl, ⟨[], rfl⟩, .inl rfl⟩
  · exact applyMem_ran s f

/-- While the core is up, a command without memory writes gives what its function gives. -/
theorem onEng_up (s : State) (f : Eng → Eng) (h : s.eng.down = false) :
    onEng s f = .next { s with eng := { f s.eng with wq := [] } } := by simp [onEng, h]

theorem onMem_up (s : State) (f : Eng → Mems → Eng) (h : s.eng.down = false) : onMem s f = applyMem s f := by simp [onMem, h]

/-- While the core is held, nothing happens. -/
theorem onEng_down (s : State) (f : Eng → Eng) (h : s.eng.down = true) : onEng s f = .next s := by simp [onEng, h]

theorem onMem_down (s : State) (f : Eng → Mems → Eng) (h : s.eng.down = true) : onMem s f = .next s := by simp [onMem, h]

end Machine
end Sys2Proof
end

