-- ==== Sys2Proof/Laws/Report.lean ====
section
/-!
SUPPORT. What raising an event bit and posting a Ledger cause can do (R335 to R341, R393, R394, R458): the bit is set; besides it
only the fields of `reportKeys` change, and the event FIFO, the Ledger queue, the messages sent, the pending bits of MSI-X.
-/
namespace Sys2Proof
namespace Machine

/-- Is a field none of those that a report changes? -/
def Still (g : Fld) : Prop := g.key ∉ reportKeys

theorem still_ne {g : Fld} (h : Still g) {k : Nat} (hk : k ∈ reportKeys) : k ≠ g.key := fun e => h (e ▸ hk)

theorem wrb_eq (e : Eng) (f : Fld) (b : Bool) : e.wrb f b = e.wr f (if b then 1 else 0) := rfl
theorem wrBit_eq (e : Eng) (f : Fld) (i : Nat) (b : Bool) : e.wrBit f i b = e.wr f (putNatBit (e.rd f) i b) := rfl
theorem addSat_eq (e : Eng) (f : Fld) (n : Nat) : e.addSat f n = e.wr f (min (e.rd f + n) (2 ^ f.width - 1)) := rfl
theorem addWrap_eq (e : Eng) (f : Fld) (n : Nat) : e.addWrap f n = e.wr f (e.rd f + n) := rfl
theorem wrq_eq (e : Eng) (q : Fld2) (v : Nat) : e.wrq q v = (e.wr q.lo (v % 2 ^ 32)).wr q.hi (v / 2 ^ 32) := rfl

theorem hush_wr (e : Eng) (f : Fld) (v : Nat) : (e.wr f v).hush = e.hush := rfl

theorem putService_hush (e : Eng) (v : Nat) (b : Bool) : (putService e v b).hush = e.hush := rfl

theorem putService_rd (e : Eng) (v : Nat) (b : Bool) {g : Fld} (h : Still g) : (putService e v b).rd g = e.rd g := by
  unfold putService
  rw [wrq_eq, Eng.rd_wr_other _ _ (still_ne h (by simp [reportKeys, HOST_IRQ_INSVC])),
    Eng.rd_wr_other _ _ (still_ne h (by simp [reportKeys, HOST_IRQ_INSVC]))]

theorem irqMessage_hush (v : Nat) (e : Eng) : (irqMessage v e).hush = e.hush := by
  unfold irqMessage
  repeat' split
  all_goals rfl

theorem irqMessage_rd (v : Nat) (e : Eng) {g : Fld} (h : Still g) : (irqMessage v e).rd g = e.rd g := by
  unfold irqMessage
  repeat' split
  all_goals first
    | rfl
    | rw [putService_rd _ _ _ h]; rfl
    | rw [wrBit_eq, Eng.rd_wr_other _ _ (still_ne h (by simp [reportKeys]))]

theorem evqPush_hush (x : Nat) (e : Eng) : (evqPush x e).hush = e.hush := by
  unfold evqPush
  split <;> rfl

theorem evqPush_rd (x : Nat) (e : Eng) {g : Fld} (h : Still g) : (evqPush x e).rd g = e.rd g := by
  unfold evqPush
  split
  · simp only [evqCount]
    rw [Eng.rd_wr_other _ _ (still_ne h (by simp [reportKeys]))]
    rfl
  · show (e.addSat HOST_EVQ_STAT_LOST 1).rd g = _
    rw [addSat_eq, Eng.rd_wr_other _ _ (still_ne h (by simp [reportKeys]))]

theorem ldgPush_hush (c : Cause) (e : Eng) : (ldgPush c e).hush = e.hush := by
  unfold ldgPush
  split <;> rfl

theorem ldgPush_rd (c : Cause) (e : Eng) {g : Fld} (h : Still g) : (ldgPush c e).rd g = e.rd g := by
  unfold ldgPush
  split
  · rw [Eng.rd_wr_other _ _ (still_ne h (by simp [reportKeys]))]
    rfl
  · rw [addSat_eq, Eng.rd_wr_other _ _ (still_ne h (by simp [reportKeys]))]
    rfl

section Raise

variable {r : Fld → Nat → Eng → Eng}

theorem evNote_hush (hr : ∀ f i e, (r f i e).hush = e.hush) (b : Bool) (x : Nat) (e : Eng) : (evNote r b x e).hush = e.hush := by
  unfold evNote
  repeat' split
  all_goals simp only [hr, evqPush_hush]

theorem evPost_hush (hr : ∀ f i e, (r f i e).hush = e.hush) (v : Option Nat) (c : Cause) (e : Eng) :
    (evPost r v c e).hush = e.hush := by
  unfold evPost
  repeat' split
  all_goals simp only [hr, ldgPush_hush]

theorem evWake_hush (hr : ∀ f i e, (r f i e).hush = e.hush) (b : Bool) (v : Option Nat) (e : Eng) : (evWake r b v e).hush = e.hush := by
  unfold evWake
  split <;> simp only [hr]

theorem evSend_hush (a : Eng) (v : Option Nat) (e : Eng) : (evSend a v e).hush = e.hush := by
  unfold evSend
  repeat' split
  all_goals simp only [irqMessage_hush]

/-- A function that raises event bits leaves a field alone. -/
def Leaves (r : Fld → Nat → Eng → Eng) (g : Fld) : Prop := ∀ f i e, f.key ∈ reportKeys → (r f i e).rd g = e.rd g

theorem evNote_rd {g : Fld} (h : Still g) (hr : Leaves r g) (b : Bool) (x : Nat) (e : Eng) : (evNote r b x e).rd g = e.rd g := by
  unfold evNote
  repeat' split
  · rfl
  · exact evqPush_rd _ _ h
  · rw [hr _ _ _ (by simp [reportKeys]), evqPush_rd _ _ h]

theorem evPost_rd {g : Fld} (h : Still g) (hr : Leaves r g) (v : Option Nat) (c : Cause) (e : Eng) :
    (evPost r v c e).rd g = e.rd g := by
  unfold evPost
  repeat' split
  · rfl
  · rw [hr _ _ _ (by simp [reportKeys]), ldgPush_rd _ _ h]
  · exact ldgPush_rd _ _ h

theorem evWake_rd {g : Fld} (hr : Leaves r g) (b : Bool) (v : Option Nat) (e : Eng) : (evWake r b v e).rd g = e.rd g := by
  unfold evWake
  split
  · exact hr _ _ _ (by simp [reportKeys])
  · rfl

theorem evSend_rd {g : Fld} (h : Still g) (a : Eng) (v : Option Nat) (e : Eng) : (evSend a v e).rd g = e.rd g := by
  unfold evSend
  repeat' split
  · exact irqMessage_rd _ _ h
  · rfl
  · rfl

end Raise

/-- Raising an event bit changes nothing but registers and what a report may change. -/
theorem raiseAt_hush (n : Nat) (f : Fld) (i : Nat) (d : List Byte) (e : Eng) : (raiseAt n f i d e).hush = e.hush := by
  induction n generalizing f i d e with
  | zero => rfl
  | succ n ih =>
    unfold raiseAt
    split
    · rfl
    · rw [evSend_hush, evWake_hush (fun f i e => ih f i [] e), evPost_hush (fun f i e => ih f i [] e),
        evNote_hush (fun f i e => ih f i [] e)]
      rfl

/-- Raising an event bit leaves every other field alone, but for those of `reportKeys`. -/
theorem raiseAt_rd (n : Nat) (f : Fld) (i : Nat) (d : List Byte) (e : Eng) {g : Fld} (hf : f.key ≠ g.key) (h : Still g) :
    (raiseAt n f i d e).rd g = e.rd g := by
  induction n generalizing f i d e with
  | zero => exact Eng.rd_wr_other _ _ hf
  | succ n ih =>
    have hl : Leaves (fun f i a => raiseAt n f i [] a) g := fun f i e hk => ih f i [] e (still_ne h hk)
    unfold raiseAt
    split
    · rfl
    · rw [evSend_rd h, evWake_rd hl, evPost_rd h hl, evNote_rd h hl]
      exact Eng.rd_wr_other _ _ hf

/-- Bit `i` of a number in which it has been set. -/
theorem natBit_setNatBit (x i : Nat) : natBit (setNatBit x i) i = true := by
  unfold setNatBit
  split
  · assumption
  · rename_i h
    have hp : 0 < 2 ^ i := Nat.pos_of_ne_zero (by positivity)
    have h2 : x / 2 ^ i % 2 = 0 := by
      simp only [natBit, beq_iff_eq] at h
      omega
    have h3 : (x + 2 ^ i) / 2 ^ i = x / 2 ^ i + 1 := Nat.add_div_right x hp
    simp only [natBit, beq_iff_eq, h3]
    omega

theorem natBit_mod (x i w : Nat) (h : i < w) : natBit (x % 2 ^ w) i = natBit x i := by
  have h1 : x % 2 ^ w / 2 ^ i % 2 = x / 2 ^ i % 2 := by
    have hw : w = i + (w - i) := by omega
    rw [hw, pow_add, Nat.mod_mul_right_div_self]
    exact Nat.mod_mod_of_dvd _ (dvd_pow_self 2 (by omega))
  simp [natBit, h1]

/-- The event bit is 1 after it has been raised. -/
theorem raiseAt_bit (n : Nat) (f : Fld) (i : Nat) (d : List Byte) (e : Eng) (hi : i < f.width) (h : Still f) :
    (raiseAt n f i d e).bit f i = true := by
  have hw : (e.wrBit f i true).bit f i = true := by
    simp only [Eng.bit, wrBit_eq, Eng.rd_wr, putNatBit, if_true]
    rw [natBit_mod _ _ _ hi, natBit_setNatBit]
  cases n with
  | zero => exact hw
  | succ n =>
    have hl : Leaves (fun f i a => raiseAt n f i [] a) f := fun g i e hk => raiseAt_rd n g i [] e (still_ne h hk) h
    unfold raiseAt
    split
    · assumption
    · unfold Eng.bit at hw ⊢
      rw [evSend_rd h, evWake_rd hl, evPost_rd h hl, evNote_rd h hl]
      exact hw

theorem raise_hush (e : Eng) (f : Fld) (i : Nat) : (e.raise f i).hush = e.hush := raiseAt_hush _ _ _ _ _
theorem raise_rd (e : Eng) (f : Fld) (i : Nat) {g : Fld} (hf : f.key ≠ g.key) (h : Still g) : (e.raise f i).rd g = e.rd g :=
  raiseAt_rd _ _ _ _ _ hf h
theorem raise_bit (e : Eng) (f : Fld) (i : Nat) (hi : i < f.width) (h : Still f) : (e.raise f i).bit f i = true :=
  raiseAt_bit _ _ _ _ _ hi h

theorem post_hush (e : Eng) (c v : Nat) (d : List Byte) : (e.post c v d).hush = e.hush := by
  unfold Eng.post
  simp only []
  split
  · rw [raiseAt_hush, ldgPush_hush]
  · rw [ldgPush_hush]

theorem post_rd (e : Eng) (c v : Nat) (d : List Byte) {g : Fld} (h : Still g) : (e.post c v d).rd g = e.rd g := by
  unfold Eng.post
  simp only []
  split
  · rw [raiseAt_rd _ _ _ _ _ (still_ne h (by simp [reportKeys])) h, ldgPush_rd _ _ h]
  · rw [ldgPush_rd _ _ h]

theorem postCur_hush (e : Eng) (c v : Nat) (d : List Byte) : (e.postCur c v d).hush = e.hush := post_hush _ _ _ _
theorem postCur_rd (e : Eng) (c v : Nat) (d : List Byte) {g : Fld} (h : Still g) : (e.postCur c v d).rd g = e.rd g :=
  post_rd _ _ _ _ h
theorem postEv_hush (e : Eng) (f : Fld) (i : Nat) (d : List Byte) : (e.postEv f i d).hush = e.hush := post_hush _ _ _ _
theorem postEv_rd (e : Eng) (f : Fld) (i : Nat) (d : List Byte) {g : Fld} (h : Still g) : (e.postEv f i d).rd g = e.rd g :=
  post_rd _ _ _ _ h

theorem raisePost_hush (e : Eng) (f : Fld) (i : Nat) (d : List Byte) : (e.raisePost f i d).hush = e.hush := by
  unfold Eng.raisePost Eng.raiseWith
  repeat' split
  all_goals simp only [postEv_hush, raise_hush, raiseAt_hush]

theorem raisePost_rd (e : Eng) (f : Fld) (i : Nat) (d : List Byte) {g : Fld} (hf : f.key ≠ g.key) (h : Still g) :
    (e.raisePost f i d).rd g = e.rd g := by
  unfold Eng.raisePost Eng.raiseWith
  repeat' split
  all_goals simp only [postEv_rd _ _ _ _ h, raise_rd _ _ _ hf h, raiseAt_rd _ _ _ _ _ hf h]

theorem raisePost_bit (e : Eng) (f : Fld) (i : Nat) (d : List Byte) (hi : i < f.width) (h : Still f) :
    (e.raisePost f i d).bit f i = true := by
  unfold Eng.raisePost Eng.raiseWith
  repeat' split
  · exact raiseAt_bit _ _ _ _ _ hi h
  · simp only [Eng.bit, postEv_rd _ _ _ _ h]; exact raise_bit _ _ _ hi h
  · simp only [Eng.bit, postEv_rd _ _ _ _ h]; exact raise_bit _ _ _ hi h

end Machine
end Sys2Proof
end

