-- ==== Sys2Proof/Laws/ReportFields.lean ====
section
/-!
SUPPORT. The fields of the engine that a report leaves alone, one lemma each.
-/
namespace Sys2Proof
namespace Machine

@[simp] theorem raise_act (e : Eng) (f : Fld) (i : Nat) : (e.raise f i).act = e.act := by have h := congrArg Eng.act (raise_hush e f i); exact h
@[simp] theorem raise_img (e : Eng) (f : Fld) (i : Nat) : (e.raise f i).img = e.img := by have h := congrArg Eng.img (raise_hush e f i); exact h
@[simp] theorem raise_now (e : Eng) (f : Fld) (i : Nat) : (e.raise f i).now = e.now := by have h := congrArg Eng.now (raise_hush e f i); exact h
@[simp] theorem raise_ts (e : Eng) (f : Fld) (i : Nat) : (e.raise f i).ts = e.ts := by have h := congrArg Eng.ts (raise_hush e f i); exact h
@[simp] theorem raise_free (e : Eng) (f : Fld) (i : Nat) : (e.raise f i).free = e.free := by have h := congrArg Eng.free (raise_hush e f i); exact h
@[simp] theorem raise_wq (e : Eng) (f : Fld) (i : Nat) : (e.raise f i).wq = e.wq := by have h := congrArg Eng.wq (raise_hush e f i); exact h
@[simp] theorem raise_vmask (e : Eng) (f : Fld) (i : Nat) : (e.raise f i).vmask = e.vmask := by have h := congrArg Eng.vmask (raise_hush e f i); exact h
@[simp] theorem raise_hl (e : Eng) (f : Fld) (i : Nat) : (e.raise f i).hl = e.hl := by have h := congrArg Eng.hl (raise_hush e f i); exact h
@[simp] theorem raise_tod (e : Eng) (f : Fld) (i : Nat) : (e.raise f i).tod = e.tod := by have h := congrArg Eng.tod (raise_hush e f i); exact h
@[simp] theorem raise_steer (e : Eng) (f : Fld) (i : Nat) : (e.raise f i).steer = e.steer := by have h := congrArg Eng.steer (raise_hush e f i); exact h
@[simp] theorem raise_tout (e : Eng) (f : Fld) (i : Nat) : (e.raise f i).tout = e.tout := by have h := congrArg Eng.tout (raise_hush e f i); exact h
@[simp] theorem raise_clk (e : Eng) (f : Fld) (i : Nat) : (e.raise f i).clk = e.clk := by have h := congrArg Eng.clk (raise_hush e f i); exact h
@[simp] theorem raise_mc (e : Eng) (f : Fld) (i : Nat) : (e.raise f i).mc = e.mc := by have h := congrArg Eng.mc (raise_hush e f i); exact h
@[simp] theorem raise_sc (e : Eng) (f : Fld) (i : Nat) : (e.raise f i).sc = e.sc := by have h := congrArg Eng.sc (raise_hush e f i); exact h
@[simp] theorem raise_vt (e : Eng) (f : Fld) (i : Nat) : (e.raise f i).vt = e.vt := by have h := congrArg Eng.vt (raise_hush e f i); exact h
@[simp] theorem raise_nv (e : Eng) (f : Fld) (i : Nat) : (e.raise f i).nv = e.nv := by have h := congrArg Eng.nv (raise_hush e f i); exact h
@[simp] theorem raise_cf (e : Eng) (f : Fld) (i : Nat) : (e.raise f i).cf = e.cf := by have h := congrArg Eng.cf (raise_hush e f i); exact h
@[simp] theorem raise_cu (e : Eng) (f : Fld) (i : Nat) : (e.raise f i).cu = e.cu := by have h := congrArg Eng.cu (raise_hush e f i); exact h
@[simp] theorem raise_se (e : Eng) (f : Fld) (i : Nat) : (e.raise f i).se = e.se := by have h := congrArg Eng.se (raise_hush e f i); exact h
@[simp] theorem raise_pw (e : Eng) (f : Fld) (i : Nat) : (e.raise f i).pw = e.pw := by have h := congrArg Eng.pw (raise_hush e f i); exact h
@[simp] theorem raise_tap (e : Eng) (f : Fld) (i : Nat) : (e.raise f i).tap = e.tap := by have h := congrArg Eng.tap (raise_hush e f i); exact h
@[simp] theorem raise_dp (e : Eng) (f : Fld) (i : Nat) : (e.raise f i).dp = e.dp := by have h := congrArg Eng.dp (raise_hush e f i); exact h
@[simp] theorem raise_ela (e : Eng) (f : Fld) (i : Nat) : (e.raise f i).ela = e.ela := by have h := congrArg Eng.ela (raise_hush e f i); exact h
@[simp] theorem raise_paceAt (e : Eng) (f : Fld) (i : Nat) : (e.raise f i).paceAt = e.paceAt := by have h := congrArg Eng.paceAt (raise_hush e f i); exact h
@[simp] theorem raise_md (e : Eng) (f : Fld) (i : Nat) : (e.raise f i).md = e.md := by have h := congrArg Eng.md (raise_hush e f i); exact h
@[simp] theorem raise_fe (e : Eng) (f : Fld) (i : Nat) : (e.raise f i).fe = e.fe := by have h := congrArg Eng.fe (raise_hush e f i); exact h
@[simp] theorem raise_pod (e : Eng) (f : Fld) (i : Nat) : (e.raise f i).pod = e.pod := by have h := congrArg Eng.pod (raise_hush e f i); exact h
@[simp] theorem raise_rg (e : Eng) (f : Fld) (i : Nat) : (e.raise f i).rg = e.rg := by have h := congrArg Eng.rg (raise_hush e f i); exact h
@[simp] theorem raise_cx (e : Eng) (f : Fld) (i : Nat) : (e.raise f i).cx = e.cx := by have h := congrArg Eng.cx (raise_hush e f i); exact h
@[simp] theorem raise_tr (e : Eng) (f : Fld) (i : Nat) : (e.raise f i).tr = e.tr := by have h := congrArg Eng.tr (raise_hush e f i); exact h
@[simp] theorem raise_rr (e : Eng) (f : Fld) (i : Nat) : (e.raise f i).rr = e.rr := by have h := congrArg Eng.rr (raise_hush e f i); exact h
@[simp] theorem raise_kr (e : Eng) (f : Fld) (i : Nat) : (e.raise f i).kr = e.kr := by have h := congrArg Eng.kr (raise_hush e f i); exact h
@[simp] theorem raise_kp (e : Eng) (f : Fld) (i : Nat) : (e.raise f i).kp = e.kp := by have h := congrArg Eng.kp (raise_hush e f i); exact h
@[simp] theorem raise_wakeAt (e : Eng) (f : Fld) (i : Nat) : (e.raise f i).wakeAt = e.wakeAt := by have h := congrArg Eng.wakeAt (raise_hush e f i); exact h
@[simp] theorem raise_wakeLow (e : Eng) (f : Fld) (i : Nat) : (e.raise f i).wakeLow = e.wakeLow := by have h := congrArg Eng.wakeLow (raise_hush e f i); exact h
@[simp] theorem raise_aq (e : Eng) (f : Fld) (i : Nat) : (e.raise f i).aq = e.aq := by have h := congrArg Eng.aq (raise_hush e f i); exact h
@[simp] theorem raise_latch (e : Eng) (f : Fld) (i : Nat) : (e.raise f i).latch = e.latch := by have h := congrArg Eng.latch (raise_hush e f i); exact h
@[simp] theorem raise_clr (e : Eng) (f : Fld) (i : Nat) : (e.raise f i).clr = e.clr := by have h := congrArg Eng.clr (raise_hush e f i); exact h
@[simp] theorem raise_dma (e : Eng) (f : Fld) (i : Nat) : (e.raise f i).dma = e.dma := by have h := congrArg Eng.dma (raise_hush e f i); exact h
@[simp] theorem raise_job (e : Eng) (f : Fld) (i : Nat) : (e.raise f i).job = e.job := by have h := congrArg Eng.job (raise_hush e f i); exact h
@[simp] theorem raise_rda (e : Eng) (f : Fld) (i : Nat) (g : Fld) : (e.raise f i).rda g = e.rda g := by unfold Eng.rda; rw [raise_act e f i]

@[simp] theorem raisePost_act (e : Eng) (f : Fld) (i : Nat) (d : List Byte) : (e.raisePost f i d).act = e.act := by have h := congrArg Eng.act (raisePost_hush e f i d); exact h
@[simp] theorem raisePost_img (e : Eng) (f : Fld) (i : Nat) (d : List Byte) : (e.raisePost f i d).img = e.img := by have h := congrArg Eng.img (raisePost_hush e f i d); exact h
@[simp] theorem raisePost_now (e : Eng) (f : Fld) (i : Nat) (d : List Byte) : (e.raisePost f i d).now = e.now := by have h := congrArg Eng.now (raisePost_hush e f i d); exact h
@[simp] theorem raisePost_ts (e : Eng) (f : Fld) (i : Nat) (d : List Byte) : (e.raisePost f i d).ts = e.ts := by have h := congrArg Eng.ts (raisePost_hush e f i d); exact h
@[simp] theorem raisePost_free (e : Eng) (f : Fld) (i : Nat) (d : List Byte) : (e.raisePost f i d).free = e.free := by have h := congrArg Eng.free (raisePost_hush e f i d); exact h
@[simp] theorem raisePost_wq (e : Eng) (f : Fld) (i : Nat) (d : List Byte) : (e.raisePost f i d).wq = e.wq := by have h := congrArg Eng.wq (raisePost_hush e f i d); exact h
@[simp] theorem raisePost_vmask (e : Eng) (f : Fld) (i : Nat) (d : List Byte) : (e.raisePost f i d).vmask = e.vmask := by have h := congrArg Eng.vmask (raisePost_hush e f i d); exact h
@[simp] theorem raisePost_hl (e : Eng) (f : Fld) (i : Nat) (d : List Byte) : (e.raisePost f i d).hl = e.hl := by have h := congrArg Eng.hl (raisePost_hush e f i d); exact h
@[simp] theorem raisePost_tod (e : Eng) (f : Fld) (i : Nat) (d : List Byte) : (e.raisePost f i d).tod = e.tod := by have h := congrArg Eng.tod (raisePost_hush e f i d); exact h
@[simp] theorem raisePost_steer (e : Eng) (f : Fld) (i : Nat) (d : List Byte) : (e.raisePost f i d).steer = e.steer := by have h := congrArg Eng.steer (raisePost_hush e f i d); exact h
@[simp] theorem raisePost_tout (e : Eng) (f : Fld) (i : Nat) (d : List Byte) : (e.raisePost f i d).tout = e.tout := by have h := congrArg Eng.tout (raisePost_hush e f i d); exact h
@[simp] theorem raisePost_clk (e : Eng) (f : Fld) (i : Nat) (d : List Byte) : (e.raisePost f i d).clk = e.clk := by have h := congrArg Eng.clk (raisePost_hush e f i d); exact h
@[simp] theorem raisePost_mc (e : Eng) (f : Fld) (i : Nat) (d : List Byte) : (e.raisePost f i d).mc = e.mc := by have h := congrArg Eng.mc (raisePost_hush e f i d); exact h
@[simp] theorem raisePost_sc (e : Eng) (f : Fld) (i : Nat) (d : List Byte) : (e.raisePost f i d).sc = e.sc := by have h := congrArg Eng.sc (raisePost_hush e f i d); exact h
@[simp] theorem raisePost_vt (e : Eng) (f : Fld) (i : Nat) (d : List Byte) : (e.raisePost f i d).vt = e.vt := by have h := congrArg Eng.vt (raisePost_hush e f i d); exact h
@[simp] theorem raisePost_nv (e : Eng) (f : Fld) (i : Nat) (d : List Byte) : (e.raisePost f i d).nv = e.nv := by have h := congrArg Eng.nv (raisePost_hush e f i d); exact h
@[simp] theorem raisePost_cf (e : Eng) (f : Fld) (i : Nat) (d : List Byte) : (e.raisePost f i d).cf = e.cf := by have h := congrArg Eng.cf (raisePost_hush e f i d); exact h
@[simp] theorem raisePost_cu (e : Eng) (f : Fld) (i : Nat) (d : List Byte) : (e.raisePost f i d).cu = e.cu := by have h := congrArg Eng.cu (raisePost_hush e f i d); exact h
@[simp] theorem raisePost_se (e : Eng) (f : Fld) (i : Nat) (d : List Byte) : (e.raisePost f i d).se = e.se := by have h := congrArg Eng.se (raisePost_hush e f i d); exact h
@[simp] theorem raisePost_pw (e : Eng) (f : Fld) (i : Nat) (d : List Byte) : (e.raisePost f i d).pw = e.pw := by have h := congrArg Eng.pw (raisePost_hush e f i d); exact h
@[simp] theorem raisePost_tap (e : Eng) (f : Fld) (i : Nat) (d : List Byte) : (e.raisePost f i d).tap = e.tap := by have h := congrArg Eng.tap (raisePost_hush e f i d); exact h
@[simp] theorem raisePost_dp (e : Eng) (f : Fld) (i : Nat) (d : List Byte) : (e.raisePost f i d).dp = e.dp := by have h := congrArg Eng.dp (raisePost_hush e f i d); exact h
@[simp] theorem raisePost_ela (e : Eng) (f : Fld) (i : Nat) (d : List Byte) : (e.raisePost f i d).ela = e.ela := by have h := congrArg Eng.ela (raisePost_hush e f i d); exact h
@[simp] theorem raisePost_paceAt (e : Eng) (f : Fld) (i : Nat) (d : List Byte) : (e.raisePost f i d).paceAt = e.paceAt := by have h := congrArg Eng.paceAt (raisePost_hush e f i d); exact h
@[simp] theorem raisePost_md (e : Eng) (f : Fld) (i : Nat) (d : List Byte) : (e.raisePost f i d).md = e.md := by have h := congrArg Eng.md (raisePost_hush e f i d); exact h
@[simp] theorem raisePost_fe (e : Eng) (f : Fld) (i : Nat) (d : List Byte) : (e.raisePost f i d).fe = e.fe := by have h := congrArg Eng.fe (raisePost_hush e f i d); exact h
@[simp] theorem raisePost_pod (e : Eng) (f : Fld) (i : Nat) (d : List Byte) : (e.raisePost f i d).pod = e.pod := by have h := congrArg Eng.pod (raisePost_hush e f i d); exact h
@[simp] theorem raisePost_rg (e : Eng) (f : Fld) (i : Nat) (d : List Byte) : (e.raisePost f i d).rg = e.rg := by have h := congrArg Eng.rg (raisePost_hush e f i d); exact h
@[simp] theorem raisePost_cx (e : Eng) (f : Fld) (i : Nat) (d : List Byte) : (e.raisePost f i d).cx = e.cx := by have h := congrArg Eng.cx (raisePost_hush e f i d); exact h
@[simp] theorem raisePost_tr (e : Eng) (f : Fld) (i : Nat) (d : List Byte) : (e.raisePost f i d).tr = e.tr := by have h := congrArg Eng.tr (raisePost_hush e f i d); exact h
@[simp] theorem raisePost_rr (e : Eng) (f : Fld) (i : Nat) (d : List Byte) : (e.raisePost f i d).rr = e.rr := by have h := congrArg Eng.rr (raisePost_hush e f i d); exact h
@[simp] theorem raisePost_kr (e : Eng) (f : Fld) (i : Nat) (d : List Byte) : (e.raisePost f i d).kr = e.kr := by have h := congrArg Eng.kr (raisePost_hush e f i d); exact h
@[simp] theorem raisePost_kp (e : Eng) (f : Fld) (i : Nat) (d : List Byte) : (e.raisePost f i d).kp = e.kp := by have h := congrArg Eng.kp (raisePost_hush e f i d); exact h
@[simp] theorem raisePost_wakeAt (e : Eng) (f : Fld) (i : Nat) (d : List Byte) : (e.raisePost f i d).wakeAt = e.wakeAt := by have h := congrArg Eng.wakeAt (raisePost_hush e f i d); exact h
@[simp] theorem raisePost_wakeLow (e : Eng) (f : Fld) (i : Nat) (d : List Byte) : (e.raisePost f i d).wakeLow = e.wakeLow := by have h := congrArg Eng.wakeLow (raisePost_hush e f i d); exact h
@[simp] theorem raisePost_aq (e : Eng) (f : Fld) (i : Nat) (d : List Byte) : (e.raisePost f i d).aq = e.aq := by have h := congrArg Eng.aq (raisePost_hush e f i d); exact h
@[simp] theorem raisePost_latch (e : Eng) (f : Fld) (i : Nat) (d : List Byte) : (e.raisePost f i d).latch = e.latch := by have h := congrArg Eng.latch (raisePost_hush e f i d); exact h
@[simp] theorem raisePost_clr (e : Eng) (f : Fld) (i : Nat) (d : List Byte) : (e.raisePost f i d).clr = e.clr := by have h := congrArg Eng.clr (raisePost_hush e f i d); exact h
@[simp] theorem raisePost_dma (e : Eng) (f : Fld) (i : Nat) (d : List Byte) : (e.raisePost f i d).dma = e.dma := by have h := congrArg Eng.dma (raisePost_hush e f i d); exact h
@[simp] theorem raisePost_job (e : Eng) (f : Fld) (i : Nat) (d : List Byte) : (e.raisePost f i d).job = e.job := by have h := congrArg Eng.job (raisePost_hush e f i d); exact h
@[simp] theorem raisePost_rda (e : Eng) (f : Fld) (i : Nat) (d : List Byte) (g : Fld) : (e.raisePost f i d).rda g = e.rda g := by unfold Eng.rda; rw [raisePost_act e f i d]

@[simp] theorem post_act (e : Eng) (c v : Nat) (d : List Byte) : (e.post c v d).act = e.act := by have h := congrArg Eng.act (post_hush e c v d); exact h
@[simp] theorem post_img (e : Eng) (c v : Nat) (d : List Byte) : (e.post c v d).img = e.img := by have h := congrArg Eng.img (post_hush e c v d); exact h
@[simp] theorem post_now (e : Eng) (c v : Nat) (d : List Byte) : (e.post c v d).now = e.now := by have h := congrArg Eng.now (post_hush e c v d); exact h
@[simp] theorem post_ts (e : Eng) (c v : Nat) (d : List Byte) : (e.post c v d).ts = e.ts := by have h := congrArg Eng.ts (post_hush e c v d); exact h
@[simp] theorem post_free (e : Eng) (c v : Nat) (d : List Byte) : (e.post c v d).free = e.free := by have h := congrArg Eng.free (post_hush e c v d); exact h
@[simp] theorem post_wq (e : Eng) (c v : Nat) (d : List Byte) : (e.post c v d).wq = e.wq := by have h := congrArg Eng.wq (post_hush e c v d); exact h
@[simp] theorem post_vmask (e : Eng) (c v : Nat) (d : List Byte) : (e.post c v d).vmask = e.vmask := by have h := congrArg Eng.vmask (post_hush e c v d); exact h
@[simp] theorem post_hl (e : Eng) (c v : Nat) (d : List Byte) : (e.post c v d).hl = e.hl := by have h := congrArg Eng.hl (post_hush e c v d); exact h
@[simp] theorem post_tod (e : Eng) (c v : Nat) (d : List Byte) : (e.post c v d).tod = e.tod := by have h := congrArg Eng.tod (post_hush e c v d); exact h
@[simp] theorem post_steer (e : Eng) (c v : Nat) (d : List Byte) : (e.post c v d).steer = e.steer := by have h := congrArg Eng.steer (post_hush e c v d); exact h
@[simp] theorem post_tout (e : Eng) (c v : Nat) (d : List Byte) : (e.post c v d).tout = e.tout := by have h := congrArg Eng.tout (post_hush e c v d); exact h
@[simp] theorem post_clk (e : Eng) (c v : Nat) (d : List Byte) : (e.post c v d).clk = e.clk := by have h := congrArg Eng.clk (post_hush e c v d); exact h
@[simp] theorem post_mc (e : Eng) (c v : Nat) (d : List Byte) : (e.post c v d).mc = e.mc := by have h := congrArg Eng.mc (post_hush e c v d); exact h
@[simp] theorem post_sc (e : Eng) (c v : Nat) (d : List Byte) : (e.post c v d).sc = e.sc := by have h := congrArg Eng.sc (post_hush e c v d); exact h
@[simp] theorem post_vt (e : Eng) (c v : Nat) (d : List Byte) : (e.post c v d).vt = e.vt := by have h := congrArg Eng.vt (post_hush e c v d); exact h
@[simp] theorem post_nv (e : Eng) (c v : Nat) (d : List Byte) : (e.post c v d).nv = e.nv := by have h := congrArg Eng.nv (post_hush e c v d); exact h
@[simp] theorem post_cf (e : Eng) (c v : Nat) (d : List Byte) : (e.post c v d).cf = e.cf := by have h := congrArg Eng.cf (post_hush e c v d); exact h
@[simp] theorem post_cu (e : Eng) (c v : Nat) (d : List Byte) : (e.post c v d).cu = e.cu := by have h := congrArg Eng.cu (post_hush e c v d); exact h
@[simp] theorem post_se (e : Eng) (c v : Nat) (d : List Byte) : (e.post c v d).se = e.se := by have h := congrArg Eng.se (post_hush e c v d); exact h
@[simp] theorem post_pw (e : Eng) (c v : Nat) (d : List Byte) : (e.post c v d).pw = e.pw := by have h := congrArg Eng.pw (post_hush e c v d); exact h
@[simp] theorem post_tap (e : Eng) (c v : Nat) (d : List Byte) : (e.post c v d).tap = e.tap := by have h := congrArg Eng.tap (post_hush e c v d); exact h
@[simp] theorem post_dp (e : Eng) (c v : Nat) (d : List Byte) : (e.post c v d).dp = e.dp := by have h := congrArg Eng.dp (post_hush e c v d); exact h
@[simp] theorem post_ela (e : Eng) (c v : Nat) (d : List Byte) : (e.post c v d).ela = e.ela := by have h := congrArg Eng.ela (post_hush e c v d); exact h
@[simp] theorem post_paceAt (e : Eng) (c v : Nat) (d : List Byte) : (e.post c v d).paceAt = e.paceAt := by have h := congrArg Eng.paceAt (post_hush e c v d); exact h
@[simp] theorem post_md (e : Eng) (c v : Nat) (d : List Byte) : (e.post c v d).md = e.md := by have h := congrArg Eng.md (post_hush e c v d); exact h
@[simp] theorem post_fe (e : Eng) (c v : Nat) (d : List Byte) : (e.post c v d).fe = e.fe := by have h := congrArg Eng.fe (post_hush e c v d); exact h
@[simp] theorem post_pod (e : Eng) (c v : Nat) (d : List Byte) : (e.post c v d).pod = e.pod := by have h := congrArg Eng.pod (post_hush e c v d); exact h
@[simp] theorem post_rg (e : Eng) (c v : Nat) (d : List Byte) : (e.post c v d).rg = e.rg := by have h := congrArg Eng.rg (post_hush e c v d); exact h
@[simp] theorem post_cx (e : Eng) (c v : Nat) (d : List Byte) : (e.post c v d).cx = e.cx := by have h := congrArg Eng.cx (post_hush e c v d); exact h
@[simp] theorem post_tr (e : Eng) (c v : Nat) (d : List Byte) : (e.post c v d).tr = e.tr := by have h := congrArg Eng.tr (post_hush e c v d); exact h
@[simp] theorem post_rr (e : Eng) (c v : Nat) (d : List Byte) : (e.post c v d).rr = e.rr := by have h := congrArg Eng.rr (post_hush e c v d); exact h
@[simp] theorem post_kr (e : Eng) (c v : Nat) (d : List Byte) : (e.post c v d).kr = e.kr := by have h := congrArg Eng.kr (post_hush e c v d); exact h
@[simp] theorem post_kp (e : Eng) (c v : Nat) (d : List Byte) : (e.post c v d).kp = e.kp := by have h := congrArg Eng.kp (post_hush e c v d); exact h
@[simp] theorem post_wakeAt (e : Eng) (c v : Nat) (d : List Byte) : (e.post c v d).wakeAt = e.wakeAt := by have h := congrArg Eng.wakeAt (post_hush e c v d); exact h
@[simp] theorem post_wakeLow (e : Eng) (c v : Nat) (d : List Byte) : (e.post c v d).wakeLow = e.wakeLow := by have h := congrArg Eng.wakeLow (post_hush e c v d); exact h
@[simp] theorem post_aq (e : Eng) (c v : Nat) (d : List Byte) : (e.post c v d).aq = e.aq := by have h := congrArg Eng.aq (post_hush e c v d); exact h
@[simp] theorem post_latch (e : Eng) (c v : Nat) (d : List Byte) : (e.post c v d).latch = e.latch := by have h := congrArg Eng.latch (post_hush e c v d); exact h
@[simp] theorem post_clr (e : Eng) (c v : Nat) (d : List Byte) : (e.post c v d).clr = e.clr := by have h := congrArg Eng.clr (post_hush e c v d); exact h
@[simp] theorem post_dma (e : Eng) (c v : Nat) (d : List Byte) : (e.post c v d).dma = e.dma := by have h := congrArg Eng.dma (post_hush e c v d); exact h
@[simp] theorem post_job (e : Eng) (c v : Nat) (d : List Byte) : (e.post c v d).job = e.job := by have h := congrArg Eng.job (post_hush e c v d); exact h
@[simp] theorem post_rda (e : Eng) (c v : Nat) (d : List Byte) (g : Fld) : (e.post c v d).rda g = e.rda g := by unfold Eng.rda; rw [post_act e c v d]

@[simp] theorem postCur_act (e : Eng) (c v : Nat) (d : List Byte) : (e.postCur c v d).act = e.act := by have h := congrArg Eng.act (postCur_hush e c v d); exact h
@[simp] theorem postCur_img (e : Eng) (c v : Nat) (d : List Byte) : (e.postCur c v d).img = e.img := by have h := congrArg Eng.img (postCur_hush e c v d); exact h
@[simp] theorem postCur_now (e : Eng) (c v : Nat) (d : List Byte) : (e.postCur c v d).now = e.now := by have h := congrArg Eng.now (postCur_hush e c v d); exact h
@[simp] theorem postCur_ts (e : Eng) (c v : Nat) (d : List Byte) : (e.postCur c v d).ts = e.ts := by have h := congrArg Eng.ts (postCur_hush e c v d); exact h
@[simp] theorem postCur_free (e : Eng) (c v : Nat) (d : List Byte) : (e.postCur c v d).free = e.free := by have h := congrArg Eng.free (postCur_hush e c v d); exact h
@[simp] theorem postCur_wq (e : Eng) (c v : Nat) (d : List Byte) : (e.postCur c v d).wq = e.wq := by have h := congrArg Eng.wq (postCur_hush e c v d); exact h
@[simp] theorem postCur_vmask (e : Eng) (c v : Nat) (d : List Byte) : (e.postCur c v d).vmask = e.vmask := by have h := congrArg Eng.vmask (postCur_hush e c v d); exact h
@[simp] theorem postCur_hl (e : Eng) (c v : Nat) (d : List Byte) : (e.postCur c v d).hl = e.hl := by have h := congrArg Eng.hl (postCur_hush e c v d); exact h
@[simp] theorem postCur_tod (e : Eng) (c v : Nat) (d : List Byte) : (e.postCur c v d).tod = e.tod := by have h := congrArg Eng.tod (postCur_hush e c v d); exact h
@[simp] theorem postCur_steer (e : Eng) (c v : Nat) (d : List Byte) : (e.postCur c v d).steer = e.steer := by have h := congrArg Eng.steer (postCur_hush e c v d); exact h
@[simp] theorem postCur_tout (e : Eng) (c v : Nat) (d : List Byte) : (e.postCur c v d).tout = e.tout := by have h := congrArg Eng.tout (postCur_hush e c v d); exact h
@[simp] theorem postCur_clk (e : Eng) (c v : Nat) (d : List Byte) : (e.postCur c v d).clk = e.clk := by have h := congrArg Eng.clk (postCur_hush e c v d); exact h
@[simp] theorem postCur_mc (e : Eng) (c v : Nat) (d : List Byte) : (e.postCur c v d).mc = e.mc := by have h := congrArg Eng.mc (postCur_hush e c v d); exact h
@[simp] theorem postCur_sc (e : Eng) (c v : Nat) (d : List Byte) : (e.postCur c v d).sc = e.sc := by have h := congrArg Eng.sc (postCur_hush e c v d); exact h
@[simp] theorem postCur_vt (e : Eng) (c v : Nat) (d : List Byte) : (e.postCur c v d).vt = e.vt := by have h := congrArg Eng.vt (postCur_hush e c v d); exact h
@[simp] theorem postCur_nv (e : Eng) (c v : Nat) (d : List Byte) : (e.postCur c v d).nv = e.nv := by have h := congrArg Eng.nv (postCur_hush e c v d); exact h
@[simp] theorem postCur_cf (e : Eng) (c v : Nat) (d : List Byte) : (e.postCur c v d).cf = e.cf := by have h := congrArg Eng.cf (postCur_hush e c v d); exact h
@[simp] theorem postCur_cu (e : Eng) (c v : Nat) (d : List Byte) : (e.postCur c v d).cu = e.cu := by have h := congrArg Eng.cu (postCur_hush e c v d); exact h
@[simp] theorem postCur_se (e : Eng) (c v : Nat) (d : List Byte) : (e.postCur c v d).se = e.se := by have h := congrArg Eng.se (postCur_hush e c v d); exact h
@[simp] theorem postCur_pw (e : Eng) (c v : Nat) (d : List Byte) : (e.postCur c v d).pw = e.pw := by have h := congrArg Eng.pw (postCur_hush e c v d); exact h
@[simp] theorem postCur_tap (e : Eng) (c v : Nat) (d : List Byte) : (e.postCur c v d).tap = e.tap := by have h := congrArg Eng.tap (postCur_hush e c v d); exact h
@[simp] theorem postCur_dp (e : Eng) (c v : Nat) (d : List Byte) : (e.postCur c v d).dp = e.dp := by have h := congrArg Eng.dp (postCur_hush e c v d); exact h
@[simp] theorem postCur_ela (e : Eng) (c v : Nat) (d : List Byte) : (e.postCur c v d).ela = e.ela := by have h := congrArg Eng.ela (postCur_hush e c v d); exact h
@[simp] theorem postCur_paceAt (e : Eng) (c v : Nat) (d : List Byte) : (e.postCur c v d).paceAt = e.paceAt := by have h := congrArg Eng.paceAt (postCur_hush e c v d); exact h
@[simp] theorem postCur_md (e : Eng) (c v : Nat) (d : List Byte) : (e.postCur c v d).md = e.md := by have h := congrArg Eng.md (postCur_hush e c v d); exact h
@[simp] theorem postCur_fe (e : Eng) (c v : Nat) (d : List Byte) : (e.postCur c v d).fe = e.fe := by have h := congrArg Eng.fe (postCur_hush e c v d); exact h
@[simp] theorem postCur_pod (e : Eng) (c v : Nat) (d : List Byte) : (e.postCur c v d).pod = e.pod := by have h := congrArg Eng.pod (postCur_hush e c v d); exact h
@[simp] theorem postCur_rg (e : Eng) (c v : Nat) (d : List Byte) : (e.postCur c v d).rg = e.rg := by have h := congrArg Eng.rg (postCur_hush e c v d); exact h
@[simp] theorem postCur_cx (e : Eng) (c v : Nat) (d : List Byte) : (e.postCur c v d).cx = e.cx := by have h := congrArg Eng.cx (postCur_hush e c v d); exact h
@[simp] theorem postCur_tr (e : Eng) (c v : Nat) (d : List Byte) : (e.postCur c v d).tr = e.tr := by have h := congrArg Eng.tr (postCur_hush e c v d); exact h
@[simp] theorem postCur_rr (e : Eng) (c v : Nat) (d : List Byte) : (e.postCur c v d).rr = e.rr := by have h := congrArg Eng.rr (postCur_hush e c v d); exact h
@[simp] theorem postCur_kr (e : Eng) (c v : Nat) (d : List Byte) : (e.postCur c v d).kr = e.kr := by have h := congrArg Eng.kr (postCur_hush e c v d); exact h
@[simp] theorem postCur_kp (e : Eng) (c v : Nat) (d : List Byte) : (e.postCur c v d).kp = e.kp := by have h := congrArg Eng.kp (postCur_hush e c v d); exact h
@[simp] theorem postCur_wakeAt (e : Eng) (c v : Nat) (d : List Byte) : (e.postCur c v d).wakeAt = e.wakeAt := by have h := congrArg Eng.wakeAt (postCur_hush e c v d); exact h
@[simp] theorem postCur_wakeLow (e : Eng) (c v : Nat) (d : List Byte) : (e.postCur c v d).wakeLow = e.wakeLow := by have h := congrArg Eng.wakeLow (postCur_hush e c v d); exact h
@[simp] theorem postCur_aq (e : Eng) (c v : Nat) (d : List Byte) : (e.postCur c v d).aq = e.aq := by have h := congrArg Eng.aq (postCur_hush e c v d); exact h
@[simp] theorem postCur_latch (e : Eng) (c v : Nat) (d : List Byte) : (e.postCur c v d).latch = e.latch := by have h := congrArg Eng.latch (postCur_hush e c v d); exact h
@[simp] theorem postCur_clr (e : Eng) (c v : Nat) (d : List Byte) : (e.postCur c v d).clr = e.clr := by have h := congrArg Eng.clr (postCur_hush e c v d); exact h
@[simp] theorem postCur_dma (e : Eng) (c v : Nat) (d : List Byte) : (e.postCur c v d).dma = e.dma := by have h := congrArg Eng.dma (postCur_hush e c v d); exact h
@[simp] theorem postCur_job (e : Eng) (c v : Nat) (d : List Byte) : (e.postCur c v d).job = e.job := by have h := congrArg Eng.job (postCur_hush e c v d); exact h
@[simp] theorem postCur_rda (e : Eng) (c v : Nat) (d : List Byte) (g : Fld) : (e.postCur c v d).rda g = e.rda g := by unfold Eng.rda; rw [postCur_act e c v d]

@[simp] theorem postEv_act (e : Eng) (f : Fld) (i : Nat) (d : List Byte) : (e.postEv f i d).act = e.act := by have h := congrArg Eng.act (postEv_hush e f i d); exact h
@[simp] theorem postEv_img (e : Eng) (f : Fld) (i : Nat) (d : List Byte) : (e.postEv f i d).img = e.img := by have h := congrArg Eng.img (postEv_hush e f i d); exact h
@[simp] theorem postEv_now (e : Eng) (f : Fld) (i : Nat) (d : List Byte) : (e.postEv f i d).now = e.now := by have h := congrArg Eng.now (postEv_hush e f i d); exact h
@[simp] theorem postEv_ts (e : Eng) (f : Fld) (i : Nat) (d : List Byte) : (e.postEv f i d).ts = e.ts := by have h := congrArg Eng.ts (postEv_hush e f i d); exact h
@[simp] theorem postEv_free (e : Eng) (f : Fld) (i : Nat) (d : List Byte) : (e.postEv f i d).free = e.free := by have h := congrArg Eng.free (postEv_hush e f i d); exact h
@[simp] theorem postEv_wq (e : Eng) (f : Fld) (i : Nat) (d : List Byte) : (e.postEv f i d).wq = e.wq := by have h := congrArg Eng.wq (postEv_hush e f i d); exact h
@[simp] theorem postEv_vmask (e : Eng) (f : Fld) (i : Nat) (d : List Byte) : (e.postEv f i d).vmask = e.vmask := by have h := congrArg Eng.vmask (postEv_hush e f i d); exact h
@[simp] theorem postEv_hl (e : Eng) (f : Fld) (i : Nat) (d : List Byte) : (e.postEv f i d).hl = e.hl := by have h := congrArg Eng.hl (postEv_hush e f i d); exact h
@[simp] theorem postEv_tod (e : Eng) (f : Fld) (i : Nat) (d : List Byte) : (e.postEv f i d).tod = e.tod := by have h := congrArg Eng.tod (postEv_hush e f i d); exact h
@[simp] theorem postEv_steer (e : Eng) (f : Fld) (i : Nat) (d : List Byte) : (e.postEv f i d).steer = e.steer := by have h := congrArg Eng.steer (postEv_hush e f i d); exact h
@[simp] theorem postEv_tout (e : Eng) (f : Fld) (i : Nat) (d : List Byte) : (e.postEv f i d).tout = e.tout := by have h := congrArg Eng.tout (postEv_hush e f i d); exact h
@[simp] theorem postEv_clk (e : Eng) (f : Fld) (i : Nat) (d : List Byte) : (e.postEv f i d).clk = e.clk := by have h := congrArg Eng.clk (postEv_hush e f i d); exact h
@[simp] theorem postEv_mc (e : Eng) (f : Fld) (i : Nat) (d : List Byte) : (e.postEv f i d).mc = e.mc := by have h := congrArg Eng.mc (postEv_hush e f i d); exact h
@[simp] theorem postEv_sc (e : Eng) (f : Fld) (i : Nat) (d : List Byte) : (e.postEv f i d).sc = e.sc := by have h := congrArg Eng.sc (postEv_hush e f i d); exact h
@[simp] theorem postEv_vt (e : Eng) (f : Fld) (i : Nat) (d : List Byte) : (e.postEv f i d).vt = e.vt := by have h := congrArg Eng.vt (postEv_hush e f i d); exact h
@[simp] theorem postEv_nv (e : Eng) (f : Fld) (i : Nat) (d : List Byte) : (e.postEv f i d).nv = e.nv := by have h := congrArg Eng.nv (postEv_hush e f i d); exact h
@[simp] theorem postEv_cf (e : Eng) (f : Fld) (i : Nat) (d : List Byte) : (e.postEv f i d).cf = e.cf := by have h := congrArg Eng.cf (postEv_hush e f i d); exact h
@[simp] theorem postEv_cu (e : Eng) (f : Fld) (i : Nat) (d : List Byte) : (e.postEv f i d).cu = e.cu := by have h := congrArg Eng.cu (postEv_hush e f i d); exact h
@[simp] theorem postEv_se (e : Eng) (f : Fld) (i : Nat) (d : List Byte) : (e.postEv f i d).se = e.se := by have h := congrArg Eng.se (postEv_hush e f i d); exact h
@[simp] theorem postEv_pw (e : Eng) (f : Fld) (i : Nat) (d : List Byte) : (e.postEv f i d).pw = e.pw := by have h := congrArg Eng.pw (postEv_hush e f i d); exact h
@[simp] theorem postEv_tap (e : Eng) (f : Fld) (i : Nat) (d : List Byte) : (e.postEv f i d).tap = e.tap := by have h := congrArg Eng.tap (postEv_hush e f i d); exact h
@[simp] theorem postEv_dp (e : Eng) (f : Fld) (i : Nat) (d : List Byte) : (e.postEv f i d).dp = e.dp := by have h := congrArg Eng.dp (postEv_hush e f i d); exact h
@[simp] theorem postEv_ela (e : Eng) (f : Fld) (i : Nat) (d : List Byte) : (e.postEv f i d).ela = e.ela := by have h := congrArg Eng.ela (postEv_hush e f i d); exact h
@[simp] theorem postEv_paceAt (e : Eng) (f : Fld) (i : Nat) (d : List Byte) : (e.postEv f i d).paceAt = e.paceAt := by have h := congrArg Eng.paceAt (postEv_hush e f i d); exact h
@[simp] theorem postEv_md (e : Eng) (f : Fld) (i : Nat) (d : List Byte) : (e.postEv f i d).md = e.md := by have h := congrArg Eng.md (postEv_hush e f i d); exact h
@[simp] theorem postEv_fe (e : Eng) (f : Fld) (i : Nat) (d : List Byte) : (e.postEv f i d).fe = e.fe := by have h := congrArg Eng.fe (postEv_hush e f i d); exact h
@[simp] theorem postEv_pod (e : Eng) (f : Fld) (i : Nat) (d : List Byte) : (e.postEv f i d).pod = e.pod := by have h := congrArg Eng.pod (postEv_hush e f i d); exact h
@[simp] theorem postEv_rg (e : Eng) (f : Fld) (i : Nat) (d : List Byte) : (e.postEv f i d).rg = e.rg := by have h := congrArg Eng.rg (postEv_hush e f i d); exact h
@[simp] theorem postEv_cx (e : Eng) (f : Fld) (i : Nat) (d : List Byte) : (e.postEv f i d).cx = e.cx := by have h := congrArg Eng.cx (postEv_hush e f i d); exact h
@[simp] theorem postEv_tr (e : Eng) (f : Fld) (i : Nat) (d : List Byte) : (e.postEv f i d).tr = e.tr := by have h := congrArg Eng.tr (postEv_hush e f i d); exact h
@[simp] theorem postEv_rr (e : Eng) (f : Fld) (i : Nat) (d : List Byte) : (e.postEv f i d).rr = e.rr := by have h := congrArg Eng.rr (postEv_hush e f i d); exact h
@[simp] theorem postEv_kr (e : Eng) (f : Fld) (i : Nat) (d : List Byte) : (e.postEv f i d).kr = e.kr := by have h := congrArg Eng.kr (postEv_hush e f i d); exact h
@[simp] theorem postEv_kp (e : Eng) (f : Fld) (i : Nat) (d : List Byte) : (e.postEv f i d).kp = e.kp := by have h := congrArg Eng.kp (postEv_hush e f i d); exact h
@[simp] theorem postEv_wakeAt (e : Eng) (f : Fld) (i : Nat) (d : List Byte) : (e.postEv f i d).wakeAt = e.wakeAt := by have h := congrArg Eng.wakeAt (postEv_hush e f i d); exact h
@[simp] theorem postEv_wakeLow (e : Eng) (f : Fld) (i : Nat) (d : List Byte) : (e.postEv f i d).wakeLow = e.wakeLow := by have h := congrArg Eng.wakeLow (postEv_hush e f i d); exact h
@[simp] theorem postEv_aq (e : Eng) (f : Fld) (i : Nat) (d : List Byte) : (e.postEv f i d).aq = e.aq := by have h := congrArg Eng.aq (postEv_hush e f i d); exact h
@[simp] theorem postEv_latch (e : Eng) (f : Fld) (i : Nat) (d : List Byte) : (e.postEv f i d).latch = e.latch := by have h := congrArg Eng.latch (postEv_hush e f i d); exact h
@[simp] theorem postEv_clr (e : Eng) (f : Fld) (i : Nat) (d : List Byte) : (e.postEv f i d).clr = e.clr := by have h := congrArg Eng.clr (postEv_hush e f i d); exact h
@[simp] theorem postEv_dma (e : Eng) (f : Fld) (i : Nat) (d : List Byte) : (e.postEv f i d).dma = e.dma := by have h := congrArg Eng.dma (postEv_hush e f i d); exact h
@[simp] theorem postEv_job (e : Eng) (f : Fld) (i : Nat) (d : List Byte) : (e.postEv f i d).job = e.job := by have h := congrArg Eng.job (postEv_hush e f i d); exact h
@[simp] theorem postEv_rda (e : Eng) (f : Fld) (i : Nat) (d : List Byte) (g : Fld) : (e.postEv f i d).rda g = e.rda g := by unfold Eng.rda; rw [postEv_act e f i d]

end Machine
end Sys2Proof
end

