-- ==== Sys2Proof/Tests/Slice0.lean ====
section
/-!
SUPPORT. The author's own tests: a well-formedness smoke test with an ill-formed term for each check, tests of commands whose
expected results are worked from the specification by hand, and for each statement states and operands that meet its hypotheses.
-/
namespace Sys2Proof.Tests
open Sys2Proof.Machine

set_option Elab.async false

/-! ### Small states -/

/-- The state after reset with some fields written. -/
def w (l : List (Fld × Nat)) : State := { State.reset with eng := l.foldl (fun e x => e.wr x.1 x.2) State.reset.eng }

/-- A state with some active values written. -/
def wa (s : State) (l : List (Fld × Nat)) : State := { s with eng := l.foldl (fun e x => e.wra x.1 x.2) s.eng }

/-- A state with its engine changed. -/
def we (s : State) (f : Eng → Eng) : State := { s with eng := f s.eng }

/-- The core is up, nothing of its own goes on, and the invariant holds. -/
def good (s : State) : Bool :=
  !s.eng.down && s.eng.pw.start.isNone && !s.eng.pw.offPend && s.eng.se.events.isEmpty && s.eng.cu.mbx.isNone && s.mem.wf &&
    s.eng.wq.isEmpty && s.eng.mc.fab.isEmpty && s.eng.mc.stalled.isEmpty && !s.eng.cu.mapDue

theorem good_meets (s : State) (h : good s = true) : s.up ∧ s.quiet ∧ Inv s := by
  simp only [good, Bool.and_eq_true, Bool.not_eq_true', Option.isNone_iff_eq_none, List.isEmpty_iff] at h
  obtain ⟨⟨⟨⟨⟨⟨⟨⟨⟨h1, h2⟩, h3⟩, h4⟩, h5⟩, h6⟩, h7⟩, h8⟩, h9⟩, h10⟩ := h
  exact ⟨h1, ⟨h2, h3, h4, h5, ⟨h8, h9⟩, h10⟩, h6, h7⟩

/-- The field `f` after a command, if it answers a next state. -/
def after (c : Instr) (s : State) (f : Fld) : Option Nat :=
  match exec c s with
  | .next t => some (t.rd f)
  | _ => none

/-- A byte of capture memory after a command. -/
def byteAfter (c : Instr) (s : State) (a : Nat) : Option Byte :=
  match exec c s with
  | .next t => some (memGet t.mem.cap a)
  | _ => none

/-- Something that holds of the state after a command. -/
def holdsAfter (c : Instr) (s : State) (p : State → Bool) : Bool :=
  match exec c s with
  | .next t => p t
  | _ => false

/-- An acquisition in TIMING: loops LOCKED, port 0 READY, channel 0 enabled, region 0 a RAW ring of 4 lines that takes it. -/
def acq : State :=
  wa (w ([(GLB_MODE_STAT_CUR, 1), (POD_STAT_STATE 0, 5), (POD_STAT_PRSNT 0, 1), (FE_CH_CFG_EN 0, 1), (ACC_CREG_CFG_EN 0, 1),
    (ACC_CREG_CFG_KIND 0, 1), (ACC_CREG_SIZE_LINES 0, 4), (ACC_CREG_CHMASK_CH 0 0, 1)] ++
    ((List.range 8).map fun n => (CLK_LOOP_STAT_STATE n, 2)) ++ (List.range 6).map fun p => (MEM_FAB_RSV_MAX_REQ p, 64))) [(FE_CH_CFG_EN 0, 1), (ACC_CREG_CFG_EN 0, 1)]

theorem test_acq_is_good : good acq = true ∧ acq.eng.inAcq = true ∧ tileSamples acq.eng 0 = true ∧ tileClocked acq.eng 0 = true ∧
    receivers acq.eng 0 = [0] := by decide +kernel

/-! ### Hypotheses of the statements can be met: chapters 2 to 5 -/

theorem meets_StepRunsFrontCommand : State.reset.pending = [] := by decide

theorem meets_MemoryStaysCanonical : good (w []) = true ∧ ∃ t, step (w []) = .next t := ⟨by decide +kernel, _, rfl⟩

theorem meets_SlackWindowWritesGauge :
    good (w [(GLB_SLK_CTRL_EN, 1), (GLB_SLK_CTRL_FLOOR, 100)]) = true ∧
    (w [(GLB_SLK_CTRL_EN, 1), (GLB_SLK_CTRL_FLOOR, 100)]).rd GLB_SLK_CTRL_EN = 1 ∧
    (2 ^ (20 + (w []).rd GLB_SLK_CTRL_WIN) - 2 ^ 16) * 100 / 2 ^ (20 + (w []).rd GLB_SLK_CTRL_WIN) <
      (w [(GLB_SLK_CTRL_EN, 1), (GLB_SLK_CTRL_FLOOR, 100)]).rd GLB_SLK_CTRL_FLOOR := by decide +kernel

theorem meets_GaugeAndBufferCountersClear : good (w []) = true ∧ natBit 0x80 7 = true ∧ 5 < 6 := by decide +kernel

theorem meets_ReservationAcceptedOrRejected :
    (w [(MEM_GCTRL_LOCK, 1)]).rd MEM_GCTRL_LOCK ≠ 0 ∧ (w []).rd MEM_GCTRL_LOCK = 0 ∧
    1024 < ((List.range 6).map fun q => if q = 0 then 0 else (w []).rd (MEM_FAB_RSV_RSV_REQ q)).sum + 1025 ∧ 7 < 8 ∧
    ¬(1024 < ((List.range 6).map fun q => if q = 5 then 0 else (w []).rd (MEM_FAB_RSV_RSV_REQ q)).sum + 8 ∨ 1024 < 8 ∨ 1024 < 1024 ∨
      ((5 = 4 ∨ 5 = 5) ∧ 8 < 8)) := by decide +kernel

/-- A word of the tile that begins at a stamp. -/
def wordAt (t : Nat) : SampleWord := ⟨t, 128, List.replicate 64 1, []⟩

/-- Tile 0 of `acq` with its buffer changed. -/
def buf (f : ElaTile → ElaTile) : Eng := acq.eng.modEla 0 f

theorem meets_SampleWordMeetsBuffer :
    mayWrite acq.eng 7 0 = false ∧ wordFits acq.eng 0 (wordAt 5) = false ∧ good acq = true ∧
    mayWrite acq.eng 0 0 = true ∧ wordFits acq.eng 0 (wordAt 0) = true ∧ (acq.eng.getEla 0).upTo = none ∧
    (closeUnlock (acq.eng.getEla 0) 0).dropping = none ∧ wordsHeld (closeUnlock (acq.eng.getEla 0) 0) < 4096 ∧
    (let e := buf fun x => { x with items := List.replicate 4096 (.word (wordAt 0)) }
     4096 ≤ wordsHeld (closeUnlock (e.getEla 0) 0) ∧ mayWrite e 0 0 = true ∧ wordFits e 0 (wordAt 0) = true) ∧
    (let el := closeUnlock ((buf fun x => { x with dropping := some (0, 1, 1) }).getEla 0) 0
     el.dropping = some (0, 1, 1) ∧ wordsHeld el ≤ 3072 ∧ dropHeld el = false) ∧
    (let el := closeUnlock ((buf fun x => { x with items := [.drop 0 127 1], dropping := some (0, 1, 1) }).getEla 0) 0
     dropHeld el = true) ∧
    3072 < wordsHeld (closeUnlock ((buf fun x => { x with items := List.replicate 3073 (.word (wordAt 0)), dropping := some (0, 1, 1) }).getEla 0) 0) ∧
    anyEval (acq.eng.wr (TRIG_SEQ_STAT_EVAL 0) 1) = true ∧ receivers acq.eng 0 ≠ [] := by decide +kernel

/-- A line of 60 RAW units waits in stream 0 of region 0; `last`: the write pointer stands at the last line of the ring. -/
def full (last : Bool) : State :=
  we acq fun e => (e.wr (ACC_CREG_POS_WPTR 0) (if last then 3 else 0)).modRg 0 fun r =>
    { r with streams := putAt r.streams 0 { r.streams.getD 0 {} with units := List.replicate 60 1, ticks := List.replicate 60 0 } {} }

theorem meets_AccessionStoresLine : ∀ b, lineReady (full b).eng 0 0 = true ∧ ((full b).eng.getRg 0).outQ = [] ∧
    (full b).rd (ACC_CREG_STAT_FULL_NOW 0) = 0 ∧ (full b).rd (ACC_CREG_STAT_FROZEN_NOW 0) = 0 ∧ regionKind (full b).eng 0 = 1 ∧
    (full b).rd (ACC_CREG_SIZE_LINES 0) ≠ 0 ∧ ((full b).eng.getRg 0).protect = [] ∧ ((full b).eng.getRg 0).willFreeze = [] ∧
    capFlows (full b).eng = true ∧ (let e := (full b).eng.wr (CLK_LOOP_STAT_STATE 5) 3; lineReady e 0 0 = true ∧ capFlows e = false) ∧
    decide ((full b).rd (ACC_CREG_POS_WPTR 0) + 1 = (full b).rd (ACC_CREG_SIZE_LINES 0)) = b := by decide +kernel

theorem meets_DropDescriptorIsCounted :
    nextItem (acq.eng.modEla 7 fun x => { x with items := [.drop 0 127 2] }) 7 = some (.drop 0 127 2) ∧ nextItem acq.eng 0 = none ∧
    capFlows acq.eng = true ∧ capFlows (w []).eng = false ∧ good acq = true := by decide +kernel

theorem meets_ThresholdWritesStore :
    (w [(POD_STAT_ID_VALID 7, 1)]).rd (POD_STAT_ID_VALID (255 / 32)) = 1 ∧ (w []).rd (POD_STAT_ID_VALID (0 / 32)) = 0 ∧
    natBit 0xFFF 14 = false ∧ natBit 0x4000 14 = true ∧
    tileSamples acq.eng (0 / 32) = true ∧ tileSamples acq.eng (255 / 32) = false := by decide +kernel

theorem meets_FrontEndWritesApplyOrHold :
    tileSamples acq.eng (31 / 32) = true ∧ tileSamples acq.eng (255 / 32) = false ∧ tileSamples acq.eng 7 = false ∧
    clockTiles acq.eng 3 = [] ∧ clockTiles acq.eng 0 = [0] ∧ (w []).rd (FE_STCLK_EDGE 3) ≠ 3 ∧ (w [(FE_STCLK_EDGE 3, 3)]).rd (FE_STCLK_EDGE 3) = 3 := by
  decide +kernel

theorem meets_SampleWordMeetsBuffer_volts :
    let s := we acq fun e => e.wr (TRIG_SEQ_STAT_EVAL 0) 1
    let x : SampleWord := ⟨0, 128, List.replicate 64 0, [(0, List.replicate 64 7)]⟩
    good s = true ∧ mayWrite s.eng 0 x.stamp = true ∧ wordFits s.eng 0 x = true ∧ (s.eng.getEla 0).upTo = none ∧
    (s.eng.getEla 0).dropping = none ∧ wordsHeld (closeUnlock (s.eng.getEla 0) x.stamp) < 4096 ∧ anyEval s.eng = true ∧
    receivers s.eng 0 ≠ [] ∧ s.eng.double = false ∧ s.eng.fe.late = [] ∧ x.volts = [(0, List.replicate 64 7)] ∧ x.units.length = 64 ∧
    (List.replicate 64 (7 : Int)).length = 64 ∧ s.rda (FE_CH_CFG_EN (32 * 0 + 0)) = 1 := by decide +kernel

/-- An eye scan of channel 0 may start: SPLL LOCKED, bank 0 of scratch belongs to Accession. -/
def scanReady : State := w [(CLK_LOOP_STAT_STATE 0, 2), (SCR_BANK_OWN_OWN 0, 1), (FE_ES_THR_START_CODE, 0x800)]

theorem meets_EyeScanStartsAndEnds :
    (w [(FE_ES_STAT_BUSY, 1)]).rd FE_ES_STAT_BUSY ≠ 0 ∧ (w []).rd FE_ES_STAT_BUSY = 0 ∧
    2047 < signed 12 ((w [(FE_ES_THR_START_CODE, 1793)]).rd FE_ES_THR_START_CODE) + 255 * (((w []).rd FE_ES_THR_STRIDE : Int) + 1) ∧
    5 ≤ (w [(FE_ES_CTRL_REF, 5)]).rd FE_ES_CTRL_REF ∧
    ¬(2047 < signed 12 ((w []).rd FE_ES_THR_START_CODE) + 255 * (((w []).rd FE_ES_THR_STRIDE : Int) + 1) ∨ 5 ≤ (w []).rd FE_ES_CTRL_REF) ∧
    inPartition (w [(SCR_BANK_OWN_OWN 0, 2)]).eng 1 0 32800 = false ∧ inPartition scanReady.eng 1 0 32800 = true ∧
    scanReady.rd PWR_STAT_STATE ≠ 1 ∧ scanAllowed scanReady.eng 0 = true ∧ scanReady.eng.fe.scanHeld = false ∧ loopLocked scanReady.eng 0 = true ∧
    (we scanReady fun e => { e with fe := { e.fe with scan := some ⟨0, 0, 0, 0, -2048, 1, 0, 0⟩ } }).eng.fe.scan ≠ none ∧
    (we scanReady fun e => { e with fe := { e.fe with scanHeld := true } }).eng.fe.scanHeld = true ∧
    scanReady.eng.fe.scan = none ∧ good scanReady = true := by decide +kernel

theorem meets_CalibrationRequestAndResult :
    natBit 0x80 7 = true ∧ natBit 0x80 0 = false ∧ calBusy (w [(FE_CAL_STAT_BUSY, 0x80)]).eng 7 = true ∧ tileSamples (w []).eng 7 = false ∧
    calBusy acq.eng 0 = false ∧ good acq = true ∧ tileSamples acq.eng 0 = true ∧ good (w [(FE_CAL_STAT_BUSY, 0x80)]) = true ∧ 16 % 16 = 0 ∧ 15 % 16 ≠ 0 := by
  decide +kernel

theorem meets_PodPresenceAndPower :
    (w []).rd (POD_STAT_STATE 7) = 0 ∧ (w [(POD_CTRL_POLICY 7, 1)]).rd (POD_CTRL_POLICY 7) = 1 ∧ (w [(POD_CTRL_POLICY 7, 2)]).rd (POD_CTRL_POLICY 7) ≠ 1 ∧
    (w [(POD_STAT_STATE 7, 1)]).rd (POD_STAT_STATE 7) = 1 ∧ (w [(POD_STAT_STATE 7, 2)]).rd (POD_STAT_STATE 7) = 2 ∧
    (w [(POD_STAT_STATE 7, 7)]).rd (POD_STAT_STATE 7) = 7 ∧ podPowered (w [(POD_STAT_STATE 7, 2)]).eng 7 = true ∧
    podPowered (w [(POD_STAT_STATE 7, 6)]).eng 7 = true ∧ podPowered (w [(POD_STAT_STATE 7, 7)]).eng 7 = false ∧
    tileSamples (w [(POD_STAT_STATE 7, 6)]).eng 7 = false ∧ podPowered acq.eng 0 = true ∧ tileSamples acq.eng 0 = true ∧
    natBit (w [(POD_STAT_STATE 7, 6)]).eng.pod.offWait 7 = false ∧ (let s := we acq fun e => { e with pod := { e.pod with offWait := 1 } }
     podPowered s.eng 0 = true ∧ natBit s.eng.pod.offWait 0 = true) ∧ (w []).rd (POD_SB_CMD_BUSY 7) = 0 ∧
    (w [(POD_STAT_STATE 7, 2), (POD_SB_CMD_BUSY 7, 1)]).rd (POD_SB_CMD_BUSY 7) ≠ 0 := by decide +kernel

theorem meets_PodButtonIdentityAndSideband :
    (w [(POD_STAT_STATE 0, 1), (POD_CTRL_POLICY 0, 2)]).rd (POD_STAT_STATE 0) = 1 ∧ (w [(POD_CTRL_POLICY 0, 2)]).rd (POD_CTRL_POLICY 0) = 2 ∧
    acq.rd (POD_STAT_STATE 0) = 5 ∧ (w [(POD_CTRL_ATTN_REM 0, 1)]).rd (POD_CTRL_ATTN_REM 0) = 1 ∧
    natBit (we acq fun e => { e with pod := { e.pod with attnOff := 1 } }).eng.pod.attnOff 0 = true ∧
    natBit (we acq fun e => { e with pod := { e.pod with attnOff := 1, offWait := 1 } }).eng.pod.offWait 0 = true ∧
    podPowered acq.eng 0 = true ∧ tileSamples acq.eng 0 = true ∧ tileSamples (w [(POD_STAT_STATE 0, 5)]).eng 0 = false ∧
    natBit (w []).eng.pod.attnOff 7 = false ∧ (w [(POD_STAT_STATE 7, 3)]).rd (POD_STAT_STATE 7) = 3 ∧ (w []).rd (POD_STAT_STATE 7) ≠ 3 ∧
    (w [(POD_STAT_STATE 7, 6)]).rd (POD_STAT_STATE 7) = 6 ∧ (w []).rd (POD_SB_CMD_BUSY 7) = 0 ∧ podPowered (w []).eng 7 = false ∧
    (w [(POD_SB_CMD_BUSY 7, 1)]).rd (POD_SB_CMD_BUSY 7) ≠ 0 ∧ (w [(POD_SB_CMD_RD 7, 1)]).rd (POD_SB_CMD_RD 7) = 1 ∧
    natBit (w [(POD_STAT_STATE 7, 3)]).eng.pod.sbFirst 7 = false ∧
    natBit (we (w [(POD_STAT_STATE 7, 3)]) fun e => { e with pod := { e.pod with sbFirst := 0x80 } }).eng.pod.sbFirst 7 = true := by decide +kernel

theorem meets_TileLeavesAndRejoins :
    getAbsent (setAbsent 7 (some ⟨0, 5, false⟩) acq.eng) 7 = some ⟨0, 5, false⟩ ∧ getAbsent acq.eng 7 = none ∧ good acq = true ∧
    natBit (we acq fun e => { e with pod := { e.pod with offWait := 0x80 } }).eng.pod.offWait 7 = true ∧ acq.eng.inAcq = true ∧
    (w [(POD_CTRL_PWR_REQ 7, 1)]).rd (POD_CTRL_PWR_REQ 7) ≠ 0 ∧
    acq.eng.inService 0 = false ∧ acq.rd GLB_MODE_STAT_BUSY = 0 ∧ (we acq fun e => e.wr (POD_STAT_STATE 7) 4).rd (POD_STAT_STATE 7) = 4 ∧
    calBusy acq.eng 7 = false ∧ acq.rd (POD_STAT_STATE 0) = 5 ∧
    natBit (we acq fun e => { e with pod := { e.pod with rejoin := 1 } }).eng.pod.rejoin 0 = true ∧
    (let e := setAbsent 7 (some ⟨0, 5, false⟩) acq.eng; drained (drainNow e) 7 = true ∧ tileWrites (drainNow e) 7 = false) ∧
    (let e := (acq.eng.wr (POD_STAT_STATE 0) 4).modEla 0 fun x => { x with upTo := some 512 }
     tileWrites (drainNow e) 0 = true ∧ getAbsent e 0 = none ∧ e.inService 0 = false ∧ calBusy e 0 = false) := by decide +kernel

/-! ### Hypotheses of the statements can be met: chapters 6, 7, 11 and 12 -/

/-- Capture memory in service: MPLL LOCKED, every line filled; further fields written. -/
def mem (l : List (Fld × Nat)) : State := w ([(CLK_LOOP_STAT_STATE 5, 2), (PWR_STRT_FILL_DONE, 1)] ++ l)

/-- With a repair of position 9 of stack 0 under way, a hard fault, an address queued and a bin change begun. -/
def memBusy : State :=
  we (mem [(MEM_STK_SWEEP_ACT 1, 1), (MEM_RET_CFG_AUTO_PPR, 1)]) fun e =>
    ({ e with mc := { e.mc with
        inv := [{ line := 4, pos := 9, count := 3, due := true }]
        cons := [⟨4, 1, 0, 1, 1⟩]
        bin := some { bin := 3, prev := 0, prevNint := 40, since := 0 } } }.modStk 0 fun k =>
      { k with ppr := some (9, 9, 0, 0), trq := [(0, 5, true)] }).modStk 1 fun k => { k with target := some 10 }

/-- The limits of every port allow requests. -/
def ports : List (Fld × Nat) := (List.range 6).map fun p => (MEM_FAB_RSV_MAX_REQ p, 64)

theorem meets_RequestLatencyIsCounted :
    portFree (mem ports).eng 5 = true ∧ ((mem ports).eng.getStk (stackOf (2 ^ 29 - 1))).trq = [] ∧
    memWaits 5 (2 ^ 29 - 1) (!rowHit (mem ports).eng (2 ^ 29 - 1)) (mem ports).eng = false ∧ good (mem ports) = true := by decide +kernel

theorem meets_MemoryRequestMovesLine :
    portFree (mem []).eng 0 = false ∧ good (mem []) = true ∧ portFree (mem ports).eng 0 = true ∧ ((mem ports).eng.getStk (stackOf 0)).trq = [] ∧
    memWaits 0 0 (!rowHit (mem ports).eng 0) (mem ports).eng = false ∧ portFree (w ports).eng 0 = true ∧ good (w ports) = true ∧
    memWaits 0 0 (!rowHit (w ports).eng 0) (w ports).eng = true ∧ (2 ^ 256 - 1) % 2 ^ 256 = 2 ^ 256 - 1 ∧
    0 % 2 ^ 256 ≠ 2 ^ 256 - 1 ∧ good (mem ports) = true := by decide +kernel

theorem meets_ConservatorReadsOn :
    (mem []).eng.mc.cons = [] ∧ memBusy.eng.mc.cons = ⟨4, 1, 0, 1, 1⟩ :: [] ∧ memRuns memBusy.eng = true ∧
    (mem [(MEM_CONS_CFG_PATROL_EN, 1), (MEM_CONS_POS_LINE, 2 ^ 29 - 1)]).rd MEM_CONS_POS_LINE + 1 = 2 ^ 29 ∧
    (mem [(MEM_CONS_CFG_PATROL_EN, 1)]).rd MEM_CONS_CFG_PATROL_EN = 1 ∧ (mem [(MEM_CONS_CFG_PATROL_EN, 0)]).rd MEM_CONS_CFG_PATROL_EN = 0 ∧
    good memBusy = true := by decide +kernel

theorem meets_InventoryIsTested :
    memBusy.eng.mc.inv.find? (fun y => y.due) = some { line := 4, pos := 9, count := 3, due := true } ∧
    (memBusy.eng.mc.inv.filter fun y => y.count != 0) = [{ line := 4, pos := 9, count := 3, due := true }] ∧
    ((mem []).eng.mc.inv.filter fun y => y.count != 0) = [] ∧ memBusy.eng.mc.inv ≠ [] ∧ memRuns memBusy.eng = true := by decide +kernel

/-- A hard fault at position 9 of stack 0 that may be repaired. -/
def memHard : State :=
  we (mem [(MEM_RET_CFG_AUTO_PPR, 1), (MEM_RANK_STAT_PPR_LEFT 0 0, 64), (MEM_RET_CFG_AUTO_RET, 0), (MEM_STK_SWEEP_ACT 3, 1)]) fun e =>
    { e with mc := { e.mc with inv := [{ line := 4, pos := 9, hard := true }] } }

theorem meets_RanksAreRepairedAndRetired :
    memHard.rd MEM_RET_CFG_AUTO_PPR = 1 ∧ memRuns memHard.eng = true ∧
    memHard.eng.mc.inv.find? (fun y => y.hard && !y.unrep && !pprExhausted memHard.eng y && pprReady memHard.eng y) =
      some { line := 4, pos := 9, hard := true } ∧
    (memBusy.eng.getStk 0).ppr = some (9, 9, 0, 0) ∧ (memBusy.eng.getStk 3).ppr = none ∧ posState memHard.eng 3 9 ≠ 3 ∧
    posState memHard.eng 3 9 ≠ 4 ∧ memHard.rd (MEM_STK_SWEEP_ACT 3) = 1 ∧ memHard.rd MEM_RET_CFG_AUTO_RET = 0 ∧
    memHard.rd (MEM_STK_SWEEP_PTR 3) + 1 < 2 ^ 27 ∧ memBusy.rd (MEM_STK_SWEEP_ACT 1) = 1 ∧ (memBusy.eng.getStk 1).target = some 10 ∧
    memBusy.rd (MEM_STK_SWEEP_POS 1) < 10 ∧ memHard.rd (MEM_STK_SWEEP_ACT 0) = 0 ∧ good memHard = true ∧ good memBusy = true := by
  decide +kernel

theorem meets_InjectionAndDividerWrites :
    ¬(acq.eng.mode = .service ∨ acq.eng.mode = .review) ∧ (w []).eng.mode = .service ∧ (w [(GLB_MODE_STAT_CUR, 5)]).eng.mode = .review ∧
    good acq = true := by decide +kernel

theorem meets_RefreshDebtAccrues :
    (mem []).rd (MEM_REF_STAT_PWR 3) ≠ 2 ∧ debt (mem [(MEM_REF_CFG_POSTPONE, 4)]).eng 3 + 1 < (mem [(MEM_REF_CFG_POSTPONE, 4)]).rd MEM_REF_CFG_POSTPONE ∧
    (mem [(MEM_REF_CFG_POSTPONE, 4), (MEM_REF_STAT_DEBT 3, 3)]).rd MEM_REF_CFG_POSTPONE ≤
      debt (mem [(MEM_REF_CFG_POSTPONE, 4), (MEM_REF_STAT_DEBT 3, 3)]).eng 3 + 1 ∧ (mem [(MEM_REF_STAT_PWR 3, 2)]).rd (MEM_REF_STAT_PWR 3) = 2 ∧
    (mem []).eng.mc.resume = false ∧ (mem []).eng.mc.pass = false ∧ memRuns (mem []).eng = true ∧ good (mem []) = true ∧
    0 < debt (mem [(MEM_REF_STAT_DEBT 3, 1)]).eng 3 ∧ roundHere (mem [(MEM_REF_STAT_DEBT 3, 1)]).eng 3 = true ∧
    (let s := mem [(MEM_REF_STAT_DEBT 3, 1), (MEM_REF_STAT_DEBT 2, 2)]; 0 < debt s.eng 3 ∧ roundHere s.eng 3 = false) ∧
    (let s := mem [(MEM_REF_CFG_PULLIN, 4)]
     debt s.eng 3 ≤ 0 ∧ -(s.rd MEM_REF_CFG_PULLIN : Int) < debt s.eng 3 ∧ burstNear s.eng = false ∧
     burstNear { s.eng with mc := { s.eng.mc with burstAt := some 0 } } = true) ∧
    debt (mem []).eng 3 ≤ -((mem [(MEM_REF_CFG_PULLIN, 0)]).rd MEM_REF_CFG_PULLIN : Int) ∧
    (memBusy.eng.getStk 0).trq = (0, 5, true) :: [] ∧ good memBusy = true ∧ (mem []).rd (MEM_REF_STAT_PWR 3) = 0 ∧ unasked (mem []).eng 3 = true ∧
    (mem [(MEM_PD_CFG_PD_NS, 1)]).rd MEM_PD_CFG_PD_NS * 128 ≠ 0 ∧ (mem [(PWR_STAT_STATE, 2)]).rd PWR_STAT_STATE = 2 ∧
    (mem [(MEM_PD_CFG_SR_US, 1)]).rd MEM_PD_CFG_SR_US * 12800 ≠ 0 ∧ (mem [(MEM_PD_CFG_SR_US, 0)]).rd MEM_PD_CFG_SR_US * 12800 = 0 := by decide +kernel

/-- SERVICE, bins 0 and 3 with timings, training done. -/
def binIdle : State := mem [(MEM_TIM_C_VALID 3, 1), (MEM_TIM_C_VALID 0, 1), (MEM_TRN_STAT_INIT_DONE, 1)]

theorem meets_SpeedBinChanges :
    binCheck binIdle.eng (2 % 4) = some 2 ∧ binCheck acq.eng 3 = some 1 ∧ binCheck binIdle.eng (7 % 4) = none ∧
    7 % 4 ≠ binIdle.rd MEM_BIN_STAT_CUR ∧ binCheck binIdle.eng (4 % 4) = none ∧ 4 % 4 = binIdle.rd MEM_BIN_STAT_CUR ∧
    memBusy.eng.mc.bin = some { bin := 3, prev := 0, prevNint := 40, since := 0 } ∧
    ((List.range 4).all fun st => ((memBusy.eng.modStk 0 fun k => { k with ppr := none }).getStk st).ppr.isNone) = true ∧ memBusy.eng.mc.pass = false ∧
    (let e := (mem [(CLK_LOOP_STAT_STATE 5, 1)]).eng
     let e1 := { e with mc := { e.mc with bin := some { bin := 3, prev := 0, prevNint := 40, since := 0, stall := true } } }
     (e1.mc.bin.map fun b => (b.stall, b.restore)) = some (true, false) ∧ loopLocked e1 5 = false) ∧ binIdle.rd MEM_TRN_STAT_INIT_DONE = 1 ∧ binIdle.eng.mc.bin = none ∧
    memRuns binIdle.eng = true ∧ good binIdle = true ∧ good memBusy = true := by decide +kernel

/-- TPLL 1 has legal values; SERVICE. -/
def tpll : State :=
  w [(CLK_LOOP_TREF_TPLL_REF_KHZ 1, 100000), (CLK_LOOP_CFG_REFMUL 1, 0), (CLK_LOOP_CFG_RDIV 1, 1), (CLK_LOOP_CFG_NINT 1, 128), (CLK_LOOP_CFG_ODIV 1, 0),
    (CLK_LOOP_CEIL_FREQ_CEIL 1, 12800)]

theorem meets_LoopCommitStartsOrIsRejected :
    loopLegal tpll.eng 1 (loopShadow tpll.eng 1) = true ∧ loopLegal (tpll.eng.wr (CLK_LOOP_CFG_NINT 1) 15) 1
      (loopShadow (tpll.eng.wr (CLK_LOOP_CFG_NINT 1) 15) 1) = false ∧ tileSamples acq.eng 0 = true ∧ acq.rda (FE_TILE_CFG_CLKSEL 0) = 1 - 1 ∧
    (tileSamples tpll.eng 0 = false) ∧ natBit 0x80 7 = true ∧ tpll.eng.mode = .service ∧ tpll.rd GLB_MODE_STAT_BUSY = 0 := by decide +kernel

theorem meets_LockDetectorsDeclare :
    loopState acq.eng 7 ≠ 0 ∧ refFailed acq.eng 7 = false ∧ analogueOn acq.eng 7 = false ∧ good acq = true ∧
    (((2 ^ (6 + acq.rd (CLK_LOOP_LD_WIN 7)) : Nat) : Int) - 2 ^ (6 + acq.rd (CLK_LOOP_LD_WIN 7))).natAbs ≤ acq.rd (CLK_LOOP_LD_TOL 7) ∧
    ¬((((0 : Nat) : Int) - 2 ^ (6 + acq.rd (CLK_LOOP_LD_WIN 7))).natAbs ≤ acq.rd (CLK_LOOP_LD_TOL 7)) ∧
    (let s := wa acq [(CLK_LD_AN_EN, 1), (CLK_LD_AN_LOOP, 7)]
     s.rda CLK_LD_AN_EN = 1 ∧ s.rda CLK_LD_AN_LOOP < 8 ∧ loopState s.eng (s.rda CLK_LD_AN_LOOP) ≠ 0 ∧ refFailed s.eng (s.rda CLK_LD_AN_LOOP) = false ∧
     refFailed { s.eng with clk := { s.eng.clk with refBad := 1 } } (s.rda CLK_LD_AN_LOOP) = true) ∧
    loopState (w [(CLK_LOOP_STAT_STATE 0, 4)]).eng 0 = 4 ∧ loopState acq.eng 0 ≠ 4 ∧ loopState (w [(CLK_LOOP_STAT_STATE 7, 5)]).eng 7 = 5 := by
  decide +kernel

theorem meets_ClockMonitorsReport :
    good acq = true ∧ loopLocked acq.eng 7 = true ∧ (wa acq [(FE_STCLK_EN 3, 1)]).rda (FE_STCLK_EN 3) = 1 ∧ acq.rda (FE_STCLK_EN 3) = 0 := by
  decide +kernel

theorem meets_ClockConfigurationWrites :
    loopLocked acq.eng 0 = true ∧ acq.rda CLK_LD_AN_EN = 0 ∧ (w [(CLK_RAMP_CTRL_EN 3, 1)]).rd (CLK_RAMP_CTRL_EN 3) ≠ 0 ∧
    (w []).rd (CLK_RAMP_CTRL_EN 3) = 0 ∧
    (let s := w [(CLK_RAMP_CTRL_EN 3, 1), (CLK_RAMP_CTRL_FOLLOW 3, 1), (CLK_RAMP_SEG_DUR 3 0, 2)]
     s.rd (CLK_RAMP_CTRL_EN 3) = 1 ∧ s.rd (CLK_RAMP_CTRL_FOLLOW 3) = 1 ∧ 0 < rampTotal s.eng 3) ∧
    outMax 4 * 1000 * (0 % 2 ^ 11 + 1) < outSrcKhz (w []).eng 0 0 ∧ ¬(outMax 2 * 1000 * (1 % 2 ^ 11 + 1) < outSrcKhz (w []).eng 0 0) ∧
    nextItem (acq.eng.modEla 7 fun x => { x with items := [.unlock 0 63 0 1] }) 7 = some (.unlock 0 63 0 1) ∧ capFlows acq.eng = true ∧
    nextItem acq.eng 7 = none ∧ capFlows (w []).eng = false ∧ good acq = true := by decide +kernel

theorem meets_TimeCommandsApply :
    tsChangeable acq.eng = false ∧ tsChangeable (w [(GLB_MODE_STAT_CUR, 5)]).eng = true ∧
    tps ≤ (we (w []) fun e => e.wrq TIME_TODSET_TICK tps).eng.rdq TIME_TODSET_TICK ∧ (w []).eng.rdq TIME_TODSET_TICK < tps ∧
    (we (w []) fun e => { e with steer := { e.steer with pend := some ⟨1, 5, 0, 0⟩ } }).eng.steer.pend = some ⟨1, 5, 0, 0⟩ ∧
    (w []).eng.steer.pend = none ∧ good (w []) = true := by decide +kernel

theorem meets_TimePassesAndIsRead :
    (w [(TIME_PPSOUT_CFG_EN, 1)]).rd TIME_PPSOUT_CFG_EN = 1 ∧ (w [(TIME_PPSOUT_CFG_EN, 1)]).eng.tout.lead = none ∧
    (w [(TIME_PPSOUT_CFG_WIDTH_MS, 1)]).rd TIME_PPSOUT_CFG_WIDTH_MS ≠ 0 ∧ (w []).rd TIME_PPSOUT_OFS_OFS = 0 ∧
    (w []).pending = [] ∧ tbSource (w [(CLK_LOOP_STAT_BYPASS 7, 0)]).eng = 0 ∧ (w [(CLK_LOOP_STAT_BYPASS 7, 0)]).pending = [] ∧ 2 ^ 64 ≤ (we (w []) fun e => { e with ts := 2 ^ 64 - 1 }).eng.ts + 1 ∧
    (w [(TIME_PPSOUT_CFG_EN, 1), (TIME_PPSOUT_CFG_GATE, 7)]).rd TIME_PPSOUT_CFG_GATE = 7 ∧
    (we (w []) fun e => { e with tout := { e.tout with pulse := true } }).eng.tout.pulse = true ∧ (w []).eng.tout.pulse = false ∧
    good (w []) = true := by decide +kernel

/-- Steering in a state, with a previous edge at 5 ticks. -/
def steers (st : Nat) : State :=
  we (w [(TIME_STEER_STAT_STATE, st), (TIME_STEER_CFG_MODE, st), (TIME_HO_CFG_STAB_PPB, 1)]) fun e => { e with steer := { e.steer with prev := some 5 } }

theorem meets_SteeringFollowsEdges :
    (steers 2).eng.steer.prev = some 5 ∧ (tsDiff (5 + tps) 5).natAbs ≤ missTicks (steers 2).eng ∧ ppsWindow (steers 2).eng (5 + tps) 5 = true ∧
    (w []).eng.steer.prev = none ∧ (w []).eng.steer.cand = none ∧ (steers 2).rd TIME_STEER_STAT_STATE = 2 ∧ (steers 3).rd TIME_STEER_STAT_STATE = 3 ∧
    (steers 3).eng.steer.hoDone = false ∧ (steers 3).rd TIME_HO_CFG_STAB_PPB ≠ 0 ∧ aqFollows (steers 2).eng = false ∧ aqFollows (steers 3).eng = false ∧
    aqFollows (w [(TIME_AQL_CTRL_ROLE, 2), (TIME_AQL_STAT_UP_STATE, 2)]).eng = true ∧
    (w [(TIME_PPS_DLY_DLY, 0)]).rd TIME_PPS_DLY_DLY = 0 ∧ (steers 0).rd TIME_STEER_CFG_MODE = 0 ∧
    (steers 3).rd TIME_STEER_CFG_MODE = 3 ∧ steerOff (steers 3).eng = false ∧ (steers 3).rd TIME_GCTRL_LOCK = 0 ∧
    (w [(TIME_GCTRL_LOCK, 1)]).rd TIME_GCTRL_LOCK ≠ 0 ∧ (steers 3).eng.steer.pend = none := by decide +kernel

/-- An Aqurn engine of a role, its upstream port UP. -/
def aql (role : Nat) : State := w [(TIME_AQL_CTRL_ROLE, role), (TIME_AQL_STAT_UP_STATE, 2), (TIME_AQL_ARM_CFG_OP, 1)]

theorem meets_AqurnLinkWorks :
    (aql 0).rd TIME_AQL_CTRL_ROLE = 0 ∧ (aql 2).rd TIME_AQL_CTRL_ROLE ≠ 0 ∧ parseFrame [] = none ∧
    parseFrame (frameBytes ⟨1, 3, 0, [1, 2, 3]⟩) = some ⟨1, 3, 0, [1, 2, 3, 0, 0, 0, 0, 0, 0, 0, 0, 0]⟩ ∧ (aql 2).rd (portState true) ≠ 2 ∧
    (aql 2).rd (portState false) = 2 ∧ (aql 2).eng.aq.trigQ = [] ∧ takeType 4 [⟨4, 0, 0, [0]⟩] = some (⟨4, 0, 0, [0]⟩, []) ∧
    (aql 1).rd TIME_AQL_CTRL_ROLE = 1 ∧ tsDiff ((aql 1).eng.rdq TIME_AQL_ARM) (aql 1).eng.ts < 1280000 ∧
    1280000 ≤ tsDiff ((we (aql 1) fun e => e.wrq TIME_AQL_ARM 1280000).eng.rdq TIME_AQL_ARM) (aql 1).eng.ts ∧ (aql 1).rd TIME_AQL_ARM_CFG_OP = 1 ∧
    aqFollows (aql 2).eng = true ∧ aqFollows (aql 1).eng = false ∧
    1024 ≤ (we (aql 2) fun e => { e with aq := { e.aq with exN := 1024 } }).eng.aq.exN ∧ (aql 2).eng.aq.exN < 1024 ∧ (aql 2).eng.mode = .service ∧ (aql 2).rd GLB_MODE_STAT_BUSY = 0 ∧
    good (aql 2) = true := by decide +kernel

/-! ### Hypotheses of the statements can be met: chapters 3, 4, 8, 13 and 25 -/

/-- The acquisition with trigger context 3 in TIMING, in a state, and further fields. -/
def ctx (st : Nat) (l : List (Fld × Nat)) : State :=
  we acq fun e => ([(TRIG_CTX_INFO_EXISTS 3, 1), (TRIG_SEQ_STAT_EVAL 3, 1), (TRIG_SEQ_STAT_STATE 3, st)] ++ l).foldl (fun e x => e.wr x.1 x.2) e

/-- A context with its own state changed. -/
def cx (s : State) (f : CtxSt → CtxSt) : State := we s fun e => e.modCx 3 f

/-- Condition `i` of a resource is due. -/
def due (s : State) (i : Nat) : State := we s fun e => { e with tr := { e.tr with due := 2 ^ i } }

theorem meets_TriggerResourcesCommit :
    ctxExists (ctx 1 []).eng 3 = true ∧ ((cx (ctx 1 []) fun c => { c with commits := [some 63] }).eng.getCx 3).commits = some 63 :: [] ∧
    evals (ctx 1 []).eng 3 = true ∧ ((ctx 1 []).eng.getCx 3).inst = 0 ∧ hasInstant (ctx 1 []).eng (ctx 1 []).mem 3 0 = true ∧
    ((ctx 1 []).eng.getCx 3).cmtAt ≠ some 0 ∧ ((cx (ctx 1 []) fun c => { c with cmtAt := some 7 }).eng.getCx 3).cmtAt = some 7 ∧
    hasInstant (ctx 1 []).eng (ctx 1 []).mem 3 1 = false ∧
    (commitIds (ctx 1 []).eng 3 (some 63)).find? (fun j => commitWhy (ctx 1 []).eng 3 [63] j != 0) = some 63 ∧
    commitWhy (ctx 1 [(TRIG_OWN_CTX 63, 3), (TRIG_GRP_INFO_WIDTH 0, 8)]).eng 3 [63] 63 = 0 ∧ ((ctx 1 []).eng.getCx 3).commits = [] ∧
    resourceAt 0x143FC = some 0xBF ∧ owns (ctx 1 []).eng 3 0xBF = false ∧ owns (ctx 1 [(TRIG_OWN_CTX 0xBF, 3)]).eng 3 0xBF = true ∧
    owns (ctx 1 [(TRIG_OWN_CTX 63, 3)]).eng 3 63 = true ∧ isDue (due (ctx 1 [(TRIG_OWN_CTX 0xAF, 3)]) 0xAF).eng (0x90 + 31) = true ∧
    isDue (ctx 1 []).eng (0x90 + 31) = false ∧ isDue (due (ctx 1 [(TRIG_OWN_CTX 0xBF, 3)]) 0xBF).eng (0xB0 + 15) = true ∧
    isDue (ctx 1 []).eng (0xB0 + 15) = false ∧ good (ctx 1 []) = true := by decide +kernel

theorem meets_SequencerCommandsApply :
    evals (ctx 1 []).eng 3 = true ∧ evals (ctx 1 [(TRIG_SEQ_STAT_EVAL 3, 0)]).eng 3 = false ∧ hasInstant (ctx 1 []).eng (ctx 1 []).mem 3 0 = true ∧
    nextCmd ((cx (ctx 1 []) fun c => { c with cmds := [.arm] }).eng.getCx 3) 0 = some .arm ∧ seqState (retentionsAt 3 0 (ctx 1 []).eng) 3 = 1 ∧
    seqState (retentionsAt 3 0 (ctx 4 []).eng) 3 = 4 ∧ ¬(seqState (ctx 2 []).eng 3 = 1 ∨ seqState (ctx 2 []).eng 3 = 4) ∧
    nextCmd ((cx (ctx 1 []) fun c => { c with cmds := [.disarm] }).eng.getCx 3) 0 = some .disarm ∧
    (ctx 1 [(TRIG_SEQ_STAT_CMT_PEND 3, 1)]).rd (TRIG_SEQ_STAT_CMT_PEND 3) = 1 ∧
    (allBranches.find? fun p => branchWhy (ctx 1 [(TRIG_LVL_BR_OPS_OPA_OP 3 15 3, 1)]).eng 3 p.1 p.2 != 0) = some (0, 0) ∧
    good (ctx 1 []) = true := by
  decide +kernel

/-- Every branch of context 3 names no term: each passes the checks. -/
def plainBranches : State :=
  ctx 1 (allBranches.flatMap fun p => [TRIG_LVL_BR_TERM_T0, TRIG_LVL_BR_TERM_T1, TRIG_LVL_BR_TERM_T2, TRIG_LVL_BR_TERM_T3].map fun f => (f 3 p.1 p.2, 0xFF))

theorem meets_SequencerCommit : (allBranches.all fun p => branchWhy plainBranches.eng 3 p.1 p.2 == 0) = true := by decide +kernel

/-- In REVIEW: region 0 holds a TIME record and a RAW line of two samples, at ticks 0 and 2, of a capture in TIMING; further fields. -/
def captured (l : List (Fld × Nat)) : State :=
  let e := placeLine 0 ⟨1, 0, 0, 2, false, unitBytes [1, 0], 3⟩ (placeLine 0 (timeLine acq.eng 0 1) acq.eng)
  { State.reset with
    eng := ((GLB_MODE_STAT_CUR, 5) :: (TRIG_CTX_INFO_EXISTS 3, 1) :: l).foldl (fun e x => e.wr x.1 x.2) { e with wq := [] }
    mem := Mems.applyAll {} e.wq }

/-- Context 3 is ARMED at level 15, whose branch 3 is true at every instant. -/
def armedIn (s : State) : State :=
  let l := [TRIG_LVL_BR_TERM_T0, TRIG_LVL_BR_TERM_T1, TRIG_LVL_BR_TERM_T2, TRIG_LVL_BR_TERM_T3].map fun f => (f 3 15 3, 0xFF)
  wa (we s fun e => [(TRIG_SEQ_STAT_EVAL 3, 1), (TRIG_SEQ_STAT_STATE 3, 2), (TRIG_SEQ_STAT_LEVEL 3, 15)].foldl (fun e x => e.wr x.1 x.2) e)
    ((TRIG_LVL_BR_CTL_TRUTH 3 15 3, 0xFFFF) :: l)

/-- That context in an acquisition whose tile 0 has written its first word. -/
def armedLive : State := we (armedIn (ctx 2 [])) fun e => e.modEla 0 fun x => { x with wPos := 128 }

/-- That context in a retriggering run over ticks 0 to 3. -/
def armedRun : State :=
  we (armedIn (captured [(TRIG_RR_STAT_BUSY, 1)])) fun e => { e with rr := { e.rr with ctx := 8, start := 0, upto := 4 } }

/-- What context 3 sees at tick 0 of the run. -/
def pres : Pres :=
  let e2 := stepStart 3 (retentionsAt 3 0 (fabricReads 0 armedRun.eng))
  let e3 := evalInputs 3 (runSeen e2 armedRun.mem 3 0) e2
  ⟨e2, addTimerFlags e2 3 0 e3.tr.out, 0, 2 ^ 3⟩

/-- A retention of a trigger at tick 128 that ends at 256. -/
def ret : Retention := { t := 128, due := 256, level := 0, branch := 0, single := true, retrig := false, targets := [] }

theorem meets_InstantsDecideAndResultsEnd :
    instantCtxs (fabricReads 0 armedLive.eng) armedLive.mem 8 0 = [3] ∧ good armedLive = true ∧
    instantCtxs (fabricReads 0 armedRun.eng) armedRun.mem 8 0 = [3] ∧ inRun armedRun.eng = true ∧ good armedRun = true ∧
    decideBranch pres 3 = some (15, 3) ∧ instantCtxs (fabricReads 0 acq.eng) acq.mem 8 0 = [] ∧
    retentionDue ((cx (ctx 3 []) fun c => { c with last := some 384, rets := [ret] }).eng.getCx 3).last ret = some 256 ∧
    ((cx (ctx 3 []) fun c => { c with last := some 384, rets := [ret] }).eng.getCx 3).rets = [ret] ∧ ((ctx 3 []).eng.getCx 3).rets = [] ∧
    good (ctx 3 []) = true := by decide +kernel

theorem meets_InstantsDecideAndResultsEnd_run :
    inRun armedRun.eng = true ∧ inRun (w []).eng = false ∧ (w []).eng.rdq TRIG_RR_TO ≤ (w []).eng.rdq TRIG_RR_FROM ∧ good (w []) = true ∧
    (let s := captured [(TRIG_RR_TO_LO_TS, 3), (TRIG_RR_CTRL_CTX, 8)]
     inRun s.eng = false ∧ s.eng.rdq TRIG_RR_FROM < s.eng.rdq TRIG_RR_TO ∧ s.eng.mode = .review ∧
     rangeHeld s.eng s.mem (s.rd TRIG_RR_CTRL_REG) (s.eng.rdq TRIG_RR_FROM) (s.eng.rdq TRIG_RR_TO) = true ∧
     ((List.range 4).all fun n => !natBit (s.rd TRIG_RR_CTRL_CTX) n || (ctxExists s.eng n && !s.eng.inService (8 + n))) = true ∧ good s = true) ∧
    armedRun.eng.rr.req = none ∧ armedRun.eng.md.trans = none ∧ rrCode armedRun.eng armedRun.mem = none ∧
    (let s := we armedRun fun e => { e with rr := { e.rr with req := some 1 } }
     s.eng.rr.req ≠ none ∧ s.eng.md.trans = none ∧ rrCode s.eng s.mem = some 1 ∧ good s = true) ∧ good armedRun = true := by decide +kernel

theorem meets_RegisterWritesActByFieldType :
    good (w []) = true ∧ (w []).rd GLB_SLK_CTRL_FLOOR < 2 ^ 8 ∧ (w []).rd GLB_SLK_CTRL_WIN < 2 ^ 4 ∧ 8 < 0xF0000 / 2 ^ 16 % 16 ∧
    0xF0000 / 2 ^ 16 % 16 ≠ (w []).rd GLB_SLK_CTRL_WIN ∧ (w [(HOST_EVT_CTO, 1)]).rd HOST_EVT_CTO < 2 ∧ (w [(GLB_GCTRL_LOCK, 1)]).rd GLB_GCTRL_LOCK < 2 ∧
    (findReg 0x1FFFFFC).isNone = true ∧ ((findReg 0).any fun row => row.fields.all fun f => f.ty == .ro) = true := by decide +kernel


/-- The clock block locked. -/
def clkLocked : State := w [(CLK_GCTRL_LOCK, 1)]

theorem meets_LockedFieldsKeepTheirValue :
    ((findReg (0x300004 / 4 * 4)).any fun row => row.fields.any fun f => f.ty == .rwl && locked clkLocked.eng (0x300004 / 4 * 4) &&
      decide (clkLocked.rd (rowFld row (0x300004 / 4 * 4) f) < 2 ^ f.width)) = true ∧ good clkLocked = true := by decide +kernel

/-- The image is active, memory filled and trained, a pod present, region 0 configured, context 3 exists. -/
def ready (l : List (Fld × Nat)) : State :=
  w ([(CFG_STATUS_STATE, 2), (PWR_STRT_FILL_DONE, 1), (MEM_TRN_STAT_INIT_DONE, 1), (POD_STAT_PRSNT 0, 1), (ACC_CREG_CFG_KIND 0, 1),
    (POD_STAT_STATE 0, 5), (FE_CH_CFG_EN 0, 1), (ACC_CREG_CFG_EN 0, 1), (ACC_CREG_SIZE_LINES 0, 4), (SEC_LC_STAT_STATE, 1),
    (CLK_LOOP_STAT_STATE 0, 2), (CLK_LOOP_STAT_STATE 7, 2)] ++ l)

theorem meets_RejectedModeRequestChangesNothingElse :
    modeCheck (ready []).eng 1 = none ∧ modeCheck (ready [(CFG_STATUS_STATE, 1)]).eng 4 = some 1 ∧ modeCheck (ready [(MEM_TRN_STAT_INIT_DONE, 0)]).eng 1 = some 2 ∧
    modeCheck (ready [(POD_STAT_PRSNT 0, 0)]).eng 1 = some 4 ∧ modeCheck (ready [(ACC_CREG_CFG_KIND 0, 0)]).eng 1 = some 5 ∧
    modeCheck (ready [(GLB_MODE_STAT_CUR, 1)]).eng 2 = some 6 ∧ modeCheck (ready [(GLB_MODE_STAT_BUSY, 1)]).eng 5 = some 7 ∧
    modeCheck (ready [(SEC_TAMPER_STAT_LATCH, 1)]).eng 1 = some 8 ∧ (w []).rd GLB_MODE_MODE ≠ 6 ∧ (w []).rd GLB_MODE_MODE ≠ 7 ∧
    (we (ready [(CLK_LOOP_STAT_STATE 0, 1)]) fun e => { e with md := { e.md with trans := some ⟨1, false, 0, none⟩ } }).eng.md.trans = some ⟨1, false, 0, none⟩ ∧
    OpMode.acq (.ofCode 1) = true ∧ (ready []).eng.inAcq = false ∧ inRun (ready []).eng = false ∧ modeLoops (ready []).eng 1 = [0] ∧
    loopLocked (ready [(CLK_LOOP_STAT_STATE 0, 1)]).eng 0 = false ∧ good (ready []) = true := by decide +kernel

/-- A transition under way, to a target. -/
def moving (s : State) (tr : Trans) : State := we s fun e => { e with md := { e.md with trans := some tr } }

/-- The run of `acq` stops at tick 0 on its way to SERVICE; its tile has written a word beyond. -/
def stopping (l : List (Fld × Nat)) : State :=
  moving (we acq fun e => l.foldl (fun e x => e.wr x.1 x.2) (e.modEla 0 fun x => { x with wPos := 128 })) ⟨0, false, 0, some 0⟩

theorem meets_ModeTransitionsRun :
    (w []).rd GLB_MODE_STAT_CUR = 0 ∧ (w []).rd GLB_MODE_STAT_BUSY = 0 ∧ (w []).rd PWR_STRT_FILL_DONE = 0 ∧
    modeCheck (ready []).eng 1 = none ∧ (ready []).rd PWR_STRT_FILL_DONE ≠ 0 ∧ modeCheck (ready [(GLB_MODE_STAT_CUR, 4)]).eng 5 = none ∧
    (ready [(GLB_MODE_STAT_CUR, 4)]).eng.inAcq = true ∧ inRun (ready [(TRIG_RR_STAT_BUSY, 1)]).eng = true ∧
    ((List.range 8).all fun p => (ready []).rd (POD_STAT_STATE p) != 4) = true ∧
    modeCheck (ready [(TRIG_RR_STAT_BUSY, 1)]).eng 1 = none ∧ (ready []).eng.md.heldSvc = [] ∧
    (moving (ready []) ⟨1, false, 0, none⟩).eng.md.trans = some ⟨1, false, 0, none⟩ ∧ entryReady (ready []).eng ⟨1, false, 0, none⟩ 128 = true ∧
    entryReady (ready []).eng ⟨1, false, 0, none⟩ 127 = false ∧ good (stopping []) = true ∧
    (let e := drainNow (stopping []).eng
     memRuns e = true ∧ (List.range 4).all (ctxDrained e 0) = true ∧ ((List.range 8).all fun k => drained e k && !tileAwaited e k) = true) ∧
    memRuns (drainNow (stopping [(CLK_LOOP_STAT_STATE 5, 1)]).eng) = false ∧ good (stopping [(CLK_LOOP_STAT_STATE 5, 1)]) = true ∧
    good (ready []) = true := by decide +kernel

theorem meets_RefusedTileServiceSetsRej :
    (w [(CMP_JOB_STAT_STATE 3, 2)]).rd GLB_MODE_STAT_BUSY = 0 ∧ natBit 0x1000 12 = true ∧ (w [(CMP_JOB_STAT_STATE 3, 2)]).eng.inService 12 = false ∧
    natBit (w []).eng.md.entering 14 = false ∧ jobState (w [(CMP_JOB_STAT_STATE 3, 2), (CMP_JOB_CTRL_OP 3, 1)]).eng 3 = 2 ∧
    (w [(CMP_JOB_STAT_STATE 3, 2), (CMP_JOB_CTRL_OP 3, 1)]).rd (CMP_JOB_CTRL_OP 3) = 1 ∧
    acq.eng.inAcq = true ∧ receives (acq.eng.wr (ACC_CREG_CFG_FORM 0) 2) 0 = true ∧ regionForm (acq.eng.wr (ACC_CREG_CFG_FORM 0) 2) 0 = 2 ∧
    (acq.eng.mode ≠ .service) ∧ acq.eng.mode ≠ .review ∧ (w [(HOST_DMA_STAT_STATE 7, 1)]).rd (HOST_DMA_STAT_STATE 7) = 1 := by decide +kernel

/-- Tile `k` on its way into service, or in service since tick 5 and on its way out. -/
def svc (k : Nat) (out : Bool) : State :=
  we (w [(GLB_TILE_SVC_STAT_ACT, if out then 2 ^ k else 0)]) fun e =>
    { e with md := { e.md with entering := if out then 0 else 2 ^ k, leaving := if out then 2 ^ k else 0, svcStart := putAt e.md.svcStart k (some 5) none } }

theorem meets_TileServiceBeginsAndEnds :
    (w [(GLB_MODE_STAT_BUSY, 1)]).rd GLB_MODE_STAT_BUSY ≠ 0 ∧ (w []).eng.inService 13 = false ∧ natBit 0x2000 13 = true ∧
    natBit (svc 13 false).eng.md.entering 13 = true ∧ (svc 13 false).eng.md.svcStart.length = 15 ∧ natBit (svc 13 true).eng.md.leaving 13 = true ∧
    (svc 13 true).eng.inService 13 = true ∧ natBit (svc 13 true).eng.md.entering 13 = false ∧ (svc 13 true).rd CFG_TILE_STAT_BUSY = 0 ∧
    (svc 13 true).eng.md.svcStart.getD 13 none = some 5 ∧ (svc 13 true).eng.ldg.queue.length < 200 ∧ (svc 13 true).eng.inAcq = false ∧
    good (svc 13 true) = true ∧ good (svc 13 false) = true := by decide +kernel

/-! ### Hypotheses of the statements can be met: chapters 9, 10 and 14 -/

/-- Some bytes of capture memory. -/
def capAt (s : State) (a : Nat) (bs : List Byte) : State := { s with mem := { s.mem with cap := memWrite s.mem.cap a bs } }

/-- Ring 0 holds one data line of tick 0; its window of ticks 0 to 100 is being copied into KEPT region 1; outside acquisition. -/
def keep : State :=
  capAt (we (mem [(ACC_CREG_CFG_KIND 0, 1), (ACC_CREG_SIZE_LINES 0, 4), (ACC_CREG_POS_WPTR 0, 1), (ACC_CREG_CFG_KIND 1, 3),
    (ACC_CREG_SIZE_LINES 1, 4), (ACC_CREG_BASE_LINE 1, 4), (ACC_CREG_POS_WPTR 1, 1)]) fun e =>
    ({ e with clr := some 1 }.modRg 0 fun r => { r with lines := 1 }).modKr 0 fun k =>
      { k with wins := [{ nstart := 0, start := 0, fin := 100, hit := 50, hits := 1, pre := 50, post := 50, mx := 1, dest := 1, cont := false,
                          begun := some (1, 0, 0) }] }) 0 [1, 0, 0, 0, 0, 0, 0, 0, 0, 0, 0, 0, 0, 0, 0, 4]

/-- The same, the line copied. -/
def keepDone : State := we keep fun e => modWin 0 (fun x => { x with lines := 1, cursor := 1 }) e

theorem meets_RegionsKeepSealAndClear :
    (((keep.eng.getKr 0).wins.head?.all fun x => x.begun != none && x.dest == 1 && windowComplete keep.eng 0 x) = true) ∧
    (keep.eng.getKr 0).wins.length = 1 ∧ (keep.eng.getKp 1).busy = none ∧ 0 < keptFree keep.eng 1 ∧
    (match copyLook keep.eng keep.mem 0 with
     | .take 0 b => decide (b.length = 256)
     | _ => false) = true ∧
    copyLook keepDone.eng keepDone.mem 0 = .idle ∧ memRuns keep.eng = true ∧ ((w []).eng.getKr 15).wins = [] ∧ memRuns (w []).eng = false ∧
    ¬(regionKind (w []).eng 15 = 1 ∧ regionKind (w []).eng 15 = 3) ∧ regionKind keep.eng 0 = 1 ∧ regionKind keep.eng 1 = 3 ∧
    wakeDue (w [(ACC_ARC_WAKE_STAT_CAUSE, 4), (ACC_ARC_WAKE_FAULT, 1)]).eng ≠ 0 ∧ (w [(CS_PM_STATE, 3)]).rd CS_PM_STATE = 3 ∧
    (w [(CS_PME_EN, 1)]).rd CS_PME_EN ≠ 0 ∧ wakeSpaced (w []).eng = true ∧ (w []).eng.mode = .service ∧ (w []).rd ACC_STAT_BUSY = 0 ∧
    (∀ c ∈ (w []).eng.dma, c.region ≠ some 0) ∧ keep.eng.clr = some 1 ∧ (w []).eng.clr = none ∧ acq.eng.inAcq = true ∧ good keep = true ∧
    good keepDone = true := by decide +kernel

/-- A container of one line of lane 3, METHOD 0: tile 0, base 128, one edge. -/
def span : Span := ⟨128, 128, 1, 1, 0, 0, true, 0⟩
def contBytes : List Byte := encodeStored span [⟨200, 0, true, false⟩]

/-- Job slot 3 works on that container; `len`: DSTLEN; `good`: its CRC stands. -/
def job (l : List (Fld × Nat)) (ok : Bool) : State :=
  capAt (we (mem (ports ++ [(CMP_JOB_STAT_STATE 3, 2), (CMP_JOB_CTRL_OP 3, 2), (CMP_JOB_SRCLEN_LEN 3, contBytes.length), (CMP_JOB_PITCH_PITCH 3, 1),
    (CMP_JOB_DSTLEN_LEN 3, 1024)] ++ l)) fun e => e.wrq (CMP_JOB_DST 3) 4096) 0 (if ok then contBytes else contBytes.drop 1)

theorem meets_ContainersAndJobsWork :
    ((w []).eng.getRg 15).outQ = [] ∧ inRun (w []).eng = false ∧
    ((we (mem ports) fun e => e.modRg 15 fun r => { r with outQ := [.cont span []] }).eng.getRg 15).outQ = [.cont span []] ∧ laneOf (mem ports).eng 15 span.tile < 8 ∧
    cmpFlows (mem ports).eng = true ∧ cmpFlows (w []).eng = false ∧ good (mem ports) = true ∧
    (decodeLines (mem ports).eng (mem ports).mem (capPlaces (mem ports).eng (mem ports).mem 0)).dec.why = 6 ∧ (w [(CMP_JOB_STAT_STATE 3, 3)]).rd (CMP_JOB_STAT_STATE 3) = 3 ∧
    (w []).eng.inService 12 = false ∧ (w [(GLB_TILE_SVC_STAT_ACT, 0x1000)]).eng.inService 12 = true ∧
    (w [(GLB_MODE_STAT_CUR, 3)]).eng.mode = .chronicle ∧ jobRangeBad (job [(CMP_JOB_DSTLEN_LEN 3, 2 ^ 32 - 1), (CMP_JOB_STAT_STATE 3, 0)] true).eng 3 = false ∧
    jobRangeBad (we (job [] true) fun e => e.wrq (CMP_JOB_DST 3) 0).eng 3 = true ∧ jobParamBad (job [(CMP_JOB_CTRL_OP 3, 0)] true).eng 3 = true ∧
    jobParamBad (job [] true).eng 3 = false ∧ (w [(CMP_JOB_STAT_STOP_WHY 3, 1)]).rd (CMP_JOB_STAT_STOP_WHY 3) = 1 ∧
    cmpFlows (job [] true).eng = true ∧ laneWaits (takeLane 3 (job [] true).eng) 3 = false ∧
    ((decompressNext 3 (job [] true).eng (job [] true).mem).any fun x => x.dec.why == 0 && x.used == contBytes.length &&
      (resultHeader x ++ unitBytes x.dec.units).length ≤ 1024) = true ∧
    ((decompressNext 3 (job [(CMP_JOB_DSTLEN_LEN 3, 4)] true).eng (job [] true).mem).any fun x => x.dec.why == 0 &&
      decide (4 < (resultHeader x ++ unitBytes x.dec.units).length)) = true ∧
    ((decompressNext 3 (job [] false).eng (job [] false).mem).any fun x => x.dec.why != 0) = true ∧
    (job [(CMP_JOB_CTRL_CONT_ON_ERR 3, 0)] false).rd (CMP_JOB_CTRL_CONT_ON_ERR 3) = 0 ∧ good (job [] true) = true := by decide +kernel

/-- The last sector of line 0 is poisoned. -/
def dark (l : List (Fld × Nat)) : State := { mem (ports ++ l) with mem := { (mem []).mem with capPois := [7] } }

theorem meets_ContainersAndJobsWork_poison :
    (decodeLines (dark []).eng (dark []).mem (capPlaces (dark []).eng (dark []).mem 0)).read = [0] ∧ lineSound (dark []).eng 0 = true ∧
    sectorPois (dark []).mem 0 7 = true ∧ cmpFlows (dark []).eng = true ∧ good (dark []) = true ∧
    (decodeLines (mem ports).eng (mem ports).mem (capPlaces (mem ports).eng (mem ports).mem 0)).read = [0] ∧
    lineQuiet (mem ports).eng (mem ports).mem 0 = true := by decide +kernel

/-- R242, R261: a poisoned CBLOCK line gives WHY 7 and counts as a poisoned read. -/
theorem test_poisoned_container :
    (after (.containerDecode 0 0 0) (dark []) MEM_ERR_PRD_CNT_CNT, after (.containerDecode 0 0 0) (dark []) CMP_DEC_LAST_WHY) = (some 1, some 7) := by
  decide +kernel

theorem meets_CuratorRestartsSensesAndTrips_load_error :
    (dark [(CUR_STAT_RUN, 1)]).eng.mc.fab = [] ∧ (dark []).eng.mc.stalled = [] ∧ portFree (dark []).eng 4 = true ∧ ((dark []).eng.getStk (stackOf 0)).trq = [] ∧
    memWaits 4 0 (!rowHit (dark []).eng 0) (dark []).eng = false ∧ (dark []).eng.ldg.queue.length < 200 ∧
    (lineRead (dark []).eng (dark []).mem 0 []).result ≠ 2 ∧ natBit (lineRead (dark []).eng (dark []).mem 0 []).pois (255 / 32) = true ∧
    (dark [(CUR_STAT_RUN, 1)]).rd CUR_STAT_RUN ≠ 0 ∧ good (dark [(CUR_STAT_RUN, 1)]) = true := by decide +kernel

/-- R261, R383: Curator's load of a poisoned sector is a load error with a Ledger entry, whether or not POISON_RD is set; one of a clean
sector of the line is not. -/
theorem test_load_error :
    (holdsAfter (.curWindowAccess 224 4 none [] 0) (dark [(CUR_STAT_RUN, 1), (MEM_ERR_EVT_POISON_RD, 1)]) (fun t => t.eng.ldg.queue.length == 1) &&
      holdsAfter (.curWindowAccess 220 4 none [] 0) (dark [(CUR_STAT_RUN, 1), (MEM_ERR_EVT_POISON_RD, 1)]) fun t => t.eng.ldg.queue.length == 0) = true := by decide +kernel

/-- Stored containers decode to their items. -/
theorem test_stored_container_decodes : (decodeContainer contBytes).why = 0 ∧ (decodeContainer contBytes).units = canonical span [⟨200, 0, true, false⟩] := by
  decide +kernel

/-- Region 0 of master 2 covers the last 8 bytes of bank 27; a wipe runs. -/
def scr (l : List (Fld × Nat)) : State :=
  w ([(SCR_RGN_BASE_BASE 2 0, 0), (SCR_RGN_LIMIT_LIMIT 2 0, 2 ^ 13 - 1), (SCR_RGN_PERM_EN 2 0, 1), (SCR_RGN_PERM_R 2 0, 1),
    (SCR_RGN_PERM_W 2 0, 1), (SCR_BANK_OWN_OWN 0, 1)] ++ l)

theorem meets_ScratchAccessesAreServedOrRefused :
    (([1, 10] : List Nat).all fun who => scrPermits (scr []).eng ⟨who, 0, some [1, 2], 2, []⟩) = true ∧ scrWaits (scr []).eng 0 2 = false ∧
    scrPermits (scr []).eng ⟨10, 8, none, 8, []⟩ = true ∧ idxMem (scr []).mem.scrPois 1 = false ∧
    scrPermits (scr [(SCR_RGN_LIMIT_LIMIT 0 0, 2 ^ 13 - 1), (SCR_RGN_PERM_EN 0 0, 1), (SCR_RGN_PERM_R 0 0, 1)]).eng
      ⟨8, 28 * 2 ^ 20, none, 1, [.clean]⟩ = true ∧ scrWaits (scr [(SCR_STAT_WIPING, 1)]).eng (28 * 2 ^ 20) 1 = true ∧
    (([6, 8, 9, 10] : List Nat).all fun who => !scrPermits (scr []).eng ⟨who, 2 ^ 25 - 1, none, 1, []⟩) = true ∧ (scr []).rd (SCR_ATOM_STAT_BUSY 2) = 0 ∧
    privPermits (scr []).eng 2 0 4 true true = true ∧ (scr [(SCR_ATOM_ADDR_ADDR 2, 1)]).rd (SCR_ATOM_ADDR_ADDR 2) % 4 ≠ 0 ∧
    privPermits (scr []).eng 2 1 4 true true = true ∧ privPermits (w []).eng 2 0 4 true true = false ∧ good (scr []) = true := by decide +kernel

theorem meets_ScratchIsPatrolledRepairedWipedAndTested :
    (w [(SCR_PATROL_CFG_EN, 1)]).rd SCR_PATROL_CFG_EN ≠ 0 ∧ (w [(SCR_PATROL_CFG_EN, 0)]).rd SCR_PATROL_CFG_EN = 0 ∧ 28 ≤ scrBank (2 ^ 22 - 1) ∧
    (w [(SCR_STAT_WIPING, 1)]).rd SCR_STAT_WIPING ≠ 0 ∧ (w []).eng.sc.patrol < 2 ^ 22 ∧ bankTested (w []).eng (scrBank 0) = false ∧
    (w []).eng.sc.inv = [] ∧ (we (w []) fun e => { e with sc := { e.sc with inv := [⟨5, 1, 0, 0, false, false⟩] } }).eng.sc.inv = [⟨5, 1, 0, 0, false, false⟩] ∧
    ((we (w []) fun e => { e with sc := { e.sc with reps := [(2 ^ 22 - 1, 5, true)] } }).eng.sc.reps.find? fun x => scrBank x.1 == 31) = some (2 ^ 22 - 1, 5, true) ∧
    good (w [(SCR_STAT_WIPING, 1)]) = true ∧ (w []).eng.sc.hold = [] ∧ (w []).eng.se.trans = none ∧ (w []).rd SCR_MT_STAT_BUSY = 0 ∧
    (w [(SCR_MT_CTRL_MODE, 0)]).rd SCR_MT_CTRL_MODE = 0 ∧ marchAllowed acq.eng = false ∧ marchAllowed (w []).eng = true ∧
    (we (w []) fun e => { e with sc := { e.sc with march := some ⟨0, 1⟩ } }).eng.sc.march = some ⟨0, 1⟩ := by decide +kernel

/-! ### Hypotheses of the statements can be met: chapters 15 and 16 -/

/-- The function is configured and its link up, with further fields. -/
def host (l : List (Fld × Nat)) : State :=
  we (w ([(CS_BME, 1), (CS_MSE, 1), (CS_MSIX_EN, 1)] ++ l)) fun e => { e with hl := { e.hl with up := true, ready := true } }

/-- Requests outstanding. -/
def hreqs (s : State) (rs : List NpReq) : State := we s fun e => { e with hl := { e.hl with reqs := rs } }

theorem meets_HostLinkResetsAndStates :
    (w []).eng.hl.ready = false ∧ (host []).eng.hl.ready = true ∧ dmaRuns (host [(HOST_DMA_STAT_STATE 7, 1)]).eng 7 = true ∧
    dmaRuns (host []).eng 0 = false ∧ good (host []) = true := by decide +kernel

theorem meets_InterruptsAndEventFifo :
    asserted (host []).eng 2 = false ∧ asserted (host [(GLB_SLK_ALARM_STAGE, 1)]).eng 2 = true ∧ (host []).rd CS_PM_STATE ≠ 3 ∧
    (host []).rd CS_MSIX_EN ≠ 0 ∧ (host [(CS_MSIX_FMASK, 0)]).rd CS_MSIX_FMASK = 0 ∧
    natBit (we (host []) fun e => { e with vmask := 0 }).eng.vmask 2 = false ∧ natBit (host []).eng.vmask 2 = true ∧
    natBit (we (host []) fun e => { e with pba := 4 }).eng.pba 2 = true ∧ natBit (host []).eng.pba 2 = false ∧ inService (host []).eng 2 = false ∧
    (we (host []) fun e => { e with evq := { e.evq with latched := some [5] } }).eng.evq.latched = some [5] ∧ (host []).eng.evq.latched = none ∧
    (host []).eng.evq.items = [] ∧ (we (host []) fun e => { e with evq := { e.evq with items := [5] } }).eng.evq.items ≠ [] := by decide +kernel

/-- Channel 7 runs, in a phase, with a descriptor of an operation of 64 bytes, `pos` of them moved. -/
def dmaAt (phase op pos : Nat) (stop : Bool) : State :=
  we (host [(HOST_DMA_STAT_STATE 7, 1), (HOST_DMA_TAIL_IDX 7, 1), (CS_ATS_EN, 0)]) fun e => e.modDma 7 fun d =>
    { d with phase := phase, pos := pos, stop := stop, desc := { d.desc with op := op, len := 64 }, rpos := some (0, 0, 0) }

theorem meets_DmaChannelsRunAndStop :
    2 ^ (host []).rd (HOST_DMA_RING_CFG_LOG2 7) < (2 ^ 32 - 1 + 2 ^ 32 - (host []).rd (HOST_DMA_HEAD_IDX 7)) % 2 ^ 32 ∧
    (1 + 2 ^ 32 - (host []).rd (HOST_DMA_HEAD_IDX 7)) % 2 ^ 32 ≤ 2 ^ (host []).rd (HOST_DMA_RING_CFG_LOG2 7) ∧
    (dmaAt 0 1 0 false).rd (HOST_DMA_STAT_STATE 7) = 1 ∧ ((dmaAt 0 1 0 false).eng.getDma 7).phase = 0 ∧ (host []).rd (HOST_DMA_STAT_STATE 7) ≠ 1 ∧
    busOk (host []).eng = true ∧ busOk (w []).eng = false ∧ ((dmaAt 1 1 0 false).eng.getDma 7).phase ≤ 1 ∧ ((dmaAt 2 1 0 false).eng.getDma 7).phase = 2 ∧
    (dmaAt 2 1 0 false).rd CS_ATS_EN = 0 ∧ (dmaAt 0 1 0 false).rd (HOST_DMA_HEAD_IDX 7) ≠ (dmaAt 0 1 0 false).rd (HOST_DMA_TAIL_IDX 7) ∧
    (host []).rd (HOST_DMA_HEAD_IDX 7) = (host []).rd (HOST_DMA_TAIL_IDX 7) ∧ freeTag (host []).eng = some 0 ∧ (dmaAt 2 1 64 true).eng.hl.reqs = [] ∧
    ((dmaAt 2 1 64 true).eng.getDma 7).desc.op = 1 ∧ ((dmaAt 2 1 64 true).eng.getDma 7).pos = ((dmaAt 2 1 64 true).eng.getDma 7).desc.len ∧
    ((dmaAt 2 2 32 false).eng.getDma 7).desc.op = 2 ∧ ((dmaAt 2 2 32 false).eng.getDma 7).pos < ((dmaAt 2 2 32 false).eng.getDma 7).desc.len ∧
    ((dmaAt 2 2 32 false).eng.getDma 7).rpos = some ((dmaAt 2 2 32 false).rd (ACC_CREG_POS_WPTR 0), 0, (dmaAt 2 2 32 false).rd (ACC_CREG_GS_SEQ 0)) ∧
    good (dmaAt 2 2 32 false) = true := by decide +kernel

theorem meets_UnexpectedCompletionIsCounted :
    (host []).eng.hl.reqs = [] ∧ (host []).rd HOST_EVT_UNEXP = 0 ∧ (host []).eng.ldg.queue.length < 250 ∧ good (host []) = true := by decide +kernel

/-- A request of tag 1023 of an ended descriptor. -/
def oneReq : State := hreqs (host []) [{ tag := 1023, chan := 7, kind := 0, addr := 0, len := 64, off := 0, orphan := true }]

/-- Window 15 maps 1 MiB. -/
def win (ro : Nat) : State :=
  wa (host [(CLK_LOOP_STAT_STATE 5, 2), (PWR_STRT_FILL_DONE, 1)]) [(HOST_WIN_CFG_EN 15, 1), (HOST_WIN_CFG_SIZE 15, 20), (HOST_WIN_CFG_RO 15, ro)]

theorem meets_RequestsTimeOutAndWindowsMap :
    (oneReq.eng.hl.reqs.find? fun x => x.tag == 1023) = some { tag := 1023, chan := 7, kind := 0, addr := 0, len := 64, off := 0, orphan := true } ∧
    oneReq.rd CS_CTO_DIS = 0 ∧ (host [(CS_CTO_DIS, 1)]).rd CS_CTO_DIS ≠ 0 ∧ (([] : List Byte) ++ [1, 2, 3, 4]).length < 64 ∧ (host []).eng.hl.quar = [] ∧
    (we (host []) fun e => { e with hl := { e.hl with quar := [(5, 9)] } }).eng.hl.quar ≠ [] ∧ (host []).eng.hl.inv = [] ∧ (host []).eng.hl.reqs = [] ∧
    winFail (host []).eng = none ∧ (winFail (host [(HOST_WIN_CFG_EN 15, 1), (HOST_WIN_CFG_SIZE 15, 0)]).eng).isSome = true ∧ barDecodes (host []).eng = true ∧
    (host []).eng.inService 14 = false ∧ barDecodes (w []).eng = false ∧ winHit (host []).eng 0 256 = none ∧ winHit (win 0).eng 0 256 = some 15 ∧
    (capLines 0 256).all (fun l => !memWaits hstPort l false (win 0).eng) = true ∧ (capLines 0 256).any (fun l => memWaits hstPort l false (host []).eng) = true ∧
    (win 1).rda (HOST_WIN_CFG_RO 15) ≠ 0 ∧ (win 0).rda (HOST_WIN_CFG_RO 15) = 0 ∧ good (win 0) = true := by decide +kernel

theorem meets_DisplayLinkTrainsAndReports :
    (w [(VIT_LINK_STAT_BUSY, 1)]).rd VIT_LINK_STAT_BUSY ≠ 0 ∧ (w []).rd VIT_LINK_STAT_BUSY = 0 ∧
    (w [(CLK_LOOP_STAT_STATE 6, 2), (CLK_LOOP_ACT_FOUT_KHZ 6, 810243)]).rd (CLK_LOOP_ACT_FOUT_KHZ 6) * 1000000 ≤ 810000 * 1000300 ∧
    (w [(VIT_LINK_CFG_AUTO, 1)]).rd VIT_LINK_CFG_AUTO ≠ 0 ∧ (w [(VIT_LINK_CFG_AUTO, 0)]).rd VIT_LINK_CFG_AUTO = 0 ∧
    (w [(VIT_AUX_STAT_BUSY, 1)]).rd VIT_AUX_STAT_BUSY ≠ 0 ∧ (w []).rd VIT_AUX_STAT_BUSY = 0 ∧
    (we (w []) fun e => { e with vt := { e.vt with auxOp := 3, auxLen := 16 } }).eng.vt.auxOp % 2 = 1 ∧ (w []).eng.vt.auxWait = none ∧
    (we (w []) fun e => { e with vt := { e.vt with auxWait := some .pme } }).eng.vt.auxWait ≠ none ∧ good (w []) = true := by decide +kernel

/-- Display timings of 64 by 64 pixels, VPLL LOCKED, the link up; further fields and active values. -/
def vit (l la : List (Fld × Nat)) : State :=
  wa (w ([(CLK_LOOP_STAT_STATE 6, 2), (VIT_STAT_LINK_UP, 1), (VIT_CTRL_EN, 1), (VIT_TIM_H0_ACT, 64), (VIT_TIM_V0_ACT, 64), (VIT_TIM_H0_FP, 1),
    (VIT_TIM_H1_SYNC, 1), (VIT_TIM_H1_BP, 1), (VIT_TIM_V0_FP, 1), (VIT_TIM_V1_SYNC, 1), (VIT_TIM_V1_BP, 1), (VIT_TIM_PCLK_KHZ, 25000)] ++ l))
    ([(VIT_TIM_H0_ACT, 64), (VIT_TIM_V0_ACT, 64)] ++ la)

theorem meets_FramesFlipsAndRenders :
    (∀ f ∈ [VIT_TIM_H0_ACT, VIT_TIM_V0_ACT], 64 ≤ (vit [] []).rd f ∧ (vit [] []).rd f ≤ 4096) ∧
    (∀ f ∈ [VIT_TIM_H0_FP, VIT_TIM_H1_SYNC, VIT_TIM_H1_BP, VIT_TIM_V0_FP, VIT_TIM_V1_SYNC, VIT_TIM_V1_BP], 1 ≤ (vit [] []).rd f ∧ (vit [] []).rd f ≤ 4095) ∧
    25000 ≤ (vit [] []).rd VIT_TIM_PCLK_KHZ ∧ (vit [] []).rd VIT_TIM_PCLK_KHZ ≤ 600000 ∧ (w []).rd VIT_TIM_H0_ACT < 64 ∧
    (vit [(VIT_TIM_PCLK_KHZ, 24999)] []).rd VIT_TIM_PCLK_KHZ < 25000 ∧ linkRoom (vit [] []).eng < (vit [] []).rd VIT_TIM_PCLK_KHZ * 1000 * 24 ∧
    (vit [(VIT_STAT_LINK_UP, 0)] []).rd VIT_STAT_LINK_UP = 0 ∧ (vit [] []).eng.vt.commit = false ∧
    (we (vit [] []) fun e => { e with vt := { e.vt with commit := true } }).eng.vt.commit = true ∧ (vit [] []).rd (CLK_LOOP_STAT_STATE 6) = 2 ∧
    (w []).rd (CLK_LOOP_STAT_STATE 6) ≠ 2 ∧ (vit [] []).rd VIT_STAT_PSR_ACT = 0 ∧ (vit [(VIT_TR_STAT_BUSY, 1)] []).rd VIT_TR_STAT_BUSY ≠ 0 ∧
    (vit [] []).rd VIT_TR_STAT_BUSY = 0 ∧ (vit [] []).rd VIT_TR_CFG_FOLLOW = 0 ∧ (vit [] []).eng.vt.render = none ∧
    regionKind (vit [] []).eng ((vit [] []).rd VIT_TR_CFG_REG) = 0 ∧ regionKind (vit [(ACC_CREG_CFG_KIND 0, 1)] []).eng 0 = 1 ∧
    renderErr (vit [(ACC_CREG_CFG_KIND 0, 1), (VIT_TR_TPP_TICKS, 1)] []).eng
      (renderCfg (vit [(ACC_CREG_CFG_KIND 0, 1), (VIT_TR_TPP_TICKS, 1)] []).eng 0 0 false) = 0 ∧
    63 < (vit [] []).rda VIT_TIM_V0_ACT ∧ (vit [] []).eng.inService 13 = false ∧ (vit [] []).eng.vt.black = false ∧
    (vit [(GLB_TILE_SVC_STAT_ACT, 0x2000)] []).eng.inService 13 = true ∧ good (vit [] []) = true := by decide +kernel

/-- A panel with self refresh, the picture static for one frame. -/
def still (mark : Bool) : State :=
  we (vit [(VIT_CTRL_PSR_EN, 1)] [(VIT_TIM_SLOW_STATIC_N, 1)]) fun e => { e with vt := { e.vt with psrCap := true, psrMark := mark } }

theorem meets_FramesFlipsAndRenders_self_refresh : (still true).eng.vt.flips.length = 3 ∧ (∀ k < 3, (still true).eng.vt.flips.getD k 0 = 0) ∧
    (still true).eng.vt.dirty = false ∧ liveChanged (still true).eng = false ∧ (still true).rda VIT_TIM_SLOW_STATIC_N = 1 ∧
    (still true).eng.vt.psrCap = true ∧ (still true).rd VIT_CTRL_PSR_EN = 1 ∧ good (still true) = true ∧
    vitFlows (vit [] []).eng = false ∧ vitFlows (vit ((CLK_LOOP_STAT_STATE 5, 2) :: ports) []).eng = true ∧ (still true).eng.vt.await = false ∧
    (∀ p ∈ lineSpans (vit [(VIT_TRL_CFG_EN, 1)] []).eng 63, ∀ l ∈ capLines p.1 p.2, lineQuiet (vit [(VIT_TRL_CFG_EN, 1)] []).eng (vit [] []).mem l = true) ∧
    lineSpans (vit [(VIT_TRL_CFG_EN, 1)] []).eng 63 = [(0, 64)] := by decide +kernel

/-- R378: the first frame after the picture has become static is marked active, and self refresh begins at the next L. -/
theorem test_self_refresh_after_a_marked_frame :
    (holdsAfter .latchPoint (still false) (fun t => t.eng.vt.psrMark && t.rd VIT_STAT_PSR_ACT == 0) &&
      holdsAfter .latchPoint (still true) fun t => t.rd VIT_STAT_PSR_ACT == 1 && t.rd VIT_EVT_PSR_ENTRY == 1) = true := by decide +kernel

/-- R359, R363: the stream that waits starts at row 0, with Mvid 32768 × 25,000 ÷ 162,000. -/
theorem test_stream_starts_at_row_0 :
    (let s := we (vit [] [(VIT_TIM_PCLK_KHZ, 25000)]) fun e => { e with vt := { e.vt with await := true } }
     holdsAfter (.scanoutLine 1 [] 0) s (fun t => t.eng.out == []) &&
       holdsAfter (.scanoutLine 0 [] 0) s fun t => !t.eng.vt.await && t.eng.out.head? == some (.frame false 5056 32768)) = true := by decide +kernel

/-! ### Hypotheses of the statements can be met: chapters 17 to 24 -/

/-- Curator runs, every power channel on; further fields. -/
def cur (l : List (Fld × Nat)) : State := w ([(CUR_STAT_RUN, 1), (CUR_PWR_STAT_EN, 0xFF), (CUR_PWR_STAT_PG, 0xFF)] ++ l)

def curSt (s : State) (f : CurSt → CurSt) : State := we s fun e => { e with cu := f e.cu }
def srec (s : State) (f : Rec → Rec) : State := we s fun e => { e with nv := { e.nv with srec := f e.nv.srec } }
def lc (s : State) (n : Nat) : State := we s fun e => { e with nv := { e.nv with lc := n } }

theorem meets_CuratorRestartsSensesAndTrips :
    good (cur []) = true ∧ (cur []).rd CUR_STAT_RUN ≠ 0 ∧ (cur []).rd CUR_STAT_HALTED = 0 ∧ (cur []).rd SEC_DBG_STAT_CUR_HALT = 0 ∧
    (cur []).eng.cu.restarting = false ∧ (curSt (cur []) fun c => { c with restarting := true }).eng.cu.restarting = true ∧
    (w [(CUR_STAT_HALTED, 1)]).rd CUR_STAT_HALTED ≠ 0 ∧ 4 ≤ ([1, 2, 3].filter fun x => decide (3600 * tps ≤ x + 3600 * tps)).length + 1 ∧
    (cur []).eng.cu.mbx = none ∧ 65532 < 2 ^ 16 ∧ 65532 % 4 = 0 ∧ (cur []).eng.inAcq = false ∧ natBit (cur []).eng.cu.hot 23 = false ∧
    natBit (curSt (cur []) fun c => { c with hot := 2 ^ 23, warn := 2 ^ 23 }).eng.cu.hot 23 = true ∧
    signed 12 ((cur [(CUR_TLIM_WARN 23, 400)]).rd (CUR_TLIM_WARN 23)) ≤ 400 ∧ natBit (cur []).eng.cu.warn 23 = false ∧
    (cur [(CUR_VLIM_LO 15, 900), (CUR_VLIM_HI 15, 1100)]).rd (CUR_VLIM_LO 15) * 9 ≤ 899 * 10 ∧
    (curSt (cur []) fun c => { c with low := List.replicate 16 3 }).eng.cu.low.getD 15 0 = 3 ∧ tamperAct (cur [(SEC_TAMPER_CFG_ACT, 0)]).eng 0 = 0 ∧
    tamperAct (cur [(SEC_TAMPER_CFG_ACT, 1)]).eng 0 = 1 ∧ 2 ≤ tamperAct (cur [(SEC_TAMPER_CFG_ACT, 2)]).eng 0 ∧
    (cur []).eng.md.trans = none ∧ inRun (cur []).eng = false := by decide +kernel

/-- A Ledger cause of a severity waits. -/
def cause (sev : Nat) (s : State) : State := we s fun e => { e with ldg := { e.ldg with queue := [⟨0x20, sev, [1, 2], 5, 0⟩] } }

theorem meets_LedgerRecordsReadsAndSuppresses :
    (cur []).eng.ldg.queue = [] ∧ (cause 3 (cur [])).eng.ldg.queue = ⟨0x20, 3, [1, 2], 5, 0⟩ :: [] ∧ (cur []).eng.ldg.cut = false ∧
    (cur []).eng.ldg.sec = (cur []).eng.ts / tps ∧ (cur []).eng.ldg.dropped = 0 ∧
    (we (cause 0 (cur [])) fun e => { e with ldg := { e.ldg with used := 5 } }).eng.ldg.used + ldgParts [1, 2] >
      max 1 ((cur [(CUR_LDG_CFG_RATE, 5)]).rd CUR_LDG_CFG_RATE) ∧
    (we (cur []) fun e => { e with ldg := { e.ldg with suppressed := 1 } }).eng.ldg.suppressed ≠ 0 ∧ (cur []).eng.ldg.suppressed = 0 ∧
    (cur [(CUR_LDG_RDSTAT_BUSY, 1)]).rd CUR_LDG_RDSTAT_BUSY ≠ 0 ∧ (cur []).rd CUR_LDG_RDSTAT_BUSY = 0 ∧ (cur []).eng.cu.trialEnd = none ∧
    (curSt (cur []) fun c => { c with trialEnd := some 9 }).eng.cu.trialEnd = some 9 ∧
    trialSlot (srec (cur []) fun r => { r with slots := [4, 0, 3] }).eng = some 2 ∧ idxMem (cur []).mem.vltBad (2 ^ 20 - 1) = false ∧
    good (cause 3 (cur [])) = true := by decide +kernel

theorem meets_MailboxAnswersEveryRequest :
    (cur [(CUR_MBX_STAT_BUSY, 1)]).rd CUR_MBX_STAT_BUSY ≠ 0 ∧ (cur []).rd CUR_MBX_STAT_BUSY = 0 ∧ (cur [(CUR_STAT_HALTED, 1)]).rd CUR_STAT_HALTED ≠ 0 ∧
    (w []).rd CUR_STAT_RUN = 0 ∧ (curSt (cur []) fun c => { c with rom := true }).eng.cu.rom = true ∧ (cur []).eng.cu.rom = false ∧
    2 < (cur [(CUR_MBX_REQ_ARG 0, 3)]).rd (CUR_MBX_REQ_ARG 0) ∧ (cur [(CUR_MBX_REQ_ARG 0, 2)]).rd (CUR_MBX_REQ_ARG 0) ≤ 2 ∧
    slotState (srec (cur []) fun r => { r with slots := [4, 0, 1] }).eng 2 = 1 ∧ slotState (srec (cur []) fun r => { r with slots := [4, 0, 2] }).eng 2 = 2 ∧
    slotState (cur []).eng 2 ≠ 4 ∧ slotState (srec (cur []) fun r => { r with slots := [4, 0, 4] }).eng 2 = 4 ∧ (cur []).rd CUR_STAT_RUN_SLOT ≠ 2 ∧
    trialSlot (cur []).eng = none ∧ (lc (cur []) 4).eng.nv.lc = 4 ∧ (cur []).eng.nv.lc = 0 ∧ (cur [(CUR_MBX_REQ_ARG 2, 59)]).rd (CUR_MBX_REQ_ARG 2) < 60 ∧
    trialSlot (srec (cur []) fun r => { r with slots := [4, 0, 3] }).eng = some 2 ∧
    (capLines 0 256).all (fun l => !memWaits curPort l false (cur [(CLK_LOOP_STAT_STATE 5, 2), (PWR_STRT_FILL_DONE, 1)]).eng) = true ∧
    (cur [(CUR_MBX_REQ_ARG 1, 4), (CUR_MBX_REQ_ARG 4, 256)]).rd (CUR_MBX_REQ_ARG 1) % 4 = 0 ∧ sourceBusy (cur []).eng 0 256 = false ∧
    sourceBusy acq.eng 0 256 = true ∧ (portBytes curPort 0 256 (cur []).eng (cur []).mem).2.2 = false ∧
    (portBytes curPort 0 256 (cur []).eng { (cur []).mem with capPois := [7] }).2.2 = true ∧ (cur []).eng.ldg.queue = [] ∧
    (curSt (cur []) fun c => { c with restarting := true }).eng.cu.restarting = true ∧ good (cur []) = true := by decide +kernel

theorem meets_ImagesLoadFallBackAndScan :
    (w []).rd GLB_MODE_STAT_CUR = 0 ∧ (w []).rd CFG_STATUS_STATE ≠ 1 ∧ (w []).rd CFG_TILE_STAT_BUSY = 0 ∧ (w []).rd SEC_LC_STAT_BUSY = 0 ∧
    acq.rd GLB_MODE_STAT_CUR ≠ 0 ∧ loadSlot (srec (w []) fun r => { r with bootSlot := 2 }).eng = 2 ∧ tileAccepts (w []).eng = false ∧
    tileAccepts (w [(CFG_STATUS_STATE, 2), (GLB_TILE_SVC_STAT_ACT, 0x4000), (CFG_CMD_TILE, 14)]).eng = true ∧ (w [(CFG_STATUS_STATE, 2)]).rd CFG_STATUS_STATE = 2 ∧
    0x8001 < 2 ^ 16 ∧ ((we (cur []) fun e => { e with cf := { e.cf with up := [⟨7, true, true, 10, 0⟩] } }).eng.cf.up.findIdx? fun y => y.ch == 7 && y.on && y.pg) = some 0 ∧
    (cur []).eng.bit CUR_PWR_STAT_EN 7 = true ∧ (w []).eng.bit CUR_PWR_STAT_EN 7 = false ∧ good (w []) = true := by decide +kernel

/-- An empty Vault fails the first check of an image, and a load then falls back to nothing. -/
theorem test_empty_slot_fails :
    holdsAfter (.load [] false) (srec (w []) fun r => { r with bootSlot := 2 })
      (fun t => t.rd CFG_STATUS_STATE == 0 && t.rd CFG_STATUS_ACT_SLOT == 3 && t.eng.cu.rom) = true := by decide +kernel

/-- SEC_BUF holds some bytes from its start. -/
def secBuf (bs : List Byte) (s : State) : State :=
  we s fun e => (List.range 64).foldl (fun a k => a.wr (SEC_BUF_BYTES k) (leNat ((bs.drop (4 * k)).take 4))) e

/-- A public key: the generator of P-384. -/
def point : List Byte := (leBytes 48 g384.1).reverse ++ (leBytes 48 g384.2).reverse

theorem meets_SecurityCommandsCheckAndAct :
    (w [(SEC_CMD_STAT_BUSY, 1)]).rd SEC_CMD_STAT_BUSY ≠ 0 ∧ (w []).rd SEC_CMD_STAT_BUSY = 0 ∧ (lc (w []) 1).eng.nv.lc ≠ 0 ∧ (w []).eng.nv.lc = 0 ∧
    acq.rd GLB_MODE_STAT_CUR ≠ 0 ∧ (w []).rd GLB_MODE_STAT_BUSY = 0 ∧ onCurve (beNat ((bufAt (w []).eng 0 96).take 48)) (beNat ((bufAt (w []).eng 0 96).drop 48)) = false ∧
    bufAt (secBuf point (w [])).eng 0 96 = point ∧ onCurve (beNat (point.take 48)) (beNat (point.drop 48)) = true ∧
    (we (w []) fun e => { e with se := { e.se with rngBad := true } }).eng.se.rngBad = true ∧ (w []).eng.se.rngBad = false ∧
    transSlot 1 (tokenArg (w []).eng) = none ∧ transSlot 1 (tokenArg (secBuf [0, 0, 0, 0, 0, 4] (w [])).eng) = some 2 ∧ transSlot 3 4 = some 1 ∧
    tokenLocked (w []).eng = false ∧ tokenLocked (we (w []) fun e => { e with se := { e.se with lockUntil := some 5 } }).eng = true ∧
    (w [(SEC_DBG_STAT_FAIL, 15)]).rd SEC_DBG_STAT_FAIL = 15 ∧ (w []).rd SEC_DBG_STAT_FAIL < 15 ∧ keySlotOk 5 = false ∧ keySlotOk 7 = true ∧
    slotKey (w []).eng 6 = none ∧ slotKey (we (w []) fun e => { e with nv := { e.nv with keys := List.replicate 8 ⟨point, 1, 0⟩ } }).eng 6 ≠ none ∧
    6 ≠ (w []).eng.nv.sealAct ∧ (w [(CFG_STATUS_DEFAULTED, 1)]).rd CFG_STATUS_DEFAULTED ≠ 0 ∧ (w []).rd CFG_STATUS_DEFAULTED = 0 ∧
    (w [(SEC_DBG_STAT_STATE, 1)]).rd SEC_DBG_STAT_STATE ≠ 0 ∧ (w []).eng.se.lockUntil = none ∧ (w []).eng.se.dbgEnd = none ∧
    (we (w []) fun e => { e with se := { e.se with dbgEnd := some 5 } }).eng.se.dbgEnd = some 5 ∧ good (w []) = true := by decide +kernel

theorem meets_DebugPortAnswersWithinItsScopes :
    (we (w []) fun e => { e with pw := { e.pw with off := true } }).eng.pw.off = true ∧ (w []).eng.pw.off = false ∧ (w []).eng.cu.mbx = none ∧
    (w [(SEC_DBG_STAT_SCOPE, 7)]).eng.bit SEC_DBG_STAT_SCOPE 2 = true ∧ (w []).eng.bit SEC_DBG_STAT_SCOPE 0 = false ∧ (w []).rd GLB_MODE_STAT_CUR = 0 ∧
    0xF00008 / 2 ^ 20 = 15 ∧ 0x19 % 16 = 9 ∧ natBit 0x19 4 = true ∧ (w [(SEC_DBG_STAT_STATE, 2)]).rd SEC_DBG_STAT_STATE ≠ 0 ∧
    (w [(SEC_DBG_STAT_CUR_HALT, 1)]).rd SEC_DBG_STAT_CUR_HALT ≠ 0 ∧ (w []).rd CUR_STAT_HALTED = 0 ∧ 2 ^ 21 - 4 + 4 ≤ 2 ^ 21 ∧ (lc (w []) 4).eng.nv.lc = 4 ∧
    (w []).rd SEC_CMD_STAT_BUSY = 0 ∧ (w [(SEC_CMD_STAT_BUSY, 1)]).rd SEC_CMD_STAT_BUSY ≠ 0 ∧ (w []).eng.down = false ∧ good (w []) = true := by decide +kernel

/-- Every stage tripped twice just now; the buffer of tile 7 holds a word that Accession has not read. -/
def tripped : State :=
  we acq fun e => ({ e with dp := { e.dp with trips := List.replicate 16 [0, 0] } }).modEla 7 fun x => { x with items := [.word ⟨0, 128, [], []⟩] }

theorem meets_DatapathFaultsAreCountedAndContained :
    headWords 1 ((tripped.eng.getEla 7).items.drop (tripped.eng.getEla 7).aRead) = [⟨0, 128, [], []⟩] ∧ (tripped.eng.getEla 7).aRead ≤ (tripped.eng.getEla 7).items.length ∧
    2 ≤ ((tripped.eng.dp.trips.getD 15 []).filter fun t => decide (tripped.eng.now ≤ t + tps)).length ∧ natBit tripped.eng.dp.stuck 15 = false ∧
    capFlows tripped.eng = true ∧ capFlows (tripped.eng.wr (CLK_LOOP_STAT_STATE 5) 1) = false ∧
    ((acq.eng.dp.trips.getD 15 []).filter fun t => decide (acq.eng.now ≤ t + tps)).length < 2 ∧ good tripped = true := by decide +kernel

/-- A core in OFF, after a trip or not. -/
def offAt (l : Bool) : State := we (w []) fun e => { e with pw := { e.pw with off := true, latched := l } }

theorem meets_PowerResetsAndStartUp :
    (offAt true).eng.down = true ∧ (offAt true).eng.pw.latched = true ∧ (offAt false).eng.pw.latched = false ∧ (w []).eng.pw.held = false ∧
    (w [(HOST_RST_CFG_KEEP, 0)]).rd HOST_RST_CFG_KEEP = 0 ∧ (w [(HOST_RST_CFG_KEEP, 1)]).rd HOST_RST_CFG_KEEP ≠ 0 ∧ (w []).eng.inAcq = false ∧
    (w []).rd GLB_MODE_STAT_BUSY = 0 ∧ acq.eng.inAcq = true ∧ (w []).eng.md.trans = none ∧ (List.range 8).all (fun c => !dmaRuns (w []).eng c) = true ∧
    sealsDone (w []).eng = true ∧ (w []).eng.ldg.queue = [] ∧
    trickleBlock (w [(GLB_MODE_STAT_CUR, 4), (GLB_ARC_CTRL_DIV, 128), (GLB_TILE_SVC_STAT_ACT, 0x2000), (PWR_CTRL_TRICKLE_EN, 1)]).eng = 0 ∧
    trickleBlock (w []).eng ≠ 0 ∧ (w []).rd PWR_STAT_STATE = 0 ∧ (w [(PWR_CTRL_FE_IDLE, 1)]).rd PWR_CTRL_FE_IDLE ≠ 0 ∧ feActive (w []).eng = false ∧
    (w []).eng.pw.start = none ∧ (w []).rd CUR_PWR_STAT_PG = 0 ∧ (cur []).rd CUR_PWR_STAT_PG ≠ 0 ∧ (cur []).eng.hl.cold = false ∧
    (w [(CUR_PWR_DOM_ON, 0xFF)]).eng.bit CUR_PWR_DOM_ON (255 / 32) = true ∧ (w []).rd (FE_CH_STAT_LEVEL 255) = 0 ∧ good (offAt false) = false ∧
    (offAt false).mem.wf = true := by decide +kernel

/-- A core that a PERST_N holds is what the release finds. -/
theorem meets_PowerResetsAndStartUp_held : ∃ e0, (match exec .perstN (w []) with
    | .next t => t.eng
    | _ => {}) = { fundReset false e0 with pw := { held := true }, wq := [] } := ⟨(w []).eng, by decide +kernel⟩

/-! ### Well-formedness: every check refuses a term that fails it, and admits one that meets it -/

/-- A sample word of 128 ticks. -/
def word : SampleWord := ⟨0, 128, List.replicate 64 0, []⟩

/-- A read of one scratch word. -/
def acc : ScrAcc := ⟨0, 0, none, 8, [.clean]⟩

theorem test_ill_formed_refused_1 : ([
    .registerWrite 3 0 0 0, .registerWrite 0 (2 ^ 25) 0 0, .registerWrite 0 0 (2 ^ 32) 0, .registerWrite 0 0 0 16, 
    .sampleWord 8 word, .elasticGap 8, .accessionLine 16 0, .accessionLine 0 8, .ebClr 256, .fabRsvWrite 6 0 0, .fabOutRead 6, 
    .memoryRequest 6 0 none [] 0, .memoryRequest 0 (2 ^ 29) none [] 0, .modeRequest 3 0 false 0, 
    .modeRequest 0 8 false 0, .modeRequest 0 0 false (2 ^ 64), .acquisitionEntry (2 ^ 64), .forcedStop (2 ^ 16), 
    .tileSvcRequest (2 ^ 15), .tileServiceEntry 15 0, .tileServiceEntry 0 (2 ^ 64), .tileServiceExit 15 0, 
    .tileServiceExit 0 (2 ^ 64), .keptLineCopy 16, .seal 16, .keepCtrlWrite 16 false false 0, .keepCtrlWrite 0 false false 16, 
    .tipWrite 256 0, .thrWrite 256 0, .feFieldWrite 3 (.en 0) 0, .calRequest 256, .calDone 8 0 [] 0, .podInserted 8, 
    .podRemoved 8 0, .podPowerRequest 8 false 0, .softStartEnd 8, .podOvercurrent 8 0 0, .attnPress 8, .attnPowerOff 8 0, 
    .reread 8, .sbGo 8, .sbDone 8 false 0, .tileRejoin 8 0, .portAbsentRecord 8, .podPwrStatRead 8] : List Instr).all (fun i => !wellFormed i) = true := by decide +kernel

theorem test_ill_formed_refused_2 : ([
    .loopCommit 256, .lockWindowEnd 8 0 0, .lockWindowEnd 0 0 (2 ^ 64), .analogueLock false 0 (2 ^ 64), 
    .clockMonitorFail 0 (2 ^ 64) false, .loopReturn 256, .unlockRecord 8, .clkLdAnWrite false 8 0, .rampSegWrite 4 0 0 0, 
    .rampSegWrite 0 64 0 0, .rampPeriod 4 0 0, .clkoutCfgWrite 3 0 0 0, .clkoutCfgWrite 0 4 0 0, .clkoutCfgWrite 0 0 (2 ^ 32) 0, 
    .clkoutCfgWrite 0 0 0 (2 ^ 32), .ppsInEdge (2 ^ 64) 0, .steerModeWrite 4, .aqlFrameRx false [] (2 ^ 64) 0, .aqlFrameRx false [] 0 64, .timeTsRead 3, 
    .evaluationInstant (2 ^ 64) 0 0, .evaluationInstant 0 16 0, .counterTerminal 32, .timerLimit 16, .retentionEnd 4, 
    .resCommit 4 none, .resCommitApply 4 0, .resCommitApply 0 (2 ^ 64), .resFieldWrite 3 0 0 0 0, .resFieldWrite 0 4 0 0 0, 
    .resFieldWrite 0 0 (2 ^ 19) 0 0, .resFieldWrite 0 0 0 (2 ^ 32) 0, .resFieldWrite 0 0 0 0 (2 ^ 32), .lastRead 4 0, 
    .lastRead 0 208, .arm 4, .disarm 4, .armApply 4 0, .armApply 0 (2 ^ 64), .disarmApply 4 0, .disarmApply 0 (2 ^ 64), 
    .seqCommit 4, .seqCommitApply 4, .seqCfgWrite 4 false false false 0, .seqCfgWrite 0 false false false (2 ^ 16), 
    .cregPosRead 3 0] : List Instr).all (fun i => !wellFormed i) = true := by decide +kernel

theorem test_ill_formed_refused_3 : ([
    .cregPosRead 0 16, .cregEnWrite 16 false, .containerCommit 16 false, .containerDecode 5 0 0, .jobGo 4, .resume 4, .jobAbort 4, 
    .jobContainer 4 false, .cmpRegCfgWrite 3 0 0 0 false, .cmpRegCfgWrite 0 16 0 0 false, .cmpRegCfgWrite 0 0 4 0 false, 
    .cmpRegCfgWrite 0 0 0 4 false, .pprDone 4 false, .retire 4 0, .retire 0 10, .sweepLine 4 [] false, .injectArm (2 ^ 29) false, 
    .refreshAccrual 4 [], .refreshRound 4 false [], .rdTableClear 4, .targetedRefresh 4, .powerDownEntry 4, .selfRefreshEntry 4, 
    .binRequest 4 false, .qosMaxRead 3 0, .qosMaxRead 0 6, .scrRgnWrite 3 0 0 0 0, .scrRgnWrite 0 3 0 0 0, .scrRgnWrite 0 0 8 0 0, 
    .scrRgnWrite 0 0 0 3 0, .scratchRepairDone 32, .configRequest 4096 none 0, .configRequest 0 none (2 ^ 32), .irqEoi 64, 
    .msixUnmask 64 false, .dmaTailWrite 8 0, .dmaEnable 8, .dmaDisable 8, .dmaAbort 8 0, .dmaDescriptor 8, .dmaDescriptorDone 8, 
    .streamFlush 8, .atsInvalidate 32 0 1, .completionTimeout 1024, .completionReceived 1024 0 false [] 0] : List Instr).all (fun i => !wellFormed i) = true := by decide +kernel

theorem test_ill_formed_refused_4 : ([
    .flip 8, .curWindowAccess (2 ^ 16) 4 none [] 0, .tempSample 24 0, .voltSample 16 0, .info 256, .slotInfo 256, 
    .updBegin 256, .updWrite 256, .updCheck 256, .updCommit 256, .updConfirm 256, .bootSelect 256, .ldgNote 256, .powerFault 8, 
    .readbackScan (2 ^ 16), .provision 8, .transition 8 [], .keyLoad 8, .keyErase 8, .sealGen 8, .sealUse 8, .raiseMinver 8, 
    .dbgAuth 8, .dbgClose 8, .dbgOpen 8, .tamperAck 8 false, .nonce 8, .off 256 [], .swrst 256 none [] [], .pcieLinkUp 16 0 false, 
    .pcieLinkUp 0 64 false, .levelChange 256 0, .registerWrite 0 2 0 0, 
    .sampleWord 0 { word with units := List.replicate 63 0 }, .sampleWord 0 { word with units := (2 ^ 32) :: List.replicate 63 0 }, 
    .sampleWord 0 { word with stamp := 2 ^ 64 }, .sampleWord 0 { word with volts := [(32, List.replicate 64 0)] },
    .sampleWord 0 { word with volts := [(0, [])] }, .slackWindowEnd (List.replicate 15 []), 
    .memoryRequest 0 0 (some (2 ^ 256, [])) [] 0, .memoryRequest 0 0 (some (0, List.replicate 257 0)) [] 0, 
    .feFieldWrite 0 (.en 256) 0, .feFieldWrite 0 (.clksel 8) 0, .feFieldWrite 0 (.stclkCh 4) 0, .feFieldWrite 0 (.stpt 4) 0, 
    .identDone 8 .nack, .clockMonitorFail 5 0 false] : List Instr).all (fun i => !wellFormed i) = true := by decide +kernel

theorem test_ill_formed_refused_5 : ([
    .clockMonitorFail 16 0 false, .clockMonitorPass 7, .resCommit 0 (some 208), .scratchAccess { acc with len := 0 } none, 
    .scratchAccess { acc with addr := 2 ^ 25 } none, .scratchAccess { acc with wr := some [1] } none, 
    .scratchAccess acc (some { acc with resp := [] }), .atomicGo 3 0 .clean, .atomicGo 0 3 .clean, .configRequest 2 none 0, 
    .apertureAccess 0 0 none false, .atsInvalidate 0 0 0, .curWindowAccess 0 3 none [] 0, 
    .curWindowAccess 1 2 none [] 0, .samplePreload [] [true], .extest [] [true], .datapathParity 16 .nothing, 
    .handshakeWatchdog 16 .nothing] : List Instr).all (fun i => !wellFormed i) = true := by decide +kernel

theorem test_well_formed_admitted_1 : ([
    .registerWrite 0 0 0 0, .sampleWord 0 word, .elasticGap 0, .accessionLine 0 0, .slackWindowEnd (List.replicate 16 []), 
    .ebClr 0, .fabRsvWrite 0 0 0, .fabOutRead 0, .memoryRequest 0 0 none [] 0, .modeRequest 0 0 false 0, .acquisitionEntry 0, 
    .forcedStop 0, .tileSvcRequest 0, .tileServiceEntry 0 0, .tileServiceExit 0 0, .keptLineCopy 0, .seal 0, 
    .keepCtrlWrite 0 false false 0, .tipWrite 0 0, .thrWrite 0 0, .feFieldWrite 0 (.en 0) 0, .calRequest 0, .calDone 0 0 [] 0, 
    .podInserted 0, .podRemoved 0 0, .podPowerRequest 0 false 0, .softStartEnd 0, .podOvercurrent 0 0 0, .attnPress 0, 
    .attnPowerOff 0 0, .reread 0, .sbGo 0, .sbDone 0 false 0, .tileRejoin 0 0, .portAbsentRecord 0, .podPwrStatRead 0, 
    .loopCommit 0, .lockWindowEnd 0 0 0, .analogueLock false 0 0, .clockMonitorFail 0 0 false, .clockMonitorPass 0, .loopReturn 0, 
    .unlockRecord 0, .clkLdAnWrite false 0 0, .rampSegWrite 0 0 0 0] : List Instr).all (fun i => wellFormed i) = true := by decide +kernel

theorem test_well_formed_admitted_2 : ([
    .rampPeriod 0 0 0, .clkoutCfgWrite 0 0 0 0, .ppsInEdge 0 0, .steerModeWrite 0, .aqlFrameRx false [] 0 0, .timeTsRead 0, 
    .evaluationInstant 0 0 0, .counterTerminal 0, .timerLimit 0, .retentionEnd 0, .resCommit 0 none, .resCommitApply 0 0, 
    .resFieldWrite 0 0 0 0 0, .lastRead 0 0, .arm 0, .disarm 0, .armApply 0 0, .disarmApply 0 0, .seqCommit 0, .seqCommitApply 0, 
    .seqCfgWrite 0 false false false 0, .cregPosRead 0 0, .cregEnWrite 0 false, .containerCommit 0 false, .containerDecode 0 0 0, 
    .jobGo 0, .resume 0, .jobAbort 0, .jobContainer 0 false, .cmpRegCfgWrite 0 0 0 0 false, .pprDone 0 false, .retire 0 0, 
    .sweepLine 0 [] false, .injectArm 0 false, .refreshAccrual 0 [], .refreshRound 0 false [], .rdTableClear 0, .targetedRefresh 0, 
    .powerDownEntry 0, .selfRefreshEntry 0, .binRequest 0 false, .qosMaxRead 0 0, .scratchAccess acc none, .scrRgnWrite 0 0 0 0 0, 
    .scratchRepairDone 0] : List Instr).all (fun i => wellFormed i) = true := by decide +kernel

theorem test_well_formed_admitted_3 : ([
    .configRequest 0 none 0, .apertureAccess 0 4 none false, .irqEoi 0, .msixUnmask 0 false, .dmaTailWrite 0 0, .dmaEnable 0, 
    .dmaDisable 0, .dmaAbort 0 0, .dmaDescriptor 0, .dmaDescriptorDone 0, .streamFlush 0, .atsInvalidate 0 0 1, 
    .completionTimeout 0, .completionReceived 0 0 false [] 0, .flip 0, .curWindowAccess 0 4 none [] 0, .tempSample 0 0, 
    .voltSample 0 0, .info 0, .slotInfo 0, .updBegin 0, .updWrite 0, .updCheck 0, .updCommit 0, .updConfirm 0, .bootSelect 0, 
    .ldgNote 0, .powerFault 0, .readbackScan 0, .provision 0, .transition 0 [], .keyLoad 0, .keyErase 0, .sealGen 0, .sealUse 0, 
    .raiseMinver 0, .dbgAuth 0, .dbgClose 0, .dbgOpen 0, .tamperAck 0 false, .nonce 0, .samplePreload [] [], .extest [] [], 
    .off 0 [], .swrst 0 none [] []] : List Instr).all (fun i => wellFormed i) = true := by decide +kernel

theorem test_well_formed_admitted_4 : ([
    .pcieLinkUp 0 0 false, .levelChange 0 0, .identDone 7 .nack, .atomicGo 2 2 .clean, .datapathParity 15 .nothing, 
    .clockMonitorPass 15, .clockMonitorFail 4 0 true, .resCommit 3 (some 207), 
    .memoryRequest 5 (2 ^ 29 - 1) (some (2 ^ 256 - 1, List.replicate 256 1)) [] 9] : List Instr).all (fun i => wellFormed i) = true := by decide +kernel

/-! ### Results worked from the specification by hand -/

/-- Chapter 3, "a 3.3 V bus through a 10:1 pod": ATTEN 10.0, OFF −1,250 µV, TIP 165,000 give CODE 328. -/
theorem test_tip_threshold_example :
    after (.tipWrite 37 165000) (w [(POD_STAT_ID_VALID 1, 1), (POD_ID_BYTES 1 8, 0xA0000), (POD_ID_BYTES 1 21, 2 ^ 32 - 1250)]) (FE_THR_CODE 37) = some 328 := by
  decide +kernel

/-- R64: a code outside the range is limited and sets CLAMP. -/
theorem test_tip_threshold_clamps :
    after (.tipWrite 37 (2 ^ 23 - 1)) (w [(POD_STAT_ID_VALID 1, 1), (POD_ID_BYTES 1 8, 0x10000)]) (FE_THR_CLAMP 37) = some 1 := by decide +kernel

/-- Chapter 9, "one TRANSITION line": the items of its units and their times. -/
theorem test_transition_line_example :
    (lineItems ⟨2, 4, 0, 0, 3000000000000, 1, false, 1, false, 6, [0, 0, 0x25, 4, 0, 0, 0x28, 0, 0x1A, 0, 0x25, 0, 0x40, 0x42, 0x0F, 1, 0, 0, 0, 0, 0, 0, 0x21, 4]⟩).map
      (fun i => (i.t, i.ch, i.val)) = [(3000000000000, 37, true), (3000000000000, 40, false), (3000000000026, 37, false), (3000001000026, 33, true)] := by
  decide +kernel

/-- The same example: TS, TOD and RATE of the TIME record give the time of item 5. -/
theorem test_tod_example :
    todAt (we (w [(TIME_RATE_RATE, 4295)]) fun e => { e with tod := ⟨2999990000000, 812345678, 6400000000, 0, true⟩ }).eng 3000001000026 =
      (812345678, 6411000037) := by decide +kernel

/-- The units of chapter 10, "decoding one container". -/
def exUnits : List Nat := [0x06000000, 0x02010000, 0x00000006, 0x04010000, 0x04000008, 0x00000008, 0x00010000, 0x04000008]

/-- The same example: the body 2D B0 08 3C 2C 02 decodes to those units. -/
theorem test_container_example :
    (decodeContainer (containerBytes ⟨7000000000000, 32, 2, 3, 1, 1, true, 0⟩ 1 0 8 (List.replicate 49 0) [0x2D, 0xB0, 0x08, 0x3C, 0x2C, 0x02] exUnits)).units = exUnits := by
  decide +kernel

/-- R257's example: a first symbol of 1 has the check symbols 0xE2 and 0xE3. -/
theorem test_check_symbols_example : rsCheck [1, 0, 0, 0, 0, 0, 0, 0] = (0xE2, 0xE3) := by decide +kernel

/-- R258's example: with D0 erased, the symbol 1 is restored. -/
theorem test_erased_symbol_example :
    decodeWord [0, 0, 0, 0, 0, 0, 0, 0, 0xE2, 0xE3] [0] [] = (.erasedFix, [1, 0, 0, 0, 0, 0, 0, 0, 0xE2, 0xE3]) := by decide +kernel

/-- Chapter 6, "adopting the master's epoch": OFS −6,867 steps TS64 by −107 ticks and trims BPLL by −19 steps. -/
theorem test_adopt_example :
    holdsAfter .adopt (we (w [(TIME_AQL_CTRL_ROLE, 2), (TIME_AQL_OFS_OFS, 2 ^ 32 - 6867)]) fun e => { e with ts := 5000000672 })
      (fun t => t.eng.ts == 5000000565 && t.eng.tout.trim == -19 && t.rd TIME_EPOCH_GEN == 1) = true := by decide +kernel

/-- Chapter 21: TRIG_SEQ_RES_STAT of TC_2 lies at 0x0064_0100. -/
theorem test_window_offset_example : 8 * 0x640100 = (TRIG_SEQ_RES_STAT_VALID 2).key / 32 * 32 := by decide +kernel

/-- R443: IDCODE of revision 1. -/
theorem test_idcode : holdsAfter .idcode (we (w []) fun e => { e with nv := { e.nv with rev := 1 } })
    (fun t => t.eng.out == [.tdo 32 0x11600545]) = true := by decide +kernel

/-- R41 code 2: an acquisition mode before the initial training has ended. -/
theorem test_mode_request_code : after (.modeRequest 1 1 false 0) (ready [(MEM_TRN_STAT_INIT_DONE, 0)]) GLB_MODE_STAT_REJ_CODE = some 2 := by decide +kernel

/-- R33: a reservation that takes the sum above 1,024 is rejected, one at 1,024 is stored. -/
theorem test_reservation_sum :
    (after (.fabRsvWrite 0 1024 1024) (w [(MEM_FAB_RSV_RSV_REQ 5, 8)]) (MEM_FAB_RSV_RSV_REQ 0),
     after (.fabRsvWrite 0 1016 1024) (w [(MEM_FAB_RSV_RSV_REQ 5, 8)]) (MEM_FAB_RSV_RSV_REQ 0)) = (some 0, some 1016) := by decide +kernel

/-- R261: a masked byte of a request is stored, its neighbour is not. -/
theorem test_partial_write :
    (byteAfter (.memoryRequest 3 5 (some (2, [7, 8])) [] 0) (mem ((MEM_RD_CFG_EN_PROB, 0) :: ports)) 1281, byteAfter (.memoryRequest 3 5 (some (2, [7, 8])) [] 0) (mem ((MEM_RD_CFG_EN_PROB, 0) :: ports)) 1280) =
      (some 8, some 0) := by decide +kernel

/-- R10: LOCK set by one, kept by zero. -/
theorem test_lock_sticks :
    (after (.registerWrite 1 0x18 1 15) (w []) GLB_GCTRL_LOCK, after (.registerWrite 1 0x18 0 15) (w [(GLB_GCTRL_LOCK, 1)]) GLB_GCTRL_LOCK) = (some 1, some 1) := by
  decide +kernel

/-- The tick on an empty queue at the wrap of TS64 (R128). -/
theorem test_idle_tick_wraps : (match step (we (w [(CLK_LOOP_STAT_BYPASS 7, 0)]) fun e => { e with ts := 2 ^ 64 - 1 }) with
    | .next t => some (t.eng.ts, t.rd TIME_EPOCH_GEN, t.rd TIME_EVT_TS_WRAP)
    | _ => none) = some (0, 1, 1) := by decide +kernel

/-- The queue is taken from the front. -/
theorem test_queue_order : (match step { w [] with pending := [.idcode, .bypass] } with
    | .next t => some (t.pending, t.eng.tap.ir)
    | _ => none) = some ([.bypass], 1) := by decide +kernel

/-- No row of the table gives bits. -/
theorem test_no_word_decodes : decodeTableWord 32 0 = none ∧ State.reset.withFetchWord 32 0 = State.reset := by decide +kernel

end Sys2Proof.Tests
end

section
/-!
SUPPORT. What a register write does to the fields of its word and leaves alone elsewhere (R7 to R12, R335, R482), what the evaluation
of the guarantee leaves alone (R451), and how a command in which sessions may end answers.
-/
namespace Sys2Proof
namespace Machine

/-! ### Folds, keys and reports -/

/-- What every step of a fold leaves as it is, the fold leaves as it is. -/
theorem foldl_keeps {α β γ : Type} (p : β → γ) (f : β → α → β) (l : List α) (h : ∀ b, ∀ a ∈ l, p (f b a) = p b) (b : β) :
    p (l.foldl f b) = p b :=
  List.foldlRecOn l f (motive := fun x => p x = p b) rfl fun x hx a ha => (h x a ha).trans hx

/-- A report leaves Curator alone. -/
theorem cu_of_hush {e e' : Eng} (h : e'.hush = e.hush) : e'.cu = e.cu := by
  have hcu := congrArg Eng.cu h
  exact hcu

theorem key_ne_of_mem {g : Fld} {ks : List Nat} (hg : g.key ∉ ks) {k : Nat} (hk : k ∈ ks) : k ≠ g.key := fun h => hg (h ▸ hk)

/-! ### Messages of enables that rise (R335) -/

theorem irqRises_hush (before : Eng) (vs : List Nat) (e : Eng) : (irqRises before vs e).hush = e.hush := by
  refine foldl_keeps Eng.hush _ vs (fun a v _ => ?_) e
  split
  · exact irqMessage_hush v a
  · rfl

theorem irqRises_rd (before : Eng) (vs : List Nat) (e : Eng) {g : Fld} (h : Still g) : (irqRises before vs e).rd g = e.rd g := by
  refine foldl_keeps (fun a => a.rd g) _ vs (fun a v _ => ?_) e
  split
  · exact irqMessage_rd v a h
  · rfl

/-! ### Reserved encodings (R12, R482) -/

/-- The fields that report a reserved encoding. -/
def badEncKeys : List Nat := [GLB_STATUS_BAD_ENC.key, GLB_BAD_ENC_LOG_OFFS.key, GLB_BAD_ENC_LOG_MASTER.key]

theorem badEnc_hush (e : Eng) (master : Nat) (f : Fld) : (e.badEnc master f).hush = e.hush := raise_hush e GLB_STATUS_BAD_ENC 0

theorem badEnc_rd (e : Eng) (master : Nat) (f : Fld) {g : Fld} (hg : g.key ∉ badEncKeys) (h : Still g) :
    (e.badEnc master f).rd g = e.rd g := by
  simp only [badEncKeys, List.mem_cons, List.not_mem_nil, or_false, not_or] at hg
  obtain ⟨hstat, hoffs, hmaster⟩ := hg
  unfold Eng.badEnc
  rw [Eng.rd_wr_other _ _ (Ne.symm hmaster), Eng.rd_wr_other _ _ (Ne.symm hoffs), raise_rd _ _ _ (Ne.symm hstat) h]

theorem wrEnc_hush (e : Eng) (master : Nat) (f : Fld) (v : Nat) (legal : Bool) : (e.wrEnc master f v legal).hush = e.hush := by
  unfold Eng.wrEnc
  split
  · rfl
  · split
    · rfl
    · exact badEnc_hush e master f

theorem wrEnc_rd (e : Eng) (master : Nat) (f : Fld) (v : Nat) (legal : Bool) {g : Fld} (hf : f.key ≠ g.key)
    (hg : g.key ∉ badEncKeys) (h : Still g) : (e.wrEnc master f v legal).rd g = e.rd g := by
  unfold Eng.wrEnc
  split
  · exact Eng.rd_wr_other e v hf
  · split
    · rfl
    · exact badEnc_rd e master f hg h

/-! ### One field of a written word (R7 to R10) -/

theorem storeRule_hush (master : Nat) (f : Fld) (rule : WriteRule) (v : Nat) (e : Eng) :
    (storeRule master f rule v e).hush = e.hush := by
  cases rule with
  | plain | clamp | low | own => rfl
  | legal | even => exact wrEnc_hush e master f v _

theorem storeRule_rd (master : Nat) (f : Fld) (rule : WriteRule) (v : Nat) (e : Eng) {g : Fld} (hf : f.key ≠ g.key)
    (hg : g.key ∉ badEncKeys) (h : Still g) : (storeRule master f rule v e).rd g = e.rd g := by
  cases rule with
  | plain | clamp | low => exact Eng.rd_wr_other e _ hf
  | legal | even => exact wrEnc_rd e master f v _ hf hg h
  | own => rfl

theorem writeField_hush (master off value mask : Nat) (row : RegRow) (e : Eng) (f : FieldRow) :
    (writeField master off value mask row e f).hush = e.hush := by
  unfold writeField
  simp only []
  split
  · rfl
  · cases f.ty with
    | rw => exact storeRule_hush _ _ _ _ _
    | rwl =>
      simp only []
      split
      · rfl
      · exact storeRule_hush _ _ _ _ _
    | w1c | w1s | ro | wo => rfl

/-- A field of a written word leaves every other field alone, but for the report of a reserved encoding. -/
theorem writeField_rd (master off value mask : Nat) (row : RegRow) (e : Eng) (f : FieldRow) {g : Fld}
    (hf : (rowFld row off f).key ≠ g.key) (hg : g.key ∉ badEncKeys) (h : Still g) :
    (writeField master off value mask row e f).rd g = e.rd g := by
  unfold writeField
  simp only []
  split
  · rfl
  · cases f.ty with
    | rw => exact storeRule_rd _ _ _ _ _ hf hg h
    | rwl =>
      simp only []
      split
      · rfl
      · exact storeRule_rd _ _ _ _ _ hf hg h
    | w1c | w1s => exact Eng.rd_wr_other e _ hf
    | ro | wo => rfl

/-- R10: a write to a field of type RWL is discarded while LOCK is set. -/
theorem writeField_locked (master off value mask : Nat) (row : RegRow) (e : Eng) (f : FieldRow) (hty : f.ty = .rwl)
    (hlock : locked e off = true) : writeField master off value mask row e f = e := by
  unfold writeField
  simp only [hty, hlock, if_true, ite_self]

theorem writeWord_hush (master off value mask : Nat) (e : Eng) : (writeWord master off value mask e).hush = e.hush := by
  unfold writeWord
  cases findReg off with
  | none => rfl
  | some row =>
    simp only [irqRises_hush]
    exact foldl_keeps Eng.hush _ _ (fun a f _ => writeField_hush master off value mask row a f) e

/-! ### The guarantee (R451) -/

/-- The fields of the single-fault guarantee. -/
def guarKeys : List Nat :=
  [GLB_FLT_COND_ENV.key, GLB_FLT_COND_IMAGE.key, GLB_FLT_COND_PATROL.key, GLB_FLT_COND_CURATOR.key, GLB_FLT_COND_MARGIN.key,
    GLB_FLT_COND_GUAR.key, GLB_FLT_GLOST_CNT_CNT.key, GLB_FLT_EVT_GUAR_LOST.key, GLB_FLT_EVT_GUAR_BACK.key]

theorem guarShow_rd (e : Eng) {g : Fld} (hg : g.key ∉ guarKeys) : (guarShow e).rd g = e.rd g := by
  have ne {f : Fld} (hk : f.key ∈ guarKeys) (a : Eng) (v : Nat) : (a.wr f v).rd g = a.rd g :=
    Eng.rd_wr_other a v (key_ne_of_mem hg hk)
  unfold guarShow
  simp only [wrb_eq]
  rw [ne (by simp [guarKeys]), ne (by simp [guarKeys]), ne (by simp [guarKeys]), ne (by simp [guarKeys]), ne (by simp [guarKeys]),
    ne (by simp [guarKeys])]

theorem guarLost_rd (e : Eng) {g : Fld} (hg : g.key ∉ guarKeys) (h : Still g) : (guarLost e).rd g = e.rd g := by
  unfold guarLost
  rw [raise_rd _ _ _ (key_ne_of_mem hg (by simp [guarKeys])) h, addSat_eq, Eng.rd_wr_other _ _ (key_ne_of_mem hg (by simp [guarKeys]))]

theorem guarLost_cu (e : Eng) : (guarLost e).cu = e.cu := raise_cu _ _ _

theorem ite_guarLost_rd (c : Prop) [Decidable c] (e : Eng) {g : Fld} (hg : g.key ∉ guarKeys) (h : Still g) :
    (if c then guarLost e else e).rd g = e.rd g := by
  split
  · exact guarLost_rd e hg h
  · rfl

theorem ite_guarLost_cu (c : Prop) [Decidable c] (e : Eng) : (if c then guarLost e else e).cu = e.cu := by
  split
  · exact guarLost_cu e
  · rfl

/-- The evaluation of the guarantee leaves every field alone but its own and those of a report. -/
theorem guarCheck_rd (e : Eng) {g : Fld} (hg : g.key ∉ guarKeys) (h : Still g) : (guarCheck e).rd g = e.rd g := by
  have hshow := guarShow_rd e hg
  unfold guarCheck
  generalize guarShow e = e1 at hshow ⊢
  simp only []
  split
  · rw [raise_rd _ _ _ (key_ne_of_mem hg (by simp [guarKeys])) h, ite_guarLost_rd _ _ hg h, Eng.rd_with_cu, hshow]
  · rw [ite_guarLost_rd _ _ hg h, Eng.rd_with_cu, hshow]

/-- A mailbox request that waits goes on waiting. -/
theorem guarCheck_mbx (e : Eng) : (guarCheck e).cu.mbx = e.cu.mbx := by
  have hshow : (guarShow e).cu = e.cu := rfl
  unfold guarCheck
  generalize guarShow e = e1 at hshow ⊢
  simp only []
  split
  · rw [raise_cu, ite_guarLost_cu, hshow]
  · rw [ite_guarLost_cu, hshow]

/-! ### How a command in which sessions may end answers -/

/-- While no mailbox request waits, such a command gives what its function gives. -/
theorem onSec_up (s : State) (f : Eng → Mems → Eng) (hup : s.up) (hm : (f s.eng s.mem).cu.mbx = none) :
    onSec s f = .next { s with eng := { f s.eng s.mem with wq := [] }, mem := s.mem.applyAll (f s.eng s.mem).wq } := by
  have hpend (m : Mems) : mbxPending (f s.eng s.mem) m = f s.eng s.mem := by
    unfold mbxPending
    rw [hm]
  unfold onSec
  rw [onMem_up s _ hup]
  simp only [applyMem, hpend]

end Machine
end Sys2Proof
end

section
/-!
SUPPORT. What the writes of clock registers show (R123, R127, R134) and what a denied write of the host does (R328).
-/
namespace Sys2Proof
namespace Machine

/-! ### What follows a write of a clock register (R123, R127, R134) -/

/-- The fields that show the outputs and the quality of TOD. -/
def loopKeys : List Nat :=
  [TIME_HO_STAT_ELAPSED_S.key, TIME_HO_ERR_ERR_NS.key, TIME_STEER_STAT_QUAL.key] ++
    (List.range 4).flatMap fun k => [(CLK_OUT_STAT_ACTIVE k).key, (CLK_OUT_STAT_SRCLOSS k).key, (CLK_OUT_STAT_FOUT_KHZ k).key]

theorem outKeys_mem {k : Nat} (hk : k ∈ List.range 4) : (CLK_OUT_STAT_ACTIVE k).key ∈ loopKeys ∧
    (CLK_OUT_STAT_SRCLOSS k).key ∈ loopKeys ∧ (CLK_OUT_STAT_FOUT_KHZ k).key ∈ loopKeys := by
  revert k
  decide

theorem clkOutShow_rd (e : Eng) {k : Nat} (hk : k ∈ List.range 4) {g : Fld} (hg : g.key ∉ loopKeys) :
    (clkOutShow e k).rd g = e.rd g := by
  obtain ⟨hact, hloss, hout⟩ := outKeys_mem hk
  have stat (a b : Nat) : ((e.wr (CLK_OUT_STAT_ACTIVE k) a).wr (CLK_OUT_STAT_SRCLOSS k) b).rd g = e.rd g := by
    rw [Eng.rd_wr_other _ _ (key_ne_of_mem hg hloss), Eng.rd_wr_other _ _ (key_ne_of_mem hg hact)]
  unfold clkOutShow
  simp only [wrb_eq]
  split
  · rw [Eng.rd_wr_other _ _ (key_ne_of_mem hg hout), stat]
  · rw [Eng.rd_drawn, Eng.rd_wr_other _ _ (key_ne_of_mem hg hout), stat]
  · rw [Eng.rd_wr_other _ _ (key_ne_of_mem hg hout), stat]

theorem clkOutShow_cu (e : Eng) (k : Nat) : (clkOutShow e k).cu = e.cu := by
  unfold clkOutShow
  simp only []
  split <;> rfl

theorem rampFollow_rd (e : Eng) (g : Fld) : (rampFollow e).rd g = e.rd g := by
  refine foldl_keeps (fun a => a.rd g) _ _ (fun a m _ => ?_) e
  simp only []
  split <;> rfl

theorem rampFollow_cu (e : Eng) : (rampFollow e).cu = e.cu := by
  refine foldl_keeps Eng.cu _ _ (fun a m _ => ?_) e
  simp only []
  split <;> rfl

theorem timeShow_rd (e : Eng) {g : Fld} (hg : g.key ∉ loopKeys) : (timeShow e).rd g = e.rd g := by
  unfold timeShow
  simp only []
  rw [Eng.rd_wr_other _ _ (key_ne_of_mem hg (by simp [loopKeys]))]
  split
  · rw [Eng.rd_wr_other _ _ (key_ne_of_mem hg (by simp [loopKeys])), Eng.rd_wr_other _ _ (key_ne_of_mem hg (by simp [loopKeys]))]
  · rfl

theorem timeShow_cu (e : Eng) : (timeShow e).cu = e.cu := by
  unfold timeShow
  simp only []
  rw [Eng.wr_cu]
  split <;> rfl

theorem loopsShow_rd (e : Eng) {g : Fld} (hg : g.key ∉ loopKeys) : (loopsShow e).rd g = e.rd g := by
  unfold loopsShow
  rw [timeShow_rd _ hg, rampFollow_rd]
  exact foldl_keeps (fun a => a.rd g) _ _ (fun a k hk => clkOutShow_rd a hk hg) e

theorem loopsShow_cu (e : Eng) : (loopsShow e).cu = e.cu := by
  unfold loopsShow
  rw [timeShow_cu, rampFollow_cu]
  exact foldl_keeps Eng.cu _ _ (fun a k _ => clkOutShow_cu a k) e

/-! ### A denied write of the host (R328) -/

theorem hostDeny_hush (e : Eng) : (hostDeny e).hush = e.hush := raise_hush _ _ _

theorem hostDeny_rd (e : Eng) {g : Fld} (hcnt : HOST_DENY_CNT_CNT.key ≠ g.key) (hevt : HOST_EVT_DENIED.key ≠ g.key) (h : Still g) :
    (hostDeny e).rd g = e.rd g := by
  unfold hostDeny
  rw [raise_rd _ _ _ hevt h, addSat_eq, Eng.rd_wr_other _ _ hcnt]

/-- What raising an event bit makes of its own field: nothing where the bit is 1 already. -/
theorem raise_rd_same (e : Eng) (f : Fld) (i : Nat) (h : Still f) :
    (e.raise f i).rd f = if e.bit f i then e.rd f else setNatBit (e.rd f) i % 2 ^ f.width := by
  have hl : Leaves (fun f i a => raiseAt 2 f i [] a) f := fun g i e hk => raiseAt_rd 2 g i [] e (still_ne h hk) h
  unfold Eng.raise raiseAt
  split
  · rfl
  · rw [evSend_rd h, evWake_rd hl, evPost_rd h hl, evNote_rd h hl, wrBit_eq, Eng.rd_wr]
    rfl

/-- A write of a register of CUR_WIN by the host is denied (R383). -/
theorem exec_deniedWrite (s : State) (value be : Nat) (hup : s.up) (hm : s.eng.cu.mbx = none) :
    exec (.registerWrite 1 0xD00014 value be) s =
      .next { s with eng := { hostDeny s.eng with wq := [] }, mem := s.mem.applyAll (hostDeny s.eng).wq } := by
  have hdeny : regWrite 1 0xD00014 value be s.eng s.mem = hostDeny s.eng := by simp [regWrite, writeRight]
  have hmbx : (hostDeny s.eng).cu.mbx = none := (congrArg CurSt.mbx (cu_of_hush (hostDeny_hush s.eng))).trans hm
  have hrun := onSec_up s (regWrite 1 0xD00014 value be) hup (hdeny.symm ▸ hmbx)
  rw [hdeny] at hrun
  exact hrun

theorem hostDeny_cnt (e : Eng) : (hostDeny e).rd HOST_DENY_CNT_CNT = min (e.rd HOST_DENY_CNT_CNT + 1) (2 ^ 32 - 1) := by
  unfold hostDeny
  rw [raise_rd _ _ _ (by decide) (by unfold Still; decide), addSat_eq, Eng.rd_wr]
  exact Nat.mod_eq_of_lt (lt_of_le_of_lt (Nat.min_le_right _ _) (by decide))

theorem hostDeny_denied (e : Eng) (h : e.rd HOST_EVT_DENIED < 2) : (hostDeny e).rd HOST_EVT_DENIED = 1 := by
  have hrd : (e.addSat HOST_DENY_CNT_CNT 1).rd HOST_EVT_DENIED = e.rd HOST_EVT_DENIED := Eng.rd_wr_other _ _ (by decide)
  unfold hostDeny
  rw [raise_rd_same _ _ _ (by unfold Still; decide), Eng.bit, hrd]
  generalize e.rd HOST_EVT_DENIED = x at h
  interval_cases x <;> rfl

/-- What a denied host write does where the event field holds a value of its width: it counts, and DENIED reads 1 (R328). -/
theorem registerWrite_denied (s : State) (value be : Nat) (hup : s.up) (hquiet : s.quiet) (hinv : Inv s)
    (hbit : s.rd HOST_EVT_DENIED < 2) : Completes (.registerWrite 1 0xD00014 value be) s fun t =>
      t.rd HOST_DENY_CNT_CNT = min (s.rd HOST_DENY_CNT_CNT + 1) (2 ^ 32 - 1) ∧ t.rd HOST_EVT_DENIED = 1 ∧
      Kept [HOST_DENY_CNT_CNT.key, HOST_EVT_DENIED.key] s t := by
  obtain ⟨-, -, -, hmbx, -, -⟩ := hquiet
  refine ⟨_, exec_deniedWrite s value be hup hmbx, rfl, hostDeny_cnt s.eng, hostDeny_denied s.eng hbit, ?_, ?_⟩
  · have hwq : (hostDeny s.eng).wq = [] := (raise_wq _ _ _).trans hinv.2
    show s.mem.applyAll (hostDeny s.eng).wq = s.mem
    rw [hwq]
    rfl
  · intro g hg
    simp only [List.mem_append, List.mem_cons, List.not_mem_nil, or_false, not_or] at hg
    obtain ⟨⟨hcnt, hevt⟩, hstill⟩ := hg
    exact hostDeny_rd s.eng (Ne.symm hcnt) (Ne.symm hevt) hstill

/-- The state after reset, but HOST_EVT.DENIED, a field of one bit, holds 3. -/
def deniedWide : State := { State.reset with eng := { State.reset.eng with regs := [(HOST_EVT_DENIED.key, 3)] } }

end Machine
end Sys2Proof
end

section
/-!
SUPPORT. Fields of type RWL while LOCK is set (R10): where their registers stand, and that neither the write of the word nor anything
that follows it at once changes such a field.
-/
namespace Sys2Proof
namespace Machine

/-! ### The registers with fields of type RWL -/

/-- The rows of every block. -/
def regRows : List RegRow := (List.range 17).flatMap fun b => regRowsAt (b * 0x100000)

theorem regRowsAt_block (off : Nat) : regRowsAt (off / 0x100000 * 0x100000) = regRowsAt off := by
  unfold regRowsAt
  rw [Nat.mul_div_cancel _ (by decide)]

theorem regRowsAt_beyond {off : Nat} (h : 17 ≤ off / 0x100000) : regRowsAt off = [] := by
  obtain ⟨b, hb⟩ := Nat.exists_eq_add_of_le' h
  unfold regRowsAt
  rw [hb]
  rfl

theorem mem_regRows {row : RegRow} {off : Nat} (h : row ∈ regRowsAt off) : row ∈ regRows := by
  by_cases hb : off / 0x100000 < 17
  · exact List.mem_flatMap.2 ⟨off / 0x100000, List.mem_range.2 hb, (regRowsAt_block off).symm ▸ h⟩
  · rw [regRowsAt_beyond (by omega)] at h
    cases h

/-- Has a register a field of type RWL? -/
def RegRow.hasRwl (row : RegRow) : Bool := row.fields.any fun f => f.ty == .rwl

/-- The offsets of a register that stands alone or in one array. -/
def RegRow.offsets (row : RegRow) : List Nat :=
  match row.dims with
  | [] => [row.base]
  | (st, ct) :: _ => (List.range ct).map fun k => row.base + k * st

/-- The offsets of the registers with fields of type RWL. -/
def rwlOffsets : List Nat := (regRows.filter RegRow.hasRwl).flatMap RegRow.offsets

/-- A register of one block only that stands alone or in one array. -/
def RegRow.simple (row : RegRow) : Bool :=
  !row.shared && match row.dims with
    | [] => true
    | [(_, ct)] => decide (0 < ct)
    | _ => false

theorem rwlRows_simple : ∀ row ∈ regRows, row.hasRwl = true → row.simple = true := by decide +kernel

theorem mem_offsets_of_hits {row : RegRow} {off : Nat} (hs : row.simple = true) (h : row.hits off = true) : off ∈ row.offsets := by
  obtain ⟨base, dims, shared, fields⟩ := row
  cases shared with
  | true => cases hs
  | false =>
    simp only [RegRow.hits, canonOff, Bool.false_eq_true, if_false, Bool.and_eq_true, beq_iff_eq] at h
    obtain ⟨_, hoff⟩ := h
    match dims, hs with
    | [], _ => simpa [RegRow.offsets, dimOffset] using hoff.symm
    | [(st, ct)], hs =>
      have hct : 0 < ct := by simpa [RegRow.simple] using hs
      simp only [dimOffset, Nat.add_zero] at hoff
      refine List.mem_map.2 ⟨if st = 0 then 0 else min (ct - 1) ((off - base) / st), List.mem_range.2 ?_, hoff⟩
      split <;> omega

/-- A register with a field of type RWL stands at one of the offsets listed. -/
theorem mem_rwlOffsets {off : Nat} {row : RegRow} {f : FieldRow} (hrow : findReg off = some row) (hf : f ∈ row.fields)
    (hty : f.ty = .rwl) : off ∈ rwlOffsets := by
  have hmem : row ∈ regRows := mem_regRows (List.mem_of_find?_eq_some hrow)
  have hrwl : row.hasRwl = true := List.any_eq_true.2 ⟨f, hf, by simp [hty]⟩
  have hhits : row.hits off = true := List.find?_some (p := fun r => RegRow.hits r off) hrow
  exact List.mem_flatMap.2 ⟨row, List.mem_filter.2 ⟨hmem, hrwl⟩, mem_offsets_of_hits (rwlRows_simple row hmem hrwl) hhits⟩

/-! ### Where the registers of the tables with fields of type RWL stand among the others

The facts of this section are evaluated over the tables; the lemmas after them say what they mean for one field. -/

/-- The fields that report a write which is denied or whose commit is rejected. -/
def rejectKeys : List Nat := [HOST_DENY_CNT_CNT.key, HOST_EVT_DENIED.key, CLK_EVT_CMT_REJ.key]

/-- The fields that a write of such a register may change besides those of its own word. -/
def sideKeys : List Nat := reportKeys ++ badEncKeys ++ guarKeys ++ loopKeys ++ rejectKeys

/-- No field of type RWL is one of them. -/
theorem rwlField_apart : ∀ off ∈ rwlOffsets, (findReg off).all (fun row => row.fields.all fun f =>
    f.ty != .rwl || !sideKeys.contains (rowFld row off f).key) = true := by decide +kernel

/-- Where two fields of a word have one key, both are of type RWL or none is. -/
theorem rwlField_shared : ∀ off ∈ rwlOffsets, (findReg off).all (fun row => row.fields.all fun f => row.fields.all fun f' =>
    f.ty != .rwl || (rowFld row off f').key != (rowFld row off f).key || f'.ty == .rwl) = true := by decide +kernel

/-- The LOCK bit of the block is no field of the word, nor one that a report changes. -/
theorem rwlField_lock : ∀ off ∈ rwlOffsets, (lockFld off).all (fun l =>
    !(reportKeys ++ badEncKeys).contains l.key && (findReg off).all fun row => row.fields.all fun f =>
      (rowFld row off f).key != l.key) = true := by decide +kernel

/-- TIME_AQL_CTRL.ROLE is of type RWL (R144). -/
theorem rwlField_role : (findReg 0x400100).all (fun row => row.fields.any fun f =>
    f.ty == .rwl && rowFld row 0x400100 f == TIME_AQL_CTRL_ROLE) = true := by decide +kernel

/-- SEC_TAMPER_CFG has the one field ACT (R439). -/
theorem rwlField_act : (findReg 0xF00020).all (fun row => row.fields.all fun f =>
    rowFld row 0xF00020 f == SEC_TAMPER_CFG_ACT) = true := by decide +kernel

/-- The registers that REGISTER_WRITE treats apart, but for four, have no field of type RWL. -/
theorem rwlOffsets_place : ∀ off ∈ rwlOffsets, ¬(0xA80000 ≤ off ∧ off < 0xB00000) ∧ ¬(0xA02000 ≤ off ∧ off < 0xA020C0) ∧
    off ≠ 0xD00100 ∧ off ≠ 0x400060 ∧ inArray 0x301000 0x400 4 off = false ∧ off ≠ 0x400004 ∧ off ≠ 0x100408 ∧ off ≠ 0x130 ∧
    off ≠ 0x1000004 ∧ off ≠ 0xF00080 ∧ off ≠ 0xF00008 := by decide +kernel

section Locked

variable {off : Nat} {row : RegRow} {f : FieldRow}

theorem rwlField_notSide (hrow : findReg off = some row) (hf : f ∈ row.fields) (hty : f.ty = .rwl) :
    Still (rowFld row off f) ∧ (rowFld row off f).key ∉ badEncKeys ∧ (rowFld row off f).key ∉ guarKeys ∧
      (rowFld row off f).key ∉ loopKeys ∧ (rowFld row off f).key ∉ rejectKeys := by
  have h := rwlField_apart off (mem_rwlOffsets hrow hf hty)
  rw [hrow, Option.all_some] at h
  have hside : (rowFld row off f).key ∉ sideKeys := by simpa [hty] using List.all_eq_true.1 h f hf
  simp only [sideKeys, List.mem_append, not_or] at hside
  obtain ⟨⟨⟨⟨hstill, henc⟩, hguar⟩, hloop⟩, hreject⟩ := hside
  exact ⟨hstill, henc, hguar, hloop, hreject⟩

/-- A field that stands where a field of type RWL stands is of that type. -/
theorem rwl_of_key_eq (hrow : findReg off = some row) (hf : f ∈ row.fields) (hty : f.ty = .rwl) {f' : FieldRow}
    (hf' : f' ∈ row.fields) (hkey : (rowFld row off f').key = (rowFld row off f).key) : f'.ty = .rwl := by
  have h := rwlField_shared off (mem_rwlOffsets hrow hf hty)
  rw [hrow, Option.all_some] at h
  simpa [hty, hkey] using List.all_eq_true.1 (List.all_eq_true.1 h f hf) f' hf'

/-- No field of the word is the LOCK bit of its block. -/
theorem writeField_keeps_locked (hoff : off ∈ rwlOffsets) (hrow : findReg off = some row) (hf : f ∈ row.fields)
    (master value mask : Nat) (e : Eng) : locked (writeField master off value mask row e f) off = locked e off := by
  have h := rwlField_lock off hoff
  unfold locked
  cases hl : lockFld off with
  | none => rfl
  | some l =>
    rw [hl, hrow, Option.all_some, Option.all_some, Bool.and_eq_true] at h
    obtain ⟨hside, hkeys⟩ := h
    simp only [Bool.not_eq_true', List.contains_eq_mem, decide_eq_false_iff_not, List.mem_append, not_or] at hside
    have hkey : (rowFld row off f).key ≠ l.key := by simpa using List.all_eq_true.1 hkeys f hf
    simp only [Eng.on, writeField_rd master off value mask row e f hkey hside.2 hside.1]

/-- R10: a write of the word leaves a field of type RWL as it is while LOCK is set. -/
theorem writeWord_locked (hrow : findReg off = some row) (hf : f ∈ row.fields) (hty : f.ty = .rwl) (master value mask : Nat)
    (e : Eng) (hlock : locked e off = true) :
    (writeWord master off value mask e).rd (rowFld row off f) = e.rd (rowFld row off f) := by
  obtain ⟨hstill, henc, -, -, -⟩ := rwlField_notSide hrow hf hty
  unfold writeWord
  simp only [hrow]
  rw [irqRises_rd _ _ _ hstill]
  refine (List.foldlRecOn row.fields (writeField master off value mask row)
    (motive := fun a => locked a off = true ∧ a.rd (rowFld row off f) = e.rd (rowFld row off f)) ⟨hlock, rfl⟩ ?_).2
  rintro a ⟨halock, hard⟩ f' hf'
  refine ⟨(writeField_keeps_locked (mem_rwlOffsets hrow hf hty) hrow hf' master value mask a).trans halock, ?_⟩
  by_cases hkey : (rowFld row off f').key = (rowFld row off f).key
  · rw [writeField_locked _ _ _ _ _ _ _ (rwl_of_key_eq hrow hf hty hf' hkey) halock, hard]
  · rw [writeField_rd _ _ _ _ _ _ _ hkey henc hstill, hard]

/-! ### What follows a write of such a register -/

/-- Of the words with fields of type RWL those of the loops, the references, the Aqurn role and the tamper responses have an effect
at once. -/
theorem afterWrite_of_rwl (hoff : off ∈ rwlOffsets) (master value mask : Nat) (before e : Eng) :
    afterWrite master off value mask before e =
      if 0x300100 ≤ off ∧ off < 0x300300 then
        (if bypassHigh before e ((off - 0x300100) / 0x40) then before.raise CLK_EVT_CMT_REJ else e)
      else if off = 0x300004 then loopsShow e
      else if off = 0x400100 then aqlRole before e
      else if off = 0xF00020 then actWrite before e
      else e := by
  obtain ⟨-, -, -, href, hramp, hcmd, hcal, hdiv, hpol, hpub, hsec⟩ := rwlOffsets_place off hoff
  simp only [afterWrite, href, hramp, hcmd, hcal, hdiv, hpol, hpub, hsec, false_and, if_false, or_false, Bool.false_eq_true]

/-- The same value of ROLE leaves the ports alone. -/
theorem aqlRole_same {before e : Eng} (h : e.rd TIME_AQL_CTRL_ROLE = before.rd TIME_AQL_CTRL_ROLE) : aqlRole before e = e := by
  simp [aqlRole, h]

/-- ROLE is a field of type RWL of its word. -/
theorem role_same (hrow : findReg 0x400100 = some row) {before e : Eng}
    (hkeep : ∀ f ∈ row.fields, f.ty = .rwl → e.rd (rowFld row 0x400100 f) = before.rd (rowFld row 0x400100 f)) :
    e.rd TIME_AQL_CTRL_ROLE = before.rd TIME_AQL_CTRL_ROLE := by
  have h := rwlField_role
  rw [hrow, Option.all_some] at h
  obtain ⟨r, hr, hr'⟩ := List.any_eq_true.1 h
  simp only [Bool.and_eq_true, beq_iff_eq] at hr'
  obtain ⟨hty, hfld⟩ := hr'
  exact hfld ▸ hkeep r hr hty

/-- The five ACT fields of two bits make up the word of ten. -/
theorem actFields_sum {x : Nat} (h : x < 2 ^ 10) : (List.range 5).foldl (fun a s => a + bitsOf x (2 * s) 2 * 4 ^ s) 0 = x := by
  simp only [List.range_succ, List.range_zero, List.nil_append, List.foldl_append, List.foldl_cons, List.foldl_nil, bitsOf]
  norm_num
  omega

/-- The tamper responses that a write has left as they were stay so (R439). -/
theorem actWrite_same {before e : Eng} (h : e.rd SEC_TAMPER_CFG_ACT = before.rd SEC_TAMPER_CFG_ACT)
    (hw : before.rd SEC_TAMPER_CFG_ACT < 2 ^ 10) : (actWrite before e).rd SEC_TAMPER_CFG_ACT = before.rd SEC_TAMPER_CFG_ACT := by
  have hact (s : Nat) : max (tamperAct before s) (tamperAct e s) = bitsOf (before.rd SEC_TAMPER_CFG_ACT) (2 * s) 2 := by
    simp only [tamperAct, h, max_self]
  unfold actWrite
  split
  · exact h
  · rw [Eng.rd_wr]
    simp only [hact, actFields_sum hw]
    exact Nat.mod_eq_of_lt hw

theorem actWrite_cu (before e : Eng) : (actWrite before e).cu = e.cu := by
  unfold actWrite
  split <;> rfl

/-- What follows a write that has left the locked fields of the word alone leaves them alone too. -/
theorem afterWrite_locked (hrow : findReg off = some row) (hf : f ∈ row.fields) (hty : f.ty = .rwl) (master value mask : Nat)
    {before e : Eng} (hw : before.rd (rowFld row off f) < 2 ^ f.width)
    (hkeep : ∀ f ∈ row.fields, f.ty = .rwl → e.rd (rowFld row off f) = before.rd (rowFld row off f)) :
    (afterWrite master off value mask before e).rd (rowFld row off f) = before.rd (rowFld row off f) := by
  obtain ⟨hstill, -, -, hloop, hreject⟩ := rwlField_notSide hrow hf hty
  rw [afterWrite_of_rwl (mem_rwlOffsets hrow hf hty)]
  split
  · split
    · exact raise_rd _ _ _ (key_ne_of_mem hreject (by simp [rejectKeys])) hstill
    · exact hkeep f hf hty
  split
  · rw [loopsShow_rd _ hloop]
    exact hkeep f hf hty
  split
  case isTrue hrole =>
    subst hrole
    rw [aqlRole_same (role_same hrow hkeep)]
    exact hkeep f hf hty
  split
  case isTrue hact =>
    subst hact
    have h := rwlField_act
    rw [hrow, Option.all_some] at h
    have hfld : rowFld row 0xF00020 f = SEC_TAMPER_CFG_ACT := by simpa using List.all_eq_true.1 h f hf
    have hwidth : f.width = 10 := congrArg Fld.width hfld
    have hsame := hkeep f hf hty
    rw [hfld] at hw hsame ⊢
    exact actWrite_same hsame (hwidth ▸ hw)
  · exact hkeep f hf hty

theorem afterWrite_rwl_mbx (hrow : findReg off = some row) (hf : f ∈ row.fields) (hty : f.ty = .rwl) (master value mask : Nat)
    {before e : Eng} (hkeep : ∀ f ∈ row.fields, f.ty = .rwl → e.rd (rowFld row off f) = before.rd (rowFld row off f))
    (hm : e.cu.mbx = before.cu.mbx) :
    (afterWrite master off value mask before e).cu.mbx = before.cu.mbx := by
  rw [afterWrite_of_rwl (mem_rwlOffsets hrow hf hty)]
  split
  · split
    · rw [raise_cu]
    · exact hm
  split
  · rw [loopsShow_cu, hm]
  split
  case isTrue hoff =>
    subst hoff
    rw [aqlRole_same (role_same hrow hkeep), hm]
  split
  · rw [actWrite_cu, hm]
  · exact hm

/-! ### REGISTER_WRITE of such a register -/

theorem regWrite_of_rwl (hoff : off / 4 * 4 ∈ rwlOffsets) (master value be : Nat) (e : Eng) (m : Mems) :
    regWrite master off value be e m =
      if !writeRight master (off / 4 * 4) value e then (if master = 1 then hostDeny e else e)
      else if !writeIdle (off / 4 * 4) e then e
      else guarCheck (afterWrite master (off / 4 * 4) value (beMask be) e (writeWord master (off / 4 * 4) value (beMask be) e)) := by
  obtain ⟨hwin, hatom, hmbx, -⟩ := rwlOffsets_place _ hoff
  have hpriv : ¬(0xA02000 ≤ off / 4 * 4 ∧ off / 4 * 4 < 0xA020C0 ∧ (off / 4 * 4 - 0xA02000) / 0x40 ≠ master) :=
    fun ⟨hlo, hhi, _⟩ => hatom ⟨hlo, hhi⟩
  unfold regWrite
  simp only [if_neg hwin, if_neg hpriv, hmbx, false_and, if_false]

/-- R10, for the whole of REGISTER_WRITE: the field keeps its value, and no mailbox request comes to wait. -/
theorem regWrite_locked (hrow : findReg (off / 4 * 4) = some row) (hf : f ∈ row.fields) (hty : f.ty = .rwl) (master value be : Nat)
    {e : Eng} (m : Mems) (hlock : locked e (off / 4 * 4) = true) (hw : e.rd (rowFld row (off / 4 * 4) f) < 2 ^ f.width) :
    (regWrite master off value be e m).rd (rowFld row (off / 4 * 4) f) = e.rd (rowFld row (off / 4 * 4) f) ∧
      (regWrite master off value be e m).cu.mbx = e.cu.mbx := by
  have hoff := mem_rwlOffsets hrow hf hty
  obtain ⟨hstill, -, hguar, -, hreject⟩ := rwlField_notSide hrow hf hty
  have hkeep : ∀ r ∈ row.fields, r.ty = .rwl →
      (writeWord master (off / 4 * 4) value (beMask be) e).rd (rowFld row (off / 4 * 4) r) = e.rd (rowFld row (off / 4 * 4) r) :=
    fun r hr hrty => writeWord_locked hrow hr hrty master value (beMask be) e hlock
  have hcu : (writeWord master (off / 4 * 4) value (beMask be) e).cu = e.cu :=
    cu_of_hush (writeWord_hush master (off / 4 * 4) value (beMask be) e)
  rw [regWrite_of_rwl hoff]
  split
  · split
    · exact ⟨hostDeny_rd e (key_ne_of_mem hreject (by simp [rejectKeys])) (key_ne_of_mem hreject (by simp [rejectKeys])) hstill,
        congrArg CurSt.mbx (cu_of_hush (hostDeny_hush e))⟩
    · exact ⟨rfl, rfl⟩
  split
  · exact ⟨rfl, rfl⟩
  · refine ⟨?_, ?_⟩
    · rw [guarCheck_rd _ hguar hstill]
      exact afterWrite_locked hrow hf hty master value _ hw hkeep
    · rw [guarCheck_mbx]
      exact afterWrite_rwl_mbx hrow hf hty master value _ hkeep (congrArg CurSt.mbx hcu)

end Locked

end Machine
end Sys2Proof
end

section
/-!
SUPPORT. The obligations O3, O36 and O37.
-/
open Sys2Proof Sys2Proof.Machine

/-- Settles O37: a write of the word discards the field while LOCK is set (`writeWord_locked`), and nothing that follows at once
(the clock outputs, the Aqurn ports, the tamper responses, the guarantee) writes it. -/
theorem lockedFieldsKeepTheirValue : Obligations.LockedFieldsKeepTheirValue := by
  unfold Obligations.LockedFieldsKeepTheirValue
  rintro s master off value be row f hup ⟨-, -, -, hmbx, -, -⟩ _ hrow hf hty hlock hw
  obtain ⟨hrd, hcu⟩ := regWrite_locked hrow hf hty master value be s.mem hlock hw
  exact ⟨_, onSec_up s _ hup (hcu.trans hmbx), rfl, hrd⟩

/-- Refutes O36: nothing bounds the value that a one-bit event field holds. Where HOST_EVT.DENIED holds 3, a value that `Eng.wr` never
stores, the bit counts as set, so a denied host write leaves the field at 3 and not at 1. `registerWrite_denied` proves the clause
with the bound that it lacks; the clause on GLB_STATUS.BAD_ENC lacks the same bound. -/
theorem not_registerWritesActByFieldType : ¬ Obligations.RegisterWritesActByFieldType := by
  unfold Obligations.RegisterWritesActByFieldType
  rintro ⟨-, hdenied, -⟩
  have hquiet : deniedWide.quiet := ⟨rfl, rfl, rfl, rfl, ⟨rfl, rfl⟩, rfl⟩
  have hinv : Inv deniedWide := ⟨by decide, rfl⟩
  obtain ⟨t, hexec, -, -, hone, -⟩ := hdenied deniedWide 0 0 rfl hquiet hinv
  have hrun := exec_deniedWrite deniedWide 0 0 rfl rfl
  have hthree : (hostDeny deniedWide.eng).rd HOST_EVT_DENIED = 3 := by decide +kernel
  rw [hexec] at hrun
  cases hrun
  exact absurd (hone.symm.trans hthree) (by decide)

/-- Settles O3: the state after reset lists no field and no byte, so every read gives the reset value. -/
theorem resetIsCanonical : Obligations.ResetIsCanonical := by
  unfold Obligations.ResetIsCanonical
  have hinv : Inv State.reset := ⟨by decide, rfl⟩
  have hregs : ∀ f : Fld, State.reset.rd f = f.reset ∧ State.reset.rda f = f.reset := fun f => ⟨rfl, rfl⟩
  exact ⟨hinv, rfl, rfl, by decide, hregs, fun a => ⟨rfl, rfl, rfl, rfl⟩⟩

end

section
/-!
SUPPORT. Folds of which one step matters, bits of a number, and the event bits that a report keeps.
-/
namespace Sys2Proof
namespace Machine

/-! ### Folds and bits -/

/-- A fold of which the step of one element alone touches `p` makes of it what that step makes of it. -/
theorem foldl_once {α β γ : Type} (p : β → γ) (F : γ → γ) (f : β → α → β) {l : List α} {n : α} (hl : l.Nodup) (hn : n ∈ l)
    (hsame : ∀ b, p (f b n) = F (p b)) (hother : ∀ b, ∀ a ∈ l, a ≠ n → p (f b a) = p b) (b : β) :
    p (l.foldl f b) = F (p b) := by
  obtain ⟨l1, l2, rfl⟩ := List.append_of_mem hn
  obtain ⟨-, htail, hdisj⟩ := List.nodup_append.1 hl
  obtain ⟨hnot, -⟩ := List.nodup_cons.1 htail
  have hafter : ∀ b, ∀ a ∈ l2, p (f b a) = p b := fun b a ha => hother b a (by simp [ha]) fun h => hnot (h ▸ ha)
  have hbefore : ∀ b, ∀ a ∈ l1, p (f b a) = p b := fun b a ha => hother b a (by simp [ha]) (hdisj a ha n (by simp))
  rw [List.foldl_append, List.foldl_cons, foldl_keeps p f l2 hafter, hsame, foldl_keeps p f l1 hbefore]

theorem natBit_eq_testBit (x i : Nat) : natBit x i = x.testBit i := by
  rw [natBit, Nat.testBit_eq_decide_div_mod_eq]
  rfl

/-- Above bit `i`, which is clear, adding it changes nothing. -/
theorem div_add_pow_of_clear {x i j : Nat} (hi : natBit x i = false) (hij : i < j) : (x + 2 ^ i) / 2 ^ j = x / 2 ^ j := by
  obtain ⟨d, rfl⟩ := Nat.exists_eq_add_of_lt hij
  have heven : x / 2 ^ i % 2 = 0 := by simpa [natBit] using hi
  have hpow : 2 ^ (i + d + 1) = 2 ^ i * (2 * 2 ^ d) := by ring
  have hstep : (x / 2 ^ i + 1) / 2 = x / 2 ^ i / 2 := by omega
  rw [hpow, ← Nat.div_div_eq_div_mul, ← Nat.div_div_eq_div_mul, ← Nat.div_div_eq_div_mul, ← Nat.div_div_eq_div_mul,
    Nat.add_div_right x (by positivity), hstep]

/-- Setting a bit clears none. -/
theorem natBit_setNatBit_keeps (x i j : Nat) (h : natBit x j = true) : natBit (setNatBit x i) j = true := by
  unfold setNatBit
  split
  · exact h
  case isFalse hi =>
    have hclear : natBit x i = false := by simpa using hi
    rcases lt_trichotomy i j with hij | rfl | hij
    · simpa [natBit, div_add_pow_of_clear hclear hij] using h
    · rw [hclear] at h
      cases h
    · rw [natBit_eq_testBit] at h ⊢
      rw [Nat.add_comm, Nat.testBit_two_pow_add_gt hij, h]

/-! ### The bits of an event field that is raised -/

theorem wrBit_bit_same (e : Eng) {f : Fld} {i : Nat} (hi : i < f.width) : (e.wrBit f i true).bit f i = true := by
  rw [Eng.bit, wrBit_eq, Eng.rd_wr, natBit_mod _ _ _ hi]
  exact natBit_setNatBit _ _

theorem wrBit_bit_keeps (e : Eng) {f : Fld} (i : Nat) {j : Nat} (hj : j < f.width) (h : e.bit f j = true) :
    (e.wrBit f i true).bit f j = true := by
  rw [Eng.bit, wrBit_eq, Eng.rd_wr, natBit_mod _ _ _ hj]
  exact natBit_setNatBit_keeps _ _ _ h

/-- Raising a bit of an event field leaves the bits of it that are 1. -/
theorem raiseAt_bit_keeps (n : Nat) {f : Fld} (i : Nat) (d : List Byte) (e : Eng) {j : Nat} (hf : Still f) (hj : j < f.width)
    (h : e.bit f j = true) : (raiseAt n f i d e).bit f j = true := by
  have hw := wrBit_bit_keeps e i hj h
  cases n with
  | zero => exact hw
  | succ n =>
    have hl : Leaves (fun f i a => raiseAt n f i [] a) f := fun g i e hk => raiseAt_rd n g i [] e (still_ne hf hk) hf
    unfold raiseAt
    split
    · exact h
    · unfold Eng.bit at hw ⊢
      rw [evSend_rd hf, evWake_rd hl, evPost_rd hf hl, evNote_rd hf hl]
      exact hw

theorem raise_leaves {g : Fld} (h : Still g) : Leaves (fun f i a => a.raise f i) g := fun f i e hk => raise_rd e f i (still_ne h hk) h

theorem raiseQuiet_rd (e : Eng) {f : Fld} (i : Nat) {g : Fld} (hf : f.key ≠ g.key) (h : Still g) : (e.raiseQuiet f i).rd g = e.rd g := by
  unfold Eng.raiseQuiet
  split
  · rfl
  · rw [evSend_rd h, evNote_rd h (raise_leaves h)]
    exact Eng.rd_wr_other _ _ hf

/-- A bit that is 1 once the bit has been written is 1 once it has been raised without a Ledger entry. -/
theorem raiseQuiet_bit (e : Eng) {f : Fld} (i : Nat) {j : Nat} (hf : Still f) (hw : (e.wrBit f i true).bit f j = true)
    (h : e.bit f i = true → e.bit f j = true) : (e.raiseQuiet f i).bit f j = true := by
  unfold Eng.raiseQuiet
  split
  case isTrue hi => exact h hi
  case isFalse =>
    unfold Eng.bit at hw ⊢
    rw [evSend_rd hf, evNote_rd hf (raise_leaves hf)]
    exact hw

end Machine
end Sys2Proof
end

section
/-!
SUPPORT. The slack gauge (R27 to R29): what the end of a window writes into CUR, MIN and WORST, and the alarms.
-/
namespace Sys2Proof
namespace Machine

/-! ### The parts of SLACK_WINDOW_END -/

/-- The headroom of stage `n` at the end of a window. -/
def slackCur (units : List (List SlackUnit)) (e : Eng) (n : Nat) : Nat := stageHeadroom (slackWindow e) (units.getD n [])

/-- CUR of stage `n` is written, and MIN follows (R28). -/
def slackMargin (cur : Nat → Nat) (e : Eng) (n : Nat) : Eng :=
  (e.wr (GLB_SLK_MARGIN_CUR n) (cur n)).wr (GLB_SLK_MARGIN_MIN n) (min (cur n) (e.rd (GLB_SLK_MARGIN_MIN n)))

/-- CUR and MIN of every stage, then WORST. -/
def slackShown (cur : Nat → Nat) (e : Eng) : Eng :=
  (((List.range 16).foldl (slackMargin cur) e).wr GLB_SLK_WORST_MARGIN (cur (worstStage cur))).wr GLB_SLK_WORST_STAGE (worstStage cur)

/-- The alarms of every stage (R29). -/
def slackAlarms (cur : Nat → Nat) (e : Eng) : Eng := (List.range 16).foldl (fun a n => paceAlarm n (cur n) a) e

theorem slackWindowEnd_eq (units : List (List SlackUnit)) (e : Eng) :
    slackWindowEnd units e = slackAlarms (slackCur units e) (slackShown (slackCur units e) e) := rfl

theorem slackCur_eq (units : List (List SlackUnit)) (e : Eng) (n : Nat) : slackCur units e n =
    if (units.getD n []).all (fun u => u.items == 0) then 100
    else ((units.getD n []).map fun u => (slackWindow e - u.busy) * 100 / slackWindow e).foldl min 100 := by
  simp only [slackCur, stageHeadroom, unitHeadroom, List.foldl_map]

theorem foldl_min_le {α : Type} (f : α → Nat) (l : List α) (a : Nat) : l.foldl (fun b u => min b (f u)) a ≤ a :=
  List.foldlRecOn l _ (motive := fun b => b ≤ a) le_rfl fun _ hb _ _ => (Nat.min_le_left _ _).trans hb

theorem slackCur_le (units : List (List SlackUnit)) (e : Eng) (n : Nat) : slackCur units e n ≤ 100 := by
  unfold slackCur stageHeadroom
  split
  · exact le_rfl
  · exact foldl_min_le _ _ _

/-- The worst stage has the lowest headroom, and the lowest index among those that have it (R28). -/
theorem worstStage_spec (cur : Nat → Nat) :
    worstStage cur < 16 ∧ ∀ n < 16, cur (worstStage cur) ≤ cur n ∧ (n < worstStage cur → cur (worstStage cur) < cur n) := by
  have hfold (k : Nat) : let w := (List.range k).foldl (fun b n => if cur n < cur b then n else b) 0
      w < max k 1 ∧ ∀ n < k, cur w ≤ cur n ∧ (n < w → cur w < cur n) := by
    induction k with
    | zero => simp
    | succ k ih =>
      rw [List.range_succ, List.foldl_append, List.foldl_cons, List.foldl_nil]
      obtain ⟨hlt, hmin⟩ := ih
      generalize (List.range k).foldl (fun b n => if cur n < cur b then n else b) 0 = w at hlt hmin ⊢
      by_cases hk : cur k < cur w
      · simp only [hk, if_true]
        refine ⟨by omega, fun n hn => ?_⟩
        rcases Nat.lt_succ_iff_lt_or_eq.1 hn with hn | rfl
        · obtain ⟨hle, -⟩ := hmin n hn
          exact ⟨by omega, fun _ => by omega⟩
        · exact ⟨le_rfl, fun h => absurd h (lt_irrefl _)⟩
      · simp only [hk, if_false]
        refine ⟨by omega, fun n hn => ?_⟩
        rcases Nat.lt_succ_iff_lt_or_eq.1 hn with hn | rfl
        · exact hmin n hn
        · exact ⟨by omega, fun h => by omega⟩
  exact hfold 16

/-! ### CUR, MIN and WORST -/

theorem marginCur_key_ne {m n : Nat} (hm : m < 16) (hn : n < 16) (h : m ≠ n) :
    (GLB_SLK_MARGIN_CUR m).key ≠ (GLB_SLK_MARGIN_CUR n).key ∧ (GLB_SLK_MARGIN_MIN m).key ≠ (GLB_SLK_MARGIN_MIN n).key := by
  simp only [GLB_SLK_MARGIN_CUR, GLB_SLK_MARGIN_MIN, fld]
  omega

theorem marginCur_ne_min (m n : Nat) : (GLB_SLK_MARGIN_CUR m).key ≠ (GLB_SLK_MARGIN_MIN n).key := by
  simp only [GLB_SLK_MARGIN_CUR, GLB_SLK_MARGIN_MIN, fld]
  omega

theorem slackMargin_rd (cur : Nat → Nat) (e : Eng) (n : Nat) {g : Fld} (hc : (GLB_SLK_MARGIN_CUR n).key ≠ g.key)
    (hm : (GLB_SLK_MARGIN_MIN n).key ≠ g.key) : (slackMargin cur e n).rd g = e.rd g := by
  rw [slackMargin, Eng.rd_wr_other _ _ hm, Eng.rd_wr_other _ _ hc]

/-- The fields that the end of a slack window writes, but for the alarms. -/
def slackKeys : List Nat :=
  [GLB_SLK_WORST_STAGE.key, GLB_SLK_WORST_MARGIN.key] ++
    (List.range 16).flatMap fun n => [(GLB_SLK_MARGIN_CUR n).key, (GLB_SLK_MARGIN_MIN n).key]

theorem margin_mem_slackKeys {n : Nat} (hn : n ∈ List.range 16) :
    (GLB_SLK_MARGIN_CUR n).key ∈ slackKeys ∧ (GLB_SLK_MARGIN_MIN n).key ∈ slackKeys :=
  ⟨List.mem_append_right _ (List.mem_flatMap.2 ⟨n, hn, by simp⟩), List.mem_append_right _ (List.mem_flatMap.2 ⟨n, hn, by simp⟩)⟩

theorem slackShown_rd (cur : Nat → Nat) (e : Eng) {g : Fld} (hg : g.key ∉ slackKeys) : (slackShown cur e).rd g = e.rd g := by
  rw [slackShown, Eng.rd_wr_other _ _ (key_ne_of_mem hg (by simp [slackKeys])),
    Eng.rd_wr_other _ _ (key_ne_of_mem hg (by simp [slackKeys]))]
  exact foldl_keeps (fun a => a.rd g) _ _ (fun a n hn => slackMargin_rd cur a n (key_ne_of_mem hg (margin_mem_slackKeys hn).1)
    (key_ne_of_mem hg (margin_mem_slackKeys hn).2)) e

/-- Behind the margins of the stages come the two fields of WORST, which touch none of them. -/
theorem slackShown_margin (cur : Nat → Nat) (e : Eng) {g : Fld} (hs : GLB_SLK_WORST_STAGE.key ≠ g.key)
    (hm : GLB_SLK_WORST_MARGIN.key ≠ g.key) : (slackShown cur e).rd g = ((List.range 16).foldl (slackMargin cur) e).rd g := by
  rw [slackShown, Eng.rd_wr_other _ _ hs, Eng.rd_wr_other _ _ hm]

theorem slackShown_cur {cur : Nat → Nat} (hcur : ∀ n, cur n ≤ 100) (e : Eng) {n : Nat} (hn : n < 16) :
    (slackShown cur e).rd (GLB_SLK_MARGIN_CUR n) = cur n := by
  have hkey : GLB_SLK_WORST_STAGE.key ≠ (GLB_SLK_MARGIN_CUR n).key ∧ GLB_SLK_WORST_MARGIN.key ≠ (GLB_SLK_MARGIN_CUR n).key := by
    simp only [GLB_SLK_WORST_STAGE, GLB_SLK_WORST_MARGIN, GLB_SLK_MARGIN_CUR, fld]
    omega
  rw [slackShown_margin cur e hkey.1 hkey.2]
  refine foldl_once (fun a => a.rd (GLB_SLK_MARGIN_CUR n)) (fun _ => cur n) (slackMargin cur) List.nodup_range (List.mem_range.2 hn)
    (fun a => ?_) (fun a m hm hne => ?_) e
  · rw [slackMargin, Eng.rd_wr_other _ _ (marginCur_ne_min n n).symm, Eng.rd_wr]
    exact Nat.mod_eq_of_lt (lt_of_le_of_lt (hcur n) (show 100 < 2 ^ 8 by decide))
  · exact slackMargin_rd cur a m (marginCur_key_ne (List.mem_range.1 hm) hn hne).1 (marginCur_ne_min n m).symm

theorem slackShown_min {cur : Nat → Nat} (hcur : ∀ n, cur n ≤ 100) (e : Eng) {n : Nat} (hn : n < 16) :
    (slackShown cur e).rd (GLB_SLK_MARGIN_MIN n) = min (cur n) (e.rd (GLB_SLK_MARGIN_MIN n)) := by
  have hkey : GLB_SLK_WORST_STAGE.key ≠ (GLB_SLK_MARGIN_MIN n).key ∧ GLB_SLK_WORST_MARGIN.key ≠ (GLB_SLK_MARGIN_MIN n).key := by
    simp only [GLB_SLK_WORST_STAGE, GLB_SLK_WORST_MARGIN, GLB_SLK_MARGIN_MIN, fld]
    omega
  rw [slackShown_margin cur e hkey.1 hkey.2]
  refine foldl_once (fun a => a.rd (GLB_SLK_MARGIN_MIN n)) (min (cur n)) (slackMargin cur) List.nodup_range (List.mem_range.2 hn)
    (fun a => ?_) (fun a m hm hne => ?_) e
  · rw [slackMargin, Eng.rd_wr]
    exact Nat.mod_eq_of_lt (lt_of_le_of_lt ((Nat.min_le_left _ _).trans (hcur n)) (show 100 < 2 ^ 8 by decide))
  · exact slackMargin_rd cur a m (marginCur_ne_min m n) (marginCur_key_ne (List.mem_range.1 hm) hn hne).2

theorem slackShown_worst {cur : Nat → Nat} (hcur : ∀ n, cur n ≤ 100) (e : Eng) :
    (slackShown cur e).rd GLB_SLK_WORST_STAGE = worstStage cur ∧ (slackShown cur e).rd GLB_SLK_WORST_MARGIN = cur (worstStage cur) := by
  unfold slackShown
  rw [Eng.rd_wr, Eng.rd_wr_other _ _ (by decide), Eng.rd_wr]
  exact ⟨Nat.mod_eq_of_lt (worstStage_spec cur).1, Nat.mod_eq_of_lt (lt_of_le_of_lt (hcur _) (by decide))⟩

/-- The registers of the global block are none that a report changes. -/
theorem still_of_lt {g : Fld} (h : g.key < 8 * 0x100000) : Still g := by
  have hall : ∀ k ∈ reportKeys, 8 * 0x100000 ≤ k := by decide
  exact fun hk => absurd (hall g.key hk) (not_le.2 h)

theorem margin_still (n : Nat) : Still (GLB_SLK_MARGIN_CUR n) ∧ Still (GLB_SLK_MARGIN_MIN n) := by
  constructor <;> refine still_of_lt ?_ <;> simp only [GLB_SLK_MARGIN_CUR, GLB_SLK_MARGIN_MIN, fld] <;> omega

theorem alarm_ne_margin (n : Nat) : GLB_SLK_ALARM_STAGE.key ≠ (GLB_SLK_MARGIN_CUR n).key ∧
    GLB_SLK_ALARM_STAGE.key ≠ (GLB_SLK_MARGIN_MIN n).key := by
  simp only [GLB_SLK_ALARM_STAGE, GLB_SLK_MARGIN_CUR, GLB_SLK_MARGIN_MIN, fld]
  omega

/-! ### The alarms (R29) -/

theorem alarm_still : Still GLB_SLK_ALARM_STAGE := by
  unfold Still
  decide

/-- An alarm leaves every field alone, but for the alarm bits and what a report changes. -/
theorem paceAlarm_rd (n cur : Nat) (e : Eng) {g : Fld} (hg : GLB_SLK_ALARM_STAGE.key ≠ g.key) (h : Still g) :
    (paceAlarm n cur e).rd g = e.rd g := by
  unfold paceAlarm
  simp only []
  split
  · split
    · split
      · rw [irqMessage_rd _ _ h, postEv_rd _ _ _ _ h, Eng.rd_with_paceAt]
      · rw [Eng.raiseWith, raiseAt_rd _ _ _ _ _ hg h, Eng.rd_with_paceAt]
    · split
      · exact irqMessage_rd _ _ h
      · exact raiseQuiet_rd e n hg h
  · rfl

/-- An alarm clears no alarm bit. -/
theorem paceAlarm_bit_keeps (n cur : Nat) (e : Eng) {j : Nat} (hj : j < 16) (h : e.bit GLB_SLK_ALARM_STAGE j = true) :
    (paceAlarm n cur e).bit GLB_SLK_ALARM_STAGE j = true := by
  unfold paceAlarm
  simp only []
  split
  · split
    · split
      · rw [Eng.bit, irqMessage_rd _ _ alarm_still, postEv_rd _ _ _ _ alarm_still, Eng.rd_with_paceAt]
        exact h
      · exact raiseAt_bit_keeps 3 n _ _ alarm_still hj h
    · split
      · rw [Eng.bit, irqMessage_rd _ _ alarm_still]
        exact h
      · exact raiseQuiet_bit e n alarm_still (wrBit_bit_keeps e n hj h) fun _ => h
  · exact h

/-- A stage below FLOOR has its alarm bit set. -/
theorem paceAlarm_bit (n cur : Nat) (e : Eng) (hn : n < 16) (hen : e.on GLB_SLK_CTRL_EN = true)
    (hcur : cur < e.rd GLB_SLK_CTRL_FLOOR) : (paceAlarm n cur e).bit GLB_SLK_ALARM_STAGE n = true := by
  unfold paceAlarm
  simp only [hen, hcur, decide_true, Bool.and_self, if_true]
  by_cases hheld : e.bit GLB_SLK_ALARM_STAGE n = true
  · simp only [hheld, if_true]
    split
    · rw [Eng.bit, irqMessage_rd _ _ alarm_still, postEv_rd _ _ _ _ alarm_still, Eng.rd_with_paceAt]
      exact hheld
    · rw [Eng.bit, irqMessage_rd _ _ alarm_still]
      exact hheld
  · rw [if_neg hheld, if_neg hheld]
    split
    · exact raiseAt_bit _ _ _ _ _ hn alarm_still
    · exact raiseQuiet_bit e n alarm_still (wrBit_bit_same e hn) id

theorem slackAlarms_rd (cur : Nat → Nat) (e : Eng) {g : Fld} (hg : GLB_SLK_ALARM_STAGE.key ≠ g.key) (h : Still g) :
    (slackAlarms cur e).rd g = e.rd g :=
  foldl_keeps (fun a => a.rd g) _ _ (fun a n _ => paceAlarm_rd n (cur n) a hg h) e

theorem slackAlarms_bit (cur : Nat → Nat) (e : Eng) {n : Nat} (hn : n < 16) (hen : e.on GLB_SLK_CTRL_EN = true)
    (hcur : cur n < e.rd GLB_SLK_CTRL_FLOOR) : (slackAlarms cur e).bit GLB_SLK_ALARM_STAGE n = true := by
  obtain ⟨l1, l2, hl⟩ := List.append_of_mem (List.mem_range.2 hn)
  have hctrl {g : Fld} (hg : GLB_SLK_ALARM_STAGE.key ≠ g.key) (h : Still g) :
      (l1.foldl (fun a n => paceAlarm n (cur n) a) e).rd g = e.rd g :=
    foldl_keeps (fun a => a.rd g) _ _ (fun a n _ => paceAlarm_rd n (cur n) a hg h) e
  have hset := paceAlarm_bit n (cur n) (l1.foldl (fun a n => paceAlarm n (cur n) a) e) hn
    (by rw [Eng.on, hctrl (by decide) (by unfold Still; decide)]; exact hen)
    (by rw [hctrl (by decide) (by unfold Still; decide)]; exact hcur)
  unfold slackAlarms
  rw [hl, List.foldl_append, List.foldl_cons]
  exact List.foldlRecOn l2 _ (motive := fun a => a.bit GLB_SLK_ALARM_STAGE n = true) hset
    fun a ha m _ => paceAlarm_bit_keeps m (cur m) a hn ha

end Machine
end Sys2Proof
end

section
open Sys2Proof Sys2Proof.Machine

/-- Settles O4: every stage's CUR and MIN are written once (`slackShown_cur`, `slackShown_min`), WORST names the lowest
(`worstStage_spec`), and the alarms touch the alarm bits alone, of which none is cleared. -/
theorem slackWindowWritesGauge : Obligations.SlackWindowWritesGauge := by
  unfold Obligations.SlackWindowWritesGauge
  intro s units hup win cur
  have hcur : cur = slackCur units s.eng := funext fun n => (slackCur_eq units s.eng n).symm
  have hle : ∀ n, cur n ≤ 100 := hcur ▸ slackCur_le units s.eng
  clear_value cur
  have hexec := onEng_up s (slackWindowEnd units) hup
  have hrd {g : Fld} (hg : GLB_SLK_ALARM_STAGE.key ≠ g.key) (h : Still g) :
      (slackWindowEnd units s.eng).rd g = (slackShown cur s.eng).rd g := by
    rw [slackWindowEnd_eq, ← hcur, slackAlarms_rd cur _ hg h]
  have hbit {n : Nat} (hn : n < 16) (hen : s.rd GLB_SLK_CTRL_EN = 1) (hfloor : cur n < s.rd GLB_SLK_CTRL_FLOOR) :
      (slackWindowEnd units s.eng).bit GLB_SLK_ALARM_STAGE n = true := by
    have hctrl : (slackShown cur s.eng).rd GLB_SLK_CTRL_EN = 1 := (slackShown_rd cur s.eng (by decide)).trans hen
    have hlevel : cur n < (slackShown cur s.eng).rd GLB_SLK_CTRL_FLOOR := by
      rw [slackShown_rd cur s.eng (by decide)]
      exact hfloor
    rw [slackWindowEnd_eq, ← hcur]
    exact slackAlarms_bit cur _ hn (by rw [Eng.on, hctrl]; rfl) hlevel
  obtain ⟨hstage, hmargin⟩ := slackShown_worst hle s.eng
  generalize slackWindowEnd units s.eng = e at hexec hrd hbit
  refine ⟨_, hexec, rfl, fun n hn => ⟨?_, ?_, hbit hn⟩, ⟨worstStage cur, (worstStage_spec cur).1, ?_, ?_,
    (worstStage_spec cur).2⟩, rfl, fun g hg => ?_⟩
  · exact (hrd (alarm_ne_margin n).1 (margin_still n).1).trans (slackShown_cur hle s.eng hn)
  · exact (hrd (alarm_ne_margin n).2 (margin_still n).2).trans (slackShown_min hle s.eng hn)
  · exact (hrd (by decide) (still_of_lt (by decide))).trans hstage
  · exact (hrd (by decide) (still_of_lt (by decide))).trans hmargin
  · rw [List.mem_append, not_or, List.mem_append, not_or] at hg
    obtain ⟨⟨hworst, hmargins⟩, hstill⟩ := hg
    have hslack : g.key ∉ slackKeys := by
      simp only [slackKeys, List.mem_append, not_or]
      exact ⟨fun h => hworst (List.mem_append_left [GLB_SLK_ALARM_STAGE.key] h), hmargins⟩
    have halarm : GLB_SLK_ALARM_STAGE.key ≠ g.key := fun h => hworst (by simp [← h])
    exact (hrd halarm hstill).trans (slackShown_rd cur s.eng hslack)

end

section
/-!
SUPPORT. The states that refute O6, O9, O18 and O59, and what a one-bit event field reads once it has been raised.
-/
namespace Sys2Proof
namespace Machine

/-- Does `p` hold of the state that a command leads to? -/
def outcomeHas (c : Instr) (s : State) (p : State → Bool) : Bool :=
  match exec c s with
  | .next t => p t
  | _ => false

theorem outcomeHas_next {c : Instr} {s t : State} (p : State → Bool) (h : exec c s = .next t) : outcomeHas c s p = p t := by
  unfold outcomeHas
  rw [h]

/-- An event field of one bit that holds a value of its width reads 1 once it has been raised. -/
theorem raise_reads_one (e : Eng) {f : Fld} (hw : f.width = 1) (hf : Still f) (h : e.rd f < 2) : (e.raise f).rd f = 1 := by
  rw [raise_rd_same _ _ _ hf, Eng.bit, hw]
  generalize e.rd f = x at h
  interval_cases x <;> rfl

/-! ### FAB_RSV_WRITE (R33) -/

/-- The state after reset, but MEM_FAB_STAT.CFG_ERR, a field of one bit, holds 3. -/
def cfgErrWide : State := { State.reset with eng := { State.reset.eng with regs := [(MEM_FAB_STAT_CFG_ERR.key, 3)] } }

/-- The reservations of the other ports are the sum of all less the port's own. -/
theorem rsvSum_others (e : Eng) {p : Nat} (hp : p < 6) : rsvSum e - e.rd (MEM_FAB_RSV_RSV_REQ p) =
    ((List.range 6).map fun q => if q = p then 0 else e.rd (MEM_FAB_RSV_RSV_REQ q)).sum := by
  simp only [rsvSum, List.range_succ, List.range_zero, List.nil_append, List.map_append, List.map_cons, List.map_nil,
    List.sum_append, List.sum_cons, List.sum_nil]
  interval_cases p <;> simp <;> omega

/-- What a rejected write of a reservation does where CFG_ERR holds a value of its width. -/
theorem fabRsvWrite_rejected (s : State) (p rsv mx : Nat) (hup : s.up) (hp : p < 6) (hlock : s.rd MEM_GCTRL_LOCK = 0)
    (hbad : 1024 < ((List.range 6).map fun q => if q = p then 0 else s.rd (MEM_FAB_RSV_RSV_REQ q)).sum + rsv ∨ mx < rsv ∨ 1024 < mx ∨
      ((p = 4 ∨ p = 5) ∧ rsv < 8)) (herr : s.rd MEM_FAB_STAT_CFG_ERR < 2) :
    Completes (.fabRsvWrite p rsv mx) s fun t => t.rd MEM_FAB_STAT_CFG_ERR = 1 ∧ Kept [MEM_FAB_STAT_CFG_ERR.key] s t := by
  have hstill : Still MEM_FAB_STAT_CFG_ERR := by
    unfold Still
    decide
  have hwrite : fabRsvWrite p rsv mx s.eng = s.eng.raise MEM_FAB_STAT_CFG_ERR := by
    have hunlocked : s.eng.on MEM_GCTRL_LOCK = false := by simpa [Eng.on] using (show s.eng.rd MEM_GCTRL_LOCK = 0 from hlock)
    simp only [State.rd, ← rsvSum_others s.eng hp] at hbad
    unfold fabRsvWrite
    rw [if_neg (by simp [hunlocked]), if_pos hbad]
  have hexec := onEng_up s (fabRsvWrite p rsv mx) hup
  rw [hwrite] at hexec
  refine ⟨_, hexec, rfl, raise_reads_one s.eng rfl hstill herr, rfl, fun g hg => ?_⟩
  rw [List.mem_append, not_or, List.mem_singleton] at hg
  exact raise_rd s.eng _ _ (Ne.symm hg.1) hg.2

/-! ### ELASTIC_GAP (R21, R22) -/

/-- Capture memory takes lines, and the next item of tile 0 is a drop interval that ends on the last tick before TS64 wraps. -/
def gapToWrap : State :=
  { eng := { regs := [((CLK_LOOP_STAT_STATE 5).key, 2), ((MEM_FAB_RSV_MAX_REQ 0).key, 1)], ela := [{ items := [.drop 0 (2 ^ 64 - 1) 1] }] } }

/-! ### MEMORY_REQUEST (R261, R271) -/

/-- Capture memory runs and no spare is left in stack 0, whose position 0 is one event short of RET_THR; Curator executes, and the older
copy of the state record in the Vault holds a byte. -/
def lastEventBeforeRetirement : State :=
  { eng := { regs := [((CLK_LOOP_STAT_STATE 5).key, 2), ((MEM_FAB_RSV_MAX_REQ 2).key, 1), ((MEM_STK_MAP_LO_RANK 0).key, 0x76543210),
      ((MEM_STK_MAP_HI_RANK 0).key, 0x98), ((MEM_RANK_STAT_SCORE 0 0).key, 255), (CUR_STAT_RUN.key, 1), (PWR_STRT_FILL_DONE.key, 1)] }
    mem := { vlt := [(0x3D00000, 1)] } }

/-! ### DATAPATH_PARITY (R452) -/

/-- The state after reset, but GLB_FLT_EVT.DP_PAR, a field of one bit, holds 3. -/
def dpParWide : State := { State.reset with eng := { State.reset.eng with regs := [(GLB_FLT_EVT_DP_PAR.key, 3)] } }

/-- A parity fault is counted and shown where DP_PAR holds a value of its width (R452). -/
theorem dpReport_parity (e : Eng) {n : Nat} (hn : n < 16) (hevt : e.rd GLB_FLT_EVT_DP_PAR < 2) :
    (dpReport n 0 e).rd (GLB_FLT_DP_PAR n) = min (e.rd (GLB_FLT_DP_PAR n) + 1) (2 ^ 16 - 1) ∧
      (dpReport n 0 e).rd GLB_FLT_LAST_STAGE = n ∧ (dpReport n 0 e).rd GLB_FLT_LAST_KIND = 0 ∧
      (dpReport n 0 e).rd GLB_FLT_EVT_DP_PAR = 1 := by
  have hkey : GLB_FLT_EVT_DP_PAR.key ≠ (GLB_FLT_DP_PAR n).key ∧ GLB_FLT_LAST_KIND.key ≠ (GLB_FLT_DP_PAR n).key ∧
      GLB_FLT_LAST_STAGE.key ≠ (GLB_FLT_DP_PAR n).key := by
    simp only [GLB_FLT_EVT_DP_PAR, GLB_FLT_LAST_KIND, GLB_FLT_LAST_STAGE, GLB_FLT_DP_PAR, fld]
    omega
  obtain ⟨hevtKey, hkind, hstage⟩ := hkey
  have hcount : Still (GLB_FLT_DP_PAR n) := still_of_lt (by simp only [GLB_FLT_DP_PAR, fld]; omega)
  rw [dpReport, if_pos rfl, addSat_eq]
  refine ⟨?_, ?_, ?_, raise_reads_one _ rfl (still_of_lt (by decide)) ?_⟩
  · rw [raise_rd _ _ _ hevtKey hcount, Eng.rd_wr, Eng.rd_wr_other _ _ hkind, Eng.rd_wr_other _ _ hstage]
    exact Nat.mod_eq_of_lt (lt_of_le_of_lt (Nat.min_le_right _ _) (show 2 ^ 16 - 1 < 2 ^ 16 by decide))
  · rw [raise_rd _ _ _ (by decide) (still_of_lt (by decide)), Eng.rd_wr_other _ _ hstage.symm, Eng.rd_wr_other _ _ (by decide), Eng.rd_wr]
    exact Nat.mod_eq_of_lt hn
  · rw [raise_rd _ _ _ (by decide) (still_of_lt (by decide)), Eng.rd_wr_other _ _ hkind.symm, Eng.rd_wr]
    rfl
  · rw [Eng.rd_wr_other _ _ hevtKey.symm, Eng.rd_wr_other _ _ (by decide), Eng.rd_wr_other _ _ (by decide)]
    exact hevt

/-- A parity fault with no item to discard, where DP_PAR holds a value of its width. -/
theorem datapathParity_counted (s : State) {n : Nat} (hup : s.up) (hn : n < 16) (hevt : s.rd GLB_FLT_EVT_DP_PAR < 2) :
    Completes (.datapathParity n .nothing) s fun t => t.rd (GLB_FLT_DP_PAR n) = min (s.rd (GLB_FLT_DP_PAR n) + 1) (2 ^ 16 - 1) ∧
      t.rd GLB_FLT_LAST_STAGE = n ∧ t.rd GLB_FLT_LAST_KIND = 0 ∧ t.rd GLB_FLT_EVT_DP_PAR = 1 := by
  have hexec := onMem_up s (fun e m => discard (n % 16) .nothing (dpReport (n % 16) 0 e) m) hup
  rw [Nat.mod_eq_of_lt hn] at hexec
  have hreport := dpReport_parity s.eng hn hevt
  refine ⟨_, (?_ : exec (.datapathParity n .nothing) s = _).trans hexec, rfl, hreport⟩
  show onMem s _ = _
  rw [Nat.mod_eq_of_lt hn]

end Machine
end Sys2Proof
end

section
/-!
SUPPORT. The obligations O6, O9, O18 and O59.
-/
open Sys2Proof Sys2Proof.Machine

/-- Refutes O6: nothing bounds the value that a one-bit field holds. Where CFG_ERR holds 3, a value that `Eng.wr` never stores, its bit
counts as set, so the rejected write leaves the field at 3 and not at 1. `fabRsvWrite_rejected` proves the clause with the bound that it
lacks. -/
theorem not_reservationAcceptedOrRejected : ¬ Obligations.ReservationAcceptedOrRejected := by
  unfold Obligations.ReservationAcceptedOrRejected
  intro h
  obtain ⟨-, hreject, -⟩ := h cfgErrWide 0 1 0 rfl (by decide)
  obtain ⟨t, hexec, -, hone, -⟩ := hreject rfl (.inr (.inl (by decide)))
  have hthree : outcomeHas (.fabRsvWrite 0 1 0) cfgErrWide (fun t => t.rd MEM_FAB_STAT_CFG_ERR == 3) = true := by decide +kernel
  rw [outcomeHas_next _ hexec, hone] at hthree
  exact absurd hthree (by decide)

/-- Refutes O9: the tick after an interval is a stamp of 64 bits (R128). An interval that ends on tick 2^64 - 1 leaves Accession at tick 0,
where the statement has 2^64. -/
theorem not_dropDescriptorIsCounted : ¬ Obligations.DropDescriptorIsCounted := by
  unfold Obligations.DropDescriptorIsCounted
  intro h
  obtain ⟨hcount, -⟩ := h gapToWrap 0 rfl (by decide)
  obtain ⟨t, hexec, -, -, -, hpos⟩ := hcount 0 (2 ^ 64 - 1) 1 rfl (by decide +kernel)
  have hzero : outcomeHas (.elasticGap 0) gapToWrap (fun t => (t.eng.getEla 0).aPos == 0) = true := by decide +kernel
  rw [outcomeHas_next _ hexec, hpos] at hzero
  exact absurd hzero (by decide)

/-- Refutes O18: a read may write memory. A rank that returns FLAGGED takes its score to RET_THR (R270, R271), the rank is retired with no
spare left (R273), and Curator writes the rank map into the older copy of the state record in the Vault (R255, R402), where the statement
has the memories unchanged. -/
theorem not_memoryRequestMovesLine : ¬ Obligations.MemoryRequestMovesLine := by
  unfold Obligations.MemoryRequestMovesLine
  intro h
  have hinv : Inv lastEventBeforeRetirement := ⟨by decide, rfl⟩
  obtain ⟨-, -, hserved⟩ := h lastEventBeforeRetirement 2 0 0 [.flagged] rfl hinv (by decide) ⟨rfl, rfl⟩
  obtain ⟨hread, -, -⟩ := hserved (by decide +kernel) rfl (by decide +kernel)
  obtain ⟨t, hexec, -, hmem, -, -⟩ := hread
  have hcleared : outcomeHas (.memoryRequest 2 0 none [.flagged] 0) lastEventBeforeRetirement (fun t => t.mem.vlt.isEmpty) = true := by
    decide +kernel
  rw [outcomeHas_next _ hexec, hmem] at hcleared
  exact absurd hcleared (by decide)

/-- Refutes O59: nothing bounds the value that a one-bit event field holds. Where GLB_FLT_EVT.DP_PAR holds 3, a value that `Eng.wr` never
stores, the bit counts as set, so a parity fault leaves the field at 3 and not at 1. `datapathParity_counted` proves what the fault reports
with the bound that the statement lacks. -/
theorem not_datapathFaultsAreCountedAndContained : ¬ Obligations.DatapathFaultsAreCountedAndContained := by
  unfold Obligations.DatapathFaultsAreCountedAndContained
  intro h
  have hinv : Inv dpParWide := ⟨by decide, rfl⟩
  obtain ⟨hboth, -⟩ := h dpParWide 0 rfl hinv (by decide)
  obtain ⟨⟨t, hexec, -, ⟨-, -, -, hone⟩, -⟩, -⟩ := hboth .nothing
  have hthree : outcomeHas (.datapathParity 0 .nothing) dpParWide (fun t => t.rd GLB_FLT_EVT_DP_PAR == 3) = true := by decide +kernel
  rw [outcomeHas_next _ hexec, hone] at hthree
  exact absurd hthree (by decide)

end

section
/-!
SUPPORT. What the passing of time leaves alone (R128 to R143): the elastic buffers, the front end, the active values, and every field
but those of the timebase, of the outputs and of a report.
-/
namespace Sys2Proof
namespace Machine

/-- The fields that the passing of time may write, besides those of a report. -/
def clockKeys : List Nat :=
  loopKeys ++ [TIME_EPOCH_GEN.key, TIME_EVT_TS_WRAP.key, TIME_EVT_PPS_SKIP.key, TIME_EVT_LEAP_DONE.key, TIME_IRIG_OFS_OFS.key,
    TIME_LEAP_CTRL_ARM.key]

/-- Between two states of the engine only the clock has gone on. -/
structure ClockOnly (e e' : Eng) : Prop where
  ela : e'.ela = e.ela
  fe : e'.fe = e.fe
  md : e'.md = e.md
  act : e'.act = e.act
  rd : ∀ g : Fld, g.key ∉ clockKeys → Still g → e'.rd g = e.rd g

namespace ClockOnly

variable {e e' e'' : Eng}

theorem refl (e : Eng) : ClockOnly e e := ⟨rfl, rfl, rfl, rfl, fun _ _ _ => rfl⟩

theorem trans (h : ClockOnly e e') (h' : ClockOnly e' e'') : ClockOnly e e'' :=
  ⟨h'.ela.trans h.ela, h'.fe.trans h.fe, h'.md.trans h.md, h'.act.trans h.act,
    fun g hg hs => (h'.rd g hg hs).trans (h.rd g hg hs)⟩

theorem wr (e : Eng) {f : Fld} (v : Nat) (hf : f.key ∈ clockKeys) : ClockOnly e (e.wr f v) :=
  ⟨rfl, rfl, rfl, rfl, fun _ hg _ => Eng.rd_wr_other e v (key_ne_of_mem hg hf)⟩

/-- A report changes nothing but what reports change. -/
theorem of_hush (hh : e'.hush = e.hush) (hrd : ∀ g : Fld, g.key ∉ clockKeys → Still g → e'.rd g = e.rd g) : ClockOnly e e' := by
  have hela := congrArg Eng.ela hh
  have hfe := congrArg Eng.fe hh
  have hmd := congrArg Eng.md hh
  have hact := congrArg Eng.act hh
  exact ⟨hela, hfe, hmd, hact, hrd⟩

theorem raise (e : Eng) {f : Fld} (i : Nat) (hf : f.key ∈ clockKeys) : ClockOnly e (e.raise f i) :=
  of_hush (raise_hush e f i) fun _ hg hs => raise_rd e f i (key_ne_of_mem hg hf) hs

theorem raisePost (e : Eng) {f : Fld} (i : Nat) (d : List Byte) (hf : f.key ∈ clockKeys) : ClockOnly e (e.raisePost f i d) :=
  of_hush (raisePost_hush e f i d) fun _ hg hs => raisePost_rd e f i d (key_ne_of_mem hg hf) hs

theorem foldl {α : Type} (f : Eng → α → Eng) (l : List α) (h : ∀ e, ∀ a ∈ l, ClockOnly e (f e a)) (e : Eng) :
    ClockOnly e (l.foldl f e) :=
  List.foldlRecOn l f (motive := ClockOnly e) (refl e) fun b hb a ha => hb.trans (h b a ha)

/-- Neither a register nor anything that sampling reads has changed. -/
theorem of_regs (hregs : e'.regs = e.regs) (hela : e'.ela = e.ela) (hfe : e'.fe = e.fe) (hmd : e'.md = e.md) (hact : e'.act = e.act) :
    ClockOnly e e' :=
  ⟨hela, hfe, hmd, hact, fun g _ _ => by rw [Eng.rd, hregs, ← Eng.rd]⟩

theorem ite {c : Prop} [Decidable c] (h : ClockOnly e e') (h' : ClockOnly e e'') : ClockOnly e (if c then e' else e'') := by
  split
  · exact h
  · exact h'

end ClockOnly

theorem mem_clockKeys_of_loop {k : Nat} (h : k ∈ loopKeys) : k ∈ clockKeys := List.mem_append_left _ h

theorem tbSwitch_clockOnly (e : Eng) : ClockOnly e (tbSwitch e) := by
  unfold tbSwitch
  simp only []
  split
  · exact .refl e
  · split <;> exact .of_regs rfl rfl rfl rfl rfl

theorem anchorFollow_clockOnly (d : Nat) (e : Eng) : ClockOnly e (anchorFollow d e) := by
  unfold anchorFollow
  split
  · exact .refl e
  · exact .of_regs rfl rfl rfl rfl rfl

theorem clkOutShow_clockOnly (e : Eng) {k : Nat} (hk : k ∈ List.range 4) : ClockOnly e (clkOutShow e k) := by
  refine ⟨?_, ?_, ?_, ?_, fun g hg _ => clkOutShow_rd e hk fun h => hg (mem_clockKeys_of_loop h)⟩ <;>
  · unfold clkOutShow
    simp only []
    split <;> rfl

theorem outsDue_clockOnly (e : Eng) : ClockOnly e (outsDue e) := by
  unfold outsDue
  refine .foldl _ _ (fun a k hk => ?_) e
  split
  · exact .refl a
  · refine .trans (.of_regs ?_ ?_ ?_ ?_ ?_) (clkOutShow_clockOnly _ hk) <;> rfl

theorem timeShow_clockOnly (e : Eng) : ClockOnly e (timeShow e) := by
  refine ⟨?_, ?_, ?_, ?_, fun g hg _ => timeShow_rd e fun h => hg (mem_clockKeys_of_loop h)⟩ <;>
  · unfold timeShow
    simp only []
    split <;> rfl

theorem timeCause_clockOnly (cause ts : Nat) (e : Eng) : ClockOnly e (timeCause cause ts e) := by
  unfold timeCause
  refine .foldl _ _ (fun a n _ => ?_) e
  split
  · exact .of_regs rfl rfl rfl rfl rfl
  · exact .refl a

/-- What a wrap of TS64 does (R128). -/
theorem wrap_clockOnly (d : List Byte) (e : Eng) :
    ClockOnly e (timeCause 3 0 ((e.addWrap TIME_EPOCH_GEN 1).raisePost TIME_EVT_TS_WRAP 0 d)) :=
  .trans (.trans (.wr e _ (by simp [clockKeys])) (.raisePost _ 0 d (by simp [clockKeys]))) (timeCause_clockOnly 3 0 _)

theorem counted_clockOnly (k : Nat) (e : Eng) (t : Nat) (tb : TbSt) :
    ClockOnly e (outsDue { e with now := e.now + k, ts := t, clk := { e.clk with tb := tb } }) := by
  refine .trans (.of_regs ?_ ?_ ?_ ?_ ?_) (outsDue_clockOnly _) <;> rfl

theorem shown_clockOnly (c : Prop) [Decidable c] (d : List Byte) (e : Eng) :
    ClockOnly e (timeShow (if c then e else timeCause 3 0 ((e.addWrap TIME_EPOCH_GEN 1).raisePost TIME_EVT_TS_WRAP 0 d))) :=
  .trans (.ite (.refl e) (wrap_clockOnly d e)) (timeShow_clockOnly _)

theorem advance_clockOnly (k : Nat) (e : Eng) : ClockOnly e (advance k e) :=
  .trans (.trans (tbSwitch_clockOnly e) (anchorFollow_clockOnly (tbStep k (tbSwitch e)).2 _))
    (.trans (counted_clockOnly k _ _ _) (shown_clockOnly _ _ _))

theorem pulseOver_clockOnly (e : Eng) : ClockOnly e (pulseOver e) := by
  unfold pulseOver
  split
  · exact .of_regs rfl rfl rfl rfl rfl
  · exact .refl e

theorem leapApply_clockOnly (tod : Nat) (e : Eng) : ClockOnly e (leapApply tod e) := by
  unfold leapApply
  split
  · exact .trans (.trans (.wr e _ (by simp [clockKeys])) (.wr _ _ (by simp [clockKeys]))) (.raise _ _ (by simp [clockKeys]))
  · exact .refl e

theorem secondEffects_clockOnly (e : Eng) : ClockOnly e (secondEffects e) := by
  unfold secondEffects
  have hgates : ClockOnly e { e with tout := { e.tout with
      ppsOn := gateOn e TIME_PPSOUT_CFG_EN TIME_PPSOUT_CFG_GATE
      trefOn := gateOn e TIME_TREFOUT_CFG_EN TIME_TREFOUT_CFG_GATE
      irigOn := gateOn e TIME_IRIG_CFG_EN TIME_IRIG_CFG_GATE } } := .of_regs rfl rfl rfl rfl rfl
  have hleap := hgates.trans (leapApply_clockOnly (todAt e e.ts).1 _)
  simp only []
  generalize leapApply (todAt e e.ts).1 _ = e1 at hleap ⊢
  exact hleap.trans (.of_regs rfl rfl rfl rfl rfl)

theorem ppsBegin_clockOnly (e : Eng) : ClockOnly e (ppsBegin e) := by
  unfold ppsBegin
  split
  · exact .refl e
  · split
    · exact .raise e 0 (by simp [clockKeys])
    · exact .of_regs rfl rfl rfl rfl rfl

theorem pulsed_clockOnly (k : Nat) (e : Eng) : ClockOnly e (pulseOver (advance k e)) :=
  (advance_clockOnly k e).trans (pulseOver_clockOnly _)

theorem passTicks_clockOnly (fuel k : Nat) (e : Eng) : ClockOnly e (passTicks fuel k e) := by
  induction fuel generalizing k e with
  | zero => exact pulsed_clockOnly k e
  | succ fuel ih =>
    unfold passTicks
    simp only []
    generalize min (tbTicks (toNextSecond e) (tbSwitch e))
      (tbTicks (toNextAt (signed 32 (e.rd TIME_PPSOUT_OFS_OFS)) e) (tbSwitch e)) = n
    have hpulse := pulsed_clockOnly n e
    generalize pulseOver (advance n e) = e1 at hpulse ⊢
    split
    · exact pulsed_clockOnly k e
    · have hsecond (c : Prop) [Decidable c] : ClockOnly e (if c then secondEffects e1 else e1) :=
        .ite (hpulse.trans (secondEffects_clockOnly e1)) hpulse
      refine .trans (.ite (.trans ?_ (ppsBegin_clockOnly _)) ?_) (ih _ _) <;> exact hsecond _

theorem passLong_clockOnly (k : Nat) (e : Eng) : ClockOnly e (passLong k e) := by
  unfold passLong
  split
  · exact passTicks_clockOnly _ _ e
  · exact (pulsed_clockOnly _ e).trans (passTicks_clockOnly _ _ _)

theorem passTime_clockOnly (k : Nat) (e : Eng) : ClockOnly e (passTime k e) := by
  unfold passTime
  simp only []
  split
  · exact ((pulsed_clockOnly _ e).trans (secondEffects_clockOnly _)).trans (passLong_clockOnly _ _)
  · exact passLong_clockOnly k e

theorem passTo_clockOnly (t : Nat) (e : Eng) : ClockOnly e (passTo t e) := by
  unfold passTo
  split
  · exact passTime_clockOnly _ e
  · exact .refl e

end Machine
end Sys2Proof
end

section
/-!
SUPPORT. What sampling reads of the engine (R14, R62, R77), the buffer that a sample word meets (R19 to R21), what both readers leave of
it, and the comparator's bits of a word (R62, R63).
-/
namespace Sys2Proof
namespace Machine

/-! ### The setting of a sample word -/

/-- The fields that sampling reads and does not write: those of the global block below the elastic boundary, and of the pod ports. -/
def Settled (g : Fld) : Prop := g.key < 8 * 0x480 ∨ (8 * 0x200000 ≤ g.key ∧ g.key < 8 * 0x300000)

theorem clockKeys_range : ∀ k ∈ clockKeys, 8 * 0x300000 ≤ k ∧ k < 8 * 0x500000 := by decide

theorem reportKeys_range : ∀ k ∈ reportKeys, 8 * 0x708000 ≤ k := by decide

theorem Settled.notClock {g : Fld} (h : Settled g) : g.key ∉ clockKeys := by
  intro hk
  have hrange := clockKeys_range g.key hk
  rcases h with h | h <;> omega

theorem Settled.still {g : Fld} (h : Settled g) : Still g := by
  intro hk
  have hrange := reportKeys_range g.key hk
  rcases h with h | h <;> omega

/-- A field of which the comparator's thresholds are none. -/
def NoThreshold (g : Fld) : Prop := ∀ c, (FE_CH_CFG_HYST c).key ≠ g.key ∧ (FE_THR_CODE c).key ≠ g.key

/-- Two states of the engine are alike in what sampling reads, but for the thresholds. -/
structure SameSetting (e e' : Eng) : Prop where
  md : e'.md = e.md
  rd : ∀ g : Fld, Settled g → e'.rd g = e.rd g
  rda : ∀ g : Fld, NoThreshold g → e'.rda g = e.rda g

theorem ClockOnly.sameSetting {e e' : Eng} (h : ClockOnly e e') : SameSetting e e' :=
  ⟨h.md, fun g hg => h.rd g hg.notClock hg.still, fun g _ => by rw [Eng.rda, h.act, ← Eng.rda]⟩

namespace SameSetting

variable {e e' e'' : Eng}

theorem trans (h : SameSetting e e') (h' : SameSetting e' e'') : SameSetting e e'' :=
  ⟨h'.md.trans h.md, fun g hg => (h'.rd g hg).trans (h.rd g hg), fun g hg => (h'.rda g hg).trans (h.rda g hg)⟩

theorem mode (h : SameSetting e e') : e'.mode = e.mode := by
  rw [Eng.mode, h.rd _ (.inl (by decide)), ← Eng.mode]

theorem double (h : SameSetting e e') : e'.double = e.double := by
  rw [Eng.double, Eng.on, h.rd _ (.inl (by decide)), ← Eng.on, ← Eng.double]

theorem wordSpan (h : SameSetting e e') (w : SampleWord) : wordSpan e' w = wordSpan e w := by
  simp only [Machine.wordSpan, h.mode, h.md]

theorem channelEnabled (h : SameSetting e e') (c : Nat) : e'.rda (FE_CH_CFG_EN c) = e.rda (FE_CH_CFG_EN c) :=
  h.rda _ fun c' => by simp only [FE_CH_CFG_EN, FE_CH_CFG_HYST, FE_THR_CODE, fld]; omega

theorem enabledMask (h : SameSetting e e') (t : Nat) : enabledMask e' t = enabledMask e t := by
  simp only [Machine.enabledMask, Eng.ona, h.double, h.channelEnabled]

theorem tileSamples (h : SameSetting e e') (t : Nat) : tileSamples e' t = tileSamples e t := by
  have hservice : e'.rd GLB_TILE_SVC_STAT_ACT = e.rd GLB_TILE_SVC_STAT_ACT := h.rd _ (.inl (by decide))
  have hpod : e'.rd (POD_STAT_STATE t) = e.rd (POD_STAT_STATE t) :=
    h.rd _ (.inr (by simp only [POD_STAT_STATE, fld]; omega))
  simp only [Machine.tileSamples, Eng.inAcq, Eng.inService, Eng.bit, h.mode, hservice, hpod]

end SameSetting

/-! ### Access to a tile's buffer -/

@[simp] theorem Eng.getEla_modEla (e : Eng) (t : Nat) (f : ElaTile → ElaTile) : (e.modEla t f).getEla t = f (e.getEla t) := putAt_same _ _ _ _

theorem ebShow_ela (t : Nat) (e : Eng) : (ebShow t e).ela = e.ela := rfl

theorem getEla_of_ela {e e' : Eng} (h : e'.ela = e.ela) (t : Nat) : e'.getEla t = e.getEla t := by rw [Eng.getEla, h, ← Eng.getEla]

theorem ebFree_getEla (t : Nat) (e : Eng) :
    ((ebFree t e).getEla t).wPos = (e.getEla t).wPos ∧ ((ebFree t e).getEla t).dropping = (e.getEla t).dropping := by
  unfold ebFree
  rw [getEla_of_ela (ebShow_ela t _), Eng.getEla_modEla]
  exact ⟨rfl, rfl⟩

theorem setLast_ela (t : Nat) (v : Option Nat) (e : Eng) : (setLast t v e).ela = e.ela := by cases v <;> rfl

theorem pruneView_getEla (t : Nat) (e : Eng) :
    ((pruneView t e).getEla t).wPos = (e.getEla t).wPos ∧ ((pruneView t e).getEla t).dropping = (e.getEla t).dropping := by
  unfold pruneView
  simp only []
  rw [getEla_of_ela (setLast_ela t _ _), Eng.getEla_modEla]
  exact ⟨rfl, rfl⟩

/-- The trigger fabric's reading leaves the writing side of a buffer alone. -/
theorem trigRead_getEla (t : Nat) (e : Eng) :
    ((trigRead t e).getEla t).wPos = (e.getEla t).wPos ∧ ((trigRead t e).getEla t).dropping = (e.getEla t).dropping := by
  unfold trigRead
  rw [(pruneView_getEla t _).1, (pruneView_getEla t _).2, (ebFree_getEla t _).1, (ebFree_getEla t _).2, Eng.getEla_modEla]
  exact ⟨rfl, rfl⟩

/-- Accession's passing of items leaves the writing side of a buffer alone. -/
theorem skipItems_getEla (t : Nat) (e : Eng) :
    ((skipItems t e).getEla t).wPos = (e.getEla t).wPos ∧ ((skipItems t e).getEla t).dropping = (e.getEla t).dropping := by
  unfold skipItems
  simp only []
  generalize hcount : List.foldl _ e _ = e1
  have hela : e1.ela = e.ela := by
    rw [← hcount]
    exact foldl_keeps Eng.ela _ _ (fun a i _ => by cases i <;> rfl) e
  rw [(ebFree_getEla t _).1, (ebFree_getEla t _).2, Eng.getEla_modEla, ← getEla_of_ela hela t]
  exact ⟨rfl, rfl⟩

/-! ### The word and the buffer (R19 to R21) -/

theorem closeUnlock_upTo (el : ElaTile) (v : Nat) : (closeUnlock el v).upTo = el.upTo := by
  unfold closeUnlock
  split <;> rfl

theorem closeUnlock_dropping (el : ElaTile) (v : Nat) : (closeUnlock el v).dropping = el.dropping := by
  unfold closeUnlock
  split <;> rfl

theorem ebTake_upTo (el : ElaTile) (w : SampleWord) (fin : Nat) : (ebTake el w fin).upTo = el.upTo := by
  have hclose := closeUnlock_upTo el w.stamp
  unfold ebTake
  simp only []
  repeat' split
  all_goals exact hclose

section Take

variable (el : ElaTile) (w : SampleWord) (fin : Nat)

/-- A word that meets a full buffer opens a drop interval. -/
theorem ebTake_full (hd : (closeUnlock el w.stamp).dropping = none) (hfill : 4096 ≤ wordsHeld (closeUnlock el w.stamp)) :
    (ebTake el w fin).dropping = some (w.stamp, fin, 1) := by
  unfold ebTake
  simp only [hd, hfill, if_true]

/-- A word that meets room is accepted behind what the buffer holds. -/
theorem ebTake_room (hd : (closeUnlock el w.stamp).dropping = none) (hfill : wordsHeld (closeUnlock el w.stamp) < 4096) :
    (ebTake el w fin).dropping = none ∧ (ebTake el w fin).items.getLast? = some (.word w) := by
  unfold ebTake
  simp only [hd, if_neg (not_le.2 hfill), List.getLast?_append, List.getLast?_singleton, Option.some_or, and_self]

/-- In an open interval a word is dropped while the buffer has not drained or its drop descriptor is in use. -/
theorem ebTake_dropped {a b n : Nat} (hd : (closeUnlock el w.stamp).dropping = some (a, b, n))
    (hfill : 3072 < wordsHeld (closeUnlock el w.stamp) ∨ (n ≠ 0 ∧ dropHeld (closeUnlock el w.stamp) = true)) :
    (ebTake el w fin).dropping = some (if n = 0 then w.stamp else a, fin, n + 1) := by
  unfold ebTake
  simp only [hd]
  rw [if_pos hfill]

/-- Otherwise the interval is closed. -/
theorem ebTake_closed {a b n : Nat} (hd : (closeUnlock el w.stamp).dropping = some (a, b, n))
    (hfill : wordsHeld (closeUnlock el w.stamp) ≤ 3072) (hfree : n = 0 ∨ dropHeld (closeUnlock el w.stamp) = false) :
    (ebTake el w fin).dropping = none := by
  have hnot : ¬(3072 < wordsHeld (closeUnlock el w.stamp) ∨ (n ≠ 0 ∧ dropHeld (closeUnlock el w.stamp) = true)) := by
    rintro (h | ⟨hn, h⟩)
    · omega
    · rcases hfree with rfl | hfree
      · exact hn rfl
      · rw [hfree] at h
        cases h
  unfold ebTake
  simp only [hd]
  rw [if_neg hnot]

end Take

/-! ### The steps of SAMPLE_WORD -/

/-- Time passes to the end of the word, and the word takes the thresholds written before it. -/
def wordStart (t : Nat) (w : SampleWord) (e : Eng) : Eng := thrTake t w.stamp (passTo ((w.stamp + wordSpan e w) % 2 ^ 64) e)

/-- The word as it is stored: the comparator's bits in the place of the voltages. -/
def wordSeen (t : Nat) (w : SampleWord) (e : Eng) : SampleWord := { w with units := wordUnits (wordStart t w e) t w, volts := [] }

/-- The comparator outputs of the engine are those of `v`. -/
def withComp (v : Nat) (e : Eng) : Eng := { e with fe := { e.fe with comp := v } }

/-- The word enters the buffer. -/
def wordStored (t : Nat) (w : SampleWord) (e : Eng) : Eng :=
  ebPut t (wordSeen t w e) (withComp (compAfter (wordStart t w e) t (wordUnits (wordStart t w e) t w)) (wordStart t w e))

/-- Where no context evaluates the fabric reads on, and where no region receives the tile Accession passes its items; `e` is the state
before the word. -/
def wordBehind (t : Nat) (e e1 : Eng) : Eng :=
  let e2 := if anyEval e then e1 else trigRead t e1
  if (receivers e t).isEmpty then skipItems t e2 else e2

theorem sampleWord_eq {t : Nat} {w : SampleWord} {e : Eng} (hmay : mayWrite e t w.stamp = true) (hfits : wordFits e t w = true) :
    sampleWord t w e = wordBehind t e (wordStored t w e) := by
  unfold sampleWord wordBehind wordStored wordSeen wordStart withComp
  rw [if_neg (by simp [hmay, hfits])]

theorem sampleWord_none {t : Nat} {w : SampleWord} {e : Eng} (h : mayWrite e t w.stamp = false ∨ wordFits e t w = false) :
    sampleWord t w e = e := by
  unfold sampleWord
  rw [if_pos (by rcases h with h | h <;> simp [h])]

/-- A threshold written while its tile samples is due for a word of tile `t` that begins at `stamp` (R77). -/
def thrDue (t stamp : Nat) (x : Nat × Bool × Nat × Nat) : Bool := x.1 / 32 == t && !tsBefore stamp x.2.2.2

/-- Such a threshold comes into force. -/
def thrForce (e : Eng) (x : Nat × Bool × Nat × Nat) : Eng := e.wra (if x.2.1 then FE_CH_CFG_HYST x.1 else FE_THR_CODE x.1) x.2.2.1

theorem thrTake_eq (t stamp : Nat) (e : Eng) : thrTake t stamp e = (e.fe.late.filter (thrDue t stamp)).foldl thrForce
    { e with fe := { e.fe with late := e.fe.late.filter fun x => !thrDue t stamp x } } := rfl

theorem SameSetting.with_fe (e : Eng) (f : FeSt) : SameSetting e { e with fe := f } := ⟨rfl, fun _ _ => rfl, fun _ _ => rfl⟩

theorem thrForce_sameSetting (e : Eng) (x : Nat × Bool × Nat × Nat) : SameSetting e (thrForce e x) := by
  refine ⟨rfl, fun g _ => rfl, fun g hg => Eng.rda_wra_other e _ ?_⟩
  split
  · exact (hg x.1).1
  · exact (hg x.1).2

theorem thrTake_sameSetting (t stamp : Nat) (e : Eng) : SameSetting e (thrTake t stamp e) := by
  rw [thrTake_eq]
  exact List.foldlRecOn _ thrForce (motive := SameSetting e) (.with_fe e _) fun a ha x _ => ha.trans (thrForce_sameSetting a x)

theorem thrTake_ela (t stamp : Nat) (e : Eng) : (thrTake t stamp e).ela = e.ela := by
  rw [thrTake_eq]
  exact foldl_keeps Eng.ela thrForce _ (fun _ _ _ => rfl) _

theorem wordStart_sameSetting (t : Nat) (w : SampleWord) (e : Eng) : SameSetting e (wordStart t w e) :=
  (passTo_clockOnly _ e).sameSetting.trans (thrTake_sameSetting t w.stamp _)

theorem wordStart_ela (t : Nat) (w : SampleWord) (e : Eng) : (wordStart t w e).ela = e.ela :=
  (thrTake_ela t w.stamp _).trans (passTo_clockOnly _ e).ela

/-- Where no stop of the tile has been declared, the buffer takes the word and knows where the next one begins. -/
theorem ebPut_getEla (t : Nat) (w : SampleWord) {e : Eng} (hup : (e.getEla t).upTo = none) :
    (ebPut t w e).getEla t =
      { ebTake (e.getEla t) w (wordEnd e w) with wPos := (w.stamp + wordSpan e w) % 2 ^ 64, inSeq := true } := by
  unfold ebPut
  simp only []
  rw [getEla_of_ela (ebShow_ela t _), Eng.getEla_modEla]
  simp only [ebTake_upTo, hup]

theorem withComp_sameSetting (v : Nat) (e : Eng) : SameSetting e (withComp v e) := .with_fe e _

theorem withComp_getEla (v t : Nat) (e : Eng) : (withComp v e).getEla t = e.getEla t := rfl

theorem wordSeen_end (t : Nat) (w : SampleWord) (e e' : Eng) : wordEnd e' (wordSeen t w e) = wordEnd e' w := rfl

theorem wordSeen_span (t : Nat) (w : SampleWord) (e e' : Eng) : wordSpan e' (wordSeen t w e) = wordSpan e' w := rfl

theorem wordSeen_stamp (t : Nat) (w : SampleWord) (e : Eng) : (wordSeen t w e).stamp = w.stamp := rfl

theorem wordStored_getEla (t : Nat) (w : SampleWord) {e : Eng} (hup : (e.getEla t).upTo = none) :
    (wordStored t w e).getEla t =
      { ebTake (e.getEla t) (wordSeen t w e) (wordEnd e w) with wPos := (w.stamp + wordSpan e w) % 2 ^ 64, inSeq := true } := by
  have hstart := wordStart_sameSetting t w e
  have hela := getEla_of_ela (wordStart_ela t w e) t
  have hspan (e' : Eng) := wordSeen_span t w e e'
  have hend (e' : Eng) := wordSeen_end t w e e'
  have hstamp := wordSeen_stamp t w e
  unfold wordStored
  generalize wordSeen t w e = w' at hspan hend hstamp ⊢
  generalize wordStart t w e = e0 at hstart hela ⊢
  generalize compAfter e0 t (wordUnits e0 t w) = v
  have hset := hstart.trans (withComp_sameSetting v e0)
  rw [ebPut_getEla t w' (by rw [withComp_getEla, hela]; exact hup), withComp_getEla, hela, hend, hspan, hstamp, wordEnd, hset.wordSpan,
    ← wordEnd]

theorem wordBehind_getEla (t : Nat) (e e1 : Eng) :
    ((wordBehind t e e1).getEla t).wPos = (e1.getEla t).wPos ∧ ((wordBehind t e e1).getEla t).dropping = (e1.getEla t).dropping := by
  have hfabric : ((if anyEval e then e1 else trigRead t e1).getEla t).wPos = (e1.getEla t).wPos ∧
      ((if anyEval e then e1 else trigRead t e1).getEla t).dropping = (e1.getEla t).dropping := by
    split
    · exact ⟨rfl, rfl⟩
    · exact trigRead_getEla t e1
  unfold wordBehind
  generalize (if anyEval e then e1 else trigRead t e1) = e2 at hfabric ⊢
  split
  · rw [(skipItems_getEla t _).1, (skipItems_getEla t _).2]
    exact hfabric
  · exact hfabric

/-- Where both readers are behind, the word stays in the buffer. -/
theorem wordBehind_keeps {t : Nat} {e e1 : Eng} (heval : anyEval e = true) (hrec : receivers e t ≠ []) : wordBehind t e e1 = e1 := by
  unfold wordBehind
  simp only [heval, if_true]
  rw [if_neg (by simpa using hrec)]

/-! ### The comparator's bits of a word (R62, R63) -/

/-- A word of no voltages keeps its units, the disabled channels 0. -/
theorem wordUnits_eq {e : Eng} {t : Nat} {w : SampleWord} (hvolts : w.volts = []) :
    wordUnits e t w = w.units.map fun u => u &&& enabledMask e t := by
  have hzip : ((List.range w.units.length).zip w.units).map Prod.snd = w.units := List.map_snd_zip (by simp)
  conv_rhs => rw [← hzip, List.map_map]
  simp only [wordUnits, hvolts, List.filter_nil, List.flatMap_nil, List.foldl_nil]
  rfl

theorem natBit_clrNatBit (x i : Nat) : natBit (clrNatBit x i) i = false := by
  unfold clrNatBit
  split
  case isTrue hi =>
    have hle : 2 ^ i ≤ x := by
      by_contra hlt
      simp [natBit, Nat.div_eq_of_lt (not_le.1 hlt)] at hi
    have hdiv : (x - 2 ^ i) / 2 ^ i = x / 2 ^ i - 1 := by simpa using Nat.sub_mul_div x (2 ^ i) 1
    have hodd : x / 2 ^ i % 2 = 1 := by simpa [natBit] using hi
    have heven : (x / 2 ^ i - 1) % 2 ≠ 1 := by omega
    simpa [natBit, hdiv] using heven
  case isFalse hi => simpa using hi

theorem natBit_putNatBit (x i : Nat) (b : Bool) : natBit (putNatBit x i b) i = b := by
  cases b
  · exact natBit_clrNatBit x i
  · exact natBit_setNatBit x i

theorem natBit_and (x y i : Nat) : natBit (x &&& y) i = (natBit x i && natBit y i) := by
  simp only [natBit_eq_testBit, Nat.testBit_and]

theorem maskOf_lt (n : Nat) (p : Nat → Bool) : maskOf n p < 2 ^ n := by
  induction n with
  | zero => simp [maskOf]
  | succ n ih =>
    unfold maskOf at ih ⊢
    rw [List.range_succ, List.foldl_append, Nat.pow_succ]
    simp only [List.foldl_cons, List.foldl_nil]
    split <;> omega

/-- Bit `i` of a mask says whether `i` is in it. -/
theorem natBit_maskOf {n i : Nat} (p : Nat → Bool) (hi : i < n) : natBit (maskOf n p) i = p i := by
  induction n with
  | zero => omega
  | succ n ih =>
    have hlast : maskOf (n + 1) p = if p n then 2 ^ n + maskOf n p else maskOf n p := by
      unfold maskOf
      rw [List.range_succ, List.foldl_append]
      simp only [List.foldl_cons, List.foldl_nil, Nat.add_comm]
    have hclear : (maskOf n p).testBit n = false := Nat.testBit_lt_two_pow (maskOf_lt n p)
    rw [hlast, natBit_eq_testBit]
    rcases Nat.lt_succ_iff_lt_or_eq.1 hi with hlt | rfl
    · rw [← ih hlt, natBit_eq_testBit]
      split
      · exact Nat.testBit_two_pow_add_gt hlt _
      · rfl
    · split
      case isTrue hp => rw [Nat.testBit_two_pow_add_eq, hclear, hp]; rfl
      case isFalse hp => rw [hclear]; simpa using hp

/-- An enabled channel's bit is in the mask. -/
theorem natBit_enabledMask {e : Eng} {t c : Nat} (hc : c < 32) (hdouble : e.double = false) (hen : e.ona (FE_CH_CFG_EN (32 * t + c)) = true) :
    natBit (enabledMask e t) c = true := by
  unfold enabledMask
  rw [natBit_maskOf _ hc, hdouble]
  exact hen

/-- Every output of a comparator follows from the one before it. -/
theorem compRun_getD (e : Eng) (c : Nat) (p : Bool) {vs : List Int} {i : Nat} (hi : i < vs.length) :
    (compRun e c p vs).getD i false =
      chanComp e c (if i = 0 then p else (compRun e c p vs).getD (i - 1) false) (vs.getD i 0) := by
  induction vs generalizing p i with
  | nil => simp at hi
  | cons v vs ih =>
    cases i with
    | zero => rfl
    | succ i =>
      have hlt : i < vs.length := by simpa using hi
      simp only [compRun, List.getD_cons_succ, Nat.add_one_sub_one, if_neg (Nat.succ_ne_zero i)]
      rw [ih _ hlt]
      cases i with
      | zero => rfl
      | succ i => rfl

/-- A listed channel's bits are those of its comparator. -/
theorem natBit_wordUnits {e : Eng} {t : Nat} {w : SampleWord} {c : Nat} {vs : List Int} (hvolts : w.volts = [(c, vs)]) (hc : c < 32)
    (hdouble : e.double = false) (hen : e.ona (FE_CH_CFG_EN (32 * t + c)) = true) {i : Nat} (hi : i < w.units.length) :
    natBit ((wordUnits e t w).getD i 0) c = (compRun e (32 * t + c) (natBit e.fe.comp (32 * t + c)) vs).getD i false := by
  have hcols : ((w.volts.filter fun v => !(e.double && v.1 % 2 == 1)).flatMap (voltBits e t)) =
      [(c, compRun e (32 * t + c) (natBit e.fe.comp (32 * t + c)) vs)] := by
    simp [hvolts, hdouble, voltBits]
  unfold wordUnits
  rw [hcols]
  simp only [List.foldl_cons, List.foldl_nil]
  rw [List.getD_eq_getElem _ _ (by simpa using hi)]
  simp only [List.getElem_map, List.getElem_zip, List.getElem_range]
  rw [natBit_and, natBit_putNatBit, natBit_enabledMask hc hdouble hen, Bool.and_true]

/-! ### The thresholds in force for a word -/

theorem thrTake_act {t stamp : Nat} {e : Eng} (hlate : e.fe.late = []) : (thrTake t stamp e).act = e.act := by
  rw [thrTake_eq, hlate]
  rfl

/-- Where no threshold waits, the word takes those in force. -/
theorem wordStart_rda {t : Nat} {w : SampleWord} {e : Eng} (hlate : e.fe.late = []) (g : Fld) : (wordStart t w e).rda g = e.rda g := by
  have hpass := passTo_clockOnly ((w.stamp + wordSpan e w) % 2 ^ 64) e
  have hact := (thrTake_act (t := t) (stamp := w.stamp) ((congrArg FeSt.late hpass.fe).trans hlate)).trans hpass.act
  rw [wordStart, Eng.rda, hact, ← Eng.rda]

theorem thrTake_comp (t stamp : Nat) (e : Eng) : (thrTake t stamp e).fe.comp = e.fe.comp := by
  rw [thrTake_eq]
  exact foldl_keeps (fun a => a.fe.comp) thrForce _ (fun _ _ _ => rfl) _

theorem wordStart_comp (t : Nat) (w : SampleWord) (e : Eng) : (wordStart t w e).fe.comp = e.fe.comp :=
  (thrTake_comp t w.stamp _).trans (congrArg FeSt.comp (passTo_clockOnly _ e).fe)

theorem mayWrite_samples {t stamp : Nat} {e : Eng} (hmay : mayWrite e t stamp = true) (hup : (e.getEla t).upTo = none) :
    tileSamples e t = true := by
  unfold mayWrite at hmay
  simp only [hup, tileOpen, Bool.and_eq_true] at hmay
  tauto

/-- The comparator of a sampling tile's channel at a word that no threshold waits for. -/
theorem wordStart_chanComp {t c : Nat} {w : SampleWord} {e : Eng} (hc : c < 32) (hlate : e.fe.late = []) (hsamples : tileSamples e t = true)
    (p : Bool) (v : Int) : chanComp (wordStart t w e) (32 * t + c) p v =
      comparator (e.rda (FE_THR_CODE (32 * t + c))) (e.rda (FE_CH_CFG_HYST (32 * t + c))) p v := by
  have htile : (32 * t + c) / 32 = t := by omega
  have hstart : tileSamples (wordStart t w e) t = true := ((wordStart_sameSetting t w e).tileSamples t).trans hsamples
  simp only [chanComp, thrNow, htile, hstart, if_true, wordStart_rda hlate]

/-- The word stored in a buffer with room, where both readers are behind and the tile's stop is not declared. -/
theorem sampleWord_stores {t : Nat} {w : SampleWord} {e : Eng} (hmay : mayWrite e t w.stamp = true) (hfits : wordFits e t w = true)
    (hup : (e.getEla t).upTo = none) (hd : (closeUnlock (e.getEla t) w.stamp).dropping = none)
    (hfill : wordsHeld (closeUnlock (e.getEla t) w.stamp) < 4096) (heval : anyEval e = true) (hrec : receivers e t ≠ []) :
    ((sampleWord t w e).getEla t).items.getLast? = some (.word (wordSeen t w e)) := by
  rw [sampleWord_eq hmay hfits, wordBehind_keeps heval hrec, wordStored_getEla t w hup]
  exact (ebTake_room _ (wordSeen t w e) _ hd hfill).2

/-- What a word does to the writing side of a buffer whose tile's stop is not declared. -/
theorem sampleWord_getEla {t : Nat} {w : SampleWord} {e : Eng} (hmay : mayWrite e t w.stamp = true) (hfits : wordFits e t w = true)
    (hup : (e.getEla t).upTo = none) :
    ((sampleWord t w e).getEla t).wPos = (w.stamp + wordSpan e w) % 2 ^ 64 ∧
      ((sampleWord t w e).getEla t).dropping = (ebTake (e.getEla t) (wordSeen t w e) (wordEnd e w)).dropping := by
  rw [sampleWord_eq hmay hfits, (wordBehind_getEla t e _).1, (wordBehind_getEla t e _).2, wordStored_getEla t w hup]
  exact ⟨rfl, rfl⟩

theorem wordSeen_units {t : Nat} {w : SampleWord} (e : Eng) (hvolts : w.volts = []) :
    wordSeen t w e = { w with units := w.units.map fun u => u &&& enabledMask e t } := by
  rw [wordSeen, wordUnits_eq hvolts, (wordStart_sameSetting t w e).enabledMask, hvolts]

/-- The bits of a listed channel, one after the other (R63). -/
theorem natBit_wordSeen {t c : Nat} {w : SampleWord} {vs : List Int} {e : Eng} (hc : c < 32) (hsamples : tileSamples e t = true)
    (hdouble : e.double = false) (hlate : e.fe.late = []) (hvolts : w.volts = [(c, vs)]) (hlen : vs.length = w.units.length)
    (hen : e.ona (FE_CH_CFG_EN (32 * t + c)) = true) {i : Nat} (hi : i < w.units.length) :
    natBit ((wordSeen t w e).units.getD i 0) c =
      comparator (e.rda (FE_THR_CODE (32 * t + c))) (e.rda (FE_CH_CFG_HYST (32 * t + c)))
        (if i = 0 then natBit e.fe.comp (32 * t + c) else natBit ((wordSeen t w e).units.getD (i - 1) 0) c) (vs.getD i 0) := by
  have hdouble' := (wordStart_sameSetting t w e).double.trans hdouble
  have hen' : (wordStart t w e).ona (FE_CH_CFG_EN (32 * t + c)) = true := by rw [Eng.ona, wordStart_rda hlate]; exact hen
  have hbit {j : Nat} (hj : j < w.units.length) := natBit_wordUnits hvolts hc hdouble' hen' hj
  have hprev : (if i = 0 then natBit e.fe.comp (32 * t + c) else natBit ((wordUnits (wordStart t w e) t w).getD (i - 1) 0) c) =
      if i = 0 then natBit e.fe.comp (32 * t + c) else
        (compRun (wordStart t w e) (32 * t + c) (natBit e.fe.comp (32 * t + c)) vs).getD (i - 1) false := by
    split
    · rfl
    · rw [hbit (by omega), wordStart_comp]
  change natBit ((wordUnits (wordStart t w e) t w).getD i 0) c = comparator _ _
    (if i = 0 then _ else natBit ((wordUnits (wordStart t w e) t w).getD (i - 1) 0) c) _
  rw [hprev, hbit hi, wordStart_comp, compRun_getD _ _ _ (by omega), wordStart_chanComp hc hlate hsamples]

end Machine
end Sys2Proof
end

section
/-!
SUPPORT. The obligation O7.
-/
open Sys2Proof Sys2Proof.Machine

/-- Settles O7: of a word that its tile may write the buffer keeps what `ebTake` says (`sampleWord_getEla`), and where both readers
are behind, the word it stores is the last item (`sampleWord_stores`); a listed channel's bits follow from one another by the comparator
(`natBit_wordSeen`). -/
theorem sampleWordMeetsBuffer : Obligations.SampleWordMeetsBuffer := by
  unfold Obligations.SampleWordMeetsBuffer
  intro s k w hup hk
  have hexec := onEng_up s (sampleWord k w) hup
  refine ⟨?_, ?_, ?_⟩
  · intro hnot hinv
    rw [sampleWord_none hnot] at hexec
    exact ⟨_, hexec, rfl, rfl, rfl, fun _ _ => rfl⟩
  · intro hmay hfits hopen el fill fin
    obtain ⟨hpos, hdropping⟩ := sampleWord_getEla hmay hfits hopen
    have hlast := sampleWord_stores hmay hfits hopen
    have hunits := wordSeen_units (t := k) (w := w) s.eng
    have hfull := ebTake_full (s.eng.getEla k) (wordSeen k w s.eng) fin
    have hroom := ebTake_room (s.eng.getEla k) (wordSeen k w s.eng) fin
    have hdropped {a b n : Nat} := ebTake_dropped (s.eng.getEla k) (wordSeen k w s.eng) fin (a := a) (b := b) (n := n)
    have hclosed {a b n : Nat} := ebTake_closed (s.eng.getEla k) (wordSeen k w s.eng) fin (a := a) (b := b) (n := n)
    have hstamp := wordSeen_stamp k w s.eng
    rw [wordEnd] at hdropping
    generalize wordSeen k w s.eng = w' at *
    generalize sampleWord k w s.eng = e at *
    rw [hstamp] at hfull hroom hdropped hclosed
    refine ⟨_, hexec, rfl, hpos, rfl, fun hd h => hdropping.trans (hfull hd h), fun a b n hd h => hdropping.trans (hdropped hd h),
      fun a b n hd h hfree => hdropping.trans (hclosed hd h hfree), fun hd h => ⟨hdropping.trans (hroom hd h).1, ?_⟩⟩
    intro heval hrec hvolts
    rw [← hunits hvolts]
    exact hlast hd h heval hrec
  · intro c vs hc hmay hfits hopen hnone hfill heval hrec hdouble hlate hvolts hunits hlen hen vt half
    have hd : (closeUnlock (s.eng.getEla k) w.stamp).dropping = none := (closeUnlock_dropping _ _).trans hnone
    have hlast := sampleWord_stores hmay hfits hopen hd hfill heval hrec
    have hona : s.eng.ona (FE_CH_CFG_EN (32 * k + c)) = true := bne_iff_ne.2 (ne_of_eq_of_ne hen Nat.one_ne_zero)
    have hbit {i : Nat} (hi : i < 64) := natBit_wordSeen hc (mayWrite_samples hmay hopen) hdouble hlate hvolts (hlen.trans hunits.symm)
      hona (hunits.symm ▸ hi)
    have hstamp := wordSeen_stamp k w s.eng
    generalize wordSeen k w s.eng = w' at *
    generalize sampleWord k w s.eng = e at *
    exact ⟨_, hexec, rfl, w', hlast, hstamp, fun i hi => hbit hi⟩

end

section
/-!
SUPPORT. What the change of power state, the loops, the recheck of an eye scan and the join of pod ports leave alone (R474 to R476, R107,
R83, R99): the modes and tile service, with their registers in the global block, the writes to memory and the causes that wait for the
Ledger.
-/
namespace Sys2Proof
namespace Machine

/-- A field beyond the registers of modes and tile service. -/
def BeyondModes (f : Fld) : Prop := 8 * 0x140 ≤ f.key

theorem beyond_fld {off lsb width reset : Nat} (h : 0x140 ≤ off) : BeyondModes (fld off lsb width reset) := by
  simp only [BeyondModes, fld]
  omega

/-- Between two states of the engine the modes and tile service stay, no memory is written, and no cause that waits for the Ledger is
lost. -/
structure ModesKept (e e' : Eng) : Prop where
  md : e'.md = e.md
  wq : e'.wq = e.wq
  rd : ∀ g : Fld, g.key < 8 * 0x140 → e'.rd g = e.rd g
  posted : ∀ c ∈ e.ldg.queue, c ∈ e'.ldg.queue

/-- The registers of modes are none that a report changes. -/
theorem still_of_mode {g : Fld} (h : g.key < 8 * 0x140) : Still g := still_of_lt (by omega)

/-! ### The causes that wait for the Ledger (R394) -/

theorem mem_ldgPush {c : Cause} (d : Cause) {e : Eng} (h : c ∈ e.ldg.queue) : c ∈ (ldgPush d e).ldg.queue := by
  unfold ldgPush
  split
  · exact List.mem_append_left _ h
  · exact h

theorem irqMessage_ldg (v : Nat) (e : Eng) : (irqMessage v e).ldg = e.ldg := by
  unfold irqMessage
  repeat' split
  all_goals rfl

theorem evqPush_ldg (x : Nat) (e : Eng) : (evqPush x e).ldg = e.ldg := by
  unfold evqPush
  split <;> rfl

theorem mem_raiseAt {c : Cause} (n : Nat) (f : Fld) (i : Nat) (d : List Byte) {e : Eng} (h : c ∈ e.ldg.queue) :
    c ∈ (raiseAt n f i d e).ldg.queue := by
  induction n generalizing f i d e with
  | zero => exact h
  | succ n ih =>
    have hnote (b : Bool) (x : Nat) {a : Eng} (ha : c ∈ a.ldg.queue) :
        c ∈ (evNote (fun g j a => raiseAt n g j [] a) b x a).ldg.queue := by
      have hpush : c ∈ (evqPush x a).ldg.queue := by rwa [evqPush_ldg]
      unfold evNote
      repeat' split
      · exact ha
      · exact hpush
      · exact ih _ _ _ hpush
    have hpost (v : Option Nat) (x : Cause) {a : Eng} (ha : c ∈ a.ldg.queue) :
        c ∈ (evPost (fun g j a => raiseAt n g j [] a) v x a).ldg.queue := by
      unfold evPost
      repeat' split
      · exact ha
      · exact ih _ _ _ (mem_ldgPush x ha)
      · exact mem_ldgPush x ha
    have hwake (b : Bool) (v : Option Nat) {a : Eng} (ha : c ∈ a.ldg.queue) :
        c ∈ (evWake (fun g j a => raiseAt n g j [] a) b v a).ldg.queue := by
      unfold evWake
      split
      · exact ih _ _ _ ha
      · exact ha
    have hsend (b : Eng) (v : Option Nat) {a : Eng} (ha : c ∈ a.ldg.queue) : c ∈ (evSend b v a).ldg.queue := by
      unfold evSend
      repeat' split
      · rwa [irqMessage_ldg]
      · exact ha
      · exact ha
    unfold raiseAt
    split
    · exact h
    · exact hsend _ _ (hwake _ _ (hpost _ _ (hnote _ _ h)))

/-- A cause that is posted while the queue has room waits in it. -/
theorem mem_post {e : Eng} (cause sev : Nat) (d : List Byte) (hroom : e.ldg.queue.length < 256) :
    ∃ c ∈ (e.post cause sev d).ldg.queue, c.cause = cause ∧ c.data = d := by
  refine ⟨⟨cause, sev, d, e.ts, e.rd TIME_EPOCH_GEN⟩, ?_, rfl, rfl⟩
  have hnot : ldgFull e = false := by simpa [ldgFull] using hroom
  unfold Eng.post
  rw [hnot, if_neg Bool.false_ne_true, ldgPush, if_pos hroom]
  exact List.mem_append_right _ (List.mem_singleton_self _)

/-! ### The steps that keep the modes -/

namespace ModesKept

variable {e e' e'' : Eng}

theorem refl (e : Eng) : ModesKept e e := ⟨rfl, rfl, fun _ _ => rfl, fun _ h => h⟩

theorem trans (h : ModesKept e e') (h' : ModesKept e' e'') : ModesKept e e'' :=
  ⟨h'.md.trans h.md, h'.wq.trans h.wq, fun g hg => (h'.rd g hg).trans (h.rd g hg), fun c hc => h'.posted c (h.posted c hc)⟩

theorem wr (h : ModesKept e e') {f : Fld} (v : Nat) (hf : BeyondModes f := by exact beyond_fld (by omega)) :
    ModesKept e (e'.wr f v) :=
  h.trans ⟨rfl, rfl, fun _ hg => Eng.rd_wr_other e' v (Nat.ne_of_gt (lt_of_lt_of_le hg hf)), fun _ hc => hc⟩

/-- Neither a register nor anything of the modes has changed. -/
theorem of_regs (hmd : e'.md = e.md) (hwq : e'.wq = e.wq) (hregs : e'.regs = e.regs) (hldg : e'.ldg = e.ldg) : ModesKept e e' :=
  ⟨hmd, hwq, fun g _ => by rw [Eng.rd, hregs, ← Eng.rd], fun c h => by rwa [hldg]⟩

/-- A report changes nothing but what reports change. -/
theorem of_hush (hh : e'.hush = e.hush) (hrd : ∀ g : Fld, g.key < 8 * 0x140 → e'.rd g = e.rd g)
    (hldg : ∀ c ∈ e.ldg.queue, c ∈ e'.ldg.queue) : ModesKept e e' := by
  have hmd := congrArg Eng.md hh
  have hwq := congrArg Eng.wq hh
  exact ⟨hmd, hwq, hrd, hldg⟩

theorem raise (h : ModesKept e e') {f : Fld} (i : Nat) (hf : BeyondModes f := by exact beyond_fld (by omega)) :
    ModesKept e (e'.raise f i) :=
  h.trans <| of_hush (raise_hush e' f i)
    (fun _ hg => raise_rd e' f i (Nat.ne_of_gt (lt_of_lt_of_le hg hf)) (still_of_mode hg)) fun _ hc => mem_raiseAt _ _ _ _ hc

theorem irqMessage (v : Nat) (e : Eng) : ModesKept e (Machine.irqMessage v e) :=
  of_hush (irqMessage_hush v e) (fun _ hg => irqMessage_rd v e (still_of_mode hg)) fun _ hc => by rwa [irqMessage_ldg]

theorem foldl {α : Type} (f : Eng → α → Eng) (l : List α) (h : ∀ e a, ModesKept e (f e a)) (e : Eng) : ModesKept e (l.foldl f e) :=
  List.foldlRecOn l f (motive := ModesKept e) (refl e) fun b hb a _ => hb.trans (h b a)

theorem ite {c : Prop} [Decidable c] (h : ModesKept e e') (h' : ModesKept e e'') : ModesKept e (if c then e' else e'') := by
  split
  · exact h
  · exact h'

theorem bit (h : ModesKept e e') (f : Fld) (hf : f.key < 8 * 0x140) (k : Nat) : e'.bit f k = e.bit f k := by
  rw [Eng.bit, h.rd f hf, ← Eng.bit]

theorem inService (h : ModesKept e e') (k : Nat) : e'.inService k = e.inService k := h.bit _ (by decide) k

end ModesKept

/-! ### The display link follows VPLL (R362) -/

theorem auxRelease_modesKept (e : Eng) : ModesKept e (auxRelease e) := by
  unfold auxRelease
  split
  · exact .of_regs rfl rfl rfl rfl
  · exact .refl e

theorem trainFail_modesKept (code : Nat) (e : Eng) : ModesKept e (trainFail code e) :=
  .raise (.wr (.wr (.wr (auxRelease_modesKept e) _) _) _) _

theorem trainStart_modesKept (e : Eng) : ModesKept e (trainStart e) := by
  have hbusy : ModesKept e ((e.wr VIT_LINK_STAT_BUSY 1).wr VIT_STAT_LINK_UP 0) := .wr (.wr (.refl e) _) _
  exact .ite (.refl e) (.ite (hbusy.trans (.of_regs rfl rfl rfl rfl)) (trainFail_modesKept 1 e))

theorem vpllBack_modesKept (e : Eng) : ModesKept e (vpllBack e) := .ite (trainStart_modesKept e) (.refl e)

theorem vpllLost_modesKept (e : Eng) : ModesKept e (vpllLost e) := by
  have hdown : ModesKept e ((e.wr VIT_STAT_LINK_UP 0).wr VIT_STAT_PSR_ACT 0) := .wr (.wr (.refl e) _) _
  exact .ite (hdown.trans (trainFail_modesKept 1 _)) hdown

/-! ### The loops (R107, R114, R127) -/

theorem clkOutShow_modesKept (e : Eng) (k : Nat) : ModesKept e (clkOutShow e k) := by
  have hstat (a b : Bool) : ModesKept e ((e.wrb (CLK_OUT_STAT_ACTIVE k) a).wrb (CLK_OUT_STAT_SRCLOSS k) b) := .wr (.wr (.refl e) _) _
  unfold clkOutShow
  simp only []
  split
  · exact (hstat _ _).wr _
  · exact ((hstat _ _).wr _).trans (.of_regs rfl rfl rfl rfl)
  · exact (hstat _ _).wr _

theorem rampFollow_modesKept (e : Eng) : ModesKept e (rampFollow e) := by
  refine .foldl _ _ (fun a m => ?_) e
  simp only []
  exact .ite (.refl a) (.of_regs rfl rfl rfl rfl)

theorem timeShow_modesKept (e : Eng) : ModesKept e (timeShow e) :=
  .wr (.ite (.wr (.wr (.refl e) _) _) (.refl e)) _

theorem loopsShow_modesKept (e : Eng) : ModesKept e (loopsShow e) :=
  (ModesKept.foldl _ _ clkOutShow_modesKept e).trans ((rampFollow_modesKept _).trans (timeShow_modesKept _))

theorem setLoop_modesKept (n st : Nat) (e : Eng) : ModesKept e (setLoop n st e) := by
  have hstat : ModesKept e ((((e.wr (CLK_LOOP_STAT_STATE n) st).wrb (CLK_LOOP_STAT_LOCKED n) (st == 2)).wrb (CLK_LOOP_STAT_BYPASS n)
      (st != 2)).wrBit CLK_MON_STAT_LOOP_OK n (st == 2)) := .wr (.wr (.wr (.wr (.refl e) _) _) _) _
  exact hstat.trans (.ite (vpllLost_modesKept _) (.ite (vpllBack_modesKept _) (.refl _)))

theorem ldRelease_modesKept (e : Eng) : ModesKept e (ldRelease e) := by
  have hpend : ModesKept e ((List.range 8).foldl (fun a n =>
      if ldWaits e n && !(a.getLoop n).held then a.wr (CLK_LOOP_STAT_CMT_PEND n) 0 else a) e) :=
    .foldl _ _ (fun a _ => .ite (.wr (.refl a) _) (.refl a)) e
  exact hpend.trans (.of_regs rfl rfl rfl rfl)

theorem ldApply_modesKept (e : Eng) : ModesKept e (ldApply e) := by
  have hload : ModesKept e (((e.load CLK_LD_AN_EN).load CLK_LD_AN_LOOP).load CLK_LD_AN_WIN) := .of_regs rfl rfl rfl rfl
  unfold ldApply
  simp only []
  generalize ((e.load CLK_LD_AN_EN).load CLK_LD_AN_LOOP).load CLK_LD_AN_WIN = e1 at hload ⊢
  exact (ModesKept.ite hload (hload.wr _)).trans (ldRelease_modesKept _)

theorem modLoop_modesKept (n : Nat) (f : LoopSt → LoopSt) (e : Eng) : ModesKept e (e.modLoop n f) := .of_regs rfl rfl rfl rfl

theorem startLoop_modesKept (n : Nat) (v : LoopVals) (e : Eng) : ModesKept e (startLoop n v e) := by
  have hdrop (a : Eng) : ModesKept a (ldDrop n a) := .ite (.wr (.refl a) _) (.refl a)
  have hdetector : ModesKept e (setLoopActive n v (ldDrop n (if ldWaits e n then ldApply e else e))) :=
    (ModesKept.ite (ldApply_modesKept e) (.refl e)).trans ((hdrop _).trans (.of_regs rfl rfl rfl rfl))
  have hvalues (st khz : Nat) : ModesKept e (((setLoop n st (setLoopActive n v (ldDrop n (if ldWaits e n then ldApply e else e)))).wr
      (CLK_LOOP_ACT_FOUT_KHZ n) khz).wr (CLK_LOOP_STAT_CMT_PEND n) 0) :=
    .wr (.wr (hdetector.trans (setLoop_modesKept n st _)) _) _
  unfold startLoop
  exact ((hvalues _ _).trans (modLoop_modesKept n _ _)).trans (loopsShow_modesKept _)

theorem loopWake_modesKept (n : Nat) (e : Eng) : ModesKept e (loopWake n e) := .ite (startLoop_modesKept n _ e) (.refl e)

theorem loopsOff_modesKept (ns : List Nat) (e : Eng) : ModesKept e (loopsOff ns e) :=
  .trans (.foldl _ _ (fun a n => (setLoop_modesKept n 0 a).trans (modLoop_modesKept n _ _)) e) (loopsShow_modesKept _)

/-! ### The power state (R474 to R476) -/

theorem setPower_modesKept (st : Nat) (e : Eng) : ModesKept e (setPower st e) := by
  have hlevels (a : Eng) : ModesKept a (levelsOff a) := .foldl _ _ (fun b _ => .ite (.refl b) (.wr (.refl b) _)) a
  have hdomains : ModesKept e ((e.wr PWR_STAT_STATE st).wr CUR_PWR_DOM_ON (domainsOn st e)) := .wr (.wr (.refl e) _) _
  exact .ite (.refl e) (.raise (hdomains.trans (hlevels _)) _)

theorem powerCheck_modesKept (e : Eng) : ModesKept e (powerCheck e) := by
  have hblock : ModesKept e (e.wr PWR_STAT_TRK_BLOCK (trickleBlock e)) := .wr (.refl e) _
  refine hblock.trans (.ite (.trans (setPower_modesKept 0 _) (.foldl _ _ (fun a n => loopWake_modesKept n a) _)) (.ite ?_ (.refl _)))
  exact (setPower_modesKept 0 _).trans (loopWake_modesKept 0 _)

theorem powerPolicy_modesKept (e : Eng) : ModesKept e (powerPolicy e) :=
  (powerCheck_modesKept e).trans (.ite ((loopsOff_modesKept _ _).trans (setPower_modesKept 1 _)) (.refl _))

/-! ### The eye scan and the pod ports (R83, R99) -/

theorem scanEnd_modesKept (err : Nat) (e : Eng) : ModesKept e (scanEnd err e) := by
  unfold scanEnd
  split
  · exact .refl e
  · have hended : ModesKept e { e with fe := { e.fe with scan := none, scanHeld := false } } := .of_regs rfl rfl rfl rfl
    exact .trans (.wr (.wr (.wr (.wr hended _) _) _) _) (.irqMessage _ _)

theorem scanRecheck_modesKept (e : Eng) : ModesKept e (scanRecheck e) := by
  unfold scanRecheck
  split
  · exact .refl e
  · exact .ite (.refl e) (.ite (scanEnd_modesKept 2 e) (.ite (scanEnd_modesKept 3 e) (.refl e)))

theorem setPort_modesKept (p st : Nat) (e : Eng) : ModesKept e (setPort p st e) := by
  have hstate : ModesKept e (e.wr (POD_STAT_STATE p) st) := .wr (.refl e) _
  have hind : ModesKept e (if e.on (POD_CTRL_IND_AUTO p) then (e.wr (POD_STAT_STATE p) st).wr (POD_CTRL_IND p) (stateInd st)
      else e.wr (POD_STAT_STATE p) st) := .ite (hstate.wr _) hstate
  exact .ite hind (hind.wr _)

theorem joinNext_modesKept (p : Nat) (e : Eng) : ModesKept e (joinNext p e) := by
  have hready : ModesKept e (enterReady p e) := (setPort_modesKept p 5 e).raise _
  exact .ite (.refl e) (.ite (hready.trans (.of_regs rfl rfl rfl rfl)) hready)

theorem joinAgain_modesKept (e : Eng) : ModesKept e (joinAgain e) :=
  .foldl _ _ (fun a p => .ite (joinNext_modesKept p a) (.refl a)) e

end Machine
end Sys2Proof
end

section
/-!
SUPPORT. What the entry of a tile into service and its exit leave alone outside acquisition (R51, R52, R157, R192, R380), and what a write of
GLB_TILE_SVC does to one tile and to the others (R49, R50).
-/
namespace Sys2Proof
namespace Machine

/-! ### A context enters or leaves service (R52, R192) -/

theorem freezeNow_modesKept (n start : Nat) (ctxs : List Nat) (e : Eng) : ModesKept e (freezeNow n start ctxs e) := by
  have hregion (f : RegionSt → RegionSt) : ModesKept e (e.modRg n f) := .of_regs rfl rfl rfl rfl
  exact .raise (.wr (hregion _) _) _

theorem freezeCheck_modesKept (n : Nat) (e : Eng) : ModesKept e (freezeCheck n e) :=
  .ite (.refl e) (freezeNow_modesKept n _ _ e)

theorem writeResult_modesKept (n : Nat) (x : Retention) (fin : Nat) (stopped : Bool) (e : Eng) :
    ModesKept e (writeResult n x fin stopped e) := by
  have htimes (t pre post : Nat) : ModesKept e (((e.wrq (TRIG_SEQ_RES_T n) t).wrq (TRIG_SEQ_RES_PRE n) pre).wrq (TRIG_SEQ_RES_POST n) post) :=
    .wr (.wr (.wr (.wr (.wr (.wr (.refl e) _) _) _) _) _) _
  exact .raise (.wr (.wr (.wr (.wr (.wr (.wr (.wr (.wr (.wr (htimes _ _ _) _) _) _) _) _) _) _) _) _) _

theorem finishRetention_modesKept (n : Nat) (x : Retention) (fin : Nat) (stopped : Bool) (e : Eng) :
    ModesKept e (finishRetention n x fin stopped e) := by
  have hregion (a : Eng) (r : Nat) (f : RegionSt → RegionSt) : ModesKept a (a.modRg r f) := .of_regs rfl rfl rfl rfl
  have hresult (a : Eng) (h : ModesKept e a) : ModesKept e (if seqState (writeResult n x fin stopped a) n = 3 then
      setSeq n 4 (writeResult n x fin stopped a) else writeResult n x fin stopped a) :=
    have hwritten := h.trans (writeResult_modesKept n x fin stopped a)
    .ite (.wr hwritten _) hwritten
  exact hresult _ (.foldl _ _ (fun a r => .ite ((hregion a r _).trans (freezeCheck_modesKept r _)) (.refl a)) e)

theorem cutRetentions_modesKept (n lim : Nat) (stopped : Bool) (e : Eng) : ModesKept e (cutRetentions n lim stopped e) := by
  have hctx (f : CtxSt → CtxSt) : ModesKept e (e.modCx n f) := .of_regs rfl rfl rfl rfl
  refine (hctx _).trans (.foldl _ _ (fun a x => ?_) _)
  exact .ite (finishRetention_modesKept n x _ _ a) (finishRetention_modesKept n x _ _ a)

theorem endEval_modesKept (n : Nat) (e : Eng) : ModesKept e (endEval n e) := by
  have hctx (f : CtxSt → CtxSt) : ModesKept e (e.modCx n f) := .of_regs rfl rfl rfl rfl
  have hcmds : ModesKept e (if (e.getCx n).cmds.isEmpty then e else armIgn n (e.modCx n fun c => { c with cmds := [] })) :=
    .ite (.refl e) (.raise (hctx _) _)
  have hload (a : Eng) (f : Fld) : ModesKept a (a.load f) := .of_regs rfl rfl rfl rfl
  exact .wr (.trans (.wr hcmds _) (.foldl _ _ hload _)) _

theorem ctxEnter_modesKept (n u : Nat) (e : Eng) : ModesKept e (ctxEnter n u e) :=
  .ite ((cutRetentions_modesKept n _ _ e).trans (endEval_modesKept n _)) (.refl e)

theorem renderStop_modesKept (code : Nat) (e : Eng) : ModesKept e (renderStop code e) := by
  unfold renderStop
  split
  · have hended : ModesKept e (e.modVt fun v => { v with render := none }) := .of_regs rfl rfl rfl rfl
    exact .raise (.wr (.wr (.wr (.wr (.wr (.wr (.wr (.wr hended _) _) _) _) _) _) _) _) _
  · exact .refl e

/-- Resetting a context's resources reports nothing. -/
theorem resetIds_ldg (ids : List Nat) (e : Eng) : (resetIds ids e).ldg = e.ldg := by
  refine foldl_keeps Eng.ldg _ _ (fun a i _ => ?_) e
  simp only []
  repeat' split
  all_goals rfl

theorem setEmpty_modesKept (i : Nat) (e : Eng) : ModesKept e (setEmpty i e) := by
  have hfld : BeyondModes (emptyFld i) := by
    unfold emptyFld
    split <;> exact beyond_fld (by omega)
  exact .wr (.refl e) _ hfld

theorem resetIds_modesKept (ids : List Nat) (e : Eng) : ModesKept e (resetIds ids e) := by
  refine .foldl _ _ (fun a i => ?_) e
  have htr (x : TrigSt) : ModesKept a { a with tr := x } := .of_regs rfl rfl rfl rfl
  have hempty (x : TrigSt) := (htr x).trans (setEmpty_modesKept i _)
  exact .ite (.wr (.wr (.wr (.wr (hempty _) _) _) _) _) (.ite (.wr (.wr (.wr (.wr (hempty _) _) _) _) _)
    (.ite (.wr (hempty _) _) (hempty _)))

/-- Clearing the HIT counts of branches reports nothing. -/
theorem hitCounts_ldg (n : Nat) (l : List (Nat × Nat)) (e : Eng) :
    (l.foldl (fun a p => a.wr (TRIG_LVL_BR_HIT_CNT n p.1 p.2) 0) e).ldg = e.ldg := by
  refine foldl_keeps Eng.ldg _ l (fun a p _ => ?_) e
  exact Eng.wr_ldg a _ _

theorem hitCounts_modesKept (n : Nat) (l : List (Nat × Nat)) (e : Eng) :
    ModesKept e (l.foldl (fun a p => a.wr (TRIG_LVL_BR_HIT_CNT n p.1 p.2) 0) e) :=
  .foldl _ _ (fun a _ => .wr (.refl a) _) e

theorem levelZero_ldg (n : Nat) (f : CtxSt → CtxSt) (e : Eng) :
    (((setSeq n 1 e).wr (TRIG_SEQ_STAT_LEVEL n) 0).modCx n f).ldg = e.ldg := rfl

theorem levelZero_modesKept (n : Nat) (f : CtxSt → CtxSt) (e : Eng) :
    ModesKept e (((setSeq n 1 e).wr (TRIG_SEQ_STAT_LEVEL n) 0).modCx n f) := by
  have hctx (a : Eng) : ModesKept a (a.modCx n f) := .of_regs rfl rfl rfl rfl
  exact (ModesKept.wr (.wr (.refl e) _) _).trans (hctx _)

theorem resetCtx_ldg (n : Nat) (e : Eng) : (resetCtx n e).ldg = e.ldg := by
  unfold resetCtx
  rw [levelZero_ldg, hitCounts_ldg, resetResources, resetIds_ldg]

theorem resetCtx_modesKept (n : Nat) (e : Eng) : ModesKept e (resetCtx n e) := by
  unfold resetCtx
  refine .trans (.trans ?_ (hitCounts_modesKept n allBranches _)) (levelZero_modesKept n _ _)
  exact resetIds_modesKept (ownedBy e n) e

/-! ### Bits of a number -/

/-- Setting a bit leaves the others. -/
theorem natBit_setNatBit_other (x : Nat) {i j : Nat} (hij : i ≠ j) : natBit (setNatBit x i) j = natBit x j := by
  unfold setNatBit
  split
  · rfl
  case isFalse hi =>
    rcases Nat.lt_or_gt_of_ne hij with h | h
    · rw [natBit, natBit, div_add_pow_of_clear (by simpa using hi) h]
    · rw [natBit_eq_testBit, natBit_eq_testBit, Nat.add_comm, Nat.testBit_two_pow_add_gt h]

/-- Clearing a bit leaves the others: setting it again gives the number back. -/
theorem natBit_clrNatBit_other (x : Nat) {i j : Nat} (hij : i ≠ j) : natBit (clrNatBit x i) j = natBit x j := by
  rw [← natBit_setNatBit_other (clrNatBit x i) hij]
  have hclear : natBit (clrNatBit x i) i = false := natBit_clrNatBit x i
  unfold clrNatBit at hclear ⊢
  split
  case isTrue hi =>
    have hle : 2 ^ i ≤ x := by
      by_contra hlt
      simp [natBit, Nat.div_eq_of_lt (not_le.1 hlt)] at hi
    rw [if_pos hi] at hclear
    rw [setNatBit, hclear, if_neg Bool.false_ne_true, Nat.sub_add_cancel hle]
  case isFalse hi => exact natBit_setNatBit_other x hij

theorem natBit_putNatBit_other (x : Nat) (b : Bool) {i j : Nat} (hij : i ≠ j) : natBit (putNatBit x i b) j = natBit x j := by
  cases b
  · exact natBit_clrNatBit_other x hij
  · exact natBit_setNatBit_other x hij

theorem wrBit_bit (e : Eng) {f : Fld} {i : Nat} (b : Bool) (hi : i < f.width) : (e.wrBit f i b).bit f i = b := by
  rw [Eng.bit, wrBit_eq, Eng.rd_wr, natBit_mod _ _ _ hi, natBit_putNatBit]

theorem wrBit_bit_other (e : Eng) {f : Fld} {i j : Nat} (b : Bool) (hij : i ≠ j) (hj : j < f.width) :
    (e.wrBit f i b).bit f j = e.bit f j := by
  rw [Eng.bit, wrBit_eq, Eng.rd_wr, natBit_mod _ _ _ hj, natBit_putNatBit_other _ _ hij, ← Eng.bit]

/-! ### One bit of a write of GLB_TILE_SVC (R49, R50) -/

/-- A field of the blocks that the acceptance of R49 reads, outside the registers that a report changes. -/
def RowFld (g : Fld) : Prop :=
  8 * 0x700000 ≤ g.key ∧
    (g.key < 8 * 0x708000 ∨ (8 * 0x709000 ≤ g.key ∧ g.key < 8 * 0xB00000) ∨ (8 * 0xB02000 ≤ g.key ∧ g.key < 8 * 0xD00000))

theorem RowFld.still {g : Fld} (h : RowFld g) : Still g := by
  have hreport : ∀ k ∈ reportKeys, ¬(k < 8 * 0x708000) ∧ ¬(8 * 0x709000 ≤ k ∧ k < 8 * 0xB00000) ∧
      ¬(8 * 0xB02000 ≤ k ∧ k < 8 * 0xD00000) := by decide
  intro hk
  have hnone := hreport g.key hk
  obtain ⟨-, hrange⟩ := h
  tauto

/-- Between two states of the engine a write of GLB_TILE_SVC has gone on, but not at tile `k`. -/
structure TileAside (k : Nat) (e e' : Eng) : Prop where
  act : e'.act = e.act
  rd : ∀ g : Fld, g.key ≠ GLB_TILE_SVC_REQ.key → g.key ≠ GLB_TILE_SVC_STAT_REJ.key → Still g → e'.rd g = e.rd g
  entering : natBit e'.md.entering k = natBit e.md.entering k
  req : e'.bit GLB_TILE_SVC_REQ k = e.bit GLB_TILE_SVC_REQ k
  rej : e.bit GLB_TILE_SVC_STAT_REJ k = true → e'.bit GLB_TILE_SVC_STAT_REJ k = true

namespace TileAside

variable {k : Nat} {e e' e'' : Eng}

theorem refl (k : Nat) (e : Eng) : TileAside k e e := ⟨rfl, fun _ _ _ _ => rfl, rfl, rfl, id⟩

theorem trans (h : TileAside k e e') (h' : TileAside k e' e'') : TileAside k e e'' :=
  ⟨h'.act.trans h.act, fun g hq hr hs => (h'.rd g hq hr hs).trans (h.rd g hq hr hs), h'.entering.trans h.entering,
    h'.req.trans h.req, fun hr => h'.rej (h.rej hr)⟩

/-- The request bit of another tile is written, and what is under way of another tile changes. -/
theorem request (e : Eng) {j : Nat} (b : Bool) {md : ModeSt} (hj : j ≠ k) (hk : k < 15)
    (hmd : natBit md.entering k = natBit e.md.entering k) : TileAside k e { e.wrBit GLB_TILE_SVC_REQ j b with md := md } :=
  ⟨rfl, fun _ hq _ _ => Eng.rd_wr_other e _ hq.symm, hmd, wrBit_bit_other e b hj hk,
    fun hr => by rw [Eng.bit, Eng.rd_with_md, wrBit_eq, Eng.rd_wr_other _ _ (by decide)]; exact hr⟩

/-- Entry of another tile is refused. -/
theorem refuse (e : Eng) (j : Nat) (hk : k < 15) : TileAside k e (e.raise GLB_TILE_SVC_STAT_REJ j) :=
  ⟨raise_act e _ j, fun _ _ hr hs => raise_rd e _ _ hr.symm hs, by rw [raise_md],
    by rw [Eng.bit, raise_rd _ _ _ (by decide) (still_of_mode (by decide)), ← Eng.bit],
    raiseAt_bit_keeps 3 j [] e (still_of_mode (by decide)) hk⟩

theorem inService (h : TileAside k e e') (j : Nat) : e'.inService j = e.inService j := by
  rw [Eng.inService, Eng.bit, h.rd _ (by decide) (by decide) (still_of_mode (by decide)), ← Eng.bit, ← Eng.inService]

theorem mode (h : TileAside k e e') : e'.mode = e.mode := by
  rw [Eng.mode, h.rd _ (by decide) (by decide) (still_of_mode (by decide)), ← Eng.mode]

/-- A field that the acceptance of R49 reads beyond the global block is as it was. -/
theorem rdRow (h : TileAside k e e') {g : Fld} (hg : RowFld g) : e'.rd g = e.rd g := by
  obtain ⟨hlow, -⟩ := id hg
  have hkeys : GLB_TILE_SVC_REQ.key < 8 * 0x700000 ∧ GLB_TILE_SVC_STAT_REJ.key < 8 * 0x700000 := by decide
  exact h.rd g (by omega) (by omega) hg.still

/-- Whether another tile's row of R49 accepts entry does not change either. -/
theorem svcAccepts (h : TileAside k e e') (j : Nat) : svcAccepts e' j = svcAccepts e j := by
  have hkind (n : Nat) : e'.rd (ACC_CREG_CFG_KIND n) = e.rd (ACC_CREG_CFG_KIND n) :=
    h.rdRow (by simp only [RowFld, ACC_CREG_CFG_KIND, fld]; omega)
  have hform (n : Nat) : e'.rd (ACC_CREG_CFG_FORM n) = e.rd (ACC_CREG_CFG_FORM n) :=
    h.rdRow (by simp only [RowFld, ACC_CREG_CFG_FORM, fld]; omega)
  have hjob (q : Nat) : e'.rd (CMP_JOB_STAT_STATE q) = e.rd (CMP_JOB_STAT_STATE q) :=
    h.rdRow (by simp only [RowFld, CMP_JOB_STAT_STATE, fld]; omega)
  have hop (q : Nat) : e'.rd (CMP_JOB_CTRL_OP q) = e.rd (CMP_JOB_CTRL_OP q) :=
    h.rdRow (by simp only [RowFld, CMP_JOB_CTRL_OP, fld]; omega)
  have hdma (c : Nat) : e'.rd (HOST_DMA_STAT_STATE c) = e.rd (HOST_DMA_STAT_STATE c) :=
    h.rdRow (by simp only [RowFld, HOST_DMA_STAT_STATE, fld]; omega)
  simp only [Machine.svcAccepts, Eng.inAcq, receives, regionKind, regionForm, jobState, Eng.ona, Eng.rda, h.mode, h.act, hkind, hform,
    hjob, hop, hdma]

end TileAside

/-- The bit of another tile in a write of GLB_TILE_SVC. -/
theorem svcBit_tileAside (req : Nat) {j k : Nat} (hj : j ≠ k) (hk : k < 15) (e : Eng) : TileAside k e (svcBit req e j) := by
  have hclear (b : Bool) : TileAside k e (e.wrBit GLB_TILE_SVC_REQ j b) := .request e b hj hk rfl
  have hset {x : Nat} := natBit_setNatBit_other x hj
  unfold svcBit
  simp only []
  split
  · split
    · exact .request e true hj hk rfl
    · split
      · exact .request e true hj hk hset
      · exact (hclear false).trans (.refuse _ j hk)
  · split
    · split
      · exact .refuse e j hk
      · exact .refl k e
    · split
      · exact .request e false hj hk rfl
      · exact hclear false

/-- A write of GLB_TILE_SVC is the step of tile `k`, with steps of other tiles before and after it. -/
theorem applySvc_at (req : Nat) {k : Nat} (hk : k < 15) (e : Eng) :
    ∃ e1, TileAside k e e1 ∧ TileAside k (svcBit req e1 k) (applySvc req e) := by
  obtain ⟨l1, l2, hl⟩ := List.append_of_mem (List.mem_range.2 hk)
  have hnodup := hl ▸ List.nodup_range (n := 15)
  obtain ⟨-, htail, hdisj⟩ := List.nodup_append.1 hnodup
  obtain ⟨hnot, -⟩ := List.nodup_cons.1 htail
  have hfold (l : List Nat) (hne : ∀ j ∈ l, j ≠ k) (a : Eng) : TileAside k a (l.foldl (svcBit req) a) :=
    List.foldlRecOn l _ (motive := TileAside k a) (.refl k a) fun b hb j hj => hb.trans (svcBit_tileAside req (hne j hj) hk b)
  refine ⟨l1.foldl (svcBit req) e, hfold l1 (fun j hj => hdisj j hj k (by simp)) e, ?_⟩
  rw [applySvc, hl, List.foldl_append, List.foldl_cons]
  exact hfold l2 (fun j hj h => hnot (h ▸ hj)) _

/-- What a request that is refused does to its own tile (R50). -/
theorem svcBit_refused {req k : Nat} {e : Eng} (hk : k < 15) (hwant : natBit req k = true) (hact : e.inService k = false)
    (hent : natBit e.md.entering k = false) (hacc : svcAccepts e k = false) :
    (svcBit req e k).inService k = false ∧ natBit (svcBit req e k).md.entering k = false ∧
      (svcBit req e k).bit GLB_TILE_SVC_REQ k = false ∧ (svcBit req e k).bit GLB_TILE_SVC_STAT_REJ k = true := by
  have hstep : svcBit req e k = (e.wrBit GLB_TILE_SVC_REQ k false).raise GLB_TILE_SVC_STAT_REJ k := by
    simp [svcBit, hwant, hact, hent, hacc]
  rw [hstep]
  refine ⟨?_, by rw [raise_md]; exact hent, ?_, raise_bit _ _ _ hk (still_of_mode (by decide))⟩
  · rw [Eng.inService, Eng.bit, raise_rd _ _ _ (by decide) (still_of_mode (by decide)), wrBit_eq, Eng.rd_wr_other _ _ (by decide)]
    exact hact
  · rw [Eng.bit, raise_rd _ _ _ (by decide) (still_of_mode (by decide)), ← Eng.bit, wrBit_bit _ _ hk]

/-- What a request that is accepted does to its own tile (R49). -/
theorem svcBit_accepted {req k : Nat} {e : Eng} (hk : k < 15) (hwant : natBit req k = true) (hact : e.inService k = false)
    (hent : natBit e.md.entering k = false) (hacc : svcAccepts e k = true) :
    (svcBit req e k).inService k = false ∧ natBit (svcBit req e k).md.entering k = true ∧
      (svcBit req e k).bit GLB_TILE_SVC_REQ k = true := by
  have hstep : svcBit req e k =
      { e.wrBit GLB_TILE_SVC_REQ k true with md := { e.md with entering := setNatBit e.md.entering k } } := by
    simp [svcBit, hwant, hact, hent, hacc]
  rw [hstep]
  refine ⟨?_, natBit_setNatBit _ _, wrBit_bit e true hk⟩
  rw [Eng.inService, Eng.bit, Eng.rd_with_md, wrBit_eq, Eng.rd_wr_other _ _ (by decide)]
  exact hact

end Machine
end Sys2Proof
end

section
/-!
SUPPORT. What TILE_SVC_REQUEST and TILE_SERVICE_ENTRY do, and when TILE_SERVICE_EXIT does nothing (R49 to R53).
-/
namespace Sys2Proof
namespace Machine

/-! ### TILE_SVC_REQUEST (R49, R50, R53) -/

/-- While BUSY is 0 a write of GLB_TILE_SVC takes effect; of the bits and the tiles nothing else changes then. -/
theorem exec_tileSvcRequest (s : State) (req : Nat) (hup : s.up) (hbusy : s.rd GLB_MODE_STAT_BUSY = 0) :
    ∃ e, ModesKept (applySvc req s.eng) e ∧ exec (.tileSvcRequest req) s = .next { s with eng := { e with wq := [] } } := by
  have hoff : s.eng.on GLB_MODE_STAT_BUSY = false := bne_eq_false_iff_eq.2 hbusy
  have hexec : execTileSvcRequest req s = .next { s with eng := { scanRecheck (powerPolicy (applySvc req s.eng)) with wq := [] } } := by
    rw [execTileSvcRequest, onEng_up s _ hup, hoff, if_neg Bool.false_ne_true]
  exact ⟨_, (powerPolicy_modesKept _).trans (scanRecheck_modesKept _), hexec⟩

/-- R53: while BUSY is 1 the write waits. -/
theorem tileSvcRequest_held (s : State) (req : Nat) (hup : s.up) (hbusy : s.rd GLB_MODE_STAT_BUSY ≠ 0) :
    Completes (.tileSvcRequest req) s fun t => t.eng.md.heldSvc = s.eng.md.heldSvc ++ [req] ∧ Kept [] s t := by
  have hon : s.eng.on GLB_MODE_STAT_BUSY = true := bne_iff_ne.2 hbusy
  have hexec : execTileSvcRequest req s =
      .next { s with eng := { s.eng with md := { s.eng.md with heldSvc := s.eng.md.heldSvc ++ [req] }, wq := [] } } := by
    rw [execTileSvcRequest, onEng_up s _ hup, hon, if_pos rfl]
  exact ⟨_, hexec, rfl, rfl, rfl, fun _ _ => rfl⟩

/-- R50, for any tile whose row of R49 does not accept entry. -/
theorem tileSvcRequest_refused (s : State) {req k : Nat} (hup : s.up) (hbusy : s.rd GLB_MODE_STAT_BUSY = 0) (hk : k < 15)
    (hwant : natBit req k = true) (hact : s.eng.inService k = false) (hent : natBit s.eng.md.entering k = false)
    (hacc : svcAccepts s.eng k = false) : Completes (.tileSvcRequest req) s fun t =>
      t.eng.inService k = false ∧ natBit t.eng.md.entering k = false ∧ t.eng.bit GLB_TILE_SVC_STAT_REJ k = true ∧
        t.eng.bit GLB_TILE_SVC_REQ k = false ∧ t.mem = s.mem := by
  obtain ⟨e, hkept, hexec⟩ := exec_tileSvcRequest s req hup hbusy
  obtain ⟨e1, hbefore, hafter⟩ := applySvc_at req hk s.eng
  obtain ⟨hact', hent', hreq, hrej⟩ := svcBit_refused hk hwant ((hbefore.inService k).trans hact) (hbefore.entering.trans hent)
    ((hbefore.svcAccepts k).trans hacc)
  refine ⟨_, hexec, rfl, (hkept.inService k).trans ((hafter.inService k).trans hact'), ?_, ?_, ?_, rfl⟩
  · exact (congrArg (fun m => natBit m.entering k) hkept.md).trans (hafter.entering.trans hent')
  · exact (hkept.bit _ (by decide) k).trans (hafter.rej hrej)
  · exact (hkept.bit _ (by decide) k).trans (hafter.req.trans hreq)

/-- R49: the row of the tile accepts entry. -/
theorem tileSvcRequest_accepted (s : State) {req k : Nat} (hup : s.up) (hbusy : s.rd GLB_MODE_STAT_BUSY = 0) (hk : k < 15)
    (hwant : natBit req k = true) (hact : s.eng.inService k = false) (hent : natBit s.eng.md.entering k = false)
    (hacc : svcAccepts s.eng k = true) : Completes (.tileSvcRequest req) s fun t =>
      t.eng.bit GLB_TILE_SVC_REQ k = true ∧ natBit t.eng.md.entering k = true ∧ t.eng.inService k = false ∧ t.mem = s.mem := by
  obtain ⟨e, hkept, hexec⟩ := exec_tileSvcRequest s req hup hbusy
  obtain ⟨e1, hbefore, hafter⟩ := applySvc_at req hk s.eng
  obtain ⟨hact', hent', hreq⟩ := svcBit_accepted hk hwant ((hbefore.inService k).trans hact) (hbefore.entering.trans hent)
    ((hbefore.svcAccepts k).trans hacc)
  refine ⟨_, hexec, rfl, ?_, ?_, (hkept.inService k).trans ((hafter.inService k).trans hact'), rfl⟩
  · exact (hkept.bit _ (by decide) k).trans (hafter.req.trans hreq)
  · exact (congrArg (fun m => natBit m.entering k) hkept.md).trans (hafter.entering.trans hent')

/-- The compressor is not taken out of use while an active region is compressed or a COMPRESS job is queued or running (R49). -/
theorem svcAccepts_compressor {e : Eng} (h : (∃ q < 4, (jobState e q = 1 ∨ jobState e q = 2) ∧ e.rd (CMP_JOB_CTRL_OP q) = 1) ∨
    (e.inAcq = true ∧ ∃ r < 16, receives e r = true ∧ regionForm e r = 2)) : svcAccepts e 12 = false := by
  rw [svcAccepts, if_pos rfl, Bool.and_eq_false_iff]
  rcases h with ⟨q, hq, hjob, hop⟩ | ⟨hacq, r, hr, hrec, hform⟩
  · right
    rw [Bool.not_eq_false', List.any_eq_true]
    exact ⟨q, List.mem_range.2 hq, by simpa [hop] using hjob⟩
  · left
    rw [Bool.not_eq_false', List.any_eq_true]
    exact ⟨r, List.mem_range.2 hr, by simp [hacq, hrec, hform]⟩

/-- The memory plan is not taken out of use outside SERVICE and REVIEW or with a DMA channel active (R49). -/
theorem svcAccepts_memoryPlan {e : Eng} (h : (e.mode ≠ .service ∧ e.mode ≠ .review) ∨ ∃ c < 8, e.rd (HOST_DMA_STAT_STATE c) = 1) :
    svcAccepts e 14 = false := by
  rw [svcAccepts, if_neg (by decide), if_pos rfl, Bool.and_eq_false_iff]
  rcases h with ⟨hservice, hreview⟩ | ⟨c, hc, hdma⟩
  · left
    simp [hservice, hreview]
  · right
    rw [List.all_eq_false]
    exact ⟨c, List.mem_range.2 hc, by simp [hdma]⟩

/-- Every other row accepts entry (R49). -/
theorem svcAccepts_other (e : Eng) {k : Nat} (hcmp : k ≠ 12) (hmem : k ≠ 14) : svcAccepts e k = true := by
  rw [svcAccepts, if_neg hcmp, if_neg hmem]

/-! ### TILE_SERVICE_ENTRY (R51, R52) -/

/-- A tile that is not on its way into service does not enter it. -/
theorem tileServiceEntry_none {e : Eng} {k : Nat} (u : Nat) (hacq : e.inAcq = false) (hent : natBit e.md.entering k = false) :
    tileServiceEntry k u e = e := by
  unfold tileServiceEntry
  simp [hacq, hent]

/-- Outside acquisition a tile that is on its way into service enters it at TS64, a context after its judging has ended. -/
theorem tileServiceEntry_enters {e : Eng} {k : Nat} (u : Nat) (hacq : e.inAcq = false) (hent : natBit e.md.entering k = true) :
    ∃ e1, ModesKept e e1 ∧ ModesKept (putInService k e.ts e1) (tileServiceEntry k u e) := by
  have hready : entryReadyAt e k u = true := by simp [entryReadyAt, hacq]
  have htick : svcTick e k u = e.ts := by simp [svcTick, hacq]
  have hend (a : Eng) : ModesKept a (joinAgain (scanRecheck (powerCheck a))) :=
    (powerCheck_modesKept a).trans ((scanRecheck_modesKept _).trans (joinAgain_modesKept _))
  unfold tileServiceEntry
  simp only [hacq, hent, hready, htick, Bool.false_eq_true, false_and, if_false, Bool.not_true, or_self]
  by_cases hctx : 8 ≤ k ∧ k < 12
  · rw [if_pos hctx]
    exact ⟨_, ctxEnter_modesKept (k - 8) (ctxEdge e (k - 8) e.ts) e, hend _⟩
  · rw [if_neg hctx]
    exact ⟨e, .refl e, (ModesKept.ite (renderStop_modesKept 4 _) (.refl _)).trans (hend _)⟩

theorem putInService_inService (t : Nat) (e : Eng) {k : Nat} (hk : k < 15) : (putInService k t e).inService k = true :=
  wrBit_bit_same e hk

/-- TILE_SERVICE_ENTRY outside acquisition. -/
theorem tileServiceEntry_completes (s : State) {k : Nat} (u : Nat) (hup : s.up) (hk : k < 15) (hacq : s.eng.inAcq = false)
    (hinv : Inv s) (hent : natBit s.eng.md.entering k = true) : Completes (.tileServiceEntry k u) s fun t =>
      t.eng.inService k = true ∧ natBit t.eng.md.entering k = false ∧ t.eng.md.svcStart.getD k none = some s.eng.ts ∧ t.mem = s.mem := by
  obtain ⟨e1, hbefore, hafter⟩ := tileServiceEntry_enters u hacq hent
  have hexec : execTileServiceEntry k u s = _ := onMem_up s (fun e _ => tileServiceEntry k u e) hup
  refine ⟨_, hexec, rfl, (hafter.inService k).trans (putInService_inService s.eng.ts e1 hk), ?_, ?_, ?_⟩
  · exact (congrArg (fun m => natBit m.entering k) hafter.md).trans (natBit_clrNatBit _ _)
  · have hstart : (putInService k s.eng.ts e1).md.svcStart.getD (k % 15) none = some s.eng.ts := putAt_same _ _ _ _
    rw [Nat.mod_eq_of_lt hk] at hstart
    exact (congrArg (fun m => m.svcStart.getD k none) hafter.md).trans hstart
  · have hwq : (tileServiceEntry k u s.eng).wq = [] := hafter.wq.trans (hbefore.wq.trans hinv.2)
    show s.mem.applyAll (tileServiceEntry k u s.eng).wq = s.mem
    rw [hwq]
    rfl

/-- A command whose function leaves the engine as it is changes nothing. -/
theorem onMem_idle (s : State) (f : Eng → Mems → Eng) (hup : s.up) (hinv : Inv s) (hf : f s.eng s.mem = s.eng) :
    ∃ t, onMem s f = .next t ∧ t.pending = s.pending ∧ Only [] s t := by
  refine ⟨_, onMem_up s f hup, rfl, ?_, ?_, fun g _ => ?_⟩
  · show s.mem.applyAll (f s.eng s.mem).wq = s.mem
    rw [hf, hinv.2]
    rfl
  · show ({ f s.eng s.mem with wq := [] } : Eng).rest = s.eng.rest
    rw [hf]
    rfl
  · show (f s.eng s.mem).rd g = s.eng.rd g
    rw [hf]

/-! ### TILE_SERVICE_EXIT (R51, R52, R508) -/

/-- A tile that is not in service does not leave it. -/
theorem tileServiceExit_none {e : Eng} {k : Nat} (v : Nat) (h : (if e.inAcq = true ∧ k < 8 then drainNow e else e).inService k = false) :
    tileServiceExit k v e = e := by
  unfold tileServiceExit
  simp [h]

end Machine
end Sys2Proof
end

section
/-!
SUPPORT. What Accession leaves alone as it takes in the buffers (R206 to R225): the modes and tile service, with their registers in the
global block.
-/
namespace Sys2Proof
namespace Machine

/-- Between two states of the engine the modes and tile service stay. -/
structure SameModes (e e' : Eng) : Prop where
  md : e'.md = e.md
  rd : ∀ g : Fld, g.key < 8 * 0x140 → e'.rd g = e.rd g

theorem ModesKept.same {e e' : Eng} (h : ModesKept e e') : SameModes e e' := ⟨h.md, h.rd⟩

namespace SameModes

variable {e e' e'' : Eng}

theorem refl (e : Eng) : SameModes e e := ⟨rfl, fun _ _ => rfl⟩

theorem trans (h : SameModes e e') (h' : SameModes e' e'') : SameModes e e'' :=
  ⟨h'.md.trans h.md, fun g hg => (h'.rd g hg).trans (h.rd g hg)⟩

theorem wr (h : SameModes e e') {f : Fld} (v : Nat) (hf : BeyondModes f := by exact beyond_fld (by omega)) : SameModes e (e'.wr f v) :=
  h.trans (ModesKept.wr (.refl e') v hf).same

theorem raise (h : SameModes e e') {f : Fld} (i : Nat) (hf : BeyondModes f := by exact beyond_fld (by omega)) :
    SameModes e (e'.raise f i) :=
  h.trans (ModesKept.raise (.refl e') i hf).same

theorem raisePost (h : SameModes e e') {f : Fld} (i : Nat) (d : List Byte) (hf : BeyondModes f := by exact beyond_fld (by omega)) :
    SameModes e (e'.raisePost f i d) := by
  refine h.trans ⟨raisePost_md e' f i d, fun _ hg => ?_⟩
  exact raisePost_rd e' f i d (Nat.ne_of_gt (lt_of_lt_of_le hg hf)) (still_of_mode hg)

theorem modRg (h : SameModes e e') (n : Nat) (f : RegionSt → RegionSt) : SameModes e (e'.modRg n f) := h.trans ⟨rfl, fun _ _ => rfl⟩

theorem modCx (h : SameModes e e') (n : Nat) (f : CtxSt → CtxSt) : SameModes e (e'.modCx n f) := h.trans ⟨rfl, fun _ _ => rfl⟩

theorem modEla (h : SameModes e e') (t : Nat) (f : ElaTile → ElaTile) : SameModes e (e'.modEla t f) := h.trans ⟨rfl, fun _ _ => rfl⟩

theorem emit (h : SameModes e e') (o : MemOp) : SameModes e (e'.emit o) := h.trans ⟨rfl, fun _ _ => rfl⟩

theorem foldl {α : Type} (f : Eng → α → Eng) (l : List α) (h : ∀ e a, SameModes e (f e a)) (e : Eng) : SameModes e (l.foldl f e) :=
  List.foldlRecOn l f (motive := SameModes e) (refl e) fun b hb a _ => hb.trans (h b a)

theorem rept (f : Eng → Eng) (n : Nat) (h : ∀ e, SameModes e (f e)) (e : Eng) : SameModes e (n.repeat f e) := by
  induction n with
  | zero => exact refl e
  | succ n ih => exact ih.trans (h _)

theorem ite {c : Prop} [Decidable c] (h : SameModes e e') (h' : SameModes e e'') : SameModes e (if c then e' else e'') := by
  split
  · exact h
  · exact h'

theorem inService (h : SameModes e e') (k : Nat) : e'.inService k = e.inService k := by
  rw [Eng.inService, Eng.bit, h.rd _ (by decide), ← Eng.bit, ← Eng.inService]

end SameModes

/-! ### A line of capture memory (R261, R264) -/

theorem stackHeld_sameModes (line : Nat) (e : Eng) : SameModes e (stackHeld line e) := by
  have hpower : SameModes e (e.wr (MEM_REF_STAT_PWR (line % 4)) 0) := .wr (.refl e) _
  exact .ite (.refl e) (hpower.trans ⟨rfl, fun _ _ => rfl⟩)

theorem lineStored_sameModes (line : Nat) (e : Eng) : SameModes e (lineStored line e) := by
  have hmc (x : MemSt) : SameModes e { e with mc := x } := ⟨rfl, fun _ _ => rfl⟩
  exact .trans (.ite (.wr (hmc _) _) (hmc _)) (stackHeld_sameModes line _)

theorem emitLine_sameModes (e : Eng) (addr : Nat) (bytes : List Byte) : SameModes e (emitLine e addr bytes) :=
  .trans (.trans (.emit (.refl e) _) (.foldl _ _ (fun a _ => .emit (.refl a) _) _)) (lineStored_sameModes _ _)

/-! ### Marks, the Catalogue and the horizon (R191, R198, R222) -/

theorem catWrite_sameModes (n ts kind pos code line region : Nat) (e : Eng) :
    SameModes e (catWrite n ts kind pos code line region e) := by
  unfold catWrite
  simp only []
  refine .ite (.wr (.refl e) _) ?_
  have hfull (c : Prop) [Decidable c] : SameModes e (if c then (e.addSat (TRIG_CAT_LOST_CNT n) 1).raise (TRIG_SEQ_EVT_CAT_OVF n) else e) :=
    .ite (.raise (.wr (.refl e) _) _) (.refl e)
  exact .ite (hfull _) (.wr (.emit (hfull _) _) _)

theorem rrWrite_sameModes (ctx ts kind pos code line region : Nat) (e : Eng) :
    SameModes e (rrWrite ctx ts kind pos code line region e) :=
  .ite (.wr (.refl e) _) (.ite (.raise (.wr (.wr (.wr (.refl e) _) _) _) _) (.wr (.emit (.refl e) _) _))

theorem catFlush_sameModes (n fuel : Nat) (e : Eng) : SameModes e (catFlush n fuel e) := by
  induction fuel generalizing e with
  | zero => exact .refl e
  | succ fuel ih =>
    unfold catFlush
    split
    · exact .ite (.refl e) (.trans (.trans (.modCx (.refl e) _ _) (catWrite_sameModes _ _ _ _ _ _ _ _)) (ih _))
    · exact .refl e

theorem catGo_sameModes (n : Nat) (e : Eng) : SameModes e (catGo n e) := catFlush_sameModes n _ e

theorem catSettle_sameModes (cat place : Option (Nat × Nat)) (e : Eng) : SameModes e (catSettle cat place e) := by
  unfold catSettle
  split
  · exact .refl e
  · exact .trans (.modCx (.refl e) _ _) (catGo_sameModes _ _)

theorem markLose_sameModes (n r : Nat) (e : Eng) : SameModes e (markLose n r e) := by
  have hlost : SameModes e (((e.modCx n fun c => { c with markBad := setNatBit c.markBad r }).wr (TRIG_SEQ_STAT_MARK_VALID n) 0).raise
      (TRIG_SEQ_EVT_MARK_LOST n)) := .raise (.wr (.modCx (.refl e) _ _) _) _
  exact .ite (hlost.trans (rrWrite_sameModes _ _ _ _ _ _ _ _)) (.ite (hlost.trans (catWrite_sameModes _ _ _ _ _ _ _ _))
    (.trans (.modCx hlost _ _) (catGo_sameModes _ _)))

theorem loseMarks_sameModes (r : Nat) (h : Option Nat) (e : Eng) : SameModes e (loseMarks r h e) :=
  .foldl _ _ (fun a n => .ite (markLose_sameModes n r a) (.refl a)) e

theorem horizonOut_sameModes (n : Nat) (e : Eng) : SameModes e (horizonOut n e) := by
  unfold horizonOut
  split
  · exact .wr (.refl e) _
  · exact .wr (.wr (.wr (.refl e) _) _) _

theorem horizonAdvance_sameModes (n k size : Nat) (e : Eng) : SameModes e (horizonAdvance n k size e) := by
  unfold horizonAdvance
  split
  · exact .ite (.trans (.modRg (loseMarks_sameModes n _ e) _ _) (horizonOut_sameModes n _)) (.refl e)
  · exact .refl e

/-! ### Lines and records (R221, R225) -/

theorem lineLost_sameModes (n : Nat) (e : Eng) : SameModes e (lineLost n e) := .raise (.wr (.refl e) _) _

theorem placeLine_sameModes (n : Nat) (l : LineRec) (e : Eng) : SameModes e (placeLine n l e) := by
  unfold placeLine
  extract_lets w size k e0 e1 e2 e3 e4 e5
  have hstored : SameModes e e2 := .wr ((horizonAdvance_sameModes n k size e).trans (emitLine_sameModes _ _ _)) _
  have hpointers : SameModes e e3 := .ite (.raise (.wr (.wr hstored _) _) _) (.wr hstored _)
  have hcounted : SameModes e e4 := .modRg hpointers _ _
  have htime : SameModes e e5 := .ite (.trans (.modRg hcounted _ _) (horizonOut_sameModes _ _)) hcounted
  exact .ite (.modRg htime _ _) htime

theorem regionFull_sameModes (n start : Nat) (e : Eng) : SameModes e (regionFull n start e) :=
  .raisePost (.wr (placeLine_sameModes _ _ e) _) _ _

theorem protectHit_sameModes (n k size : Nat) (e : Eng) : SameModes e (protectHit n k size e).1 := by
  unfold protectHit
  extract_lets hits fin limit
  split
  · exact .refl e
  · exact .trans (.foldl _ _ (fun a _ => .modCx (.refl a) _ _) e) (freezeNow_modesKept _ _ _ _).same

theorem writeRec_sameModes (n : Nat) (l : LineRec) (cat : Option (Nat × Nat)) (e : Eng) : SameModes e (writeRec n l cat e) := by
  unfold writeRec
  extract_lets size lost p
  have hlost (a : Eng) : SameModes a (lost a) := (lineLost_sameModes n a).trans (catSettle_sameModes _ _ _)
  have hplaced := (placeLine_sameModes n l e).trans (catSettle_sameModes cat
    (some (e.rd (ACC_CREG_GS_SEQ n) + e.rd (ACC_CREG_GS_GEN n) * 2 ^ 24, n)) _)
  exact .ite (hlost e) (.ite ((regionFull_sameModes n _ e).trans (hlost _))
    (.ite ((protectHit_sameModes n _ size e).trans (hlost _)) (hplaced.trans (freezeCheck_modesKept n _).same)))

theorem putRec_sameModes (n : Nat) (l : LineRec) (cat : Option (Nat × Nat)) (e : Eng) : SameModes e (putRec n l cat e) :=
  .ite (writeRec_sameModes n l cat e) (.modRg (.refl e) _ _)

theorem putLine_sameModes (n : Nat) (l : LineRec) (e : Eng) : SameModes e (putLine n l e) := putRec_sameModes n l none e

/-! ### Streams (R207 to R215, R232) -/

theorem flushUnits_sameModes (n t k : Nat) (e : Eng) : SameModes e (flushUnits n t k e) :=
  .trans (.modRg (.refl e) _ _) (putLine_sameModes n _ _)

theorem closeCont_sameModes (n t fin : Nat) (e : Eng) : SameModes e (closeCont n t fin e) := by
  unfold closeCont
  split
  · exact .refl e
  · exact .ite (.modRg (.refl e) _ _) (.modRg (.refl e) _ _)

theorem flushStream_sameModes (n t fin fuel : Nat) (e : Eng) : SameModes e (flushStream n t fin fuel e) := by
  induction fuel generalizing e with
  | zero => exact closeCont_sameModes n t fin e
  | succ fuel ih => exact .ite (closeCont_sameModes n t fin e) ((flushUnits_sameModes n t _ e).trans (ih _))

theorem cutStream_sameModes (n t t0 : Nat) (e : Eng) : SameModes e (cutStream n t t0 e) := by
  unfold cutStream
  extract_lets s tail k e1
  have hcut : SameModes e e1 := by
    unfold e1
    split
    · exact .refl e
    · exact .modRg (.refl e) _ _
  exact .modRg (hcut.trans (flushStream_sameModes n t _ _ e1)) _ _

theorem cutRegion_sameModes (n t0 : Nat) (e : Eng) : SameModes e (cutRegion n t0 e) :=
  .foldl _ _ (fun a t => cutStream_sameModes n t t0 a) e

theorem restartStream_sameModes (n t : Nat) (e : Eng) : SameModes e (restartStream n t e) := .modRg (.refl e) _ _

theorem addUnits_sameModes (n t next : Nat) (ps : List (Nat × Nat)) (e : Eng) : SameModes e (addUnits n t next ps e) := by
  unfold addUnits
  exact .modRg (.refl e) _ _

theorem addTransition_sameModes (n t : Nat) (p : Nat × Nat) (e : Eng) : SameModes e (addTransition n t p e) := by
  unfold addTransition
  exact .modRg (.refl e) _ _

theorem resumeTail_sameModes (n next : Nat) (e : Eng) (t : Nat) : SameModes e (resumeTail n next e t) :=
  .ite (.refl e) (.ite (addUnits_sameModes n t next _ e) (.foldl _ _ (fun a p => addTransition_sameModes n t p a) e))

theorem addCompressed_sameModes (n t : Nat) (p : Nat × Nat) (e : Eng) : SameModes e (addCompressed n t p e) := by
  unfold addCompressed
  extract_lets m s edges openAt extend put
  have hput (c : OpenCont) (a : Eng) : SameModes a (put c a) := .modRg (.refl a) _ _
  split
  · exact hput _ e
  · exact .ite (hput _ e) ((closeCont_sameModes n t _ e).trans (hput _ _))

theorem addWord_sameModes (n t : Nat) (w : SampleWord) (e : Eng) : SameModes e (addWord n t w e) := by
  unfold addWord
  extract_lets e1
  have hform : SameModes e e1 := by
    unfold e1
    split
    · exact addUnits_sameModes n t _ _ e
    · exact .foldl _ _ (fun a p => addTransition_sameModes n t p a) e
    · exact .foldl _ _ (fun a p => addCompressed_sameModes n t p a) e
  exact .ite (.modRg hform _ _) hform

/-! ### Held records and TIME records (R192, R208, R209, R216, R225) -/

theorem putHeld_sameModes (n : Nat) (h : HeldRec) (e : Eng) : SameModes e (putHeld n h e) := by
  unfold putHeld
  split
  · exact putRec_sameModes n _ _ e
  · exact .trans (.modCx (.refl e) _ _) (putRec_sameModes n _ _ _)

theorem releaseWhile_sameModes (n : Nat) (p : Eng → HeldRec → Bool) (fuel : Nat) (e : Eng) : SameModes e (releaseWhile n p fuel e) := by
  induction fuel generalizing e with
  | zero => exact .refl e
  | succ fuel ih =>
    unfold releaseWhile
    split
    · exact .ite (.trans (.trans (.modRg (.refl e) _ _) (putHeld_sameModes n _ _)) (ih _)) (.refl e)
    · exact .refl e

theorem writeTime_sameModes (n ts cause : Nat) (e : Eng) : SameModes e (writeTime n ts cause e) := by
  unfold writeTime
  extract_lets ends e1 e2
  have hcut : SameModes e e1 := (cutRegion_sameModes n ts e).trans (releaseWhile_sameModes n _ _ _)
  have hrecord : SameModes e e2 := .modRg (hcut.trans (putLine_sameModes n _ _)) _ _
  exact hrecord.trans (.foldl _ _ (fun a t => (restartStream_sameModes n t a).trans (resumeTail_sameModes n _ _ t)) _)

theorem loseOpen_sameModes (n : Nat) (e : Eng) : SameModes e (loseOpen n e) := by
  unfold loseOpen
  extract_lets e1 e2
  have hlost (k : Nat) (a : Eng) : SameModes a (k.repeat (lineLost n) a) := .rept _ k (lineLost_sameModes n) a
  have hstreams : SameModes e e1 := .foldl _ _ (fun a t => (hlost _ a).trans (closeCont_sameModes n t _ _)) e
  refine .modRg ((hstreams.trans (hlost _ _)).trans (.foldl _ _ (fun a o => ?_) _)) _ _
  cases o with
  | line l cat => exact catSettle_sameModes cat none a
  | cont s edges => exact .refl a

theorem releaseFrozen_sameModes (n ts : Nat) (e : Eng) : SameModes e (releaseFrozen n ts e) := by
  unfold releaseFrozen
  split
  · exact .refl e
  · exact .trans (.modRg (loseOpen_sameModes n e) _ _) (putLine_sameModes n _ _)

/-! ### Accession takes in the items (R208, R22, R118) -/

theorem regionTakes_sameModes (n t : Nat) (w : SampleWord) (e : Eng) : SameModes e (regionTakes n t w e) := by
  unfold regionTakes
  extract_lets shut released e1
  have hreleased : SameModes e released := releaseFrozen_sameModes n w.stamp e
  have hdue : SameModes e e1 := by
    unfold e1
    split
    · exact .refl e
    · split
      · exact hreleased.trans (writeTime_sameModes n _ _ _)
      · exact hreleased
  exact .modRg (hdue.trans (addWord_sameModes n t w _)) _ _

theorem ebFree_sameModes (t : Nat) (e : Eng) : SameModes e (ebFree t e) := .wr (.wr (.wr (.modEla (.refl e) _ _) _) _) _

theorem takeWord_sameModes {e e' : Eng} (h : takeWord e = some e') : SameModes e e' := by
  unfold takeWord at h
  split at h
  · cases h
  · next t w _ =>
    extract_lets ns at h
    split at h
    · cases h
    · cases h
      exact .trans (.modEla (.foldl _ _ (fun a n => regionTakes_sameModes n t w a) e) _ _) (ebFree_sameModes t _)

theorem takeWords_sameModes (stop : Eng → Bool) (fuel : Nat) (e : Eng) : SameModes e (takeWords stop fuel e) := by
  induction fuel generalizing e with
  | zero => exact .refl e
  | succ fuel ih =>
    unfold takeWords
    refine .ite (.refl e) ?_
    split
    · exact .refl e
    · next e2 h => exact (takeWord_sameModes h).trans (ih e2)

theorem passItem_sameModes (t fin : Nat) (e : Eng) : SameModes e (passItem t fin e) :=
  .trans (.modEla (.refl e) _ _) (ebFree_sameModes t _)

theorem putTileRecord_sameModes (n t start : Nat) (l : LineRec) (e : Eng) : SameModes e (putTileRecord n t start l e) :=
  ((cutStream_sameModes n t start e).trans (putLine_sameModes n l _)).trans (restartStream_sameModes n t _)

theorem gapRecord_sameModes (t start fin cause words : Nat) (e : Eng) : SameModes e (gapRecord t start fin cause words e) :=
  .foldl _ _ (fun a n => putTileRecord_sameModes n t start _ a) e

theorem releaseReady_sameModes (e : Eng) : SameModes e (releaseReady e) :=
  .foldl _ _ (fun a n => .ite (.refl a) (releaseWhile_sameModes n _ _ a)) e

theorem elasticGap_sameModes (t : Nat) (e : Eng) : SameModes e (elasticGap t e) := by
  unfold elasticGap
  refine .ite (.refl e) ?_
  split
  · next a b k _ =>
    exact .trans (.trans (.wr (.wr (gapRecord_sameModes t a b 0 k e) _) _) (passItem_sameModes t b _)) (releaseReady_sameModes _)
  · exact .refl e

theorem unlockRecord_sameModes (t : Nat) (e : Eng) : SameModes e (unlockRecord t e) := by
  unfold unlockRecord
  refine .ite (.refl e) ?_
  split
  · next a b q l _ =>
    exact .trans (.trans (.foldl _ _ (fun x n => putTileRecord_sameModes n t a _ x) e) (passItem_sameModes t b _))
      (releaseReady_sameModes _)
  · exact .refl e

theorem takeHeads_sameModes (e : Eng) : SameModes e (takeHeads e) := by
  refine .foldl _ _ (fun a t => ?_) e
  split
  · exact elasticGap_sameModes t a
  · exact unlockRecord_sameModes t a
  · exact .refl a

theorem drainAll_sameModes (fuel : Nat) (e : Eng) : SameModes e (drainAll fuel e) := by
  induction fuel generalizing e with
  | zero => exact .refl e
  | succ fuel ih =>
    exact .ite (.refl e) (.trans (.trans (takeWords_sameModes _ _ e) (takeHeads_sameModes _)) (ih _))

theorem drainNow_sameModes (e : Eng) : SameModes e (drainNow e) := (drainAll_sameModes _ e).trans (releaseReady_sameModes _)

end Machine
end Sys2Proof
end

section
/-!
SUPPORT. What TILE_SERVICE_EXIT does outside acquisition, and that a tile out of service does not leave it (R51, R52, R508).
-/
namespace Sys2Proof
namespace Machine

/-! ### TILE_SERVICE_EXIT (R51, R52, R508) -/

/-- A tile that is not in service does not leave it: what Accession takes in first puts no tile into service. -/
theorem tileServiceExit_outOfService {e : Eng} {k : Nat} (v : Nat) (hact : e.inService k = false) : tileServiceExit k v e = e := by
  refine tileServiceExit_none v ?_
  split
  · exact ((drainNow_sameModes e).inService k).trans hact
  · exact hact

/-- The ACT bit of a tile goes, and its wish to leave with it. -/
def actCleared (k : Nat) (e : Eng) : Eng :=
  { e with md := { e.md with leaving := clrNatBit e.md.leaving k } }.wrBit GLB_TILE_SVC_STAT_ACT k false

/-- The tick on which a tile's service began is forgotten. -/
def startForgotten (k : Nat) (e : Eng) : Eng := { e with md := { e.md with svcStart := putAt e.md.svcStart (k % 15) none none } }

/-- Outside acquisition a tile that may leave service leaves it at TS64, and its Ledger entry is posted (R52, R508). -/
theorem tileServiceExit_leaves {e : Eng} {k u : Nat} (v : Nat) (hk : k < 15) (hacq : e.inAcq = false)
    (hleave : natBit e.md.leaving k = true) (hact : e.inService k = true) (hent : natBit e.md.entering k = false)
    (hload : e.on CFG_TILE_STAT_BUSY = false) (hstart : e.md.svcStart.getD k none = some u) :
    tileServiceExit k v e = scanRecheck (powerCheck ((startForgotten k
      (if 8 ≤ k ∧ k < 12 then ctxLeave (k - 8) e.ts (actCleared k e) else actCleared k e)).postCur 0x20 0
        ([BitVec.ofNat 8 k] ++ leBytes 8 u ++ leBytes 8 (prevTick e.ts)))) := by
  have hready : exitReadyAt e k v = true := by simp [exitReadyAt, hacq]
  have htick : svcTick e k v = e.ts := by simp [svcTick, hacq]
  unfold tileServiceExit
  simp only [hacq, hleave, hact, hent, hready, hload, htick, Nat.mod_eq_of_lt hk, hstart, Bool.false_eq_true, false_and, if_false,
    Bool.not_true, or_self, Option.getD_some]
  rw [startForgotten, Nat.mod_eq_of_lt hk]
  rfl

theorem ctxLeave_modesKept (n v : Nat) {e : Eng} (hacq : e.inAcq = false) : ModesKept e (ctxLeave n v e) := by
  rw [ctxLeave, if_neg (ne_true_of_eq_false hacq)]
  exact .ite (.refl e) (resetCtx_modesKept n e)

theorem ctxLeave_ldg (n v : Nat) {e : Eng} (hacq : e.inAcq = false) : (ctxLeave n v e).ldg = e.ldg := by
  rw [ctxLeave, if_neg (ne_true_of_eq_false hacq)]
  split
  · rfl
  · exact resetCtx_ldg n e

theorem actCleared_inAcq (k : Nat) (e : Eng) : (actCleared k e).inAcq = e.inAcq := by
  rw [Eng.inAcq, Eng.mode, actCleared, wrBit_eq, Eng.rd_wr_other _ _ (by decide)]
  rfl

/-- The tile has left: neither its ACT bit nor its wish to leave is set, no memory is written, and the Ledger queue is as it was. -/
theorem leftService {e : Eng} {k : Nat} (hk : k < 15) (hacq : e.inAcq = false) :
    let left := startForgotten k (if 8 ≤ k ∧ k < 12 then ctxLeave (k - 8) e.ts (actCleared k e) else actCleared k e)
    left.inService k = false ∧ natBit left.md.leaving k = false ∧ left.wq = e.wq ∧ left.ldg = e.ldg := by
  have hacq' : (actCleared k e).inAcq = false := (actCleared_inAcq k e).trans hacq
  have hact : (actCleared k e).inService k = false := wrBit_bit _ false hk
  have hleave : natBit (actCleared k e).md.leaving k = false := natBit_clrNatBit _ _
  intro left
  unfold left startForgotten
  split
  · have hctx := ctxLeave_modesKept (k - 8) e.ts hacq'
    exact ⟨(hctx.inService k).trans hact, (congrArg (fun m => natBit m.leaving k) hctx.md).trans hleave, hctx.wq,
      ctxLeave_ldg (k - 8) e.ts hacq'⟩
  · exact ⟨hact, hleave, rfl, rfl⟩

theorem postCur_modesKept (code sev : Nat) (d : List Byte) (e : Eng) : ModesKept e (e.postCur code sev d) := by
  refine .of_hush (postCur_hush e code sev d) (fun _ hg => postCur_rd e code sev d (still_of_mode hg)) fun c hc => ?_
  unfold Eng.postCur Eng.post
  extract_lets new
  split
  · exact mem_raiseAt _ _ _ _ (mem_ldgPush new hc)
  · exact mem_ldgPush new hc

/-- TILE_SERVICE_EXIT outside acquisition. -/
theorem tileServiceExit_completes (s : State) {k u : Nat} (v : Nat) (hup : s.up) (hk : k < 15) (hacq : s.eng.inAcq = false) (hinv : Inv s)
    (hleave : natBit s.eng.md.leaving k = true) (hact : s.eng.inService k = true) (hent : natBit s.eng.md.entering k = false)
    (hload : s.rd CFG_TILE_STAT_BUSY = 0) (hstart : s.eng.md.svcStart.getD k none = some u) (hroom : s.eng.ldg.queue.length < 256) :
    Completes (.tileServiceExit k v) s fun t => t.eng.inService k = false ∧ natBit t.eng.md.leaving k = false ∧ t.mem = s.mem ∧
      ∃ c ∈ t.eng.ldg.queue, c.cause = 6 * 2 ^ 29 + 0x20 ∧
        c.data = [BitVec.ofNat 8 k] ++ leBytes 8 u ++ leBytes 8 (prevTick s.eng.ts) := by
  have hexec : execTileServiceExit k v s = _ := onMem_up s (fun e _ => tileServiceExit k v e) hup
  have hstep := tileServiceExit_leaves v hk hacq hleave hact hent (bne_eq_false_iff_eq.2 hload) hstart
  obtain ⟨hact', hleave', hwq, hldg⟩ := leftService (e := s.eng) hk hacq
  generalize startForgotten k _ = left at hstep hact' hleave' hwq hldg
  generalize hd : [BitVec.ofNat 8 k] ++ leBytes 8 u ++ leBytes 8 (prevTick s.eng.ts) = d at hstep ⊢
  obtain ⟨c, hc, hcause, hdata⟩ := mem_post (e := left) (6 * 2 ^ 29 + 0x20) 0 d (by rwa [hldg])
  have hend : ModesKept (left.postCur 0x20 0 d) (tileServiceExit k v s.eng) := by
    rw [hstep]
    exact (powerCheck_modesKept _).trans (scanRecheck_modesKept _)
  have hkept : ModesKept left (tileServiceExit k v s.eng) := (postCur_modesKept 0x20 0 d left).trans hend
  refine ⟨_, hexec, rfl, (hkept.inService k).trans hact', (congrArg (fun m => natBit m.leaving k) hkept.md).trans hleave', ?_,
    c, hend.posted c hc, hcause, hdata⟩
  show s.mem.applyAll (tileServiceExit k v s.eng).wq = s.mem
  rw [hkept.wq, hwq, hinv.2]
  rfl

end Machine
end Sys2Proof
end

section
/-!
SUPPORT. What a write of GLB_MODE whose request is rejected does (R41, R42).
-/
namespace Sys2Proof
namespace Machine

/-- The engine after a write of GLB_MODE with a permitted MODE. -/
def modeWritten (mode : Nat) (dbl : Bool) (e : Eng) : Eng := (e.wrb GLB_MODE_DOUBLE dbl).wr GLB_MODE_MODE mode

theorem modeWritten_rd (mode : Nat) (dbl : Bool) (e : Eng) {g : Fld} (hdouble : GLB_MODE_DOUBLE.key ≠ g.key)
    (hmode : GLB_MODE_MODE.key ≠ g.key) : (modeWritten mode dbl e).rd g = e.rd g :=
  (Eng.rd_wr_other _ _ hmode).trans (Eng.rd_wr_other _ _ hdouble)

/-- The conditions of R41 read neither field of GLB_MODE. -/
theorem modeWritten_modeCheck (mode : Nat) (dbl : Bool) (e : Eng) (target : Nat) :
    modeCheck (modeWritten mode dbl e) target = modeCheck e target := by
  have hbeyond {g : Fld} (hg : 8 * 0x104 ≤ g.key) : (modeWritten mode dbl e).rd g = e.rd g :=
    have hkeys : GLB_MODE_DOUBLE.key < 8 * 0x104 ∧ GLB_MODE_MODE.key < 8 * 0x104 := by decide
    modeWritten_rd mode dbl e (by omega) (by omega)
  have hport (p : Nat) : (modeWritten mode dbl e).rd (POD_STAT_PRSNT p) = e.rd (POD_STAT_PRSNT p) :=
    hbeyond (by simp only [POD_STAT_PRSNT, fld]; omega)
  have hkind (n : Nat) : (modeWritten mode dbl e).rd (ACC_CREG_CFG_KIND n) = e.rd (ACC_CREG_CFG_KIND n) :=
    hbeyond (by simp only [ACC_CREG_CFG_KIND, fld]; omega)
  have hform (n : Nat) : (modeWritten mode dbl e).rd (ACC_CREG_CFG_FORM n) = e.rd (ACC_CREG_CFG_FORM n) :=
    hbeyond (by simp only [ACC_CREG_CFG_FORM, fld]; omega)
  simp (disch := decide) only [modeCheck, securityPermits, Eng.inAcq, Eng.mode, Eng.inService, Eng.bit, Eng.on, regionKind, regionForm,
    hport, hkind, hform, hbeyond]
  rfl

theorem modeCheck_lt {e : Eng} {target c : Nat} (h : modeCheck e target = some c) : c < 16 := by
  unfold modeCheck at h
  extract_lets m acq at h
  repeat' split at h
  all_goals cases h
  all_goals decide

/-- A request that fails a condition of R41 is rejected with its number, where REJ holds a value of its width (R42). -/
theorem modeRequest_rejected (s : State) (master : Nat) {mode c : Nat} (dbl : Bool) (stop : Nat) (hup : s.up) (hmode : mode < 6)
    (hother : ¬(mode = s.rd GLB_MODE_STAT_CUR ∧ s.rd GLB_MODE_STAT_BUSY = 0))
    (hheld : ¬(OpMode.acq (.ofCode mode) = true ∧ s.rd PWR_STRT_FILL_DONE = 0 ∧ s.rd GLB_MODE_STAT_BUSY = 0))
    (hcheck : modeCheck s.eng mode = some c) (hrej : s.rd GLB_MODE_STAT_REJ < 2) (hwq : s.eng.wq = []) :
    Completes (.modeRequest master mode dbl stop) s fun t =>
      t.rd GLB_MODE_STAT_REJ_CODE = c ∧ t.rd GLB_MODE_STAT_REJ = 1 ∧ t.rd GLB_MODE_MODE = mode ∧
      t.rd GLB_MODE_STAT_CUR = s.rd GLB_MODE_STAT_CUR ∧ t.eng.hush = s.eng.hush ∧
      Kept [GLB_MODE_STAT_REJ_CODE.key, GLB_MODE_STAT_REJ.key, GLB_MODE_MODE.key, GLB_MODE_DOUBLE.key] s t := by
  have hrd {g : Fld} := modeWritten_rd mode dbl s.eng (g := g)
  have hcur : (modeWritten mode dbl s.eng).rd GLB_MODE_STAT_CUR = s.rd GLB_MODE_STAT_CUR := hrd (by decide) (by decide)
  have hbusy : (modeWritten mode dbl s.eng).rd GLB_MODE_STAT_BUSY = s.rd GLB_MODE_STAT_BUSY := hrd (by decide) (by decide)
  have hfill : (modeWritten mode dbl s.eng).rd PWR_STRT_FILL_DONE = s.rd PWR_STRT_FILL_DONE := hrd (by decide) (by decide)
  have hrequest : modeRequest mode dbl stop (modeWritten mode dbl s.eng) = modeReject c (modeWritten mode dbl s.eng) := by
    unfold modeRequest
    rw [if_neg, if_neg, modeWritten_modeCheck, hcheck]
    · simpa [Eng.on, hfill, hbusy] using hheld
    · simpa [Eng.on, hcur, hbusy] using hother
  have hexec : execModeRequest master mode dbl stop s = .next { s with eng := { modeReject c (modeWritten mode dbl s.eng) with wq := [] } } := by
    rw [execModeRequest, onEng_up s _ hup, ← hrequest]
    simp only [Eng.wrEnc, hmode, if_true, decide_true]
    rfl
  have hstill : Still GLB_MODE_STAT_REJ := still_of_lt (by decide)
  refine ⟨_, hexec, rfl, ?_, raise_reads_one _ rfl hstill ?_, ?_, ?_, ?_, rfl, fun g hg => ?_⟩
  · exact (raise_rd _ _ _ (by decide) (still_of_lt (by decide))).trans ((Eng.rd_wr _ _ _).trans (Nat.mod_eq_of_lt (modeCheck_lt hcheck)))
  · rw [Eng.rd_wr_other _ _ (by decide), hrd (by decide) (by decide)]
    exact hrej
  · refine (raise_rd _ _ _ (by decide) (still_of_lt (by decide))).trans ((Eng.rd_wr_other _ _ (by decide)).trans ?_)
    exact (Eng.rd_wr _ _ _).trans (Nat.mod_eq_of_lt (by simp only [GLB_MODE_MODE, fld]; omega))
  · exact (raise_rd _ _ _ (by decide) (still_of_lt (by decide))).trans
      ((Eng.rd_wr_other _ _ (by decide)).trans hcur)
  · have hreport : (modeReject c (modeWritten mode dbl s.eng)).hush = s.eng.hush := raise_hush _ _ _
    show { (modeReject c (modeWritten mode dbl s.eng)).hush with wq := [] } = s.eng.hush
    rw [hreport, ← hwq]
    rfl
  · simp only [List.mem_append, List.mem_cons, List.not_mem_nil, or_false, not_or] at hg
    obtain ⟨⟨hcode, hrejKey, hmodeKey, hdouble⟩, hs⟩ := hg
    exact (raise_rd _ _ _ (Ne.symm hrejKey) hs).trans ((Eng.rd_wr_other _ _ (Ne.symm hcode)).trans (hrd (Ne.symm hdouble) (Ne.symm hmodeKey)))

end Machine
end Sys2Proof
end

section
/-!
SUPPORT. The states that refute O38, O39 and O42.
-/
namespace Sys2Proof
namespace Machine

/-! ### MODE_REQUEST (R42) -/

/-- Memory is filled, and GLB_MODE_STAT.REJ, a field of one bit, holds 3. -/
def rejWide : State := { eng := { regs := [(GLB_MODE_STAT_REJ.key, 3), (PWR_STRT_FILL_DONE.key, 1)] } }

/-- An image is applied, memory is trained and filled, a pod is present and region 0 takes samples; SPLL has no values within its
limits, and GLB_MODE_STAT.REJ, a field of one bit, holds 3. -/
def unlockableWide : State :=
  { eng := { regs := [(GLB_MODE_STAT_REJ.key, 3), ((POD_STAT_PRSNT 0).key, 1), ((ACC_CREG_CFG_KIND 0).key, 1),
      (MEM_TRN_STAT_INIT_DONE.key, 1), (CFG_STATUS_STATE.key, 2), (PWR_STRT_FILL_DONE.key, 1)] } }

/-! ### KEPT_LINE_COPY (R56) -/

/-- A window of ring 0 whose WINDOW line stands in KEPT region 1. -/
def begunWindow : Window :=
  { nstart := 0, start := 0, fin := 100, hit := 50, hits := 1, pre := 50, post := 50, mx := 1, dest := 1, cont := false,
    begun := some (1, 0, 0) }

/-- That window is being copied. The ring's one line is flagged at position 0, whose rank is one event short of RET_THR in a stack with no
spare; Curator executes, and the older copy of the state record in the Vault holds a byte. -/
def copyBeforeRetirement : State :=
  { eng :=
      { regs := [((CLK_LOOP_STAT_STATE 5).key, 2), ((ACC_CREG_CFG_KIND 0).key, 1), ((ACC_CREG_SIZE_LINES 0).key, 4),
          ((ACC_CREG_POS_WPTR 0).key, 1), ((ACC_CREG_CFG_KIND 1).key, 3), ((ACC_CREG_BASE_LINE 1).key, 4),
          ((ACC_CREG_SIZE_LINES 1).key, 4), ((ACC_CREG_POS_WPTR 1).key, 1), ((MEM_STK_MAP_LO_RANK 0).key, 0x76543210),
          ((MEM_STK_MAP_HI_RANK 0).key, 0x98), ((MEM_RANK_STAT_SCORE 0 0).key, 255), (CUR_STAT_RUN.key, 1), (PWR_STRT_FILL_DONE.key, 1)]
        mc := { dmg := [⟨0, 0, 1⟩] }
        rg := [{ lines := 1 }]
        kr := [{ wins := [begunWindow] }] }
    mem := { cap := [(0, 1), (15, 4)], vlt := [(0x3D00000, 1)] } }

end Machine
end Sys2Proof
end

section
/-!
SUPPORT. The obligations O38 to O42.
-/
open Sys2Proof Sys2Proof.Machine

/-- Refutes O38: nothing bounds the value that a one-bit field holds. Where GLB_MODE_STAT.REJ holds 3, a value that `Eng.wr` never stores,
its bit counts as set, so the rejected request leaves the field at 3 and not at 1. `modeRequest_rejected` proves what a rejected request
does with the bound that the statement lacks. -/
theorem not_rejectedModeRequestChangesNothingElse : ¬ Obligations.RejectedModeRequestChangesNothingElse := by
  unfold Obligations.RejectedModeRequestChangesNothingElse
  intro h
  obtain ⟨hreject, -, -⟩ := h
  obtain ⟨t, hexec, -, -, hone, -⟩ := hreject rejWide 0 1 false 0 1 rfl ⟨by decide, rfl⟩ (by decide) (by decide) (by decide)
    (.inl ⟨rfl, by decide, by decide⟩) (by simp)
  have hthree : outcomeHas (.modeRequest 0 1 false 0) rejWide (fun t => t.rd GLB_MODE_STAT_REJ == 3) = true := by decide +kernel
  rw [outcomeHas_next _ hexec, hone] at hthree
  exact absurd hthree (by decide)

/-- Refutes O39: nothing bounds the value that a one-bit field holds. The loop that a request for acquisition starts has no values within
its limits, so the request ends with code 3 (R43, R122) and its transition is over; where GLB_MODE_STAT.REJ holds 3, a value that `Eng.wr`
never stores, its bit counts as set, and the field stays 3, not 1. -/
theorem not_modeTransitionsRun : ¬ Obligations.ModeTransitionsRun := by
  unfold Obligations.ModeTransitionsRun
  intro h
  obtain ⟨hrequest, -⟩ := h unlockableWide rfl
  obtain ⟨-, -, haccepted⟩ := hrequest 0 1 false 0 (by decide)
  obtain ⟨-, -, -, hclocks⟩ := haccepted (by decide) (by decide +kernel) (by decide)
  obtain ⟨t, hexec, -, -, -, hbusy⟩ := hclocks (by decide) (by decide) (by decide) (by decide) rfl
  have hthree : outcomeHas (.modeRequest 0 1 false 0) unlockableWide
      (fun t => t.rd GLB_MODE_STAT_BUSY == 0 && t.rd GLB_MODE_STAT_REJ == 3) = true := by decide +kernel
  rw [outcomeHas_next _ hexec] at hthree
  obtain ⟨hone, -⟩ | ⟨-, -, hone⟩ := hbusy
  · simp [hone] at hthree
  · simp [hone] at hthree

/-- Settles O40: with the tile's bit set, the write of GLB_TILE_SVC is refused (`tileSvcRequest_refused`) in each of the cases in which
the row of the compressor or of the memory plan does not accept entry. -/
theorem refusedTileServiceSetsRej : Obligations.RefusedTileServiceSetsRej := by
  unfold Obligations.RefusedTileServiceSetsRej
  intro s req k hup hbusy hwant hact hent hrow
  obtain ⟨rfl, hcompress⟩ | ⟨rfl, hplan⟩ := hrow
  · exact tileSvcRequest_refused s hup hbusy (by decide) hwant hact hent (svcAccepts_compressor hcompress)
  · exact tileSvcRequest_refused s hup hbusy (by decide) hwant hact hent (svcAccepts_memoryPlan hplan)

/-- Settles O41: a write of GLB_TILE_SVC waits (`tileSvcRequest_held`) or is accepted (`tileSvcRequest_accepted`), and entry and exit
either complete outside acquisition (`tileServiceEntry_completes`, `tileServiceExit_completes`) or find the tile not on its way and leave
the engine as it is (`tileServiceEntry_none`, `tileServiceExit_outOfService`). -/
theorem tileServiceBeginsAndEnds : Obligations.TileServiceBeginsAndEnds := by
  unfold Obligations.TileServiceBeginsAndEnds
  intro s hup
  refine ⟨fun req hbusy => tileSvcRequest_held s req hup hbusy, ?_, ?_, ?_, ?_⟩
  · intro req k hbusy hk hcmp hplan hwant hact hent
    exact tileSvcRequest_accepted s hup hbusy hk hwant hact hent (svcAccepts_other s.eng hcmp hplan)
  · intro k u hk hacq hinv
    refine ⟨fun hent => ?_, fun hent => onMem_idle s _ hup hinv (tileServiceEntry_none u hacq hent)⟩
    obtain ⟨t, hexec, hpending, hact, hentered, hstart, hmem⟩ := tileServiceEntry_completes s u hup hk hacq hinv hent
    exact ⟨t, hexec, hpending, hact, hentered, fun _ => hstart, fun _ => hmem⟩
  · intro k v u hk hacq hinv hleave hact hent hload hstart hroom
    exact tileServiceExit_completes s v hup hk hacq hinv hleave hact hent hload hstart (by omega)
  · intro k v hk hact hinv
    exact onMem_idle s _ hup hinv (tileServiceExit_outOfService v hact)

/-- Refutes O42: KEPT_LINE_COPY may write the Vault. The line that it reads returns FLAGGED, which takes its rank's score to RET_THR
(R270, R271); the rank is retired with no spare left (R273), and Curator writes the rank map into the older copy of the state record in the
Vault (R255, R402), where the statement has the Vault unchanged. -/
theorem not_regionsKeepSealAndClear : ¬ Obligations.RegionsKeepSealAndClear := by
  unfold Obligations.RegionsKeepSealAndClear
  intro h
  have hinv : Inv copyBeforeRetirement := ⟨by decide, rfl⟩
  have hquiet : copyBeforeRetirement.quiet := ⟨rfl, rfl, rfl, rfl, ⟨rfl, rfl⟩, rfl⟩
  obtain ⟨hwindow, -⟩ := h copyBeforeRetirement rfl
  obtain ⟨hcopy, -⟩ := hwindow 0 begunWindow hquiet hinv rfl (by decide) (.inl rfl) (by decide +kernel) (by decide +kernel)
  obtain ⟨t, hexec, -, -, -, -, -, -, hvlt, -⟩ := hcopy 0
    (readLineAt copyBeforeRetirement.eng copyBeforeRetirement.mem 0 0) (by decide +kernel) (by decide +kernel)
  have hcleared : outcomeHas (.keptLineCopy 0) copyBeforeRetirement (fun t => t.mem.vlt.isEmpty) = true := by decide +kernel
  rw [outcomeHas_next _ hexec, hvlt] at hcleared
  exact absurd hcleared (by decide)

end

section
/-!
SUPPORT. The eye scan (R81 to R85): what its end, its start and its result write and leave alone, and the bytes that a write of memory
puts where they are read.
-/
namespace Sys2Proof
namespace Machine

/-! ### Reading the bytes that were written -/

theorem memRead_eq_map (m : Mem) (a n : Nat) : memRead m a n = (List.range n).map fun i => memGet m (a + i) := by
  induction n generalizing a with
  | zero => rfl
  | succ n ih =>
    rw [memRead, ih, List.range_succ_eq_map, List.map_cons, List.map_map]
    refine congrArg _ (List.map_congr_left fun i _ => congrArg _ ?_)
    simp only [Nat.succ_eq_add_one]
    omega

/-- Bytes read where they were written are the bytes written. -/
theorem memRead_write (m : Mem) (a : Nat) (bs : List Byte) : memRead (memWrite m a bs) a bs.length = bs := by
  rw [memRead_eq_map]
  refine List.ext_getElem (by simp) fun i hi hbs => ?_
  rw [List.getElem_map, List.getElem_range, memGet_write, if_pos (by omega), Nat.add_sub_cancel_left, List.getD_eq_getElem _ _ hbs]

theorem memGet_write_outside (m : Mem) {a x : Nat} (bs : List Byte) (h : x < a ∨ a + bs.length ≤ x) :
    memGet (memWrite m a bs) x = memGet m x := by
  rw [memGet_write, if_neg (by omega)]

theorem applyAll_scr (m : Mems) (a : Nat) (bs : List Byte) : (m.applyAll [.scr a bs]).scr = memWrite m.scr a bs := rfl

theorem leBytes_length (n x : Nat) : (leBytes n x).length = n := by
  induction n generalizing x with
  | zero => rfl
  | succ n ih => rw [leBytes, List.length_cons, ih]

/-- Two bytes for each of `m` rows of `n` counts. -/
theorem countBytes_length (m n : Nat) (count : Nat → Nat → Nat) :
    ((List.range m).flatMap fun i => (List.range n).flatMap fun j => leBytes 2 (count i j)).length = m * (n * 2) := by
  simp [List.length_flatMap, leBytes_length]

/-- The header of 32 bytes, then 256 rows of 64 counts (R84). -/
theorem scanBlock_length (sc : ScanSt) (gen : Nat) (p : Proposal) (count : Nat → Nat → Nat) :
    (scanBlock sc gen p count).length = 32800 := by
  unfold scanBlock
  simp only [List.length_append, leBytes_length, countBytes_length]

/-! ### How a command without memory writes answers -/

/-- A command whose function leaves the engine as it is changes nothing. -/
theorem onEng_idle (s : State) (f : Eng → Eng) (hup : s.up) (hf : f s.eng = s.eng) :
    ∃ t, onEng s f = .next t ∧ t.pending = s.pending ∧ Only [] s t := by
  refine ⟨_, onEng_up s f hup, rfl, rfl, ?_, fun g _ => ?_⟩
  · rw [hf]
    rfl
  · show (f s.eng).rd g = s.eng.rd g
    rw [hf]

/-- Memory stays, and so does every field that the engine's function keeps. -/
theorem kept_withEng {s : State} {e : Eng} {ks : List Nat} (h : ∀ g : Fld, g.key ∉ ks → Still g → e.rd g = s.eng.rd g) :
    Kept ks s { s with eng := { e with wq := [] } } := by
  refine ⟨rfl, fun g hg => ?_⟩
  rw [List.mem_append, not_or] at hg
  exact h g hg.1 hg.2

/-! ### The end of a scan (R83) -/

/-- The status fields of the eye scan. -/
def scanKeys : List Nat := [FE_ES_STAT_ERR.key, FE_ES_STAT_BUSY.key, FE_ES_STAT_VALID.key, FE_ES_STAT_GEN.key]

/-- Between two states of the engine a scan has ended early with the code `err`. -/
structure ScanEnded (err : Nat) (e e' : Eng) : Prop where
  err : e'.rd FE_ES_STAT_ERR = err
  busy : e'.rd FE_ES_STAT_BUSY = 0
  valid : e'.rd FE_ES_STAT_VALID = 0
  gen : e'.rd FE_ES_STAT_GEN = (e.rd FE_ES_STAT_GEN + 1) % 65536
  scan : e'.fe.scan = none
  rd : ∀ g : Fld, g.key ∉ scanKeys → Still g → e'.rd g = e.rd g

theorem scanVector_rd (c : Nat) (e : Eng) {g : Fld} (h : Still g) : (scanVector c e).rd g = e.rd g := irqMessage_rd _ e h

theorem scanVector_hush (c : Nat) (e : Eng) : (scanVector c e).hush = e.hush := irqMessage_hush _ e

theorem scanVector_fe (c : Nat) (e : Eng) : (scanVector c e).fe = e.fe := by
  have hfe := congrArg Eng.fe (scanVector_hush c e)
  exact hfe

theorem scanVector_wq (c : Nat) (e : Eng) : (scanVector c e).wq = e.wq := by
  have hwq := congrArg Eng.wq (scanVector_hush c e)
  exact hwq

/-- Below the Accession block a report changes nothing. -/
theorem still_of_below {g : Fld} (h : g.key < 8 * 0x708000) : Still g := fun hk => absurd (reportKeys_range g.key hk) (not_le.2 h)

theorem scanEnd_none (err : Nat) {e : Eng} (h : e.fe.scan = none) : scanEnd err e = e := by
  unfold scanEnd
  rw [h]

theorem scanEnd_some {err : Nat} (herr : err < 8) {e : Eng} {sc : ScanSt} (h : e.fe.scan = some sc) : ScanEnded err e (scanEnd err e) := by
  unfold scanEnd
  rw [h]
  constructor
  case err =>
    rw [scanVector_rd _ _ (still_of_below (by decide)), addWrap_eq, Eng.rd_wr_other _ _ (by decide), Eng.rd_wr]
    exact Nat.mod_eq_of_lt herr
  case busy =>
    rw [scanVector_rd _ _ (still_of_below (by decide)), addWrap_eq, Eng.rd_wr_other _ _ (by decide), Eng.rd_wr_other _ _ (by decide),
      Eng.rd_wr_other _ _ (by decide), Eng.rd_wr, Nat.zero_mod]
  case valid =>
    rw [scanVector_rd _ _ (still_of_below (by decide)), addWrap_eq, Eng.rd_wr_other _ _ (by decide), Eng.rd_wr_other _ _ (by decide),
      Eng.rd_wr, Nat.zero_mod]
  case gen =>
    rw [scanVector_rd _ _ (still_of_below (by decide)), addWrap_eq, Eng.rd_wr, Eng.rd_wr_other _ _ (by decide),
      Eng.rd_wr_other _ _ (by decide), Eng.rd_wr_other _ _ (by decide), Eng.rd_with_fe]
    rfl
  case scan => rw [scanVector_fe]; rfl
  case rd =>
    intro g hg hs
    have ne {f : Fld} (hf : f.key ∈ scanKeys) (a : Eng) (v : Nat) : (a.wr f v).rd g = a.rd g := Eng.rd_wr_other a v (key_ne_of_mem hg hf)
    rw [scanVector_rd _ _ hs, addWrap_eq, ne (by simp [scanKeys]), ne (by simp [scanKeys]), ne (by simp [scanKeys]),
      ne (by simp [scanKeys]), Eng.rd_with_fe]

/-- The scan was begun from an engine that differs in the fields of the scan alone. -/
theorem ScanEnded.of_begun {err : Nat} {e e1 e' : Eng} (h : ScanEnded err e1 e') (hgen : e1.rd FE_ES_STAT_GEN = e.rd FE_ES_STAT_GEN)
    (hrd : ∀ g : Fld, g.key ∉ scanKeys → e1.rd g = e.rd g) : ScanEnded err e e' :=
  ⟨h.err, h.busy, h.valid, hgen ▸ h.gen, h.scan, fun g hg hs => (h.rd g hg hs).trans (hrd g hg)⟩

/-! ### The start of a scan (R81, R82) -/

/-- The scan that the registers ask for. -/
def scanAsked (e : Eng) : ScanSt :=
  ⟨e.rd FE_ES_CTRL_CH, e.rd FE_ES_CTRL_REF, e.rd FE_ES_CTRL_DWELL, e.rd FE_ES_CTRL_TOL, signed 12 (e.rd FE_ES_THR_START_CODE),
    e.rd FE_ES_THR_STRIDE + 1, e.rd FE_ES_BASE_OFFS / 64 * 64, e.ts⟩

/-- The engine once that scan shows BUSY. -/
def scanBegun (e : Eng) : Eng :=
  ((({ e with fe := { e.fe with scan := some (scanAsked e) } }).wr FE_ES_STAT_VALID 0).wr FE_ES_STAT_BUSY 1).wr FE_ES_STAT_ERR 0

/-- A threshold of the scan lies above the DAC's range, or REF is reserved (R81). -/
def ScanOutOfRange (e : Eng) : Prop :=
  2047 < signed 12 (e.rd FE_ES_THR_START_CODE) + 255 * ((e.rd FE_ES_THR_STRIDE : Int) + 1) ∨ 5 ≤ e.rd FE_ES_CTRL_REF

theorem scanBegun_shows (e : Eng) : (scanBegun e).rd FE_ES_STAT_BUSY = 1 ∧ (scanBegun e).rd FE_ES_STAT_VALID = 0 ∧
    (scanBegun e).rd FE_ES_STAT_ERR = 0 := by
  unfold scanBegun
  refine ⟨?_, ?_, Eng.rd_wr _ _ _⟩
  · rw [Eng.rd_wr_other _ _ (by decide), Eng.rd_wr]
    rfl
  · rw [Eng.rd_wr_other _ _ (by decide), Eng.rd_wr_other _ _ (by decide), Eng.rd_wr]
    rfl

theorem scanBegun_rd (e : Eng) {g : Fld} (hg : g.key ∉ [FE_ES_STAT_ERR.key, FE_ES_STAT_BUSY.key, FE_ES_STAT_VALID.key]) :
    (scanBegun e).rd g = e.rd g := by
  unfold scanBegun
  rw [Eng.rd_wr_other _ _ (key_ne_of_mem hg (by simp)), Eng.rd_wr_other _ _ (key_ne_of_mem hg (by simp)),
    Eng.rd_wr_other _ _ (key_ne_of_mem hg (by simp)), Eng.rd_with_fe]

theorem scanBegun_rd_of_scan (e : Eng) {g : Fld} (hg : g.key ∉ scanKeys) : (scanBegun e).rd g = e.rd g := by
  refine scanBegun_rd e fun h => hg ?_
  simp only [scanKeys, List.mem_cons, List.not_mem_nil, or_false] at h ⊢
  tauto

theorem eyeScanStart_busy {e : Eng} (h : e.rd FE_ES_STAT_BUSY ≠ 0) : eyeScanStart e = e := by
  unfold eyeScanStart
  rw [if_pos (show e.on FE_ES_STAT_BUSY = true from bne_iff_ne.2 h)]

theorem eyeScanStart_range {e : Eng} (hidle : e.rd FE_ES_STAT_BUSY = 0) (hrange : ScanOutOfRange e) :
    eyeScanStart e = scanEnd 1 (scanBegun e) := by
  unfold ScanOutOfRange at hrange
  unfold eyeScanStart
  rw [if_neg (by simp [Eng.on, hidle])]
  simp only []
  rw [if_pos (by push_cast; exact hrange)]
  rfl

theorem eyeScanStart_inRange {e : Eng} (hidle : e.rd FE_ES_STAT_BUSY = 0) (hrange : ¬ScanOutOfRange e) :
    eyeScanStart e = if !inPartition e 1 (e.rd FE_ES_BASE_OFFS / 64 * 64) 32800 then scanEnd 6 (scanBegun e)
      else if e.rd PWR_STAT_STATE = 1 then powerCheck { scanBegun e with fe := { (scanBegun e).fe with scanHeld := true } }
      else scanRecheck (scanBegun e) := by
  unfold ScanOutOfRange at hrange
  unfold eyeScanStart
  rw [if_neg (by simp [Eng.on, hidle])]
  simp only []
  rw [if_neg (by push_cast; exact hrange)]
  rfl

/-- A scan that its registers or its block do not permit ends at once (R82, R83). -/
theorem scanBegun_ended {err : Nat} (herr : err < 8) (e : Eng) : ScanEnded err e (scanEnd err (scanBegun e)) :=
  (scanEnd_some herr (e := scanBegun e) rfl).of_begun (scanBegun_rd e (by decide)) fun _ hg => scanBegun_rd_of_scan e hg

theorem scanBegun_allowed (e : Eng) (c : Nat) : scanAllowed (scanBegun e) c = scanAllowed e c := by
  have hacq : (scanBegun e).inAcq = e.inAcq := by
    rw [Eng.inAcq, Eng.mode, scanBegun_rd e (by decide), ← Eng.mode, ← Eng.inAcq]
  have hserve (k : Nat) : (scanBegun e).inService k = e.inService k := by
    rw [Eng.inService, Eng.bit, scanBegun_rd e (by decide), ← Eng.bit, ← Eng.inService]
  have hdouble : (scanBegun e).double = e.double := by
    rw [Eng.double, Eng.on, scanBegun_rd e (by decide), ← Eng.on, ← Eng.double]
  have hcal (k : Nat) : calBusy (scanBegun e) k = calBusy e k := by
    rw [calBusy, Eng.bit, scanBegun_rd e (by decide), ← Eng.bit, ← calBusy]
  simp only [scanAllowed, hacq, hserve, hdouble, hcal]

theorem scanBegun_locked (e : Eng) (n : Nat) : loopLocked (scanBegun e) n = loopLocked e n := by
  have hstate : (scanBegun e).rd (CLK_LOOP_STAT_STATE n) = e.rd (CLK_LOOP_STAT_STATE n) := by
    refine scanBegun_rd e ?_
    simp only [CLK_LOOP_STAT_STATE, FE_ES_STAT_ERR, FE_ES_STAT_BUSY, FE_ES_STAT_VALID, fld, List.mem_cons, List.not_mem_nil, or_false]
    omega
  rw [loopLocked, hstate, ← loopLocked]

/-- Where mode, tile and loop permit the scan, it goes on running. -/
theorem scanRecheck_begun {e : Eng} (hallowed : scanAllowed e (e.rd FE_ES_CTRL_CH) = true)
    (hlocked : loopLocked e (e.rd FE_ES_CTRL_REF) = true) : scanRecheck (scanBegun e) = scanBegun e := by
  have hscan : (scanBegun e).fe.scan = some (scanAsked e) := rfl
  have hch : scanAllowed (scanBegun e) (scanAsked e).ch = true := (scanBegun_allowed e _).trans hallowed
  have hloop : loopLocked (scanBegun e) (scanLoop (scanAsked e).ref) = true := (scanBegun_locked e _).trans hlocked
  unfold scanRecheck
  rw [hscan]
  simp [hch, hloop]

theorem eyeScanStart_runs {e : Eng} (hidle : e.rd FE_ES_STAT_BUSY = 0) (hrange : ¬ScanOutOfRange e)
    (hin : inPartition e 1 (e.rd FE_ES_BASE_OFFS / 64 * 64) 32800 = true) (hpower : e.rd PWR_STAT_STATE ≠ 1)
    (hallowed : scanAllowed e (e.rd FE_ES_CTRL_CH) = true) (hlocked : loopLocked e (e.rd FE_ES_CTRL_REF) = true) :
    eyeScanStart e = scanBegun e := by
  rw [eyeScanStart_inRange hidle hrange, hin, if_neg (by decide), if_neg hpower, scanRecheck_begun hallowed hlocked]

theorem eyeScanStart_outside {e : Eng} (hidle : e.rd FE_ES_STAT_BUSY = 0) (hrange : ¬ScanOutOfRange e)
    (hin : ¬inPartition e 1 (e.rd FE_ES_BASE_OFFS / 64 * 64) 32800 = true) : eyeScanStart e = scanEnd 6 (scanBegun e) := by
  rw [eyeScanStart_inRange hidle hrange, if_pos (by simpa using hin)]

/-! ### The result of a scan (R84, R85) -/

/-- The counts of EYE_SCAN_DONE by row and column. -/
def scanCount (counts : List (List Nat)) (i j : Nat) : Nat := (counts.getD i []).getD j 0

/-- The proposal is shown in the result registers. -/
def proposalShown (p : Proposal) (e : Eng) : Eng :=
  ((((e.wr FE_ES_RES_PROP_CODE (toField 12 p.code)).wr FE_ES_RES_PROP_COL p.col).wrb FE_ES_RES_OPEN p.isOpen).wr
    FE_ES_SIZE_WIDTH p.width).wr FE_ES_SIZE_HEIGHT p.height

/-- The scan ends with a valid result of generation `gen`. -/
def scanValid (gen : Nat) (e : Eng) : Eng :=
  (((e.wr FE_ES_STAT_GEN gen).wr FE_ES_STAT_ERR 0).wr FE_ES_STAT_VALID 1).wr FE_ES_STAT_BUSY 0

/-- No scan runs, and `e` writes the result block of the scan that ran. -/
def scanWritten (sc : ScanSt) (block : List Byte) (e : Eng) : Eng :=
  ({ e with fe := { e.fe with scan := none, scanHeld := false } }).emit (.scr sc.base block)

/-- EYE_SCAN_DONE of a running scan is made of these steps. -/
theorem eyeScanDone_eq (counts : List (List Nat)) {e : Eng} {sc : ScanSt} (hscan : e.fe.scan = some sc) (hheld : e.fe.scanHeld = false) :
    eyeScanDone counts e =
      let p := propose sc (signed 12 (e.rd (FE_THR_CODE sc.ch))) (scanCount counts)
      let gen := (e.rd FE_ES_STAT_GEN + 1) % 65536
      scanVector sc.ch (scanValid gen (proposalShown p (scanWritten sc (scanBlock sc gen p (scanCount counts)) e))) := by
  unfold eyeScanDone
  rw [hscan]
  simp only []
  rw [if_neg (by simp [hheld])]
  rfl

/-- A scan that waits for its loop has no result. -/
theorem eyeScanDone_held (counts : List (List Nat)) {e : Eng} {sc : ScanSt} (hscan : e.fe.scan = some sc) (hheld : e.fe.scanHeld = true) :
    eyeScanDone counts e = e := by
  unfold eyeScanDone
  rw [hscan]
  simp only []
  rw [if_pos hheld]

theorem scanValid_shows {gen : Nat} (hgen : gen < 65536) (e : Eng) :
    (scanValid gen e).rd FE_ES_STAT_ERR = 0 ∧ (scanValid gen e).rd FE_ES_STAT_BUSY = 0 ∧ (scanValid gen e).rd FE_ES_STAT_VALID = 1 ∧
      (scanValid gen e).rd FE_ES_STAT_GEN = gen := by
  unfold scanValid
  refine ⟨?_, Eng.rd_wr _ _ _, ?_, ?_⟩
  · rw [Eng.rd_wr_other _ _ (by decide), Eng.rd_wr_other _ _ (by decide), Eng.rd_wr, Nat.zero_mod]
  · rw [Eng.rd_wr_other _ _ (by decide), Eng.rd_wr]
    rfl
  · rw [Eng.rd_wr_other _ _ (by decide), Eng.rd_wr_other _ _ (by decide), Eng.rd_wr_other _ _ (by decide), Eng.rd_wr]
    exact Nat.mod_eq_of_lt hgen

theorem proposalShown_open (gen : Nat) (p : Proposal) (e : Eng) :
    (scanValid gen (proposalShown p e)).rd FE_ES_RES_OPEN = 1 ↔ p.isOpen = true := by
  unfold scanValid proposalShown
  rw [Eng.rd_wr_other _ _ (by decide), Eng.rd_wr_other _ _ (by decide), Eng.rd_wr_other _ _ (by decide), Eng.rd_wr_other _ _ (by decide),
    Eng.rd_wr_other _ _ (by decide), Eng.rd_wr_other _ _ (by decide), wrb_eq, Eng.rd_wr]
  cases p.isOpen <;> decide

/-- EYE_SCAN_DONE of a running scan: status, proposal and result block. -/
theorem eyeScanDone_completes (s : State) (counts : List (List Nat)) {sc : ScanSt} (hup : s.up) (hinv : Inv s)
    (hscan : s.eng.fe.scan = some sc) (hheld : s.eng.fe.scanHeld = false) :
    let p := propose sc (signed 12 (s.rd (FE_THR_CODE sc.ch))) (scanCount counts)
    let gen := (s.rd FE_ES_STAT_GEN + 1) % 65536
    Completes (.eyeScanDone counts) s fun t =>
      t.rd FE_ES_STAT_ERR = 0 ∧ t.rd FE_ES_STAT_BUSY = 0 ∧ t.rd FE_ES_STAT_VALID = 1 ∧ t.rd FE_ES_STAT_GEN = gen ∧
      (t.rd FE_ES_RES_OPEN = 1 ↔ p.isOpen = true) ∧ t.mem.scr = memWrite s.mem.scr sc.base (scanBlock sc gen p (scanCount counts)) := by
  intro p gen
  have hrun : eyeScanDone counts s.eng =
      scanVector sc.ch (scanValid gen (proposalShown p (scanWritten sc (scanBlock sc gen p (scanCount counts)) s.eng))) :=
    eyeScanDone_eq counts hscan hheld
  have hgen : gen < 65536 := Nat.mod_lt _ (by decide)
  clear_value p gen
  have hexec := onMem_up s (fun e _ => eyeScanDone counts e) hup
  have hrd {g : Fld} (hg : Still g) : (eyeScanDone counts s.eng).rd g =
      (scanValid gen (proposalShown p (scanWritten sc (scanBlock sc gen p (scanCount counts)) s.eng))).rd g := by
    rw [hrun, scanVector_rd _ _ hg]
  obtain ⟨herr, hbusy, hvalid, hshown⟩ :=
    scanValid_shows hgen (proposalShown p (scanWritten sc (scanBlock sc gen p (scanCount counts)) s.eng))
  refine ⟨_, hexec, rfl, (hrd (still_of_below (by decide))).trans herr, (hrd (still_of_below (by decide))).trans hbusy,
    (hrd (still_of_below (by decide))).trans hvalid, (hrd (still_of_below (by decide))).trans hshown, ?_, ?_⟩
  · show (eyeScanDone counts s.eng).rd FE_ES_RES_OPEN = 1 ↔ _
    rw [hrd (still_of_below (by decide))]
    exact proposalShown_open gen p _
  · have hwq : (eyeScanDone counts s.eng).wq = [.scr sc.base (scanBlock sc gen p (scanCount counts))] := by
      rw [hrun, scanVector_wq]
      show s.eng.wq ++ _ = _
      rw [hinv.2, List.nil_append]
    show (s.mem.applyAll (eyeScanDone counts s.eng).wq).scr = _
    rw [hwq, applyAll_scr]

/-- What ending a scan early does to the state, by a command of the engine alone. -/
theorem scanEnded_state {s : State} {err : Nat} {e : Eng} (h : ScanEnded err s.eng e) :
    let t : State := { s with eng := { e with wq := [] } }
    t.rd FE_ES_STAT_ERR = err ∧ t.rd FE_ES_STAT_BUSY = 0 ∧ t.rd FE_ES_STAT_VALID = 0 ∧
      t.rd FE_ES_STAT_GEN = (s.rd FE_ES_STAT_GEN + 1) % 65536 ∧ t.eng.fe.scan = none ∧ Kept scanKeys s t :=
  ⟨h.err, h.busy, h.valid, h.gen, h.scan, kept_withEng h.rd⟩

/-- An EYE_SCAN_START whose scan ends at once. -/
theorem eyeScanStart_ends (s : State) {err : Nat} (hup : s.up) (herr : err < 8) (hrun : eyeScanStart s.eng = scanEnd err (scanBegun s.eng)) :
    Completes .eyeScanStart s fun t =>
      t.rd FE_ES_STAT_ERR = err ∧ t.rd FE_ES_STAT_BUSY = 0 ∧ t.rd FE_ES_STAT_VALID = 0 ∧
      t.rd FE_ES_STAT_GEN = (s.rd FE_ES_STAT_GEN + 1) % 65536 ∧ t.eng.fe.scan = none ∧ Kept scanKeys s t :=
  ⟨_, onEng_up s eyeScanStart hup, rfl, scanEnded_state (hrun ▸ scanBegun_ended herr s.eng)⟩

/-- An EYE_SCAN_START whose scan runs. -/
theorem eyeScanStart_begins (s : State) (hup : s.up) (hrun : eyeScanStart s.eng = scanBegun s.eng) :
    Completes .eyeScanStart s fun t =>
      t.rd FE_ES_STAT_BUSY = 1 ∧ t.rd FE_ES_STAT_VALID = 0 ∧ t.rd FE_ES_STAT_ERR = 0 ∧
      (t.eng.fe.scan.map fun sc => sc.ch) = some (s.rd FE_ES_CTRL_CH) ∧
      Kept [FE_ES_STAT_ERR.key, FE_ES_STAT_BUSY.key, FE_ES_STAT_VALID.key] s t := by
  have hexec := onEng_up s eyeScanStart hup
  rw [hrun] at hexec
  obtain ⟨hbusy, hvalid, herr⟩ := scanBegun_shows s.eng
  exact ⟨_, hexec, rfl, hbusy, hvalid, herr, rfl, kept_withEng fun _ hg _ => scanBegun_rd s.eng hg⟩

/-- An EYE_SCAN_ABORT of a running scan. -/
theorem eyeScanAbort_ends (s : State) {sc : ScanSt} (hup : s.up) (hscan : s.eng.fe.scan = some sc) :
    Completes .eyeScanAbort s fun t =>
      t.rd FE_ES_STAT_ERR = 4 ∧ t.rd FE_ES_STAT_BUSY = 0 ∧ t.rd FE_ES_STAT_VALID = 0 ∧
      t.rd FE_ES_STAT_GEN = (s.rd FE_ES_STAT_GEN + 1) % 65536 ∧ t.eng.fe.scan = none := by
  obtain ⟨herr, hbusy, hvalid, hgen, hnone, -⟩ := scanEnded_state (scanEnd_some (err := 4) (by decide) hscan)
  exact ⟨_, onEng_up s (scanEnd 4) hup, rfl, herr, hbusy, hvalid, hgen, hnone⟩

end Machine
end Sys2Proof
end

section
/-!
SUPPORT. The obligation O12.
-/
open Sys2Proof Sys2Proof.Machine

/-- Settles O12: EYE_SCAN_START leaves a running scan alone (`eyeScanStart_busy`), ends at once (`eyeScanStart_ends`) or begins
(`eyeScanStart_begins`); that ERR reads 0 while a scan runs is log entry 137. An abort ends what runs (`eyeScanAbort_ends`), and a
result is written where it is read (`eyeScanDone_completes`, `memRead_write`). -/
theorem eyeScanStartsAndEnds : Obligations.EyeScanStartsAndEnds := by
  unfold Obligations.EyeScanStartsAndEnds
  refine ⟨fun s hup hbusy => onEng_idle s _ hup (eyeScanStart_busy hbusy), ?_, ?_, ?_⟩
  · intro s hup hidle range inside ended
    refine ⟨fun hrange => ?_, fun hrange hout => ?_, fun hrange hin hpower hallowed _ hlocked => ?_⟩
    · exact eyeScanStart_ends s hup (by decide) (eyeScanStart_range hidle hrange)
    · exact eyeScanStart_ends s hup (by decide) (eyeScanStart_outside hidle hrange hout)
    · exact eyeScanStart_begins s hup (eyeScanStart_runs hidle hrange hin hpower hallowed hlocked)
  · intro s hup
    refine ⟨fun hnone => onEng_idle s _ hup (scanEnd_none 4 hnone), fun hsome => ?_⟩
    obtain ⟨sc, hscan⟩ := Option.ne_none_iff_exists'.1 hsome
    exact eyeScanAbort_ends s hup hscan
  · intro s counts sc hup hinv hscan
    refine ⟨fun hheld => onMem_idle s _ hup hinv (eyeScanDone_held counts hscan hheld), fun hheld => ?_⟩
    obtain ⟨t, hexec, hpending, herr, hbusy, hvalid, hgen, hopen, hscr⟩ := eyeScanDone_completes s counts hup hinv hscan hheld
    refine ⟨t, hexec, hpending, herr, hbusy, hvalid, hgen, hopen, ?_, fun a ha => ?_⟩
    · rw [hscr, ← scanBlock_length sc]
      exact memRead_write _ _ _
    · rw [hscr]
      exact memGet_write_outside _ _ (by rwa [scanBlock_length])

end

section
/-!
SUPPORT. TIP_WRITE of a channel whose port has a valid identity (R64), and the state that refutes O10.
-/
namespace Sys2Proof
namespace Machine

/-! ### TIP_WRITE (R64) -/

/-- The identity of port 0 is valid with the smallest ATTEN, and FE_THR.CLAMP of channel 0, a field of one bit, holds 3. -/
def clampWide : State :=
  { eng := { regs := [((FE_THR_CLAMP 0).key, 3), ((POD_STAT_ID_VALID 0).key, 1), ((POD_ID_BYTES 0 8).key, 1)] } }

theorem thrWritten_rd (hyst : Bool) (c : Nat) (e : Eng) (g : Fld) : (thrWritten hyst c e).rd g = e.rd g := by
  unfold thrWritten
  split <;> rfl

/-- TIP, the code computed from it, SRC and PEND are stored. -/
def tipStored (c tip : Nat) (lim : Int) (e : Eng) : Eng :=
  thrWritten false c ((((e.wr (FE_THR_TIP_TIP c) tip).wr (FE_THR_CODE c) (toField 12 lim)).wr (FE_THR_SRC c) 1).wr (FE_THR_PEND c) 0)

/-- The keys of a channel's threshold fields. -/
def thrKeys (c : Nat) : List Nat :=
  [(FE_THR_TIP_TIP c).key, (FE_THR_CODE c).key, (FE_THR_SRC c).key, (FE_THR_PEND c).key, (FE_THR_CLAMP c).key]

theorem thrKeys_nodup (c : Nat) : (thrKeys c).Nodup := by
  simp only [thrKeys, FE_THR_TIP_TIP, FE_THR_CODE, FE_THR_SRC, FE_THR_PEND, FE_THR_CLAMP, fld, List.nodup_cons, List.mem_cons,
    List.not_mem_nil, or_false, not_false_eq_true, List.nodup_nil, and_true]
  omega

theorem thrKeys_below (c : Nat) : ∀ k ∈ thrKeys c, k < 8 * 0x200000 := by
  simp only [thrKeys, FE_THR_TIP_TIP, FE_THR_CODE, FE_THR_SRC, FE_THR_PEND, FE_THR_CLAMP, fld, List.forall_mem_cons]
  refine ⟨by omega, by omega, by omega, by omega, by omega, by simp⟩

theorem toField_lt (w : Nat) (x : Int) : toField w x < 2 ^ w := by
  have hpos : (0 : Int) < ((2 ^ w : Nat) : Int) := by positivity
  have hlt := Int.emod_lt_of_pos x hpos
  have hnonneg := Int.emod_nonneg x (ne_of_gt hpos)
  unfold toField
  omega

theorem tipStored_shows (c tip : Nat) (lim : Int) (e : Eng) :
    (tipStored c tip lim e).rd (FE_THR_TIP_TIP c) = tip % 2 ^ 24 ∧ (tipStored c tip lim e).rd (FE_THR_CODE c) = toField 12 lim ∧
      (tipStored c tip lim e).rd (FE_THR_SRC c) = 1 ∧ (tipStored c tip lim e).rd (FE_THR_PEND c) = 0 := by
  have hkeys := thrKeys_nodup c
  simp only [thrKeys, List.nodup_cons, List.mem_cons, List.not_mem_nil, or_false, not_or] at hkeys
  obtain ⟨⟨htipCode, htipSrc, htipPend, -⟩, ⟨hcodeSrc, hcodePend, -⟩, ⟨hsrcPend, -⟩, -⟩ := hkeys
  unfold tipStored
  simp only [thrWritten_rd]
  refine ⟨?_, ?_, ?_, Eng.rd_wr _ _ _⟩
  · rw [Eng.rd_wr_other _ _ (Ne.symm htipPend), Eng.rd_wr_other _ _ (Ne.symm htipSrc), Eng.rd_wr_other _ _ (Ne.symm htipCode), Eng.rd_wr]
    rfl
  · rw [Eng.rd_wr_other _ _ (Ne.symm hcodePend), Eng.rd_wr_other _ _ (Ne.symm hcodeSrc), Eng.rd_wr]
    exact Nat.mod_eq_of_lt (toField_lt 12 lim)
  · rw [Eng.rd_wr_other _ _ (Ne.symm hsrcPend), Eng.rd_wr]
    rfl

theorem tipStored_rd (c tip : Nat) (lim : Int) (e : Eng) {g : Fld} (htip : (FE_THR_TIP_TIP c).key ≠ g.key)
    (hcode : (FE_THR_CODE c).key ≠ g.key) (hsrc : (FE_THR_SRC c).key ≠ g.key) (hpend : (FE_THR_PEND c).key ≠ g.key) :
    (tipStored c tip lim e).rd g = e.rd g := by
  unfold tipStored
  rw [thrWritten_rd, Eng.rd_wr_other _ _ hpend, Eng.rd_wr_other _ _ hsrc, Eng.rd_wr_other _ _ hcode, Eng.rd_wr_other _ _ htip]

theorem tipStored_clamp (c tip : Nat) (lim : Int) (e : Eng) : (tipStored c tip lim e).rd (FE_THR_CLAMP c) = e.rd (FE_THR_CLAMP c) := by
  have hkeys := thrKeys_nodup c
  simp only [thrKeys, List.nodup_cons, List.mem_cons, List.not_mem_nil, or_false, not_or] at hkeys
  obtain ⟨⟨-, -, -, htip⟩, ⟨-, -, hcode⟩, ⟨-, hsrc⟩, hpend, -⟩ := hkeys
  exact tipStored_rd c tip lim e htip hcode hsrc hpend

/-- The code of a tip threshold comes from the identity, which TIP does not touch. -/
theorem tipCode_wr_tip (e : Eng) (c v : Nat) (tip : Int) : tipCode (e.wr (FE_THR_TIP_TIP c) v) c tip = tipCode e c tip := by
  have hid (p w : Nat) : (e.wr (FE_THR_TIP_TIP c) v).rd (POD_ID_BYTES p w) = e.rd (POD_ID_BYTES p w) := by
    refine Eng.rd_wr_other _ _ ?_
    simp only [FE_THR_TIP_TIP, POD_ID_BYTES, fld]
    omega
  simp only [tipCode, podOff, podAtten, hid]

/-- R64: what TIP_WRITE does where the identity is valid. -/
theorem tipWrite_valid_eq {e : Eng} {c : Nat} (v : Nat) (hid : e.rd (POD_STAT_ID_VALID (c / 32)) = 1) :
    tipWrite c v e =
      let code := tipCode e c (signed 24 (v % 2 ^ 24))
      let lim := clampInt (-2048) 2047 code
      if lim = code then tipStored c v lim e else (tipStored c v lim e).raise (FE_THR_CLAMP c) := by
  have hvalid : idValid e c = true := by simp [idValid, Eng.on, hid]
  have htip : (e.wr (FE_THR_TIP_TIP c) v).rd (FE_THR_TIP_TIP c) = v % 2 ^ 24 := Eng.rd_wr _ _ _
  unfold tipWrite
  simp only []
  rw [if_pos hvalid, applyTip, tipCode_wr_tip, htip]
  rfl

/-- TIP_WRITE of a channel whose identity is valid, where CLAMP holds a value of its width. -/
theorem tipWrite_stores (s : State) (c v : Nat) (hup : s.up) (hid : s.rd (POD_STAT_ID_VALID (c / 32)) = 1)
    (hclamp : s.rd (FE_THR_CLAMP c) < 2) :
    let code := tipCode s.eng c (signed 24 (v % 2 ^ 24))
    let lim := clampInt (-2048) 2047 code
    Completes (.tipWrite c v) s fun t =>
      t.rd (FE_THR_TIP_TIP c) = v % 2 ^ 24 ∧ t.rd (FE_THR_CODE c) = toField 12 lim ∧ t.rd (FE_THR_SRC c) = 1 ∧
      t.rd (FE_THR_PEND c) = 0 ∧ (code ≠ lim → t.rd (FE_THR_CLAMP c) = 1) ∧
      (code = lim → t.rd (FE_THR_CLAMP c) = s.rd (FE_THR_CLAMP c)) ∧ Kept (thrKeys c) s t := by
  intro code lim
  have hrun : tipWrite c v s.eng =
      if lim = code then tipStored c v lim s.eng else (tipStored c v lim s.eng).raise (FE_THR_CLAMP c) := tipWrite_valid_eq v hid
  clear_value code lim
  have hexec := onEng_up s (tipWrite c v) hup
  obtain ⟨htip, hcode, hsrc, hpend⟩ := tipStored_shows c v lim s.eng
  have hkept (g : Fld) (hg : g.key ∉ thrKeys c) : (tipStored c v lim s.eng).rd g = s.eng.rd g :=
    tipStored_rd c v lim s.eng (key_ne_of_mem hg (by simp [thrKeys])) (key_ne_of_mem hg (by simp [thrKeys]))
      (key_ne_of_mem hg (by simp [thrKeys])) (key_ne_of_mem hg (by simp [thrKeys]))
  by_cases hlim : lim = code
  · rw [hrun, if_pos hlim] at hexec
    exact ⟨_, hexec, rfl, htip, hcode, hsrc, hpend, fun hne => absurd hlim.symm hne, fun _ => tipStored_clamp c v lim s.eng,
      kept_withEng fun g hg _ => hkept g hg⟩
  · rw [hrun, if_neg hlim] at hexec
    have hkeys := thrKeys_nodup c
    simp only [thrKeys, List.nodup_cons, List.mem_cons, List.not_mem_nil, or_false, not_or] at hkeys
    obtain ⟨⟨-, -, -, htipNe⟩, ⟨-, -, hcodeNe⟩, ⟨-, hsrcNe⟩, hpendNe, -⟩ := hkeys
    have hstill {g : Fld} (hg : g.key ∈ thrKeys c) : Still g := still_of_below (by have := thrKeys_below c _ hg; omega)
    have hraise {g : Fld} (hg : g.key ∈ thrKeys c) (hne : g.key ≠ (FE_THR_CLAMP c).key) :
        ((tipStored c v lim s.eng).raise (FE_THR_CLAMP c)).rd g = (tipStored c v lim s.eng).rd g :=
      raise_rd _ _ _ (Ne.symm hne) (hstill hg)
    refine ⟨_, hexec, rfl, (hraise (by simp [thrKeys]) htipNe).trans htip, (hraise (by simp [thrKeys]) hcodeNe).trans hcode,
      (hraise (by simp [thrKeys]) hsrcNe).trans hsrc, (hraise (by simp [thrKeys]) hpendNe).trans hpend, fun _ => ?_,
      fun heq => absurd heq.symm hlim, kept_withEng fun g hg hs => ?_⟩
    · exact raise_reads_one _ rfl (hstill (by simp [thrKeys])) ((tipStored_clamp c v lim s.eng).trans_lt hclamp)
    · exact (raise_rd _ _ _ (key_ne_of_mem hg (by simp [thrKeys])) hs).trans (hkept g hg)

end Machine
end Sys2Proof
end

section
/-!
SUPPORT. The obligation O10.
-/
open Sys2Proof Sys2Proof.Machine

/-- Refutes O10: nothing bounds the value that a one-bit field holds. Where FE_THR.CLAMP holds 3, a value that `Eng.wr` never stores, its
bit counts as set, so a tip threshold whose code is out of range leaves the field at 3 and not at 1. `tipWrite_stores` proves the clause
with the bound that it lacks; the rounding of the code is log entry 51. -/
theorem not_thresholdWritesStore : ¬ Obligations.ThresholdWritesStore := by
  unfold Obligations.ThresholdWritesStore
  intro h
  obtain ⟨hvalid, -⟩ := h clampWide 0 (2 ^ 23 - 1) rfl (by decide)
  obtain ⟨t, hexec, -, -, -, -, -, hone, -⟩ := hvalid rfl
  have hlimited : tipCode clampWide.eng 0 (signed 24 ((2 ^ 23 - 1) % 2 ^ 24)) ≠
      clampInt (-2048) 2047 (tipCode clampWide.eng 0 (signed 24 ((2 ^ 23 - 1) % 2 ^ 24))) := by decide +kernel
  have hthree : outcomeHas (.tipWrite 0 (2 ^ 23 - 1)) clampWide (fun t => t.rd (FE_THR_CLAMP 0) == 3) = true := by decide +kernel
  rw [outcomeHas_next _ hexec, hone hlimited] at hthree
  exact absurd hthree (by decide)

end

section
/-!
SUPPORT. What the start of a calibration leaves alone (R86): the recheck of an eye scan, the change of power state and the loops write
neither the registers of calibration nor the state of a pod port.
-/
namespace Sys2Proof
namespace Machine

/-! ### The fields that the power state and the loops do not write -/

/-- A field below the registers of the eye scan, or of the pod ports. -/
def Bystander (g : Fld) : Prop := g.key < 8 * 0x100600 ∨ (8 * 0x200000 ≤ g.key ∧ g.key < 8 * 0x300000)

/-- A field that is none of those. -/
def Beyond (f : Fld) : Prop := (8 * 0x100600 ≤ f.key ∧ f.key < 8 * 0x200000) ∨ 8 * 0x300000 ≤ f.key

theorem beyond_upper {off lsb width reset : Nat} (h : 0x300000 ≤ off) : Beyond (fld off lsb width reset) := by
  simp only [Beyond, fld]
  omega

theorem beyond_front {off lsb width reset : Nat} (h : 0x100600 ≤ off ∧ off < 0x1F0000) (hlsb : lsb < 32) :
    Beyond (fld off lsb width reset) := by
  simp only [Beyond, fld]
  omega

theorem Bystander.ne {f g : Fld} (hg : Bystander g) (hf : Beyond f) : f.key ≠ g.key := by
  simp only [Bystander, Beyond] at hg hf
  omega

theorem Bystander.still {g : Fld} (hg : Bystander g) : Still g :=
  still_of_below (by simp only [Bystander] at hg; omega)

theorem Bystander.notLoop {g : Fld} (hg : Bystander g) : g.key ∉ loopKeys := by
  intro hk
  have hrange := clockKeys_range g.key (mem_clockKeys_of_loop hk)
  simp only [Bystander] at hg
  omega

/-- Between two states of the engine no such field has changed. -/
def BystandersKept (e e' : Eng) : Prop := ∀ g : Fld, Bystander g → e'.rd g = e.rd g

namespace BystandersKept

variable {e e' e'' : Eng}

theorem refl (e : Eng) : BystandersKept e e := fun _ _ => rfl

theorem trans (h : BystandersKept e e') (h' : BystandersKept e' e'') : BystandersKept e e'' := fun g hg => (h' g hg).trans (h g hg)

theorem wr (h : BystandersKept e e') {f : Fld} (v : Nat) (hf : Beyond f := by exact beyond_upper (by omega)) :
    BystandersKept e (e'.wr f v) :=
  fun g hg => (Eng.rd_wr_other e' v (hg.ne hf)).trans (h g hg)

theorem raise (h : BystandersKept e e') {f : Fld} (i : Nat) (hf : Beyond f := by exact beyond_upper (by omega)) :
    BystandersKept e (e'.raise f i) :=
  fun g hg => (raise_rd e' f i (hg.ne hf) hg.still).trans (h g hg)

theorem of_regs (h : e'.regs = e.regs) : BystandersKept e e' := fun g _ => by rw [Eng.rd, h, ← Eng.rd]

theorem foldl {α : Type} (f : Eng → α → Eng) (l : List α) (h : ∀ e a, BystandersKept e (f e a)) (e : Eng) : BystandersKept e (l.foldl f e) :=
  List.foldlRecOn l f (motive := BystandersKept e) (refl e) fun b hb a _ => hb.trans (h b a)

theorem ite {c : Prop} [Decidable c] (h : BystandersKept e e') (h' : BystandersKept e e'') : BystandersKept e (if c then e' else e'') := by
  split
  · exact h
  · exact h'

end BystandersKept

/-! ### The display link follows VPLL (R362) -/

theorem auxRelease_bystanders (e : Eng) : BystandersKept e (auxRelease e) := by
  unfold auxRelease
  split <;> exact .of_regs rfl

theorem trainFail_bystanders (code : Nat) (e : Eng) : BystandersKept e (trainFail code e) :=
  .raise (.wr (.wr (.wr (auxRelease_bystanders e) _) _) _) _

theorem trainStart_bystanders (e : Eng) : BystandersKept e (trainStart e) := by
  have hbusy : BystandersKept e ((e.wr VIT_LINK_STAT_BUSY 1).wr VIT_STAT_LINK_UP 0) := .wr (.wr (.refl e) _) _
  exact .ite (.refl e) (.ite (hbusy.trans (.of_regs rfl)) (trainFail_bystanders 1 e))

theorem vpllBack_bystanders (e : Eng) : BystandersKept e (vpllBack e) := .ite (trainStart_bystanders e) (.refl e)

theorem vpllLost_bystanders (e : Eng) : BystandersKept e (vpllLost e) := by
  have hdown : BystandersKept e ((e.wr VIT_STAT_LINK_UP 0).wr VIT_STAT_PSR_ACT 0) := .wr (.wr (.refl e) _) _
  exact .ite (hdown.trans (trainFail_bystanders 1 _)) hdown

/-! ### The loops (R107, R114, R127) -/

theorem loopsShow_bystanders (e : Eng) : BystandersKept e (loopsShow e) := fun _ hg => loopsShow_rd e hg.notLoop

theorem setLoop_bystanders (n st : Nat) (e : Eng) : BystandersKept e (setLoop n st e) := by
  have hstat : BystandersKept e ((((e.wr (CLK_LOOP_STAT_STATE n) st).wrb (CLK_LOOP_STAT_LOCKED n) (st == 2)).wrb (CLK_LOOP_STAT_BYPASS n)
      (st != 2)).wrBit CLK_MON_STAT_LOOP_OK n (st == 2)) := .wr (.wr (.wr (.wr (.refl e) _) _) _) _
  exact hstat.trans (.ite (vpllLost_bystanders _) (.ite (vpllBack_bystanders _) (.refl _)))

theorem ldRelease_bystanders (e : Eng) : BystandersKept e (ldRelease e) := by
  have hpend : BystandersKept e ((List.range 8).foldl (fun a n =>
      if ldWaits e n && !(a.getLoop n).held then a.wr (CLK_LOOP_STAT_CMT_PEND n) 0 else a) e) :=
    .foldl _ _ (fun a _ => .ite (.wr (.refl a) _) (.refl a)) e
  exact hpend.trans (.of_regs rfl)

theorem ldApply_bystanders (e : Eng) : BystandersKept e (ldApply e) := by
  have hload : BystandersKept e (((e.load CLK_LD_AN_EN).load CLK_LD_AN_LOOP).load CLK_LD_AN_WIN) := .of_regs rfl
  unfold ldApply
  simp only []
  generalize ((e.load CLK_LD_AN_EN).load CLK_LD_AN_LOOP).load CLK_LD_AN_WIN = e1 at hload ⊢
  exact (BystandersKept.ite hload (hload.wr _)).trans (ldRelease_bystanders _)

theorem startLoop_bystanders (n : Nat) (v : LoopVals) (e : Eng) : BystandersKept e (startLoop n v e) := by
  have hdrop (a : Eng) : BystandersKept a (ldDrop n a) := .ite (.wr (.refl a) _) (.refl a)
  have hdetector : BystandersKept e (setLoopActive n v (ldDrop n (if ldWaits e n then ldApply e else e))) :=
    (BystandersKept.ite (ldApply_bystanders e) (.refl e)).trans ((hdrop _).trans (.of_regs rfl))
  have hvalues (st khz : Nat) : BystandersKept e (((setLoop n st (setLoopActive n v (ldDrop n (if ldWaits e n then ldApply e else e)))).wr
      (CLK_LOOP_ACT_FOUT_KHZ n) khz).wr (CLK_LOOP_STAT_CMT_PEND n) 0) :=
    .wr (.wr (hdetector.trans (setLoop_bystanders n st _)) _) _
  have hloop (a : Eng) (f : LoopSt → LoopSt) : BystandersKept a (a.modLoop n f) := .of_regs rfl
  unfold startLoop
  exact ((hvalues _ _).trans (hloop _ _)).trans (loopsShow_bystanders _)

theorem loopWake_bystanders (n : Nat) (e : Eng) : BystandersKept e (loopWake n e) := .ite (startLoop_bystanders n _ e) (.refl e)

/-! ### The power state and the eye scan (R474 to R476, R83) -/

theorem setPower_bystanders (st : Nat) (e : Eng) : BystandersKept e (setPower st e) := by
  have hlevel (c : Nat) : Beyond (FE_CH_STAT_LEVEL c) := beyond_front (by omega) (by decide)
  have hlevels (a : Eng) : BystandersKept a (levelsOff a) := .foldl _ _ (fun b c => .ite (.refl b) (.wr (.refl b) _ (hlevel c))) a
  have hdomains : BystandersKept e ((e.wr PWR_STAT_STATE st).wr CUR_PWR_DOM_ON (domainsOn st e)) := .wr (.wr (.refl e) _) _
  exact .ite (.refl e) (.raise (hdomains.trans (hlevels _)) _)

theorem powerCheck_bystanders (e : Eng) : BystandersKept e (powerCheck e) := by
  have hblock : BystandersKept e (e.wr PWR_STAT_TRK_BLOCK (trickleBlock e)) := .wr (.refl e) _
  refine hblock.trans (.ite (.trans (setPower_bystanders 0 _) (.foldl _ _ (fun a n => loopWake_bystanders n a) _)) (.ite ?_ (.refl _)))
  exact (setPower_bystanders 0 _).trans (loopWake_bystanders 0 _)

theorem scanEnd_bystanders {err : Nat} (herr : err < 8) (e : Eng) : BystandersKept e (scanEnd err e) := by
  have hkeys : ∀ k ∈ scanKeys, 8 * 0x100600 ≤ k ∧ k < 8 * 0x200000 := by decide
  intro g hg
  cases hscan : e.fe.scan with
  | none => rw [scanEnd_none err hscan]
  | some sc =>
    refine (scanEnd_some herr hscan).rd g (fun hk => ?_) hg.still
    have hrange := hkeys g.key hk
    simp only [Bystander] at hg
    omega

theorem scanRecheck_bystanders (e : Eng) : BystandersKept e (scanRecheck e) := by
  unfold scanRecheck
  split
  · exact .refl e
  · exact .ite (.refl e) (.ite (scanEnd_bystanders (by decide) e) (.ite (scanEnd_bystanders (by decide) e) (.refl e)))

end Machine
end Sys2Proof
end

section
/-!
SUPPORT. CAL_REQUEST (R86): what the request for one tile does to it and to the others.
-/
namespace Sys2Proof
namespace Machine

/-! ### One tile of a request (R86) -/

/-- A tile that starts to calibrate changes of the fields that stand by the BUSY bit alone. -/
theorem calStart_kept (t : Nat) (e : Eng) : BystandersKept (e.wrBit FE_CAL_STAT_BUSY t true) (calStart t e) :=
  (scanRecheck_bystanders _).trans (powerCheck_bystanders _)

theorem BystandersKept.bit {e e' : Eng} (h : BystandersKept e e') {f : Fld} (hf : Bystander f) (i : Nat) : e'.bit f i = e.bit f i := by
  rw [Eng.bit, h f hf, ← Eng.bit]

theorem calStart_busy {t : Nat} (ht : t < 8) (e : Eng) : calBusy (calStart t e) t = true :=
  ((calStart_kept t e).bit (.inl (by decide)) t).trans (wrBit_bit e true ht)

/-- The step of CAL_REQUEST for tile `t`. -/
def calAsk (tiles : Nat) (e : Eng) (t : Nat) : Eng :=
  if !natBit tiles t then e
  else if calBusy e t then e
  else if tileSamples e t then e.raise FE_CAL_STAT_REJ t
  else calStart t e

theorem calRequest_eq (tiles : Nat) (e : Eng) : calRequest tiles e = (List.range 8).foldl (calAsk tiles) e := rfl

/-- Between two states of the engine a CAL_REQUEST has gone on, but not at tile `k`. -/
structure CalAside (k : Nat) (e e' : Eng) : Prop where
  samples : tileSamples e' k = tileSamples e k
  busy : calBusy e' k = calBusy e k
  rej : e.bit FE_CAL_STAT_REJ k = true → e'.bit FE_CAL_STAT_REJ k = true

namespace CalAside

variable {k : Nat} {e e' e'' : Eng}

theorem refl (k : Nat) (e : Eng) : CalAside k e e := ⟨rfl, rfl, id⟩

theorem trans (h : CalAside k e e') (h' : CalAside k e' e'') : CalAside k e e'' :=
  ⟨h'.samples.trans h.samples, h'.busy.trans h.busy, fun hr => h'.rej (h.rej hr)⟩

end CalAside

/-- Whether a tile samples is read from fields outside the front end (R78). -/
theorem tileSamples_congr {e e' : Eng} (h : ∀ g : Fld, Settled g → e'.rd g = e.rd g) (k : Nat) : tileSamples e' k = tileSamples e k := by
  have hacq : e'.inAcq = e.inAcq := by rw [Eng.inAcq, Eng.mode, h _ (.inl (by decide)), ← Eng.mode, ← Eng.inAcq]
  have hserve : e'.inService k = e.inService k := by
    rw [Eng.inService, Eng.bit, h _ (.inl (by decide)), ← Eng.bit, ← Eng.inService]
  have hpod : e'.rd (POD_STAT_STATE k) = e.rd (POD_STAT_STATE k) := h _ (.inr (by simp only [POD_STAT_STATE, fld]; omega))
  simp only [tileSamples, hacq, hserve, hpod]

theorem Settled.bystander {g : Fld} (h : Settled g) : Bystander g := by
  simp only [Settled, Bystander] at *
  omega

theorem Settled.notCal {g : Fld} (h : Settled g) : FE_CAL_STAT_BUSY.key ≠ g.key ∧ FE_CAL_STAT_REJ.key ≠ g.key := by
  simp only [Settled, FE_CAL_STAT_BUSY, FE_CAL_STAT_REJ, fld] at *
  omega

/-- The refusal of tile `t`: its REJ bit, and no other field that the request reads. -/
theorem calReject_keeps (e : Eng) (t : Nat) (k : Nat) : tileSamples (e.raise FE_CAL_STAT_REJ t) k = tileSamples e k ∧
    calBusy (e.raise FE_CAL_STAT_REJ t) k = calBusy e k := by
  refine ⟨tileSamples_congr (fun g hg => raise_rd e _ t hg.notCal.2 hg.still) k, ?_⟩
  rw [calBusy, Eng.bit, raise_rd _ _ _ (by decide) (still_of_below (by decide)), ← Eng.bit, ← calBusy]

/-- The step for another tile leaves tile `k` alone. -/
theorem calAsk_aside (tiles : Nat) {t k : Nat} (htk : t ≠ k) (hk : k < 8) (e : Eng) : CalAside k e (calAsk tiles e t) := by
  unfold calAsk
  split
  · exact .refl k e
  split
  · exact .refl k e
  split
  · obtain ⟨hsamples, hbusy⟩ := calReject_keeps e t k
    exact ⟨hsamples, hbusy, raiseAt_bit_keeps 3 t [] e (still_of_below (by decide)) hk⟩
  · have hkept := calStart_kept t e
    refine ⟨tileSamples_congr (fun g hg => (hkept g hg.bystander).trans (Eng.rd_wr_other e _ hg.notCal.1)) k, ?_, fun hr => ?_⟩
    · exact (hkept.bit (.inl (by decide)) k).trans (wrBit_bit_other e true htk hk)
    · rw [hkept.bit (.inl (by decide)), Eng.bit, wrBit_eq, Eng.rd_wr_other _ _ (by decide)]
      exact hr

/-- A fold is the step of `k`, with steps of other elements before and after it. -/
theorem foldl_around {α β : Type} {R : β → β → Prop} (hrefl : ∀ b, R b b) (htrans : ∀ {b c d}, R b c → R c d → R b d) (f : β → α → β)
    {l : List α} {k : α} (hl : l.Nodup) (hk : k ∈ l) (hother : ∀ b, ∀ a ∈ l, a ≠ k → R b (f b a)) (b : β) :
    ∃ c, R b c ∧ R (f c k) (l.foldl f b) := by
  obtain ⟨l1, l2, rfl⟩ := List.append_of_mem hk
  obtain ⟨-, htail, hdisj⟩ := List.nodup_append.1 hl
  obtain ⟨hnot, -⟩ := List.nodup_cons.1 htail
  have hfold (m : List α) (hm : ∀ a ∈ m, a ∈ l1 ++ k :: l2 ∧ a ≠ k) (c : β) : R c (m.foldl f c) :=
    List.foldlRecOn m f (motive := R c) (hrefl c) fun d hd a ha => htrans hd (hother d a (hm a ha).1 (hm a ha).2)
  refine ⟨l1.foldl f b, hfold l1 (fun a ha => ⟨by simp [ha], hdisj a ha k (by simp)⟩) b, ?_⟩
  rw [List.foldl_append, List.foldl_cons]
  exact hfold l2 (fun a ha => ⟨by simp [ha], fun h => hnot (h ▸ ha)⟩) _

theorem calRequest_at (tiles : Nat) {k : Nat} (hk : k < 8) (e : Eng) :
    ∃ e1, CalAside k e e1 ∧ CalAside k (calAsk tiles e1 k) (calRequest tiles e) :=
  foldl_around (.refl k) .trans (calAsk tiles) List.nodup_range (List.mem_range.2 hk) (fun a _ _ ht => calAsk_aside tiles ht hk a) e

/-- A selected tile that calibrates, or does not sample, shows BUSY (R86). -/
theorem calRequest_busy {tiles k : Nat} {e : Eng} (hk : k < 8) (hask : natBit tiles k = true)
    (h : calBusy e k = true ∨ tileSamples e k = false) : calBusy (calRequest tiles e) k = true := by
  obtain ⟨e1, hbefore, hafter⟩ := calRequest_at tiles hk e
  rw [← hbefore.busy, ← hbefore.samples] at h
  rw [hafter.busy, calAsk, if_neg (by simp [hask])]
  split
  case isTrue hbusy => exact hbusy
  case isFalse hidle =>
    rw [if_neg (by simp [h.resolve_left hidle])]
    exact calStart_busy hk e1

/-- A selected tile that samples is refused (R86). -/
theorem calRequest_refused {tiles k : Nat} {e : Eng} (hk : k < 8) (hask : natBit tiles k = true) (hidle : calBusy e k = false)
    (hsamples : tileSamples e k = true) :
    (calRequest tiles e).bit FE_CAL_STAT_REJ k = true ∧ calBusy (calRequest tiles e) k = false := by
  obtain ⟨e1, hbefore, hafter⟩ := calRequest_at tiles hk e
  rw [← hbefore.busy] at hidle
  rw [← hbefore.samples] at hsamples
  have hstep : calAsk tiles e1 k = e1.raise FE_CAL_STAT_REJ k := by simp [calAsk, hask, hidle, hsamples]
  rw [hstep] at hafter
  exact ⟨hafter.rej (raise_bit e1 _ k hk (still_of_below (by decide))), (hafter.busy.trans (calReject_keeps e1 k k).2).trans hidle⟩

/-- A tile that is not selected keeps its BUSY bit. -/
theorem calRequest_unasked {tiles k : Nat} {e : Eng} (hk : k < 8) (hask : natBit tiles k = false) :
    calBusy (calRequest tiles e) k = calBusy e k := by
  obtain ⟨e1, hbefore, hafter⟩ := calRequest_at tiles hk e
  have hstep : calAsk tiles e1 k = e1 := by simp [calAsk, hask]
  rw [hstep] at hafter
  exact hafter.busy.trans hbefore.busy

end Machine
end Sys2Proof
end

section
/-!
SUPPORT. CAL_DONE (R87): what goes on behind a command while nothing of its own is under way, the trims of a pass and the FAIL bit of a
failure, and what the port's next step leaves alone (R99).
-/
namespace Sys2Proof
namespace Machine

/-! ### What goes on behind a command (R466, R470, R441, R404, R281) -/

/-- Between two states of the engine nothing has been begun that goes on behind a command. -/
structure BehindKept (e e' : Eng) : Prop where
  pw : e'.pw = e.pw
  se : e'.se = e.se
  cu : e'.cu = e.cu
  mc : e'.mc = e.mc

theorem BehindKept.trans {e e' e'' : Eng} (h : BehindKept e e') (h' : BehindKept e' e'') : BehindKept e e'' :=
  ⟨h'.pw.trans h.pw, h'.se.trans h.se, h'.cu.trans h.cu, h'.mc.trans h.mc⟩

/-- A report begins nothing. -/
theorem BehindKept.of_hush {e e' : Eng} (h : e'.hush = e.hush) : BehindKept e e' := by
  have hpw := congrArg Eng.pw h
  have hse := congrArg Eng.se h
  have hmc := congrArg Eng.mc h
  exact ⟨hpw, hse, cu_of_hush h, hmc⟩

theorem fabGo_idle {e : Eng} (hfab : e.mc.fab = []) (hstalled : e.mc.stalled = []) (m : Mems) : fabGo e m = e := by
  unfold fabGo
  rw [hfab, hstalled]
  rfl

theorem tamperGo_none {e : Eng} (h : e.se.events = []) : tamperGo e = e := by
  unfold tamperGo
  rw [h]
  rfl

theorem startGo_none {e : Eng} (h : e.pw.start = none) (m : Mems) : startGo e m = e := by
  unfold startGo
  simp [h]

theorem offGo_none {e : Eng} (h : e.pw.offPend = false) : offGo e = e := by
  unfold offGo
  simp [h]

theorem mbxPending_none {e : Eng} (h : e.cu.mbx = none) (m : Mems) : mbxPending e m = e := by
  unfold mbxPending
  rw [h]

/-- While nothing of its own goes on behind a command, nothing follows it. -/
theorem settle_quiet {s : State} {e : Eng} (hquiet : s.quiet) (h : BehindKept s.eng e) (m : Mems) : settle m e = e := by
  obtain ⟨hpw, hse, hcu, hmc⟩ := h
  obtain ⟨hstart, hoff, hevents, hmbx, ⟨hfab, hstalled⟩, hmap⟩ := hquiet
  have hfabGo := fabGo_idle (e := e) (by rw [hmc, hfab]) (by rw [hmc, hstalled])
  have hstartGo := startGo_none (e := e) (by rw [hpw, hstart])
  have hmbxGo := mbxPending_none (e := e) (by rw [hcu, hmbx])
  have hmapGo : ¬(e.cu.mapDue = true ∧ curRuns e = true) := by simp [hcu, hmap]
  unfold settle
  simp only [hfabGo, if_neg hmapGo, tamperGo_none (e := e) (by rw [hse, hevents]), hstartGo, offGo_none (e := e) (by rw [hpw, hoff]),
    hmbxGo, ite_self]

/-- A command after which nothing goes on gives what its function gives. -/
theorem onAll_quiet (s : State) (f : Eng → Mems → Eng) (hup : s.up) (hquiet : s.quiet) (h : BehindKept s.eng (f s.eng s.mem)) :
    onAll s f = .next { s with eng := { f s.eng s.mem with wq := [] }, mem := s.mem.applyAll (f s.eng s.mem).wq } := by
  unfold onAll
  rw [onMem_up s _ hup, applyMem, settle_quiet hquiet h]

/-! ### The port goes on (R99) -/

theorem setPort_ready (p : Nat) (e : Eng) : setPort p 5 e =
    if e.on (POD_CTRL_IND_AUTO p) then (e.wr (POD_STAT_STATE p) 5).wr (POD_CTRL_IND p) (stateInd 5) else e.wr (POD_STAT_STATE p) 5 := by
  simp [setPort]

/-- The registers below the pod ports stay as a port goes on. -/
theorem joinNext_rd (p : Nat) (e : Eng) {g : Fld} (hg : g.key < 8 * 0x200000) : (joinNext p e).rd g = e.rd g := by
  have hkeys : (POD_STAT_STATE p).key ≠ g.key ∧ (POD_CTRL_IND p).key ≠ g.key ∧ (POD_EVT_READY p).key ≠ g.key := by
    simp only [POD_STAT_STATE, POD_CTRL_IND, POD_EVT_READY, fld]
    omega
  obtain ⟨hstate, hind, hevent⟩ := hkeys
  have hready : (enterReady p e).rd g = e.rd g := by
    rw [enterReady, raise_rd _ _ _ hevent (still_of_below (by omega)), setPort_ready]
    split
    · rw [Eng.rd_wr_other _ _ hind, Eng.rd_wr_other _ _ hstate]
    · exact Eng.rd_wr_other _ _ hstate
  unfold joinNext
  split
  · rfl
  · simp only []
    split <;> exact hready

theorem joinNext_behind (p : Nat) (e : Eng) : BehindKept e (joinNext p e) := by
  have hport : (setPort p 5 e).hush = e.hush := by
    rw [setPort_ready]
    split <;> rfl
  obtain ⟨hpw, hse, hcu, hmc⟩ : BehindKept e (enterReady p e) := .of_hush ((raise_hush _ _ _).trans hport)
  unfold joinNext
  split
  · exact ⟨rfl, rfl, rfl, rfl⟩
  · simp only []
    split <;> exact ⟨hpw, hse, hcu, hmc⟩

/-! ### A pass (R87) -/

/-- The trims of a tile's 32 channels are stored. -/
def trimsStored (t : Nat) (trims : List Nat) (e : Eng) : Eng :=
  (List.range 32).foldl (fun a k => a.wr (FE_DSK_CAL (32 * t + k)) (trims.getD k 0)) e

/-- The tile's status after a pass. -/
def calShown (t ilv temp : Nat) (e : Eng) : Eng :=
  (((e.wr (FE_TILE_STAT_ILV_SKEW t) ilv).wr (FE_TILE_STAT_CAL_VALID t) 1).wr (FE_TILE_STAT_CAL_TEMP t) temp).wr
    (FE_TILE_STAT_CAL_STALE t) 0

theorem calPass_eq (t : Nat) (trims : List Nat) (ilv : Nat) (e : Eng) : calPass t trims ilv e =
    (calShown t ilv (toField 8 (calTemp e t)) (trimsStored t trims (e.wrBit FE_CAL_STAT_BUSY t false))).raise FE_CAL_STAT_DONE t := rfl

theorem trimsStored_rd (t : Nat) (trims : List Nat) (e : Eng) {g : Fld} (hg : ∀ c, (FE_DSK_CAL c).key ≠ g.key) :
    (trimsStored t trims e).rd g = e.rd g :=
  foldl_keeps (fun a => a.rd g) _ _ (fun a _ _ => Eng.rd_wr_other a _ (hg _)) e

theorem trimsStored_hush (t : Nat) (trims : List Nat) (e : Eng) : (trimsStored t trims e).hush = e.hush :=
  foldl_keeps Eng.hush _ _ (fun a _ _ => hush_wr a _ _) e

/-- The trim of each channel of the tile is written once. -/
theorem trimsStored_trim (t : Nat) {j : Nat} (hj : j < 32) (trims : List Nat) (e : Eng) :
    (trimsStored t trims e).rd (FE_DSK_CAL (32 * t + j)) = trims.getD j 0 % 2 ^ 7 := by
  refine foldl_once (fun a => a.rd (FE_DSK_CAL (32 * t + j))) (fun _ => trims.getD j 0 % 2 ^ 7)
    (fun a k => a.wr (FE_DSK_CAL (32 * t + k)) (trims.getD k 0)) List.nodup_range (List.mem_range.2 hj)
    (fun a => Eng.rd_wr _ _ _) (fun a i hi hne => Eng.rd_wr_other _ _ ?_) e
  have hlt := List.mem_range.1 hi
  simp only [FE_DSK_CAL, fld]
  omega

/-- The tile's status after a pass reads what was written. -/
theorem calShown_shows (t ilv : Nat) (x : Int) (e : Eng) :
    (calShown t ilv (toField 8 x) e).rd (FE_TILE_STAT_CAL_VALID t) = 1 ∧
      (calShown t ilv (toField 8 x) e).rd (FE_TILE_STAT_CAL_STALE t) = 0 ∧
      (calShown t ilv (toField 8 x) e).rd (FE_TILE_STAT_CAL_TEMP t) = toField 8 x := by
  have htempStale : (FE_TILE_STAT_CAL_STALE t).key ≠ (FE_TILE_STAT_CAL_TEMP t).key := by
    simp only [FE_TILE_STAT_CAL_STALE, FE_TILE_STAT_CAL_TEMP, fld]; omega
  have hvalidStale : (FE_TILE_STAT_CAL_STALE t).key ≠ (FE_TILE_STAT_CAL_VALID t).key := by
    simp only [FE_TILE_STAT_CAL_STALE, FE_TILE_STAT_CAL_VALID, fld]; omega
  have hvalidTemp : (FE_TILE_STAT_CAL_TEMP t).key ≠ (FE_TILE_STAT_CAL_VALID t).key := by
    simp only [FE_TILE_STAT_CAL_TEMP, FE_TILE_STAT_CAL_VALID, fld]; omega
  unfold calShown
  refine ⟨?_, Eng.rd_wr _ _ _, ?_⟩
  · rw [Eng.rd_wr_other _ _ hvalidStale, Eng.rd_wr_other _ _ hvalidTemp, Eng.rd_wr]
    rfl
  · rw [Eng.rd_wr_other _ _ htempStale, Eng.rd_wr]
    exact Nat.mod_eq_of_lt (toField_lt 8 x)

theorem calShown_hush (t ilv temp : Nat) (e : Eng) : (calShown t ilv temp e).hush = e.hush := rfl

/-- A field that is none of the tile's status stays. -/
theorem calShown_rd (t ilv temp : Nat) (e : Eng) {g : Fld} (hg : 8 * 0x100400 ≤ g.key) : (calShown t ilv temp e).rd g = e.rd g := by
  unfold calShown
  rw [Eng.rd_wr_other _ _ (by simp only [FE_TILE_STAT_CAL_STALE, fld]; omega),
    Eng.rd_wr_other _ _ (by simp only [FE_TILE_STAT_CAL_TEMP, fld]; omega),
    Eng.rd_wr_other _ _ (by simp only [FE_TILE_STAT_CAL_VALID, fld]; omega),
    Eng.rd_wr_other _ _ (by simp only [FE_TILE_STAT_ILV_SKEW, fld]; omega)]

/-- What a pass shows (R87). -/
structure CalPassed (t : Nat) (trims : List Nat) (temp : Nat) (e : Eng) : Prop where
  busy : calBusy e t = false
  done : e.bit FE_CAL_STAT_DONE t = true
  valid : e.rd (FE_TILE_STAT_CAL_VALID t) = 1
  stale : e.rd (FE_TILE_STAT_CAL_STALE t) = 0
  temp : e.rd (FE_TILE_STAT_CAL_TEMP t) = temp
  trims : ∀ j < 32, e.rd (FE_DSK_CAL (32 * t + j)) = trims.getD j 0 % 2 ^ 7

theorem calPass_passed {t : Nat} (ht : t < 8) (trims : List Nat) (ilv : Nat) (e : Eng) :
    CalPassed t trims (toField 8 (calTemp e t)) (calPass t trims ilv e) := by
  rw [calPass_eq]
  have hraise {g : Fld} (hne : FE_CAL_STAT_DONE.key ≠ g.key) (hg : g.key < 8 * 0x200000) (a : Eng) :
      (a.raise FE_CAL_STAT_DONE t).rd g = a.rd g := raise_rd a _ t hne (still_of_below (by omega))
  obtain ⟨hvalid, hstale, htemp⟩ := calShown_shows t ilv (calTemp e t) (trimsStored t trims (e.wrBit FE_CAL_STAT_BUSY t false))
  constructor
  case busy =>
    have hbusy := wrBit_bit e (f := FE_CAL_STAT_BUSY) false ht
    rw [calBusy, Eng.bit, hraise (by decide) (by decide), calShown_rd _ _ _ _ (by decide),
      trimsStored_rd _ _ _ (fun c => by simp only [FE_DSK_CAL, FE_CAL_STAT_BUSY, fld]; omega)]
    exact hbusy
  case done => exact raise_bit _ _ _ ht (still_of_below (by decide))
  case valid => exact (hraise (by simp only [FE_CAL_STAT_DONE, FE_TILE_STAT_CAL_VALID, fld]; omega)
      (by simp only [FE_TILE_STAT_CAL_VALID, fld]; omega) _).trans hvalid
  case stale => exact (hraise (by simp only [FE_CAL_STAT_DONE, FE_TILE_STAT_CAL_STALE, fld]; omega)
      (by simp only [FE_TILE_STAT_CAL_STALE, fld]; omega) _).trans hstale
  case temp => exact (hraise (by simp only [FE_CAL_STAT_DONE, FE_TILE_STAT_CAL_TEMP, fld]; omega)
      (by simp only [FE_TILE_STAT_CAL_TEMP, fld]; omega) _).trans htemp
  case trims =>
    intro j hj
    rw [hraise (by simp only [FE_CAL_STAT_DONE, FE_DSK_CAL, fld]; omega) (by simp only [FE_DSK_CAL, fld]; omega),
      calShown_rd _ _ _ _ (by simp only [FE_DSK_CAL, fld]; omega)]
    exact trimsStored_trim t hj trims _

theorem calPass_behind (t : Nat) (trims : List Nat) (ilv : Nat) (e : Eng) : BehindKept e (calPass t trims ilv e) := by
  refine .of_hush ?_
  rw [calPass_eq, raise_hush, calShown_hush, trimsStored_hush]
  rfl

/-! ### A failure (R87) -/

/-- What a failure shows, and the trims and CAL_VALID that it keeps (R87). -/
structure CalFailed (t : Nat) (e e' : Eng) : Prop where
  busy : calBusy e' t = false
  fail : e'.bit FE_CAL_STAT_FAIL t = true
  valid : e'.rd (FE_TILE_STAT_CAL_VALID t) = e.rd (FE_TILE_STAT_CAL_VALID t)
  trims : ∀ c, e'.rd (FE_DSK_CAL c) = e.rd (FE_DSK_CAL c)

theorem calFail_failed {t : Nat} (ht : t < 8) (mask : Nat) (e : Eng) : CalFailed t e (calFail t mask e) := by
  have hkept {g : Fld} (hfail : FE_CAL_STAT_FAIL.key ≠ g.key) (hbusy : FE_CAL_STAT_BUSY.key ≠ g.key) (hg : g.key < 8 * 0x200000) :
      (calFail t mask e).rd g = e.rd g := by
    rw [calFail, raisePost_rd _ _ _ _ hfail (still_of_below (by omega)), wrBit_eq, Eng.rd_wr_other _ _ hbusy]
  constructor
  case busy =>
    have hbusy := wrBit_bit e (f := FE_CAL_STAT_BUSY) false ht
    rw [calBusy, calFail, Eng.bit, raisePost_rd _ _ _ _ (by decide) (still_of_below (by decide))]
    exact hbusy
  case fail =>
    unfold calFail
    exact raisePost_bit _ FE_CAL_STAT_FAIL t _ ht (still_of_below (by decide))
  case valid => apply hkept <;> simp only [FE_CAL_STAT_FAIL, FE_CAL_STAT_BUSY, FE_TILE_STAT_CAL_VALID, fld] <;> omega
  case trims =>
    intro c
    apply hkept <;> simp only [FE_CAL_STAT_FAIL, FE_CAL_STAT_BUSY, FE_DSK_CAL, fld] <;> omega

theorem calFail_behind (t mask : Nat) (e : Eng) : BehindKept e (calFail t mask e) := .of_hush (raisePost_hush _ _ _ _)

/-! ### CAL_DONE (R87, R99) -/

/-- The result of a calibration, before its port goes on. -/
def calResult (t fail : Nat) (trims : List Nat) (ilv : Nat) (e : Eng) : Eng :=
  if fail % 16 = 0 then calPass t trims ilv e else calFail t (fail % 16) e

theorem calDone_idle {t : Nat} {e : Eng} (fail : Nat) (trims : List Nat) (ilv : Nat) (h : calBusy e t = false) :
    calDone t fail trims ilv e = e := by
  unfold calDone
  rw [if_pos (by simp [h])]

/-- The result stands below the pod ports whether the port goes on or not. -/
theorem calDone_result {t : Nat} {e : Eng} (fail : Nat) (trims : List Nat) (ilv : Nat) (h : calBusy e t = true) :
    (∀ g : Fld, g.key < 8 * 0x200000 → (calDone t fail trims ilv e).rd g = (calResult t fail trims ilv e).rd g) ∧
      BehindKept e (calDone t fail trims ilv e) := by
  have hbehind : BehindKept e (calResult t fail trims ilv e) := by
    unfold calResult
    split
    · exact calPass_behind t trims ilv e
    · exact calFail_behind t _ e
  have hjoined (x : FeSt) : BehindKept e { calResult t fail trims ilv e with fe := x } :=
    ⟨hbehind.pw, hbehind.se, hbehind.cu, hbehind.mc⟩
  have hrun : calDone t fail trims ilv e = if natBit e.fe.calJ1 t then
      joinNext t { calResult t fail trims ilv e with
        fe := { (calResult t fail trims ilv e).fe with calJ1 := clrNatBit (calResult t fail trims ilv e).fe.calJ1 t } }
      else calResult t fail trims ilv e := by
    unfold calDone
    rw [if_neg (by simp [h])]
    rfl
  rw [hrun]
  split
  · exact ⟨fun g hg => joinNext_rd t _ hg, (hjoined _).trans (joinNext_behind t _)⟩
  · exact ⟨fun _ _ => rfl, hbehind⟩

/-- CAL_DONE of a tile that calibrates completes, and its registers below the pod ports are those of the result. -/
theorem calDone_completes (s : State) {k : Nat} (fail : Nat) (trims : List Nat) (ilv : Nat) (hup : s.up) (hquiet : s.quiet)
    (hbusy : calBusy s.eng k = true) :
    Completes (.calDone k fail trims ilv) s fun t =>
      ∀ g : Fld, g.key < 8 * 0x200000 → t.eng.rd g = (calResult k fail trims ilv s.eng).rd g := by
  obtain ⟨hrd, hbehind⟩ := calDone_result fail trims ilv hbusy
  exact ⟨_, onAll_quiet s (fun e _ => calDone k fail trims ilv e) hup hquiet hbehind, rfl, hrd⟩

/-- The registers of a calibration's result stand below the pod ports. -/
theorem calFld_below (k c : Nat) : FE_CAL_STAT_BUSY.key < 8 * 0x200000 ∧ FE_CAL_STAT_DONE.key < 8 * 0x200000 ∧
    FE_CAL_STAT_FAIL.key < 8 * 0x200000 ∧ (FE_TILE_STAT_CAL_VALID k).key < 8 * 0x200000 ∧
    (FE_TILE_STAT_CAL_STALE k).key < 8 * 0x200000 ∧ (FE_TILE_STAT_CAL_TEMP k).key < 8 * 0x200000 ∧
    (FE_DSK_CAL c).key < 8 * 0x200000 := by
  simp only [FE_CAL_STAT_BUSY, FE_CAL_STAT_DONE, FE_CAL_STAT_FAIL, FE_TILE_STAT_CAL_VALID, FE_TILE_STAT_CAL_STALE,
    FE_TILE_STAT_CAL_TEMP, FE_DSK_CAL, fld]
  omega

/-- What is read below the pod ports alone carries over to an engine that reads alike there. -/
theorem CalPassed.congr {t : Nat} {trims : List Nat} {temp : Nat} {e e' : Eng} (h : CalPassed t trims temp e)
    (hrd : ∀ g : Fld, g.key < 8 * 0x200000 → e'.rd g = e.rd g) : CalPassed t trims temp e' := by
  obtain ⟨hbusy, hdone, -, hvalid, hstale, htemp, -⟩ := calFld_below t 0
  refine ⟨?_, ?_, (hrd _ hvalid).trans h.valid, (hrd _ hstale).trans h.stale, (hrd _ htemp).trans h.temp, fun j hj => ?_⟩
  · rw [calBusy, Eng.bit, hrd _ hbusy, ← Eng.bit, ← calBusy, h.busy]
  · rw [Eng.bit, hrd _ hdone, ← Eng.bit, h.done]
  · obtain ⟨-, -, -, -, -, -, htrim⟩ := calFld_below t (32 * t + j)
    exact (hrd _ htrim).trans (h.trims j hj)

theorem CalFailed.congr {t : Nat} {e e' e'' : Eng} (h : CalFailed t e e')
    (hrd : ∀ g : Fld, g.key < 8 * 0x200000 → e''.rd g = e'.rd g) : CalFailed t e e'' := by
  obtain ⟨hbusy, -, hfail, hvalid, -, -, -⟩ := calFld_below t 0
  refine ⟨?_, ?_, (hrd _ hvalid).trans h.valid, fun c => ?_⟩
  · rw [calBusy, Eng.bit, hrd _ hbusy, ← Eng.bit, ← calBusy, h.busy]
  · rw [Eng.bit, hrd _ hfail, ← Eng.bit, h.fail]
  · obtain ⟨-, -, -, -, -, -, htrim⟩ := calFld_below t c
    exact (hrd _ htrim).trans (h.trims c)

end Machine
end Sys2Proof
end

section
/-!
SUPPORT. The obligation O13.
-/
open Sys2Proof Sys2Proof.Machine

/-- Settles O13: of a CAL_REQUEST the step of a tile alone touches it (`calRequest_at`), and starts it, refuses it or leaves it. A
CAL_DONE shows its result (`calDone_completes`): a pass (`calPass_passed`) or a failure (`calFail_failed`). -/
theorem calibrationRequestAndResult : Obligations.CalibrationRequestAndResult := by
  unfold Obligations.CalibrationRequestAndResult
  refine ⟨fun s tiles hup => ⟨_, onEng_up s (calRequest tiles) hup, rfl, fun k hk => ?_⟩, fun s k fail ilv trims hup hk hquiet => ?_⟩
  · exact ⟨fun hask h => calRequest_busy hk hask h, fun hask hidle hsamples => calRequest_refused hk hask hidle hsamples,
      fun hask => calRequest_unasked hk hask⟩
  refine ⟨fun hidle hinv => ?_, fun hbusy hpass => ?_, fun hbusy hfail => ?_⟩
  · have hsame := calDone_idle fail trims ilv hidle
    refine onMem_idle s (fun e m => settle m (calDone k fail trims ilv e)) hup hinv ?_
    rw [hsame]
    exact settle_quiet hquiet ⟨rfl, rfl, rfl, rfl⟩ s.mem
  · obtain ⟨t, hexec, hpending, hrd⟩ := calDone_completes s fail trims ilv hup hquiet hbusy
    rw [calResult, if_pos hpass] at hrd
    obtain ⟨hnot, hdone, hvalid, hstale, htemp, htrims⟩ := (calPass_passed hk trims ilv s.eng).congr hrd
    exact ⟨t, hexec, hpending, hnot, hdone, hvalid, hstale, htemp, htrims⟩
  · obtain ⟨t, hexec, hpending, hrd⟩ := calDone_completes s fail trims ilv hup hquiet hbusy
    rw [calResult, if_neg hfail] at hrd
    obtain ⟨hnot, hfailed, hvalid, htrims⟩ := (calFail_failed hk (fail % 16) s.eng).congr hrd
    exact ⟨t, hexec, hpending, hnot, hfailed, hvalid, fun c _ => htrims c⟩

end

section
/-!
SUPPORT. The entry of a pod port into a state (R89, R96), what ATTN_PRESS does where POD_EVT.ATTN holds a value of its width (R95), and
the states that refute O15 and O16.
-/
namespace Sys2Proof
namespace Machine

/-! ### A port enters a state (R89, R96) -/

/-- The fields that show the state of a port. -/
def portKeys (p : Nat) : List Nat := [(POD_STAT_STATE p).key, (POD_CTRL_IND p).key, (POD_STAT_ID_VALID p).key]

theorem ite_wr_rd (c : Prop) [Decidable c] (e : Eng) {f g : Fld} (v : Nat) (h : f.key ≠ g.key) :
    (if c then e.wr f v else e).rd g = e.rd g := by
  split
  · exact Eng.rd_wr_other e v h
  · rfl

/-- What `setPort` has written besides STATE is the indicator and ID_VALID. -/
theorem setPort_rd_wr (p st : Nat) (e : Eng) {g : Fld} (hind : (POD_CTRL_IND p).key ≠ g.key) (hid : (POD_STAT_ID_VALID p).key ≠ g.key) :
    (setPort p st e).rd g = (e.wr (POD_STAT_STATE p) st).rd g := by
  unfold setPort
  simp only []
  split
  · exact ite_wr_rd _ _ _ hind
  · rw [Eng.rd_wr_other _ _ hid, ite_wr_rd _ _ _ hind]

theorem setPort_rd (p st : Nat) (e : Eng) {g : Fld} (hg : g.key ∉ portKeys p) : (setPort p st e).rd g = e.rd g := by
  rw [setPort_rd_wr p st e (key_ne_of_mem hg (by simp [portKeys])) (key_ne_of_mem hg (by simp [portKeys])),
    Eng.rd_wr_other _ _ (key_ne_of_mem hg (by simp [portKeys]))]

theorem setPort_state (p : Nat) {st : Nat} (hst : st < 8) (e : Eng) : (setPort p st e).rd (POD_STAT_STATE p) = st := by
  rw [setPort_rd_wr p st e (by simp only [POD_CTRL_IND, POD_STAT_STATE, fld]; omega)
    (by simp only [POD_STAT_ID_VALID, POD_STAT_STATE, fld]; omega), Eng.rd_wr]
  exact Nat.mod_eq_of_lt hst

/-- The registers of the pod ports are none that a report changes. -/
theorem still_pod {off lsb width reset : Nat} (h : off < 0x300000) (hlsb : lsb < 32) : Still (fld off lsb width reset) :=
  still_of_below (by simp only [fld]; omega)

/-- A port that enters READY shows it, where POD_EVT.READY holds a value of its width (R99). -/
theorem enterReady_shows (p : Nat) (e : Eng) (hready : e.rd (POD_EVT_READY p) < 2) :
    (enterReady p e).rd (POD_STAT_STATE p) = 5 ∧ (enterReady p e).rd (POD_EVT_READY p) = 1 := by
  have hport : (POD_EVT_READY p).key ∉ portKeys p := by
    simp only [portKeys, POD_EVT_READY, POD_STAT_STATE, POD_CTRL_IND, POD_STAT_ID_VALID, fld, List.mem_cons, List.not_mem_nil, or_false]
    omega
  have hstate : (POD_EVT_READY p).key ≠ (POD_STAT_STATE p).key := Ne.symm (key_ne_of_mem hport (by simp [portKeys]))
  unfold enterReady
  refine ⟨?_, raise_reads_one _ rfl (still_pod (by omega) (by omega)) ?_⟩
  · rw [raise_rd _ _ _ hstate (still_pod (by omega) (by omega)), setPort_state p (by decide)]
  · rwa [setPort_rd p 5 e hport]

/-! ### ATTN_PRESS (R95) -/

/-- A press with POLICY 2 in OFF. -/
theorem attnPress_off {p : Nat} {e : Eng} (hoff : e.rd (POD_STAT_STATE p) = 1) (hpolicy : e.rd (POD_CTRL_POLICY p) = 2) :
    attnPress p e = powerIfRequested p ((e.raise (POD_EVT_ATTN p)).wr (POD_CTRL_PWR_REQ p) 1) := by
  unfold attnPress
  rw [if_pos ⟨hoff, hpolicy⟩]

/-- A press in READY begins the 5 s, or ends them. -/
theorem attnPress_ready {p : Nat} {e : Eng} (hready : e.rd (POD_STAT_STATE p) = 5)
    (hrem : e.rd (POD_CTRL_ATTN_REM p) ≠ 0 ∨ natBit e.pod.attnOff p = true) :
    attnPress p e =
      let e1 := e.raise (POD_EVT_ATTN p)
      let e2 := { e1 with pod := { e1.pod with attnOff := putNatBit e1.pod.attnOff p (!natBit e.pod.attnOff p) } }
      if e.on (POD_CTRL_IND_AUTO p) then e2.wr (POD_CTRL_IND p) (if natBit e.pod.attnOff p then 1 else 2) else e2 := by
  unfold attnPress
  rw [if_neg (by simp [hready]), if_pos ⟨hready, by simpa [Eng.on, or_comm] using hrem⟩]

/-- Any other press is only reported. -/
theorem attnPress_else {p : Nat} {e : Eng} (hoff : ¬(e.rd (POD_STAT_STATE p) = 1 ∧ e.rd (POD_CTRL_POLICY p) = 2))
    (hready : ¬(e.rd (POD_STAT_STATE p) = 5 ∧ (e.rd (POD_CTRL_ATTN_REM p) ≠ 0 ∨ natBit e.pod.attnOff p = true))) :
    attnPress p e = e.raise (POD_EVT_ATTN p) := by
  unfold attnPress
  rw [if_neg hoff, if_neg (by simpa [Eng.on, or_comm] using hready)]

/-- Neither the event of a press nor the request for power is a field that shows the state. -/
theorem attnKeys_apart (p : Nat) : (POD_EVT_ATTN p).key ∉ portKeys p ∧ (POD_CTRL_PWR_REQ p).key ∉ portKeys p ∧
    (POD_EVT_ATTN p).key ≠ (POD_CTRL_PWR_REQ p).key := by
  simp only [portKeys, POD_EVT_ATTN, POD_CTRL_PWR_REQ, POD_STAT_STATE, POD_CTRL_IND, POD_STAT_ID_VALID, fld, List.mem_cons,
    List.not_mem_nil, or_false]
  omega

/-- The event of a press reads 1 where it held a value of its width. -/
theorem raise_attn {p : Nat} {e : Eng} (hattn : e.rd (POD_EVT_ATTN p) < 2) : (e.raise (POD_EVT_ATTN p)).rd (POD_EVT_ATTN p) = 1 :=
  raise_reads_one e rfl (still_pod (by omega) (by omega)) hattn

/-- A port in OFF whose supplies are requested enters POWERING (R92, R94). -/
theorem powerIfRequested_on {p : Nat} {e : Eng} (hoff : e.rd (POD_STAT_STATE p) = 1) (hreq : e.rd (POD_CTRL_PWR_REQ p) = 1) :
    powerIfRequested p e = podPin p true (setPort p 2 e) := by
  unfold powerIfRequested
  rw [if_pos ⟨hoff, by simp [Eng.on, hreq]⟩]
  rfl

/-- A press with POLICY 2 in OFF powers the pod. -/
theorem attnPress_powers {p : Nat} {e : Eng} (hoff : e.rd (POD_STAT_STATE p) = 1) (hpolicy : e.rd (POD_CTRL_POLICY p) = 2)
    (hattn : e.rd (POD_EVT_ATTN p) < 2) : (attnPress p e).rd (POD_EVT_ATTN p) = 1 ∧ (attnPress p e).rd (POD_STAT_STATE p) = 2 ∧
      (attnPress p e).rd (POD_CTRL_PWR_REQ p) = 1 := by
  obtain ⟨hpress, hreq, hpressReq⟩ := attnKeys_apart p
  have hpressState : (POD_EVT_ATTN p).key ≠ (POD_STAT_STATE p).key := Ne.symm (key_ne_of_mem hpress (by simp [portKeys]))
  have hreqState : (POD_CTRL_PWR_REQ p).key ≠ (POD_STAT_STATE p).key := Ne.symm (key_ne_of_mem hreq (by simp [portKeys]))
  have hstate : ((e.raise (POD_EVT_ATTN p)).wr (POD_CTRL_PWR_REQ p) 1).rd (POD_STAT_STATE p) = 1 := by
    rw [Eng.rd_wr_other _ _ hreqState, raise_rd _ _ _ hpressState (still_pod (by omega) (by omega)), hoff]
  rw [attnPress_off hoff hpolicy, powerIfRequested_on hstate (Eng.rd_wr _ _ _)]
  refine ⟨?_, setPort_state p (by decide) _, ?_⟩
  · exact (setPort_rd p 2 _ hpress).trans ((Eng.rd_wr_other _ _ (Ne.symm hpressReq)).trans (raise_attn hattn))
  · exact (setPort_rd p 2 _ hreq).trans (Eng.rd_wr _ _ _)

/-- A press in READY turns the pending power-off on or off, and leaves the request for power alone. -/
theorem attnPress_toggles {p : Nat} {e : Eng} (hready : e.rd (POD_STAT_STATE p) = 5)
    (hrem : e.rd (POD_CTRL_ATTN_REM p) ≠ 0 ∨ natBit e.pod.attnOff p = true) (hattn : e.rd (POD_EVT_ATTN p) < 2) :
    (attnPress p e).rd (POD_EVT_ATTN p) = 1 ∧ natBit (attnPress p e).pod.attnOff p = (!natBit e.pod.attnOff p) ∧
      (attnPress p e).rd (POD_CTRL_PWR_REQ p) = e.rd (POD_CTRL_PWR_REQ p) := by
  obtain ⟨hpress, hreq, hpressReq⟩ := attnKeys_apart p
  have hind {g : Fld} (hg : g.key ∉ portKeys p) : (POD_CTRL_IND p).key ≠ g.key := key_ne_of_mem hg (by simp [portKeys])
  have hbit (x : Nat) := natBit_putNatBit x p (!natBit e.pod.attnOff p)
  have hkept := raise_rd e (POD_EVT_ATTN p) 0 (g := POD_CTRL_PWR_REQ p) hpressReq (still_pod (by omega) (by omega))
  rw [attnPress_ready hready hrem]
  refine ⟨(ite_wr_rd _ _ _ (hind hpress)).trans (raise_attn hattn), ?_, (ite_wr_rd _ _ _ (hind hreq)).trans hkept⟩
  simp only []
  split <;> exact hbit _

/-- What ATTN_PRESS does where POD_EVT.ATTN holds a value of its width. -/
theorem attnPress_completes (s : State) (p : Nat) (hup : s.up) (hattn : s.rd (POD_EVT_ATTN p) < 2) :
    Completes (.attnPress p) s fun t => t.rd (POD_EVT_ATTN p) = 1 ∧ t.mem = s.mem ∧
      (s.rd (POD_STAT_STATE p) = 1 → s.rd (POD_CTRL_POLICY p) = 2 → t.rd (POD_STAT_STATE p) = 2 ∧ t.rd (POD_CTRL_PWR_REQ p) = 1) ∧
      (s.rd (POD_STAT_STATE p) = 5 → s.rd (POD_CTRL_ATTN_REM p) = 1 ∨ natBit s.eng.pod.attnOff p = true →
        natBit t.eng.pod.attnOff p = !natBit s.eng.pod.attnOff p ∧ t.rd (POD_CTRL_PWR_REQ p) = s.rd (POD_CTRL_PWR_REQ p)) ∧
      (¬(s.rd (POD_STAT_STATE p) = 1 ∧ s.rd (POD_CTRL_POLICY p) = 2) →
        ¬(s.rd (POD_STAT_STATE p) = 5 ∧ (s.rd (POD_CTRL_ATTN_REM p) ≠ 0 ∨ natBit s.eng.pod.attnOff p = true)) →
        Kept [(POD_EVT_ATTN p).key] s t) := by
  have hexec := onEng_up s (attnPress p) hup
  by_cases hoff : s.rd (POD_STAT_STATE p) = 1 ∧ s.rd (POD_CTRL_POLICY p) = 2
  case pos =>
    obtain ⟨hone, hstate, hreq⟩ := attnPress_powers hoff.1 hoff.2 hattn
    exact ⟨_, hexec, rfl, hone, rfl, fun _ _ => ⟨hstate, hreq⟩, fun h => absurd (hoff.1.symm.trans h) (by decide),
      fun h => absurd hoff h⟩
  by_cases hready : s.rd (POD_STAT_STATE p) = 5 ∧ (s.rd (POD_CTRL_ATTN_REM p) ≠ 0 ∨ natBit s.eng.pod.attnOff p = true)
  case pos =>
    obtain ⟨hone, hbit, hreq⟩ := attnPress_toggles hready.1 hready.2 hattn
    exact ⟨_, hexec, rfl, hone, rfl, fun h => absurd (h.symm.trans hready.1) (by decide), fun _ _ => ⟨hbit, hreq⟩,
      fun _ h => absurd hready h⟩
  case neg =>
    have hrem (h : s.rd (POD_CTRL_ATTN_REM p) = 1 ∨ natBit s.eng.pod.attnOff p = true) :
        s.rd (POD_CTRL_ATTN_REM p) ≠ 0 ∨ natBit s.eng.pod.attnOff p = true := h.imp_left fun hone => ne_of_eq_of_ne hone one_ne_zero
    rw [attnPress_else hoff hready] at hexec
    exact ⟨_, hexec, rfl, raise_attn hattn, rfl, fun h h' => absurd ⟨h, h'⟩ hoff, fun h h' => absurd ⟨h, hrem h'⟩ hready,
      fun _ _ => kept_withEng fun g hg hs => raise_rd s.eng _ _ (key_ne_of_mem hg (List.mem_singleton_self _)) hs⟩

/-! ### The states that refute O15 and O16 -/

/-- The state after reset, but POD_EVT.ATTN of port 0, a field of one bit, holds 3. -/
def attnWide : State := { eng := { regs := [((POD_EVT_ATTN 0).key, 3)] } }

/-- Mode TIMING with port 0 in JOINING, and its POD_EVT.READY, a field of one bit, holds 3. -/
def readyWide : State :=
  { eng := { regs := [(GLB_MODE_STAT_CUR.key, 1), ((POD_STAT_STATE 0).key, 4), ((POD_EVT_READY 0).key, 3)] } }

end Machine
end Sys2Proof
end

section
/-!
SUPPORT. The obligations O15 and O16.
-/
open Sys2Proof Sys2Proof.Machine

/-- Refutes O15: nothing bounds the value that a one-bit event field holds. Where POD_EVT.ATTN holds 3, a value that `Eng.wr` never stores,
its bit counts as set, so a press leaves the field at 3 and not at 1. `attnPress_completes` proves the clause with the bound that it lacks;
the clauses on ID_DONE, FAULT, NACK and SB_DONE lack the same bound. -/
theorem not_podButtonIdentityAndSideband : ¬ Obligations.PodButtonIdentityAndSideband := by
  unfold Obligations.PodButtonIdentityAndSideband
  intro h
  obtain ⟨⟨t, hexec, -, hone, -⟩, -⟩ := h attnWide 0 rfl (by decide)
  have hthree : outcomeHas (.attnPress 0) attnWide (fun t => t.rd (POD_EVT_ATTN 0) == 3) = true := by decide +kernel
  rw [outcomeHas_next _ hexec, hone] at hthree
  exact absurd hthree (by decide)

/-- Refutes O16: nothing bounds the value that a one-bit event field holds. Where POD_EVT.READY holds 3, a value that `Eng.wr` never stores,
its bit counts as set, so a tile that rejoins from JOINING leaves the field at 3 and not at 1. `enterReady_shows` proves what the entry into
READY shows with the bound that the statement lacks. -/
theorem not_tileLeavesAndRejoins : ¬ Obligations.TileLeavesAndRejoins := by
  unfold Obligations.TileLeavesAndRejoins
  intro h
  obtain ⟨-, -, hrejoin⟩ := h readyWide 0 rfl (by decide)
  obtain ⟨hback, -⟩ := hrejoin 0 (by decide +kernel) (by decide +kernel) (by decide +kernel) (by decide +kernel)
  obtain ⟨hjoining, -⟩ := hback (by decide +kernel) (by decide +kernel)
  obtain ⟨t, hexec, -, -, hone, -⟩ := hjoining (by decide +kernel)
  have hthree : outcomeHas (.tileRejoin 0 0) readyWide (fun t => t.rd (POD_EVT_READY 0) == 3) = true := by decide +kernel
  rw [outcomeHas_next _ hexec, hone] at hthree
  exact absurd hthree (by decide)

end

section
/-!
SUPPORT. What the loops of clock synthesis leave alone as they lock and are lost (R107, R111 to R121): the fields of the clock block of
other loops, the lock detectors, the failed references, and whatever goes on behind a command.
-/
namespace Sys2Proof
namespace Machine

/-! ### The fields of clock synthesis -/

/-- A field of clock synthesis below the registers of the outputs CLKOUT. -/
def ClockField (g : Fld) : Prop := 8 * 0x300000 ≤ g.key ∧ g.key < 8 * 0x302000

/-- A field that is written where nothing but the fields of `ks` changes in clock synthesis. -/
def Allowed (ks : List Nat) (f : Fld) : Prop := f.key ∈ ks ∨ ¬ClockField f

theorem outside_fld {ks : List Nat} {off lsb width reset : Nat} (h : off < 0x2FFFF0 ∧ lsb < 32 ∨ 0x302000 ≤ off) :
    Allowed ks (fld off lsb width reset) := by
  refine .inr fun hclk => ?_
  simp only [ClockField, fld] at hclk
  omega

theorem Allowed.ne {ks : List Nat} {f g : Fld} (hf : Allowed ks f) (hg : ClockField g) (hk : g.key ∉ ks) : f.key ≠ g.key := by
  rcases hf with hf | hf
  · exact key_ne_of_mem hk hf
  · intro h
    simp only [ClockField, h] at hf
    exact hf hg

theorem ClockField.still {g : Fld} (hg : ClockField g) : Still g := still_of_below (lt_of_lt_of_le hg.2 (by decide))

theorem ClockField.notShown {g : Fld} (hg : ClockField g) : g.key ∉ loopKeys := by
  have hrange : ∀ k ∈ loopKeys, 8 * 0x302000 ≤ k := by decide
  exact fun hk => Nat.not_le_of_lt hg.2 (hrange _ hk)

theorem clockField_fld {off lsb width reset : Nat} (h : 0x300000 ≤ off ∧ off < 0x301FF0 ∧ lsb < 32) : ClockField (fld off lsb width reset) := by
  simp only [ClockField, fld]
  omega

/-! ### What stays beside those fields -/

/-- Per loop, whether lock is declared and the windows that have passed. -/
def Eng.detectors (e : Eng) (n : Nat) : Bool × Nat := ((e.getLoop n).decl, (e.getLoop n).passes)

/-- What may go on behind a command (R32, R404, R441, R466, R470). -/
def Eng.behind (e : Eng) : PwrSt × SecSt × CurSt × List MemReq × List MemReq := (e.pw, e.se, e.cu, e.mc.fab, e.mc.stalled)

/-- The lock detectors, the failed references, what may go on behind a command, and the active values. -/
def Eng.aside (e : Eng) : (Nat → Bool × Nat) × Nat × (PwrSt × SecSt × CurSt × List MemReq × List MemReq) × RegFile :=
  (e.detectors, e.clk.refBad, e.behind, e.act)

/-- Between two states of the engine no field of clock synthesis but those of `ks` changes, nor anything of `Eng.aside`. -/
structure LoopsKept (ks : List Nat) (e e' : Eng) : Prop where
  rd : ∀ g : Fld, ClockField g → g.key ∉ ks → e'.rd g = e.rd g
  aside : e'.aside = e.aside

namespace LoopsKept

variable {ks ks' : List Nat} {e e' e'' : Eng}

theorem refl (e : Eng) : LoopsKept ks e e := ⟨fun _ _ _ => rfl, rfl⟩

theorem trans (h : LoopsKept ks e e') (h' : LoopsKept ks e' e'') : LoopsKept ks e e'' :=
  ⟨fun g hg hk => (h'.rd g hg hk).trans (h.rd g hg hk), h'.aside.trans h.aside⟩

theorem mono (h : LoopsKept ks e e') (hks : ks ⊆ ks') : LoopsKept ks' e e' := ⟨fun g hg hk => h.rd g hg fun h => hk (hks h), h.aside⟩

theorem of_regs (hregs : e'.regs = e.regs) (haside : e'.aside = e.aside) : LoopsKept ks e e' :=
  ⟨fun g _ _ => by rw [Eng.rd, hregs, ← Eng.rd], haside⟩

theorem wr (h : LoopsKept ks e e') {f : Fld} (v : Nat) (hf : Allowed ks f := by exact outside_fld (by omega)) :
    LoopsKept ks e (e'.wr f v) :=
  h.trans ⟨fun _ hg hk => Eng.rd_wr_other e' v (hf.ne hg hk), rfl⟩

/-- A report changes nothing but what reports change. -/
theorem of_hush (hh : e'.hush = e.hush) (hrd : ∀ g : Fld, ClockField g → g.key ∉ ks → e'.rd g = e.rd g) : LoopsKept ks e e' := by
  have haside := congrArg Eng.aside hh
  exact ⟨hrd, haside⟩

theorem raise (h : LoopsKept ks e e') {f : Fld} (i : Nat) (hf : Allowed ks f := by exact outside_fld (by omega)) :
    LoopsKept ks e (e'.raise f i) :=
  h.trans <| of_hush (raise_hush e' f i) fun _ hg hk => raise_rd e' f i (hf.ne hg hk) hg.still

theorem raisePost (h : LoopsKept ks e e') {f : Fld} (i : Nat) (d : List Byte) (hf : Allowed ks f) : LoopsKept ks e (e'.raisePost f i d) :=
  h.trans <| of_hush (raisePost_hush e' f i d) fun _ hg hk => raisePost_rd e' f i d (hf.ne hg hk) hg.still

theorem irqMessage (h : LoopsKept ks e e') (v : Nat) : LoopsKept ks e (Machine.irqMessage v e') :=
  h.trans <| of_hush (irqMessage_hush v e') fun _ hg _ => irqMessage_rd v e' hg.still

theorem foldl {α : Type} (f : Eng → α → Eng) (l : List α) (h : ∀ e a, LoopsKept ks e (f e a)) (e : Eng) : LoopsKept ks e (l.foldl f e) :=
  List.foldlRecOn l f (motive := LoopsKept ks e) (refl e) fun b hb a _ => hb.trans (h b a)

theorem ite {c : Prop} [Decidable c] (h : LoopsKept ks e e') (h' : LoopsKept ks e e'') : LoopsKept ks e (if c then e' else e'') := by
  split
  · exact h
  · exact h'

theorem decl (h : LoopsKept ks e e') (n : Nat) : (e'.getLoop n).decl = (e.getLoop n).decl :=
  congrArg (fun x => (x.1 n).1) h.aside

theorem passes (h : LoopsKept ks e e') (n : Nat) : (e'.getLoop n).passes = (e.getLoop n).passes :=
  congrArg (fun x => (x.1 n).2) h.aside

theorem refBad (h : LoopsKept ks e e') : e'.clk.refBad = e.clk.refBad := congrArg (fun x => x.2.1) h.aside

theorem behind (h : LoopsKept ks e e') : e'.behind = e.behind := congrArg (fun x => x.2.2.1) h.aside

theorem bit (h : LoopsKept ks e e') {f : Fld} (i : Nat) (hf : ClockField f) (hk : f.key ∉ ks) : e'.bit f i = e.bit f i := by
  rw [Eng.bit, h.rd f hf hk, ← Eng.bit]

end LoopsKept

/-! ### The state of a loop -/

@[simp] theorem getLoop_modLoop (e : Eng) (n : Nat) (f : LoopSt → LoopSt) : (e.modLoop n f).getLoop n = f (e.getLoop n) :=
  putAt_same _ _ _ _

theorem getLoop_modLoop_other (e : Eng) {n m : Nat} (f : LoopSt → LoopSt) (h : n % 8 ≠ m % 8) :
    (e.modLoop n f).getLoop m = e.getLoop m :=
  putAt_other _ _ _ _ _ h

/-- A change of a loop that leaves its lock detector alone. -/
theorem modLoop_kept {ks : List Nat} (e : Eng) (n : Nat) {f : LoopSt → LoopSt}
    (hf : ∀ l, (f l).decl = l.decl ∧ (f l).passes = l.passes) : LoopsKept ks e (e.modLoop n f) := by
  refine .of_regs rfl (Prod.ext (funext fun m => ?_) rfl)
  show ((e.modLoop n f).detectors m) = e.detectors m
  by_cases hm : n % 8 = m % 8
  · have hsame (a : Eng) : a.getLoop m = a.getLoop n := by rw [Eng.getLoop, Eng.getLoop, hm]
    simp only [Eng.detectors, hsame, getLoop_modLoop, hf]
  · simp only [Eng.detectors, getLoop_modLoop_other e f hm]

/-! ### The display link follows VPLL (R362), capture memory follows MPLL (R117) -/

section Followers

variable {ks : List Nat}

theorem trainFail_kept (code : Nat) (e : Eng) : LoopsKept ks e (trainFail code e) := by
  have haux : LoopsKept ks e (auxRelease e) := by
    unfold auxRelease
    split
    · exact .of_regs rfl rfl
    · exact .refl e
  exact .raise (.wr (.wr (.wr haux _) _) _) _

theorem trainStart_kept (e : Eng) : LoopsKept ks e (trainStart e) := by
  have hbusy : LoopsKept ks e ((e.wr VIT_LINK_STAT_BUSY 1).wr VIT_STAT_LINK_UP 0) := .wr (.wr (.refl e) _) _
  exact .ite (.refl e) (.ite (hbusy.trans (.of_regs rfl rfl)) (trainFail_kept 1 e))

theorem vpllBack_kept (e : Eng) : LoopsKept ks e (vpllBack e) := .ite (trainStart_kept e) (.refl e)

theorem vpllLost_kept (e : Eng) : LoopsKept ks e (vpllLost e) := by
  have hdown : LoopsKept ks e ((e.wr VIT_STAT_LINK_UP 0).wr VIT_STAT_PSR_ACT 0) := .wr (.wr (.refl e) _) _
  exact .ite (hdown.trans (trainFail_kept 1 _)) hdown

theorem passAbandon_kept (e : Eng) : LoopsKept ks e (passAbandon e) := by
  have hgather : LoopsKept ks e (e.wr MEM_TRN_STAT_GATHER 0) := .wr (.refl e) _
  have hended : LoopsKept ks e { e.wr MEM_TRN_STAT_GATHER 0 with mc := { e.mc with pass := false, resume := false } } :=
    hgather.trans (.of_regs rfl rfl)
  unfold passAbandon
  split
  · exact hended.raise 0
  · exact .refl e

theorem modStk_kept (s : Nat) (f : StackSt → StackSt) (e : Eng) : LoopsKept ks e (e.modStk s f) := .of_regs rfl rfl

theorem modEla_kept (t : Nat) (f : ElaTile → ElaTile) (e : Eng) : LoopsKept ks e (e.modEla t f) := .of_regs rfl rfl

theorem setDebt_kept (s : Nat) (d : Int) (e : Eng) : LoopsKept ks e (setDebt s d e) := .wr (.refl e) _

theorem mpllLost_kept (e : Eng) : LoopsKept ks e (mpllLost e) := by
  have hstack (s : Nat) (a : Eng) : LoopsKept ks a (setDebt s 0 (rowsClose s (a.wr (MEM_REF_STAT_PWR s) 2))) :=
    (LoopsKept.wr (.refl a) _).trans ((modStk_kept s _ _).trans (setDebt_kept s 0 _))
  exact (passAbandon_kept e).trans (.foldl _ _ (fun a s => hstack s a) _)

theorem scaleDelays_kept (e : Eng) : LoopsKept ks e (scaleDelays e) := by
  unfold scaleDelays
  split
  · exact .ite (.foldl _ _ (fun a _ => .wr (.wr (.refl a) _) _) e) (.refl e)
  · exact .refl e

theorem passStart_kept (resume : Bool) (e : Eng) : LoopsKept ks e (passStart resume e) := by
  have hstacks : LoopsKept ks e ((List.range 4).foldl (fun a s =>
      a.modStk s fun k => { k with pauses := 0, eyes := [], applied := false }) e) := .foldl _ _ (fun a s => modStk_kept s _ a) e
  exact (hstacks.wr (f := MEM_TRN_STAT_GATHER) 1).trans (.of_regs rfl rfl)

theorem mpllBack_kept (e : Eng) : LoopsKept ks e (mpllBack e) := by
  have hawake : LoopsKept ks e ((List.range 4).foldl (fun a s => setDebt s 0 (a.wr (MEM_REF_STAT_PWR s) 0)) e) :=
    .foldl _ _ (fun a s => (LoopsKept.wr (.refl a) _).trans (setDebt_kept s 0 _)) e
  exact .ite (hawake.trans ((scaleDelays_kept _).trans (passStart_kept true _))) hawake

/-! ### The outputs, the ramps and the eye scan (R83, R123, R127) -/

theorem clkOutShow_aside (e : Eng) (k : Nat) : (clkOutShow e k).aside = e.aside := by
  unfold clkOutShow
  simp only []
  split <;> rfl

theorem rampFollow_aside (e : Eng) : (rampFollow e).aside = e.aside := by
  refine foldl_keeps Eng.aside _ _ (fun a m _ => ?_) e
  simp only []
  split <;> rfl

theorem timeShow_aside (e : Eng) : (timeShow e).aside = e.aside := by
  unfold timeShow
  simp only []
  split <;> rfl

theorem loopsShow_kept (e : Eng) : LoopsKept ks e (loopsShow e) := by
  refine ⟨fun g hg _ => loopsShow_rd e hg.notShown, ?_⟩
  unfold loopsShow
  rw [timeShow_aside, rampFollow_aside]
  exact foldl_keeps Eng.aside _ _ (fun a k _ => clkOutShow_aside a k) e

theorem scanEnd_kept (err : Nat) (e : Eng) : LoopsKept ks e (scanEnd err e) := by
  unfold scanEnd
  split
  · exact .refl e
  · have hended : LoopsKept ks e { e with fe := { e.fe with scan := none, scanHeld := false } } := .of_regs rfl rfl
    exact .irqMessage (.wr (.wr (.wr (.wr hended _) _) _) _) _

theorem scanRecheck_kept (e : Eng) : LoopsKept ks e (scanRecheck e) := by
  unfold scanRecheck
  split
  · exact .refl e
  · exact .ite (.refl e) (.ite (scanEnd_kept 2 e) (.ite (scanEnd_kept 3 e) (.refl e)))

theorem scanGo_kept (e : Eng) : LoopsKept ks e (scanGo e) := by
  have hgo (f : FeSt) : LoopsKept ks e { e with fe := f } := .of_regs rfl rfl
  exact .ite ((hgo _).trans (scanRecheck_kept _)) (scanRecheck_kept e)

end Followers

end Machine
end Sys2Proof
end

section
/-!
SUPPORT. How a loop locks and is lost (R107, R111, R112, R116), and the commands that report the one and the other: LOCK_WINDOW_END,
ANALOGUE_LOCK, PHASE_ALIGN_DONE and LOOP_RETURN (R119).
-/
namespace Sys2Proof
namespace Machine

/-! ### A loop changes its state (R107, R116) -/

/-- The fields that show the state of loop `n`. -/
def statKeys (n : Nat) : List Nat :=
  [(CLK_LOOP_STAT_STATE n).key, (CLK_LOOP_STAT_LOCKED n).key, (CLK_LOOP_STAT_BYPASS n).key, CLK_MON_STAT_LOOP_OK.key]

/-- The fields that a lock of loop `n` writes. -/
def lockKeys (n : Nat) : List Nat := CLK_EVT_RELOCK.key :: statKeys n

/-- The fields that a loss of loop `n` writes, besides DECL of the analogue method. -/
def lossKeys (n : Nat) : List Nat := [CLK_EVT_LOSS.key, (CLK_LOOP_STAT_LOSS_CNT n).key] ++ statKeys n

theorem state_field (n : Nat) : ClockField (CLK_LOOP_STAT_STATE n) ∧ ClockField (CLK_LOOP_STAT_LOCKED n) ∧
    ClockField (CLK_LOOP_STAT_BYPASS n) ∧ ClockField (CLK_LOOP_STAT_LOSS_CNT n) ∧ ClockField (CLK_LOOP_STAT_CMT_PEND n) :=
  ⟨clockField_fld (by omega), clockField_fld (by omega), clockField_fld (by omega), clockField_fld (by omega), clockField_fld (by omega)⟩

/-- The registers of a loop that has been put in a state. -/
def stateShown (n st : Nat) (e : Eng) : Eng :=
  (((e.wr (CLK_LOOP_STAT_STATE n) st).wrb (CLK_LOOP_STAT_LOCKED n) (st == 2)).wrb (CLK_LOOP_STAT_BYPASS n) (st != 2)).wrBit
    CLK_MON_STAT_LOOP_OK n (st == 2)

theorem setLoop_kept_shown {ks : List Nat} (n st : Nat) (e : Eng) : LoopsKept ks (stateShown n st e) (setLoop n st e) :=
  .ite (vpllLost_kept _) (.ite (vpllBack_kept _) (.refl _))

theorem setLoop_kept (n st : Nat) (e : Eng) : LoopsKept (statKeys n) e (setLoop n st e) := by
  have hshown : LoopsKept (statKeys n) e (stateShown n st e) :=
    .wr (.wr (.wr (.wr (.refl e) _ (.inl (by simp [statKeys]))) _ (.inl (by simp [statKeys]))) _ (.inl (by simp [statKeys]))) _
      (.inl (by simp [statKeys]))
  exact hshown.trans (setLoop_kept_shown n st e)

/-- What the registers of a loop show once it has been put in a state. -/
theorem setLoop_shows (n : Nat) {st : Nat} (hst : st < 8) (e : Eng) : loopState (setLoop n st e) n = st ∧
    (setLoop n st e).rd (CLK_LOOP_STAT_LOCKED n) = (if st = 2 then 1 else 0) ∧
    (setLoop n st e).rd (CLK_LOOP_STAT_BYPASS n) = if st = 2 then 0 else 1 := by
  obtain ⟨hstate, hlocked, hbypass, -, -⟩ := state_field n
  have hkept := setLoop_kept_shown (ks := []) n st e
  have hkeys : (CLK_LOOP_STAT_LOCKED n).key ≠ (CLK_LOOP_STAT_STATE n).key ∧ (CLK_LOOP_STAT_BYPASS n).key ≠ (CLK_LOOP_STAT_STATE n).key ∧
      (CLK_LOOP_STAT_BYPASS n).key ≠ (CLK_LOOP_STAT_LOCKED n).key ∧ CLK_MON_STAT_LOOP_OK.key < (CLK_LOOP_STAT_STATE n).key := by
    simp only [CLK_LOOP_STAT_LOCKED, CLK_LOOP_STAT_STATE, CLK_LOOP_STAT_BYPASS, CLK_MON_STAT_LOOP_OK, fld]
    omega
  obtain ⟨hls, hbs, hbl, hmon⟩ := hkeys
  have hmonL : CLK_MON_STAT_LOOP_OK.key ≠ (CLK_LOOP_STAT_LOCKED n).key := by
    simp only [CLK_LOOP_STAT_LOCKED, CLK_MON_STAT_LOOP_OK, fld]; omega
  have hmonB : CLK_MON_STAT_LOOP_OK.key ≠ (CLK_LOOP_STAT_BYPASS n).key := by
    simp only [CLK_LOOP_STAT_BYPASS, CLK_MON_STAT_LOOP_OK, fld]; omega
  rw [loopState, hkept.rd _ hstate (by simp), hkept.rd _ hlocked (by simp), hkept.rd _ hbypass (by simp)]
  simp only [stateShown, wrb_eq, wrBit_eq]
  refine ⟨?_, ?_, ?_⟩
  · rw [Eng.rd_wr_other _ _ hmon.ne, Eng.rd_wr_other _ _ hbs, Eng.rd_wr_other _ _ hls, Eng.rd_wr]
    exact Nat.mod_eq_of_lt hst
  · rw [Eng.rd_wr_other _ _ hmonL, Eng.rd_wr_other _ _ hbl, Eng.rd_wr]
    by_cases h : st = 2 <;> simp [h, CLK_LOOP_STAT_LOCKED, fld]
  · rw [Eng.rd_wr_other _ _ hmonB, Eng.rd_wr]
    by_cases h : st = 2 <;> simp [h, CLK_LOOP_STAT_BYPASS, fld]

/-- The loop is LOCKED and its RELOCK event is set. -/
def relocked (n : Nat) (e : Eng) : Eng := ((setLoop n 2 e).modLoop n fun l => { l with commit := false }).raise CLK_EVT_RELOCK n

theorem lockLoop_kept_relocked {ks : List Nat} (n : Nat) (e : Eng) : LoopsKept ks (relocked n e) (lockLoop n e) := by
  have hresume : LoopsKept ks (relocked n e) ((loopTiles e n).foldl (fun a t => a.modEla t fun el =>
      { el with resume := tsMax el.resume e.ts }) (relocked n e)) := .foldl _ _ (fun a t => modEla_kept t _ a) _
  have hmpll (a : Eng) : LoopsKept ks a (if n = 5 then mpllBack a else a) := .ite (mpllBack_kept a) (.refl a)
  exact hresume.trans ((hmpll _).trans (loopsShow_kept _))

theorem relocked_kept (n : Nat) (e : Eng) : LoopsKept [CLK_EVT_RELOCK.key] (setLoop n 2 e) (relocked n e) := by
  have hcommit := modLoop_kept (ks := [CLK_EVT_RELOCK.key]) (setLoop n 2 e) n (f := fun l => { l with commit := false }) fun _ => ⟨rfl, rfl⟩
  exact hcommit.raise n (.inl (List.mem_singleton_self _))

theorem lockLoop_kept (n : Nat) (e : Eng) : LoopsKept (lockKeys n) e (lockLoop n e) :=
  ((setLoop_kept n 2 e).mono (List.subset_cons_self _ _)).trans
    (((relocked_kept n e).mono (List.cons_subset_cons _ (List.nil_subset _))).trans (lockLoop_kept_relocked n e))

theorem alignOrLock_kept (n : Nat) (e : Eng) : LoopsKept (lockKeys n) e (alignOrLock n e) := by
  unfold alignOrLock
  split
  case isTrue h => exact h ▸ (setLoop_kept 0 4 e).mono (List.subset_cons_self _ _)
  case isFalse => exact lockLoop_kept n e

/-- A loop that locks is LOCKED, drives its output, and reports it (R107 step 5). -/
theorem lockLoop_shows {n : Nat} (hn : n < 8) (e : Eng) : loopState (lockLoop n e) n = 2 ∧
    (lockLoop n e).rd (CLK_LOOP_STAT_LOCKED n) = 1 ∧ (lockLoop n e).rd (CLK_LOOP_STAT_BYPASS n) = 0 ∧
    (lockLoop n e).bit CLK_EVT_RELOCK n = true := by
  obtain ⟨hstate, hlocked, hbypass, -, -⟩ := state_field n
  have hrelock : ClockField CLK_EVT_RELOCK := clockField_fld (by omega)
  have hkeys : (CLK_LOOP_STAT_STATE n).key ∉ [CLK_EVT_RELOCK.key] ∧ (CLK_LOOP_STAT_LOCKED n).key ∉ [CLK_EVT_RELOCK.key] ∧
      (CLK_LOOP_STAT_BYPASS n).key ∉ [CLK_EVT_RELOCK.key] := by
    simp only [CLK_LOOP_STAT_STATE, CLK_LOOP_STAT_LOCKED, CLK_LOOP_STAT_BYPASS, CLK_EVT_RELOCK, fld, List.mem_singleton]
    omega
  have hkept : LoopsKept [CLK_EVT_RELOCK.key] (setLoop n 2 e) (lockLoop n e) := (relocked_kept n e).trans (lockLoop_kept_relocked n e)
  obtain ⟨hs, hl, hb⟩ := setLoop_shows n (show 2 < 8 by decide) e
  refine ⟨(hkept.rd _ hstate hkeys.1).trans hs, (hkept.rd _ hlocked hkeys.2.1).trans hl, (hkept.rd _ hbypass hkeys.2.2).trans hb, ?_⟩
  rw [(lockLoop_kept_relocked (ks := []) n e).bit n hrelock (by simp)]
  exact raise_bit _ _ _ hn hrelock.still

/-- SPLL goes on with its alignment, another loop is LOCKED (R107 steps 4 and 5). -/
theorem alignOrLock_state {n : Nat} (hn : n < 8) (e : Eng) : loopState (alignOrLock n e) n = if n = 0 then 4 else 2 := by
  unfold alignOrLock
  split
  case isTrue h => exact h ▸ (setLoop_shows 0 (show 4 < 8 by decide) e).1
  case isFalse => exact (lockLoop_shows hn e).1

/-! ### Lock and loss are declared (R111, R112, R116) -/

/-- The lock detector of a loop once it has declared lock. -/
def lockNoted (l : LoopSt) : LoopSt := { l with decl := true, fails := 0 }

theorem declareLock_kept (n : Nat) (e : Eng) : LoopsKept (lockKeys n) (e.modLoop n lockNoted) (declareLock n e) :=
  .ite ((setLoop_kept n 5 _).mono (List.subset_cons_self _ _)) (.ite (alignOrLock_kept n _) (.refl _))

theorem declareLock_decl (n : Nat) (e : Eng) : ((declareLock n e).getLoop n).decl = true := by
  rw [(declareLock_kept n e).decl n, getLoop_modLoop]
  rfl

/-- The lock detector of a loop of state `st` once it has declared a loss at tick `t`. -/
def lossNoted (st t : Nat) (l : LoopSt) : LoopSt :=
  { l with decl := false, passes := 0, fails := 0, lossAt := if st = 0 ∨ st = 3 then l.lossAt else some t }

theorem openUnlock_kept {ks : List Nat} (n suspect t : Nat) (e : Eng) : LoopsKept ks e (openUnlock n suspect t e) :=
  .ite (modEla_kept t _ e) (.refl e)

theorem earlierSuspect_kept {ks : List Nat} (n suspect t : Nat) (e : Eng) : LoopsKept ks e (earlierSuspect n suspect t e) := by
  unfold earlierSuspect
  exact modEla_kept t _ e

theorem ldDrop_kept (n : Nat) (e : Eng) : LoopsKept [CLK_LD_AN_DECL.key] e (ldDrop n e) :=
  .ite (.wr (.refl e) _ (.inl (List.mem_singleton_self _))) (.refl e)

/-- DECL is low where it was low, or where its loop is no longer locked. -/
theorem ldDrop_decl {n : Nat} {e : Eng} (h : e.rd CLK_LD_AN_DECL = 0) : (ldDrop n e).rd CLK_LD_AN_DECL = 0 := by
  unfold ldDrop
  split
  · exact Eng.rd_wr _ _ _
  · exact h

theorem loopLoss_kept_dropped (n cause t : Nat) (e : Eng) :
    LoopsKept (lossKeys n) ((ldDrop n e).modLoop n (lossNoted (loopState e n) t)) (loopLoss n cause t e) := by
  have hcount (d : List Byte) (a : Eng) : LoopsKept (lossKeys n) a ((a.addSat (CLK_LOOP_STAT_LOSS_CNT n) 1).raisePost CLK_EVT_LOSS n d) :=
    .raisePost (.wr (.refl a) _ (.inl (by simp [lossKeys]))) _ _ (.inl (by simp [lossKeys]))
  have hbypass (a : Eng) : LoopsKept (lossKeys n) a (setLoop n 3 a) := (setLoop_kept n 3 a).mono (List.subset_append_right _ _)
  have hsuspects (a : Eng) : LoopsKept (lossKeys n) a ((loopTiles e n).foldl (fun a t2 => earlierSuspect n (suspectFrom e n cause t) t2 a) a) :=
    .foldl _ _ (fun a t2 => earlierSuspect_kept n _ t2 a) a
  have hunlock (a b : Eng) (ts : List Nat) : LoopsKept (lossKeys n) a (ts.foldl (fun x t2 => openUnlock n (suspectFrom b n cause t) t2 x) a) :=
    .foldl _ _ (fun x t2 => openUnlock_kept n _ t2 x) a
  unfold loopLoss
  extract_lets st e1 e2
  have hcounted : LoopsKept (lossKeys n) e1 e2 := hcount _ _
  refine .ite (.refl _) (.ite (.ite (hsuspects _) (.refl _)) (.ite hcounted ?_))
  split
  case isTrue h =>
    have hmpll : LoopsKept (lossKeys n) e2 (setLoop 5 3 e2) := h ▸ hbypass e2
    exact hcounted.trans (hmpll.trans ((mpllLost_kept _).trans (loopsShow_kept _)))
  case isFalse => exact hcounted.trans ((hbypass _).trans ((hunlock _ _ _).trans (loopsShow_kept _)))

theorem loopLoss_kept (n cause t : Nat) (e : Eng) :
    LoopsKept (CLK_LD_AN_DECL.key :: lossKeys n) (e.modLoop n (lossNoted (loopState e n) t)) (loopLoss n cause t e) := by
  refine .trans ?_ ((loopLoss_kept_dropped n cause t e).mono (List.subset_cons_self _ _))
  unfold ldDrop
  split
  · exact .wr (.refl _) (f := CLK_LD_AN_DECL) 0 (.inl List.mem_cons_self)
  · exact .refl _

theorem loopLoss_detector (n cause t : Nat) (e : Eng) : ((loopLoss n cause t e).getLoop n).decl = false ∧
    ((loopLoss n cause t e).getLoop n).passes = 0 := by
  have hkept := loopLoss_kept n cause t e
  rw [hkept.decl n, hkept.passes n, getLoop_modLoop]
  exact ⟨rfl, rfl⟩

/-! ### What goes on behind a command -/

/-- While nothing of its own goes on behind a command that begins nothing, it gives what its function gives. -/
theorem onAll_behind (s : State) (f : Eng → Mems → Eng) (hup : s.up) (hquiet : s.quiet) (h : (f s.eng s.mem).behind = s.eng.behind) :
    onAll s f = .next { s with eng := { f s.eng s.mem with wq := [] }, mem := s.mem.applyAll (f s.eng s.mem).wq } := by
  have hafter : ({ s with eng := f s.eng s.mem } : State).quiet := by
    simp only [Eng.behind, Prod.mk.injEq] at h
    obtain ⟨hpw, hse, hcu, hfab, hstalled⟩ := h
    simpa only [State.quiet, State.fabIdle, hpw, hse, hcu, hfab, hstalled] using hquiet
  unfold onAll
  rw [onMem_up s _ hup, applyMem, settle_quiet hafter ⟨rfl, rfl, rfl, rfl⟩]

/-! ### LOCK_WINDOW_END (R111) -/

section Window

variable {n fb t : Nat} {e : Eng}

/-- The lock detector after a window within TOL. -/
def windowPassed (l : LoopSt) : LoopSt := { l with passes := l.passes + 1, fails := 0 }

/-- The lock detector after a window outside TOL. -/
def windowFailed (l : LoopSt) : LoopSt := { l with passes := 0, fails := l.fails + 1 }

/-- The window ends within TOL. -/
def WithinTol (n fb : Nat) (e : Eng) : Prop := ((fb : Int) - 2 ^ (6 + e.rd (CLK_LOOP_LD_WIN n))).natAbs ≤ e.rd (CLK_LOOP_LD_TOL n)

/-- The counter method serves the loop, whose reference is good. -/
def Counted (n : Nat) (e : Eng) : Prop := n < 8 ∧ loopState e n ≠ 0 ∧ refFailed e n = false ∧ analogueOn e n = false

theorem lockWindowEnd_passed (hc : Counted n e) (hok : WithinTol n fb e) : lockWindowEnd n fb t e =
    if (e.getLoop n).decl = false ∧ e.rd (CLK_LOOP_LD_CONSEC n) ≤ (e.getLoop n).passes then
      declareLock n ((e.wrq (CLK_LOOP_LASTGOOD n) t).modLoop n windowPassed)
    else (e.wrq (CLK_LOOP_LASTGOOD n) t).modLoop n windowPassed := by
  obtain ⟨hn, hstate, href, han⟩ := hc
  have hnot : ¬(8 ≤ n ∨ loopState e n = 0 ∨ refFailed e n = true ∨ analogueOn e n = true) := by simp [hn, hstate, href, han]
  have hpasses : (((e.wrq (CLK_LOOP_LASTGOOD n) t).modLoop n windowPassed).getLoop n).passes = (e.getLoop n).passes + 1 := by
    rw [getLoop_modLoop]
    rfl
  unfold WithinTol at hok
  unfold lockWindowEnd
  rw [if_neg hnot]
  push_cast
  rw [if_pos hok]
  show (if (!(e.getLoop n).decl) = true ∧ _ ≤ (((e.wrq (CLK_LOOP_LASTGOOD n) t).modLoop n windowPassed).getLoop n).passes then _ else _) = _
  simp only [hpasses, Nat.add_le_add_iff_right, Bool.not_eq_true']
  rfl

theorem lockWindowEnd_failed (hc : Counted n e) (hok : ¬WithinTol n fb e) : lockWindowEnd n fb t e =
    if (e.getLoop n).decl = true ∧ e.rd (CLK_LOOP_LD_LOSS n) ≤ (e.getLoop n).fails then
      scanRecheck (loopLoss n 0 t (e.modLoop n windowFailed))
    else e.modLoop n windowFailed := by
  obtain ⟨hn, hstate, href, han⟩ := hc
  have hnot : ¬(8 ≤ n ∨ loopState e n = 0 ∨ refFailed e n = true ∨ analogueOn e n = true) := by simp [hn, hstate, href, han]
  have hfails : ((e.modLoop n windowFailed).getLoop n).fails = (e.getLoop n).fails + 1 := by
    rw [getLoop_modLoop]
    rfl
  unfold WithinTol at hok
  unfold lockWindowEnd
  rw [if_neg hnot]
  push_cast
  rw [if_neg hok]
  show (if (e.getLoop n).decl = true ∧ _ ≤ ((e.modLoop n windowFailed).getLoop n).fails then _ else _) = _
  simp only [hfails, Nat.add_le_add_iff_right]
  rfl

theorem lastGood_fields (n : Nat) : ClockField (CLK_LOOP_LASTGOOD_LO_TS n) ∧ ClockField (CLK_LOOP_LASTGOOD_HI_TS n) :=
  ⟨clockField_fld (by omega), clockField_fld (by omega)⟩

theorem lastGoodKeys_apart (n : Nat) : (CLK_LOOP_LASTGOOD_LO_TS n).key ∉ lockKeys n ∧ (CLK_LOOP_LASTGOOD_HI_TS n).key ∉ lockKeys n ∧
    (CLK_LOOP_LASTGOOD_HI_TS n).key ≠ (CLK_LOOP_LASTGOOD_LO_TS n).key := by
  simp only [lockKeys, statKeys, CLK_EVT_RELOCK, CLK_LOOP_STAT_STATE, CLK_LOOP_STAT_LOCKED, CLK_LOOP_STAT_BYPASS, CLK_MON_STAT_LOOP_OK,
    CLK_LOOP_LASTGOOD_LO_TS, CLK_LOOP_LASTGOOD_HI_TS, fld, List.mem_cons, List.not_mem_nil, or_false]
  omega

theorem lastGood_written (e : Eng) (ht : t < 2 ^ 64) : (e.wrq (CLK_LOOP_LASTGOOD n) t).rdq (CLK_LOOP_LASTGOOD n) = t := by
  have hlow : (e.wrq (CLK_LOOP_LASTGOOD n) t).rd (CLK_LOOP_LASTGOOD_LO_TS n) = t % 2 ^ 32 :=
    (Eng.rd_wr_other _ _ (lastGoodKeys_apart n).2.2).trans ((Eng.rd_wr _ _ _).trans (Nat.mod_mod _ _))
  have hhigh : (e.wrq (CLK_LOOP_LASTGOOD n) t).rd (CLK_LOOP_LASTGOOD_HI_TS n) = t / 2 ^ 32 :=
    (Eng.rd_wr _ _ _).trans (Nat.mod_eq_of_lt (show t / 2 ^ 32 < 2 ^ 32 by omega))
  show (e.wrq (CLK_LOOP_LASTGOOD n) t).rd (CLK_LOOP_LASTGOOD_LO_TS n) + 2 ^ 32 * (e.wrq (CLK_LOOP_LASTGOOD n) t).rd (CLK_LOOP_LASTGOOD_HI_TS n) = t
  omega

theorem LoopsKept.lastGood {e' : Eng} (h : LoopsKept (lockKeys n) e e') : e'.rdq (CLK_LOOP_LASTGOOD n) = e.rdq (CLK_LOOP_LASTGOOD n) := by
  obtain ⟨hlo, hhi, -⟩ := lastGoodKeys_apart n
  show e'.rd (CLK_LOOP_LASTGOOD_LO_TS n) + 2 ^ 32 * e'.rd (CLK_LOOP_LASTGOOD_HI_TS n) = _
  rw [h.rd _ (lastGood_fields n).1 hlo, h.rd _ (lastGood_fields n).2 hhi]
  rfl

/-- A window within TOL stores LASTGOOD, and CONSEC + 1 of them declare lock. -/
theorem lockWindowEnd_passed_completes (s : State) (hup : s.up) (hquiet : s.quiet) (hc : Counted n s.eng) (ht : t < 2 ^ 64)
    (hok : WithinTol n fb s.eng) : Completes (.lockWindowEnd n fb t) s fun s' => s'.eng.rdq (CLK_LOOP_LASTGOOD n) = t ∧
      ((s.eng.getLoop n).decl = false → s.rd (CLK_LOOP_LD_CONSEC n) ≤ (s.eng.getLoop n).passes → (s'.eng.getLoop n).decl = true) := by
  have heq := lockWindowEnd_passed (t := t) hc hok
  generalize hpassed : (s.eng.wrq (CLK_LOOP_LASTGOOD n) t).modLoop n windowPassed = passed at heq
  have hkept := declareLock_kept n passed
  have hgood : passed.rdq (CLK_LOOP_LASTGOOD n) = t := by
    rw [← hpassed]
    exact lastGood_written s.eng ht
  have hbehind : passed.behind = s.eng.behind := by
    rw [← hpassed]
    rfl
  have hafter : (lockWindowEnd n fb t s.eng).behind = s.eng.behind := by
    rw [heq]
    split
    · exact hkept.behind.trans hbehind
    · exact hbehind
  refine ⟨_, onAll_behind s (fun e _ => lockWindowEnd n fb t e) hup hquiet hafter, rfl, ?_, fun hdecl hpasses => ?_⟩
  · show (lockWindowEnd n fb t s.eng).rdq (CLK_LOOP_LASTGOOD n) = t
    rw [heq]
    split
    · exact hkept.lastGood.trans hgood
    · exact hgood
  · show ((lockWindowEnd n fb t s.eng).getLoop n).decl = true
    rw [heq, if_pos ⟨hdecl, hpasses⟩]
    exact declareLock_decl n passed

/-- A window outside TOL starts the count afresh, and LOSS + 1 of a declared loop end the lock. -/
theorem lockWindowEnd_failed_completes (s : State) (hup : s.up) (hquiet : s.quiet) (hc : Counted n s.eng) (hok : ¬WithinTol n fb s.eng) :
    Completes (.lockWindowEnd n fb t) s fun s' => (s'.eng.getLoop n).passes = 0 ∧
      ((s.eng.getLoop n).decl = true → s.rd (CLK_LOOP_LD_LOSS n) ≤ (s.eng.getLoop n).fails → (s'.eng.getLoop n).decl = false) := by
  have heq := lockWindowEnd_failed (t := t) hc hok
  have hloss := loopLoss_kept n 0 t (s.eng.modLoop n windowFailed)
  have hscan := scanRecheck_kept (ks := []) (loopLoss n 0 t (s.eng.modLoop n windowFailed))
  obtain ⟨hdecl, hpasses⟩ := loopLoss_detector n 0 t (s.eng.modLoop n windowFailed)
  have hbehind : (lockWindowEnd n fb t s.eng).behind = s.eng.behind := by
    rw [heq]
    split
    · rw [hscan.behind, hloss.behind]; rfl
    · rfl
  refine ⟨_, onAll_behind s (fun e _ => lockWindowEnd n fb t e) hup hquiet hbehind, rfl, ?_, fun hlocked hfails => ?_⟩
  · show ((lockWindowEnd n fb t s.eng).getLoop n).passes = 0
    rw [heq]
    split
    · rw [hscan.passes, hpasses]
    · rw [getLoop_modLoop]; rfl
  · show ((lockWindowEnd n fb t s.eng).getLoop n).decl = false
    rw [heq, if_pos ⟨hlocked, hfails⟩, hscan.decl, hdecl]

end Window

/-! ### ANALOGUE_LOCK (R112) -/

section Analogue

variable {lock : Bool} {volt t : Nat}

/-- The loop of the analogue method, which is on and whose loop is not OFF. -/
def Analogue (n : Nat) (e : Eng) : Prop := e.rda CLK_LD_AN_EN = 1 ∧ e.rda CLK_LD_AN_LOOP = n ∧ loopState e n ≠ 0

theorem analogueLock_unlock {n : Nat} {e : Eng} (h : Analogue n e) : analogueLock false volt t e =
    if (e.getLoop n).decl = true then scanRecheck (loopLoss n 1 t ((e.wr CLK_LD_AN_VOLT volt).wr CLK_LD_AN_DECL 0))
    else (e.wr CLK_LD_AN_VOLT volt).wr CLK_LD_AN_DECL 0 := by
  obtain ⟨hen, rfl, hstate⟩ := h
  unfold analogueLock
  simp [Eng.ona, hen, hstate, wrb_eq]

theorem analogueLock_lock {n : Nat} {e : Eng} (h : Analogue n e) (href : refFailed e n = false) : analogueLock true volt t e =
    if (e.getLoop n).decl = false then declareLock n ((e.wr CLK_LD_AN_VOLT volt).wr CLK_LD_AN_DECL 1)
    else (e.wr CLK_LD_AN_VOLT volt).wr CLK_LD_AN_DECL 1 := by
  obtain ⟨hen, rfl, hstate⟩ := h
  unfold analogueLock
  simp [Eng.ona, hen, hstate, href, wrb_eq]

/-- Without its reference a loop declares no lock (R121). -/
theorem analogueLock_refused {n : Nat} {e : Eng} (h : Analogue n e) (href : refFailed e n = true) :
    analogueLock true volt t e = e.wr CLK_LD_AN_VOLT volt := by
  obtain ⟨hen, rfl, hstate⟩ := h
  unfold analogueLock
  simp [Eng.ona, hen, hstate, href]

theorem analogue_fields : ClockField CLK_LD_AN_VOLT ∧ ClockField CLK_LD_AN_DECL :=
  ⟨clockField_fld (by omega), clockField_fld (by omega)⟩

theorem analogueKeys_apart (n : Nat) : CLK_LD_AN_VOLT.key ∉ lossKeys n ∧ CLK_LD_AN_VOLT.key ∉ lockKeys n ∧
    CLK_LD_AN_DECL.key ∉ lossKeys n ∧ CLK_LD_AN_DECL.key ∉ lockKeys n := by
  simp only [lossKeys, lockKeys, statKeys, CLK_EVT_RELOCK, CLK_EVT_LOSS, CLK_LOOP_STAT_STATE, CLK_LOOP_STAT_LOCKED, CLK_LOOP_STAT_BYPASS,
    CLK_LOOP_STAT_LOSS_CNT, CLK_MON_STAT_LOOP_OK, CLK_LD_AN_VOLT, CLK_LD_AN_DECL, fld, List.cons_append, List.nil_append, List.mem_cons,
    List.not_mem_nil, or_false]
  omega

/-- What ANALOGUE_LOCK shows and what of the loop it declares, where it does not meet a failed reference on the way to lock. -/
theorem analogueLock_shows {n : Nat} {e : Eng} (h : Analogue n e) (href : lock = false ∨ refFailed e n = false) :
    (analogueLock lock volt t e).rd CLK_LD_AN_VOLT = volt % 2 ^ 8 ∧ (analogueLock lock volt t e).rd CLK_LD_AN_DECL = (if lock then 1 else 0) ∧
      ((analogueLock lock volt t e).getLoop n).decl = lock ∧ (analogueLock lock volt t e).behind = e.behind := by
  obtain ⟨hvolt, hdeclared⟩ := analogue_fields
  obtain ⟨hvoltLoss, hvoltLock, hdeclLoss, hdeclLock⟩ := analogueKeys_apart n
  have hwritten (x : Nat) : ((e.wr CLK_LD_AN_VOLT volt).wr CLK_LD_AN_DECL x).rd CLK_LD_AN_VOLT = volt % 2 ^ 8 :=
    (Eng.rd_wr_other _ _ (by decide)).trans (Eng.rd_wr _ _ _)
  cases lock with
  | false =>
    rw [analogueLock_unlock h]
    split
    case isTrue =>
      have hlow : ((e.wr CLK_LD_AN_VOLT volt).wr CLK_LD_AN_DECL 0).rd CLK_LD_AN_DECL = 0 := Eng.rd_wr _ _ _
      have hvoltLow := hwritten 0
      have hbehind : ((e.wr CLK_LD_AN_VOLT volt).wr CLK_LD_AN_DECL 0).behind = e.behind := rfl
      generalize (e.wr CLK_LD_AN_VOLT volt).wr CLK_LD_AN_DECL 0 = low at hlow hvoltLow hbehind
      have hkept := loopLoss_kept_dropped n 1 t low
      have hscan := scanRecheck_kept (ks := []) (loopLoss n 1 t low)
      rw [hscan.rd _ hvolt (by simp), hscan.rd _ hdeclared (by simp), hscan.decl, hscan.behind]
      exact ⟨(hkept.rd _ hvolt hvoltLoss).trans (((ldDrop_kept n low).rd _ hvolt (by decide)).trans hvoltLow),
        (hkept.rd _ hdeclared hdeclLoss).trans (ldDrop_decl hlow), (loopLoss_detector n 1 t low).1,
        hkept.behind.trans ((ldDrop_kept n low).behind.trans hbehind)⟩
    case isFalse hdecl => exact ⟨hwritten 0, Eng.rd_wr _ _ _, Bool.eq_false_of_not_eq_true hdecl, rfl⟩
  | true =>
    have href : refFailed e n = false := href.resolve_left (by decide)
    have hhigh : ((e.wr CLK_LD_AN_VOLT volt).wr CLK_LD_AN_DECL 1).rd CLK_LD_AN_DECL = 1 := Eng.rd_wr _ _ _
    rw [analogueLock_lock h href]
    split
    case isTrue =>
      have hkept := declareLock_kept n ((e.wr CLK_LD_AN_VOLT volt).wr CLK_LD_AN_DECL 1)
      exact ⟨(hkept.rd _ hvolt hvoltLock).trans (hwritten 1), (hkept.rd _ hdeclared hdeclLock).trans hhigh,
        declareLock_decl n _, hkept.behind⟩
    case isFalse hdecl => exact ⟨hwritten 1, hhigh, Bool.eq_true_of_not_eq_false hdecl, rfl⟩

/-- What ANALOGUE_LOCK does to a loop of the analogue method that is not OFF. -/
theorem analogueLock_completes (s : State) {n : Nat} (hup : s.up) (hquiet : s.quiet) (h : Analogue n s.eng) :
    Completes (.analogueLock lock volt t) s fun s' => s'.rd CLK_LD_AN_VOLT = volt % 2 ^ 8 ∧
      (lock = false ∨ refFailed s.eng n = false → s'.rd CLK_LD_AN_DECL = (if lock then 1 else 0) ∧ (s'.eng.getLoop n).decl = lock) ∧
      (lock = true → refFailed s.eng n = true → s'.rd CLK_LD_AN_DECL = s.rd CLK_LD_AN_DECL ∧
        (s'.eng.getLoop n).decl = (s.eng.getLoop n).decl) := by
  by_cases hgood : lock = false ∨ refFailed s.eng n = false
  case pos =>
    obtain ⟨hvolt, hdecl, hloop, hbehind⟩ := analogueLock_shows (volt := volt) (t := t) h hgood
    refine ⟨_, onAll_behind s (fun e _ => analogueLock lock volt t e) hup hquiet hbehind, rfl, hvolt, fun _ => ⟨hdecl, hloop⟩, ?_⟩
    rintro rfl href
    simp [href] at hgood
  case neg =>
    obtain ⟨hlock, href⟩ : lock = true ∧ refFailed s.eng n = true := by simpa using hgood
    subst hlock
    have heq := analogueLock_refused (volt := volt) (t := t) h href
    refine ⟨_, onAll_behind s (fun e _ => analogueLock true volt t e) hup hquiet ((congrArg Eng.behind heq).trans rfl), rfl, ?_,
      fun h => absurd h hgood, fun _ _ => ?_⟩
    · show (analogueLock true volt t s.eng).rd CLK_LD_AN_VOLT = _
      rw [heq]
      exact Eng.rd_wr _ _ _
    · show (analogueLock true volt t s.eng).rd CLK_LD_AN_DECL = _ ∧ ((analogueLock true volt t s.eng).getLoop n).decl = _
      rw [heq]
      exact ⟨Eng.rd_wr_other _ _ (by decide), rfl⟩

end Analogue

/-! ### PHASE_ALIGN_DONE and LOOP_RETURN (R107, R119) -/

/-- The bit of loop `m` in a write of CLK_CMD.RETURN. -/
def returnLoop (mask : Nat) (e : Eng) (m : Nat) : Eng := if natBit mask m && loopState e m == 5 then alignOrLock m e else e

theorem returnLoop_kept (mask m : Nat) (e : Eng) : LoopsKept (lockKeys m) e (returnLoop mask e m) := .ite (alignOrLock_kept m e) (.refl e)

theorem stateKey_apart : ∀ n < 8, ∀ m < 8, m ≠ n → (CLK_LOOP_STAT_STATE n).key ∉ lockKeys m := by decide

theorem returnLoop_state {mask n : Nat} (hn : n < 8) (hmask : natBit mask n = true) (e : Eng) : loopState (returnLoop mask e n) n =
    if loopState e n = 5 then (if n = 0 then 4 else 2) else loopState e n := by
  unfold returnLoop
  simp only [hmask, Bool.true_and, beq_iff_eq]
  split
  · exact alignOrLock_state hn e
  · rfl

/-- LOOP_RETURN takes a HELD loop of its mask out of HELD (R119). -/
theorem loopReturn_completes (s : State) {mask n : Nat} (hup : s.up) (hquiet : s.quiet) (hn : n < 8) (hmask : natBit mask n = true)
    (hheld : loopState s.eng n = 5) : Completes (.loopReturn mask) s fun t => loopState t.eng n = if n = 0 then 4 else 2 := by
  have hbehind : ((List.range 8).foldl (returnLoop mask) s.eng).behind = s.eng.behind :=
    foldl_keeps Eng.behind _ _ (fun a m _ => (returnLoop_kept mask m a).behind) s.eng
  have hstate := foldl_once (fun a => loopState a n) (fun st => if st = 5 then (if n = 0 then 4 else 2) else st) (returnLoop mask)
    List.nodup_range (List.mem_range.2 hn) (returnLoop_state hn hmask)
    (fun a m hm hne => (returnLoop_kept mask m a).rd _ (state_field n).1 (stateKey_apart n hn m (List.mem_range.1 hm) hne)) s.eng
  simp only [hheld, if_true] at hstate
  exact ⟨_, onAll_behind s (fun e _ => (List.range 8).foldl (returnLoop mask) e) hup hquiet hbehind, rfl, hstate⟩

/-- PHASE_ALIGN_DONE locks SPLL (R107 step 4). -/
theorem phaseAlignDone_locks (s : State) (hup : s.up) (hquiet : s.quiet) (halign : loopState s.eng 0 = 4) :
    Completes .phaseAlignDone s fun t => loopState t.eng 0 = 2 ∧ t.rd (CLK_LOOP_STAT_LOCKED 0) = 1 ∧ t.rd (CLK_LOOP_STAT_BYPASS 0) = 0 ∧
      t.eng.bit CLK_EVT_RELOCK 0 = true := by
  have hscan := scanGo_kept (ks := []) (lockLoop 0 s.eng)
  have hexec := onAll_behind s (fun e _ => if loopState e 0 = 4 then scanGo (lockLoop 0 e) else e) hup hquiet
    (by simpa only [halign, if_true] using hscan.behind.trans (lockLoop_kept 0 s.eng).behind)
  simp only [if_pos halign] at hexec
  obtain ⟨hstate, hlocked, hbypass, hevent⟩ := lockLoop_shows (n := 0) (by decide) s.eng
  obtain ⟨hstateF, hlockedF, hbypassF, -, -⟩ := state_field 0
  have hstate' := (hscan.rd _ hstateF List.not_mem_nil).trans hstate
  have hlocked' := (hscan.rd _ hlockedF List.not_mem_nil).trans hlocked
  have hbypass' := (hscan.rd _ hbypassF List.not_mem_nil).trans hbypass
  have hevent' := (hscan.bit 0 (clockField_fld (by omega)) List.not_mem_nil).trans hevent
  generalize scanGo (lockLoop 0 s.eng) = e at *
  exact ⟨_, hexec, rfl, hstate', hlocked', hbypass', hevent'⟩

/-- No alignment is under way, so nothing happens. -/
theorem phaseAlignDone_idle (s : State) (hup : s.up) (hquiet : s.quiet) (hinv : Inv s) (halign : loopState s.eng 0 ≠ 4) :
    Completes .phaseAlignDone s fun t => Only [] s t := by
  have hexec := onAll_behind s (fun e _ => if loopState e 0 = 4 then scanGo (lockLoop 0 e) else e) hup hquiet
    (by simp only [if_neg halign])
  simp only [if_neg halign, hinv.2] at hexec
  exact ⟨_, hexec, rfl, rfl, rfl, fun _ _ => rfl⟩

end Machine
end Sys2Proof
end

section
/-!
SUPPORT. What the clauses that fail of O8, O25, O27 and O28 say where the bound holds that they lack, and the states that refute them.
-/
namespace Sys2Proof
namespace Machine

/-! ### CLOCK_MONITOR_FAIL of XREF (R115) -/

/-- XREF has failed its monitor: XREF_OK is 0, and the reference counts as failed. -/
def xrefFailed (e : Eng) : Eng := { e.wr CLK_MON_STAT_XREF_OK 0 with clk := { e.clk with refBad := setNatBit e.clk.refBad 0 } }

/-- The failure of XREF is reported. -/
def xrefLost (e : Eng) : Eng := (xrefFailed e).raise CLK_EVT_XREF_LOSS

/-- What a failure of XREF shows. -/
def xrefShown (e : Eng) : Nat × Nat × Nat × (PwrSt × SecSt × CurSt × List MemReq × List MemReq) :=
  (e.rd CLK_MON_STAT_XREF_OK, e.rd CLK_EVT_XREF_LOSS, e.clk.refBad, e.behind)

theorem LoopsKept.xrefShown {ks : List Nat} {e e' : Eng} (h : LoopsKept ks e e') (hok : CLK_MON_STAT_XREF_OK.key ∉ ks)
    (hevt : CLK_EVT_XREF_LOSS.key ∉ ks) : Machine.xrefShown e' = Machine.xrefShown e := by
  have hxref : ClockField CLK_MON_STAT_XREF_OK ∧ ClockField CLK_EVT_XREF_LOSS := ⟨clockField_fld (by omega), clockField_fld (by omega)⟩
  simp only [Machine.xrefShown, h.rd _ hxref.1 hok, h.rd _ hxref.2 hevt, h.refBad, h.behind]

theorem loopLoss_xrefShown (n cause t : Nat) (e : Eng) : xrefShown (loopLoss n cause t e) = xrefShown e := by
  have hkeys : CLK_MON_STAT_XREF_OK.key ∉ CLK_LD_AN_DECL.key :: lossKeys n ∧ CLK_EVT_XREF_LOSS.key ∉ CLK_LD_AN_DECL.key :: lossKeys n := by
    simp only [lossKeys, statKeys, CLK_EVT_LOSS, CLK_LOOP_STAT_STATE, CLK_LOOP_STAT_LOCKED, CLK_LOOP_STAT_BYPASS, CLK_EVT_XREF_LOSS,
      CLK_LOOP_STAT_LOSS_CNT, CLK_MON_STAT_LOOP_OK, CLK_LD_AN_DECL, CLK_MON_STAT_XREF_OK, fld, List.cons_append, List.nil_append, List.mem_cons,
      List.not_mem_nil, or_false]
    omega
  exact (loopLoss_kept n cause t e).xrefShown hkeys.1 hkeys.2

theorem monitorFail_xref (t : Nat) (e : Eng) :
    monitorFail 0 t e = scanRecheck (loopsShow ([0, 5, 6, 7].foldl (fun a n => loopLoss n 2 t a) (xrefLost e))) := by
  unfold monitorFail
  rw [if_pos rfl]
  rfl

theorem exec_monitorFail_near (src t : Nat) (s : State) :
    exec (.clockMonitorFail src t false) s = onAll s fun e _ => monitorFail src t e := by
  show execClockMonitorFail src t false s = _
  simp [execClockMonitorFail, Eng.when]

/-- What a failure of XREF that is no tamper detection does where XREF_LOSS holds a value of its width. -/
theorem clockMonitorFail_xref (s : State) (t0 : Nat) (hup : s.up) (hquiet : s.quiet) (hevt : s.rd CLK_EVT_XREF_LOSS < 2) :
    Completes (.clockMonitorFail 0 t0 false) s fun t => t.rd CLK_MON_STAT_XREF_OK = 0 ∧ t.rd CLK_EVT_XREF_LOSS = 1 ∧
      natBit t.eng.clk.refBad 0 = true := by
  have hshown : xrefShown (monitorFail 0 t0 s.eng) = xrefShown (xrefLost s.eng) := by
    have hlosses := foldl_keeps xrefShown (fun a n => loopLoss n 2 t0 a) [0, 5, 6, 7] (fun a n _ => loopLoss_xrefShown n 2 t0 a) (xrefLost s.eng)
    have hshow := (loopsShow_kept (ks := []) ([0, 5, 6, 7].foldl (fun a n => loopLoss n 2 t0 a) (xrefLost s.eng))).trans (scanRecheck_kept _)
    rw [monitorFail_xref]
    exact (hshow.xrefShown List.not_mem_nil List.not_mem_nil).trans hlosses
  have hlost : xrefShown (xrefLost s.eng) = (0, 1, setNatBit s.eng.clk.refBad 0, s.eng.behind) := by
    have hlow : (xrefFailed s.eng).rd CLK_MON_STAT_XREF_OK = 0 := Eng.rd_wr s.eng CLK_MON_STAT_XREF_OK 0
    have hbit : (xrefFailed s.eng).rd CLK_EVT_XREF_LOSS < 2 :=
      lt_of_eq_of_lt (Eng.rd_wr_other s.eng (f := CLK_MON_STAT_XREF_OK) (g := CLK_EVT_XREF_LOSS) 0 (by decide)) hevt
    have hraise : LoopsKept [CLK_EVT_XREF_LOSS.key] (xrefFailed s.eng) (xrefLost s.eng) := .raise (.refl _) 0 (.inl (List.mem_singleton_self _))
    have hok : (xrefLost s.eng).rd CLK_MON_STAT_XREF_OK = 0 := (hraise.rd _ (clockField_fld (by omega)) (by decide)).trans hlow
    have hone : (xrefLost s.eng).rd CLK_EVT_XREF_LOSS = 1 := raise_reads_one _ rfl (still_of_below (by decide)) hbit
    simp only [xrefShown, hok, hone, hraise.refBad, hraise.behind]
    rfl
  rw [hlost] at hshown
  simp only [xrefShown, Prod.mk.injEq] at hshown
  obtain ⟨hok, hone, hbad, hbehind⟩ := hshown
  have hexec := onAll_behind s (fun e _ => monitorFail 0 t0 e) hup hquiet hbehind
  have hset : natBit (monitorFail 0 t0 s.eng).clk.refBad 0 = true := by
    rw [hbad]
    exact natBit_setNatBit _ _
  rw [← exec_monitorFail_near] at hexec
  generalize monitorFail 0 t0 s.eng = e at hexec hok hone hset
  exact ⟨_, hexec, rfl, hok, hone, hset⟩

/-! ### LOOP_COMMIT and RAMP_SEG_WRITE that are rejected (R105, R122) -/

/-- A commit of loop `n` is allowed: MPLL follows the speed bin, SPLL and BPLL are bound to modes (R106). -/
def CommitAllowed (n : Nat) (e : Eng) : Prop :=
  (n = 0 → (e.mode = .service ∨ e.mode = .review) ∧ e.rd GLB_MODE_STAT_BUSY = 0) ∧ n ≠ 5 ∧ (n = 7 → e.mode = .service)

/-- The step of a loop whose commit is not legal or not allowed only reports it. -/
theorem commitLoop_rejected {n : Nat} {e : Eng} (h : ¬(loopLegal e n (loopShadow e n) = true ∧ CommitAllowed n e)) :
    commitLoop n e = e.raise CLK_EVT_CMT_REJ := by
  unfold commitLoop
  by_cases hlegal : loopLegal e n (loopShadow e n) = true
  case neg => simp [hlegal, cmtRej]
  case pos =>
    have hnot : ¬CommitAllowed n e := fun hallowed => h ⟨hlegal, hallowed⟩
    simp only [CommitAllowed] at hnot
    by_cases h0 : n = 0
    · subst h0
      have hbusy : ¬((e.mode = .service ∨ e.mode = .review) ∧ (!e.on GLB_MODE_STAT_BUSY) = true) := by simpa [Eng.on] using hnot
      rw [if_neg (by simp [hlegal]), if_pos rfl, if_neg hbusy, cmtRej]
    · by_cases h5 : n = 5
      · simp [h5, cmtRej]
      · obtain ⟨h7, hmode⟩ : n = 7 ∧ ¬e.mode = .service := by simpa [h0, h5] using hnot
        simp [h7, hmode, cmtRej]

/-- What that step does where CMT_REJ holds a value of its width. -/
theorem commitLoop_rejected_shows {n : Nat} {e : Eng} (h : ¬(loopLegal e n (loopShadow e n) = true ∧ CommitAllowed n e))
    (hrej : e.rd CLK_EVT_CMT_REJ < 2) : (commitLoop n e).rd CLK_EVT_CMT_REJ = 1 ∧
      (∀ m, loopState (commitLoop n e) m = loopState e m) ∧ (commitLoop n e).act = e.act := by
  have hstate (m : Nat) : CLK_EVT_CMT_REJ.key ≠ (CLK_LOOP_STAT_STATE m).key := by
    simp only [CLK_EVT_CMT_REJ, CLK_LOOP_STAT_STATE, fld]
    omega
  rw [commitLoop_rejected h]
  exact ⟨raise_reads_one e rfl (still_of_below (by decide)) hrej, fun m => raise_rd e _ _ (hstate m) (state_field m).1.still, raise_act e _ _⟩

/-- A write of a segment while its ramp is enabled is discarded, where CMT_REJ holds a value of its width. -/
theorem rampSegWrite_rejected (s : State) (m sg dur fin : Nat) (hup : s.up) (hen : s.rd (CLK_RAMP_CTRL_EN m) ≠ 0)
    (hrej : s.rd CLK_EVT_CMT_REJ < 2) : Completes (.rampSegWrite m sg dur fin) s fun t =>
      t.rd CLK_EVT_CMT_REJ = 1 ∧ Kept [CLK_EVT_CMT_REJ.key] s t := by
  have hon : s.eng.on (CLK_RAMP_CTRL_EN m) = true := by simpa [Eng.on] using (show s.eng.rd (CLK_RAMP_CTRL_EN m) ≠ 0 from hen)
  have hexec := onEng_up s (rampSegWrite m sg dur fin) hup
  rw [show rampSegWrite m sg dur fin s.eng = s.eng.raise CLK_EVT_CMT_REJ from if_pos hon] at hexec
  exact ⟨_, hexec, rfl, raise_reads_one s.eng rfl (still_of_below (by decide)) hrej,
    kept_withEng fun g hg hs => raise_rd s.eng _ _ (key_ne_of_mem hg (List.mem_singleton_self _)) hs⟩

/-! ### A line of a RING region (R221, R225) -/

/-- A RING region that is neither full nor frozen, and of which no line is protected, takes a line unless it has been released from a freeze and
has not restarted. -/
theorem writeRec_ring {n : Nat} (l : LineRec) {e : Eng} (hfull : e.rd (ACC_CREG_STAT_FULL_NOW n) = 0)
    (hfrozen : e.rd (ACC_CREG_STAT_FROZEN_NOW n) = 0) (hring : regionKind e n = 1) (hsize : e.rd (ACC_CREG_SIZE_LINES n) ≠ 0)
    (hprotect : (e.getRg n).protect = []) :
    writeRec n l none e = if (e.getRg n).release.isSome then lineLost n e else freezeCheck n (placeLine n l e) := by
  have hhit (k size : Nat) : protectHit n k size e = (e, false) := by simp [protectHit, hprotect]
  unfold writeRec
  simp [Eng.on, hfull, hfrozen, hring, hsize, hhit, catSettle]

/-! ### The states that refute O8, O25, O27 and O28 -/

/-- Capture memory takes lines, and stream 0 of the RING region 0 holds a full line, but the region has been released from a freeze and waits
for the first word after it (R225). -/
def releasedRegion : State :=
  { eng := { regs := [((CLK_LOOP_STAT_STATE 5).key, 2), ((ACC_CREG_CFG_KIND 0).key, 1), ((ACC_CREG_SIZE_LINES 0).key, 4),
      ((MEM_FAB_RSV_MAX_REQ 0).key, 1)]
             rg := [{ streams := [{ units := List.replicate 60 1, ticks := List.replicate 60 0 }], release := some (0, 0) }] } }

/-- The state after reset, but CLK_EVT.CMT_REJ, a field of one bit, holds 3. -/
def cmtRejWide : State := { eng := { regs := [(CLK_EVT_CMT_REJ.key, 3)] } }

/-- The state after reset, but CLK_EVT.XREF_LOSS, a field of one bit, holds 3. -/
def xrefLossWide : State := { eng := { regs := [(CLK_EVT_XREF_LOSS.key, 3)] } }

/-- CLK_EVT.CMT_REJ holds 3, and EN of ramp 0 is 1. -/
def rampWide : State := { eng := { regs := [(CLK_EVT_CMT_REJ.key, 3), ((CLK_RAMP_CTRL_EN 0).key, 1)] } }

end Machine
end Sys2Proof
end

section
/-!
SUPPORT. The obligations O8 and O25 to O28.
-/
open Sys2Proof Sys2Proof.Machine

/-- Refutes O8: the statement does not ask whether the region has been released from a freeze and waits for its first word (R225). Such a
region is neither full nor frozen and nothing waits before the line, yet it discards the line and counts it as lost, so SEQ stays.
`writeRec_ring` says which lines a RING region takes. -/
theorem not_accessionStoresLine : ¬ Obligations.AccessionStoresLine := by
  unfold Obligations.AccessionStoresLine
  intro h
  obtain ⟨-, hflows⟩ := h releasedRegion 0 0 rfl (by decide) (by decide) (by decide +kernel) rfl (by decide +kernel) (by decide +kernel)
    (by decide +kernel) (by decide +kernel) rfl rfl
  obtain ⟨t, hexec, -, -, hseq, -⟩ := hflows (by decide +kernel)
  have hstays : outcomeHas (.accessionLine 0 0) releasedRegion (fun t => t.rd (ACC_CREG_GS_SEQ 0) == 0) = true := by decide +kernel
  rw [outcomeHas_next _ hexec, hseq] at hstays
  exact absurd hstays (by decide +kernel)

/-- Refutes O25: nothing bounds the value that a one-bit event field holds. Where CLK_EVT.CMT_REJ holds 3, a value that `Eng.wr` never stores,
its bit counts as set, so the rejected commit of MPLL leaves the field at 3 and not at 1. `commitLoop_rejected_shows` proves what the step of
a rejected loop does with the bound that the statement lacks. -/
theorem not_loopCommitStartsOrIsRejected : ¬ Obligations.LoopCommitStartsOrIsRejected := by
  unfold Obligations.LoopCommitStartsOrIsRejected
  intro h
  obtain ⟨hreject, -⟩ := h cmtRejWide 32 5 rfl (by decide) rfl
  obtain ⟨t, hexec, -, hone, -⟩ := hreject fun ⟨_, _, hmpll, _⟩ => hmpll rfl
  have hthree : outcomeHas (.loopCommit 32) cmtRejWide (fun t => t.rd CLK_EVT_CMT_REJ == 3) = true := by decide +kernel
  rw [outcomeHas_next _ hexec, hone] at hthree
  exact absurd hthree (by decide)

/-- Settles O26: a window within TOL or outside it (`lockWindowEnd_passed_completes`, `lockWindowEnd_failed_completes`) and a crossing of
LOCK_FILT (`analogueLock_completes`) declare lock or loss, and what follows the declaration leaves the lock detectors alone (`LoopsKept`);
SPLL locks once it is aligned (`phaseAlignDone_locks`), and the return of one loop leaves the others alone (`loopReturn_completes`). -/
theorem lockDetectorsDeclare : Obligations.LockDetectorsDeclare := by
  unfold Obligations.LockDetectorsDeclare
  intro s hup hquiet
  refine ⟨fun n fb t0 hn ht hstate href han => ?_, fun lock volt t0 hen _ hstate => ?_, phaseAlignDone_locks s hup hquiet,
    fun halign hinv => phaseAlignDone_idle s hup hquiet hinv halign,
    fun mask n hn hmask hheld => loopReturn_completes s hup hquiet hn hmask hheld⟩
  · have hc : Counted n s.eng := ⟨hn, hstate, href, han⟩
    exact ⟨lockWindowEnd_passed_completes s hup hquiet hc ht, lockWindowEnd_failed_completes s hup hquiet hc⟩
  · exact analogueLock_completes s hup hquiet ⟨hen, rfl, hstate⟩

/-- Refutes O27: nothing bounds the value that a one-bit event field holds. Where CLK_EVT.XREF_LOSS holds 3, a value that `Eng.wr` never
stores, its bit counts as set, so a failure of XREF leaves the field at 3 and not at 1. `clockMonitorFail_xref` proves the clause with the
bound that it lacks; the clause on XREF_BACK lacks the same bound. -/
theorem not_clockMonitorsReport : ¬ Obligations.ClockMonitorsReport := by
  unfold Obligations.ClockMonitorsReport
  intro h
  obtain ⟨hfails, -⟩ := h
  obtain ⟨⟨t, hexec, -, -, hone, -⟩, -⟩ := hfails xrefLossWide 0 rfl ⟨rfl, rfl, rfl, rfl, ⟨rfl, rfl⟩, rfl⟩
  have hthree : outcomeHas (.clockMonitorFail 0 0 false) xrefLossWide (fun t => t.rd CLK_EVT_XREF_LOSS == 3) = true := by decide +kernel
  rw [outcomeHas_next _ hexec, hone] at hthree
  exact absurd hthree (by decide)

/-- Refutes O28: nothing bounds the value that a one-bit event field holds. Where CLK_EVT.CMT_REJ holds 3, a value that `Eng.wr` never stores,
its bit counts as set, so a write of a segment of a ramp that is enabled leaves the field at 3 and not at 1. `rampSegWrite_rejected` proves
the clause with the bound that it lacks; the clause on REJ of a CLKOUT lacks the same bound. -/
theorem not_clockConfigurationWrites : ¬ Obligations.ClockConfigurationWrites := by
  unfold Obligations.ClockConfigurationWrites
  intro h
  obtain ⟨-, hramp, -⟩ := h rampWide rfl
  obtain ⟨hlocked, -⟩ := hramp 0 0 0 0 (by decide) (by decide)
  obtain ⟨t, hexec, -, hone, -⟩ := hlocked (by decide)
  have hthree : outcomeHas (.rampSegWrite 0 0 0 0) rampWide (fun t => t.rd CLK_EVT_CMT_REJ == 3) = true := by decide +kernel
  rw [outcomeHas_next _ hexec, hone] at hthree
  exact absurd hthree (by decide)

end

section
/-!
SUPPORT. A write of a resource that the context does not own (R162), a START of a retriggering run that is refused (R200, R203), and the
states that refute O33 and O35.
-/
namespace Sys2Proof
namespace Machine

/-! ### RES_FIELD_WRITE (R162) -/

/-- A write of a resource that the context does not own sets OWN_ERR, where that field holds a value of its width, and changes no other
field but those of a report. -/
theorem resFieldWrite_notOwned (s : State) {n off i : Nat} (master value mask : Nat) (hup : s.up) (hexists : ctxExists s.eng n = true)
    (hat : resourceAt off = some i) (howns : owns s.eng n i = false) (herr : s.rd (TRIG_RES_STAT_OWN_ERR n) < 2) :
    Completes (.resFieldWrite master n off value mask) s fun t =>
      t.rd (TRIG_RES_STAT_OWN_ERR n) = 1 ∧ Kept [(TRIG_RES_STAT_OWN_ERR n).key] s t := by
  have hstill : Still (TRIG_RES_STAT_OWN_ERR n) := still_of_below (by simp only [TRIG_RES_STAT_OWN_ERR, fld]; omega)
  have hwrite : resFieldWrite master n off value mask s.eng = s.eng.raise (TRIG_RES_STAT_OWN_ERR n) := by
    simp [resFieldWrite, hexists, hat, howns]
  have hexec := onEng_up s (resFieldWrite master n off value mask) hup
  rw [hwrite] at hexec
  exact ⟨_, hexec, rfl, raise_reads_one s.eng rfl hstill herr,
    kept_withEng fun g hg hs => raise_rd s.eng _ _ (key_ne_of_mem hg (List.mem_singleton_self _)) hs⟩

/-- Context 1 exists and owns no resource, and its TRIG_RES_STAT.OWN_ERR, a field of one bit, holds 3. -/
def ownErrWide : State := { eng := { regs := [((TRIG_CTX_INFO_EXISTS 1).key, 1), ((TRIG_RES_STAT_OWN_ERR 1).key, 3)] } }

/-! ### The end of a retriggering run (R203) -/

/-- The status fields of a retriggering run. -/
def runStatKeys : List Nat := [TRIG_RR_STAT_END.key, TRIG_RR_STAT_VALID.key, TRIG_RR_STAT_BUSY.key, TRIG_RR_STAT_GEN.key]

/-- The status of a run that has ended with a code. -/
def runEnded (code : Nat) (e : Eng) : Eng :=
  (((e.wr TRIG_RR_STAT_END code).addWrap TRIG_RR_STAT_GEN 1).wr TRIG_RR_STAT_VALID 1).wr TRIG_RR_STAT_BUSY 0

/-- The RR_END events of some contexts. -/
def raiseRunEnds (ctxs : List Nat) (e : Eng) : Eng := ctxs.foldl (fun a n => a.raise (TRIG_SEQ_EVT_RR_END n)) e

theorem rrFinish_eq (code : Nat) (ctxs : List Nat) (e : Eng) : rrFinish code ctxs e = raiseRunEnds ctxs (runEnded code e) := rfl

theorem runEnded_rd (code : Nat) (e : Eng) {g : Fld} (hg : g.key ∉ runStatKeys) : (runEnded code e).rd g = e.rd g := by
  have hne {k : Nat} (hk : k ∈ runStatKeys) : k ≠ g.key := key_ne_of_mem hg hk
  rw [runEnded, Eng.rd_wr_other _ _ (hne (by simp [runStatKeys])), Eng.rd_wr_other _ _ (hne (by simp [runStatKeys])), addWrap_eq,
    Eng.rd_wr_other _ _ (hne (by simp [runStatKeys])), Eng.rd_wr_other _ _ (hne (by simp [runStatKeys]))]

theorem runEnded_shows (code : Nat) (e : Eng) : (runEnded code e).rd TRIG_RR_STAT_END = code % 2 ^ 3 ∧
    (runEnded code e).rd TRIG_RR_STAT_VALID = 1 ∧ (runEnded code e).rd TRIG_RR_STAT_BUSY = 0 ∧
    (runEnded code e).rd TRIG_RR_STAT_GEN = (e.rd TRIG_RR_STAT_GEN + 1) % 2 ^ 16 := by
  refine ⟨?_, ?_, Eng.rd_wr _ _ _, ?_⟩
  · rw [runEnded, Eng.rd_wr_other _ _ (by decide), Eng.rd_wr_other _ _ (by decide), addWrap_eq, Eng.rd_wr_other _ _ (by decide), Eng.rd_wr]
    rfl
  · rw [runEnded, Eng.rd_wr_other _ _ (by decide), Eng.rd_wr]
    rfl
  · rw [runEnded, Eng.rd_wr_other _ _ (by decide), Eng.rd_wr_other _ _ (by decide), addWrap_eq, Eng.rd_wr, Eng.rd_wr_other _ _ (by decide)]
    rfl

theorem runEnd_still (n : Nat) : Still (TRIG_SEQ_EVT_RR_END n) := still_of_below (by simp only [TRIG_SEQ_EVT_RR_END, fld]; omega)

theorem runEnd_ne_stat (n : Nat) : (TRIG_SEQ_EVT_RR_END n).key ∉ runStatKeys := by
  simp only [runStatKeys, TRIG_SEQ_EVT_RR_END, TRIG_RR_STAT_END, TRIG_RR_STAT_VALID, TRIG_RR_STAT_BUSY, TRIG_RR_STAT_GEN, fld,
    List.mem_cons, List.not_mem_nil, or_false]
  omega

theorem raiseRunEnds_rd {ctxs : List Nat} (e : Eng) {g : Fld} (hg : ∀ n ∈ ctxs, (TRIG_SEQ_EVT_RR_END n).key ≠ g.key) (hs : Still g) :
    (raiseRunEnds ctxs e).rd g = e.rd g :=
  foldl_keeps (fun a => a.rd g) _ ctxs (fun a n hn => raise_rd a _ _ (hg n hn) hs) e

theorem raiseRunEnds_wq (ctxs : List Nat) (e : Eng) : (raiseRunEnds ctxs e).wq = e.wq :=
  foldl_keeps Eng.wq _ ctxs (fun a _ _ => raise_wq a _ _) e

/-- The event of each of the contexts reads 1, where its field holds a value of its width. -/
theorem raiseRunEnds_one {ctxs : List Nat} (hnodup : ctxs.Nodup) (hctxs : ∀ n ∈ ctxs, n < 4) {n : Nat} (hn : n ∈ ctxs) (e : Eng)
    (hevt : e.rd (TRIG_SEQ_EVT_RR_END n) < 2) : (raiseRunEnds ctxs e).rd (TRIG_SEQ_EVT_RR_END n) = 1 := by
  have hother (a : Eng) (m : Nat) (hm : m ∈ ctxs) (hmn : m ≠ n) :
      (a.raise (TRIG_SEQ_EVT_RR_END m)).rd (TRIG_SEQ_EVT_RR_END n) = a.rd (TRIG_SEQ_EVT_RR_END n) := by
    refine raise_rd a _ _ ?_ (runEnd_still n)
    have hm4 := hctxs m hm
    have hn4 := hctxs n hn
    simp only [TRIG_SEQ_EVT_RR_END, fld]
    omega
  have honce := foldl_once (fun a : Eng => a.rd (TRIG_SEQ_EVT_RR_END n))
    (fun x => if natBit x 0 then x else setNatBit x 0 % 2 ^ 1) _ hnodup hn (fun a => raise_rd_same a _ 0 (runEnd_still n)) hother e
  refine honce.trans ?_
  generalize e.rd (TRIG_SEQ_EVT_RR_END n) = x at hevt
  interval_cases x <;> rfl

/-! ### RR_START (R200) -/

/-- A START is refused: the run's range is empty or its region holds no line of it, the mode is not REVIEW, or a selected context does not
exist or is in service. -/
def StartRefused (e : Eng) (m : Mems) : Prop :=
  e.rdq TRIG_RR_TO ≤ e.rdq TRIG_RR_FROM ∨ rangeHeld e m (e.rd TRIG_RR_CTRL_REG) (e.rdq TRIG_RR_FROM) (e.rdq TRIG_RR_TO) = false ∨
    e.mode ≠ .review ∨ ∃ n < 4, natBit (e.rd TRIG_RR_CTRL_CTX) n = true ∧ (ctxExists e n = false ∨ e.inService (8 + n) = true)

theorem mem_rrSelected {e : Eng} {n : Nat} : n ∈ rrSelected e ↔ n < 4 ∧ natBit (e.rd TRIG_RR_CTRL_CTX) n = true := by
  simp [rrSelected, indicesWhere]

theorem rrStart_refused {e : Eng} {m : Mems} (hidle : inRun e = false) (h : StartRefused e m) :
    rrStart e m = rrFinish 3 (rrSelected e) (e.wr TRIG_RR_STAT_VALID 0) := by
  have hcond : (e.rdq TRIG_RR_TO ≤ e.rdq TRIG_RR_FROM || !rangeHeld e m (e.rd TRIG_RR_CTRL_REG) (e.rdq TRIG_RR_FROM) (e.rdq TRIG_RR_TO) ||
      (rrSelected e).any (fun n => !ctxExists e n || e.inService (8 + n)) || e.mode != .review) = true := by
    simp only [Bool.or_eq_true, decide_eq_true_eq, Bool.not_eq_true', List.any_eq_true, mem_rrSelected, bne_iff_ne]
    obtain h | h | h | ⟨n, hn, hsel, hbad⟩ := h
    · exact .inl (.inl (.inl h))
    · exact .inl (.inl (.inr h))
    · exact .inr h
    · exact .inl (.inr ⟨n, ⟨hn, hsel⟩, hbad⟩)
  unfold rrStart
  rw [if_neg (by simp [hidle])]
  exact if_pos hcond

/-- What a refused START reports, where the events of the selected contexts hold values of their width: the run has ended with RANGE. -/
theorem rrStart_refused_completes (s : State) (hup : s.up) (hinv : Inv s) (hidle : inRun s.eng = false) (h : StartRefused s.eng s.mem)
    (hevt : ∀ n < 4, natBit (s.rd TRIG_RR_CTRL_CTX) n = true → s.rd (TRIG_SEQ_EVT_RR_END n) < 2) : Completes .rrStart s fun t =>
      t.rd TRIG_RR_STAT_END = 3 ∧ t.rd TRIG_RR_STAT_VALID = 1 ∧ t.rd TRIG_RR_STAT_BUSY = 0 ∧
      t.rd TRIG_RR_STAT_GEN = (s.rd TRIG_RR_STAT_GEN + 1) % 2 ^ 16 ∧
      (∀ n < 4, natBit (s.rd TRIG_RR_CTRL_CTX) n = true → t.rd (TRIG_SEQ_EVT_RR_END n) = 1) ∧
      Kept (runStatKeys ++ (List.range 4).map fun n => (TRIG_SEQ_EVT_RR_END n).key) s t := by
  have hends : ∀ n ∈ rrSelected s.eng, n < 4 := fun n hn => (mem_rrSelected.1 hn).1
  have hexec := onMem_up s rrStart hup
  rw [applyMem, rrStart_refused hidle h, rrFinish_eq, raiseRunEnds_wq] at hexec
  have hstat {g : Fld} (hg : g.key ∈ runStatKeys) (hs : Still g) := raiseRunEnds_rd (ctxs := rrSelected s.eng)
    (runEnded 3 (s.eng.wr TRIG_RR_STAT_VALID 0)) (g := g) (fun n _ he => runEnd_ne_stat n (he ▸ hg)) hs
  obtain ⟨hend, hvalid, hbusy, hgen⟩ := runEnded_shows 3 (s.eng.wr TRIG_RR_STAT_VALID 0)
  have hbelow (n : Nat) : (runEnded 3 (s.eng.wr TRIG_RR_STAT_VALID 0)).rd (TRIG_SEQ_EVT_RR_END n) = s.eng.rd (TRIG_SEQ_EVT_RR_END n) :=
    (runEnded_rd 3 _ (runEnd_ne_stat n)).trans (Eng.rd_wr_other _ _ (key_ne_of_mem (runEnd_ne_stat n) (by simp [runStatKeys])))
  refine ⟨_, hexec, rfl, (hstat (by decide) (still_of_below (by decide))).trans hend,
    (hstat (by decide) (still_of_below (by decide))).trans hvalid, (hstat (by decide) (still_of_below (by decide))).trans hbusy,
    (hstat (by decide) (still_of_below (by decide))).trans (hgen.trans (by rw [Eng.rd_wr_other _ _ (by decide)]; rfl)), ?_, ?_, ?_⟩
  · exact fun n hn hsel => raiseRunEnds_one (List.nodup_range.filter _) hends (mem_rrSelected.2 ⟨hn, hsel⟩) _
      ((hbelow n).trans_lt (hevt n hn hsel))
  · show s.mem.applyAll s.eng.wq = s.mem
    rw [hinv.2]
    rfl
  · intro g hg
    simp only [List.mem_append, not_or] at hg
    obtain ⟨⟨hstatus, hevents⟩, hs⟩ := hg
    calc (raiseRunEnds (rrSelected s.eng) (runEnded 3 (s.eng.wr TRIG_RR_STAT_VALID 0))).rd g
        = (runEnded 3 (s.eng.wr TRIG_RR_STAT_VALID 0)).rd g := raiseRunEnds_rd _ (fun n hn =>
          key_ne_of_mem hevents (List.mem_map_of_mem (List.mem_range.2 (hends n hn)))) hs
      _ = (s.eng.wr TRIG_RR_STAT_VALID 0).rd g := runEnded_rd 3 _ hstatus
      _ = s.eng.rd g := Eng.rd_wr_other _ _ (key_ne_of_mem hstatus (by simp [runStatKeys]))

/-- Context 0 is selected for a run with an empty range, and its TRIG_SEQ_EVT.RR_END, a field of one bit, holds 3. -/
def runEndWide : State := { eng := { regs := [((TRIG_SEQ_EVT_RR_END 0).key, 3), (TRIG_RR_CTRL_CTX.key, 1)] } }

end Machine
end Sys2Proof
end

section
/-!
SUPPORT. The obligations O33 and O35.
-/
open Sys2Proof Sys2Proof.Machine

/-- Refutes O33: nothing bounds the value that a one-bit field holds. Where TRIG_RES_STAT.OWN_ERR of a context holds 3, a value that `Eng.wr`
never stores, its bit counts as set, so a write of a resource that the context does not own leaves the field at 3 and not at 1.
`resFieldWrite_notOwned` proves the clause with the bound that it lacks; the clauses on CMT_REJ, TCHIT and LIMHIT lack the same bound. -/
theorem not_triggerResourcesCommit : ¬ Obligations.TriggerResourcesCommit := by
  unfold Obligations.TriggerResourcesCommit
  intro h
  obtain ⟨-, -, -, hfield, -⟩ := h ownErrWide 1 rfl (by decide)
  obtain ⟨hrefused, -⟩ := hfield 0 0x10000 0 0 0 (by decide)
  obtain ⟨t, hexec, -, hone, -⟩ := hrefused (by decide)
  have hthree : outcomeHas (.resFieldWrite 0 1 0x10000 0 0) ownErrWide (fun t => t.rd (TRIG_RES_STAT_OWN_ERR 1) == 3) = true := by
    decide +kernel
  rw [outcomeHas_next _ hexec, hone] at hthree
  exact absurd hthree (by decide)

/-- Refutes O35: nothing bounds the value that a one-bit event field holds. Where TRIG_SEQ_EVT.RR_END of a selected context holds 3, a value
that `Eng.wr` never stores, its bit counts as set, so a START with an empty range leaves the field at 3 and not at 1.
`rrStart_refused_completes` proves the clause with the bound that it lacks; the clauses on RESULT and on RR_END of a run that ends lack the
same bound. -/
theorem not_instantsDecideAndResultsEnd : ¬ Obligations.InstantsDecideAndResultsEnd := by
  unfold Obligations.InstantsDecideAndResultsEnd
  intro h
  have hinv : Inv runEndWide := ⟨by decide, rfl⟩
  obtain ⟨-, -, -, -, -, hrun, -⟩ := h runEndWide rfl
  obtain ⟨⟨-, hrefused, -⟩, -⟩ := hrun hinv
  obtain ⟨t, hexec, -, -, -, -, -, hone, -⟩ := hrefused (by decide) (.inl (by decide))
  have hthree : outcomeHas .rrStart runEndWide (fun t => t.rd (TRIG_SEQ_EVT_RR_END 0) == 3) = true := by decide +kernel
  rw [outcomeHas_next _ hexec, hone 0 (by decide) (by decide)] at hthree
  exact absurd hthree (by decide)

end

section
/-!
SUPPORT. An ARM or DISARM that meets a context that does not evaluate (R188, log entry 49), and the state that refutes O34.
-/
namespace Sys2Proof
namespace Machine

/-! ### ARM and DISARM (R188) -/

theorem seqCommand_notEvaluating {e : Eng} {n : Nat} (c : SeqCmd) (hevals : evals e n = false) : seqCommand n c e = armIgn n e := by
  simp [seqCommand, hevals]

/-- ARM_IGN is no field that a report changes. -/
theorem armIgn_still (n : Nat) : Still (TRIG_SEQ_EVT_ARM_IGN n) := still_of_below (by simp only [TRIG_SEQ_EVT_ARM_IGN, fld]; omega)

/-- An ARM or DISARM of a context that does not evaluate sets ARM_IGN, where that field holds a value of its width, and changes no other
field but those of a report. -/
theorem armCommand_ignored (s : State) {n : Nat} (hup : s.up) (hevals : evals s.eng n = false) (hign : s.rd (TRIG_SEQ_EVT_ARM_IGN n) < 2) :
    ∀ c ∈ [Instr.arm n, Instr.disarm n], Completes c s fun t =>
      t.rd (TRIG_SEQ_EVT_ARM_IGN n) = 1 ∧ Kept [(TRIG_SEQ_EVT_ARM_IGN n).key] s t := by
  have hcommand (c : Instr) (q : SeqCmd) (hc : exec c s = onEng s (seqCommand n q)) : Completes c s fun t =>
      t.rd (TRIG_SEQ_EVT_ARM_IGN n) = 1 ∧ Kept [(TRIG_SEQ_EVT_ARM_IGN n).key] s t := by
    have hexec := hc.trans (onEng_up s (seqCommand n q) hup)
    rw [seqCommand_notEvaluating q hevals, armIgn] at hexec
    exact ⟨_, hexec, rfl, raise_reads_one s.eng rfl (armIgn_still n) hign,
      kept_withEng fun g hg hs => raise_rd s.eng _ _ (key_ne_of_mem hg (List.mem_singleton_self _)) hs⟩
  intro c hc
  obtain rfl | rfl : c = .arm n ∨ c = .disarm n := by simpa using hc
  · exact hcommand _ .arm rfl
  · exact hcommand _ .disarm rfl

/-- Context 1 exists and does not evaluate, and its TRIG_SEQ_EVT.ARM_IGN, a field of one bit, holds 3. -/
def armIgnWide : State := { eng := { regs := [((TRIG_CTX_INFO_EXISTS 1).key, 1), ((TRIG_SEQ_EVT_ARM_IGN 1).key, 3)] } }

end Machine
end Sys2Proof
end

section
/-!
SUPPORT. The obligation O34.
-/
open Sys2Proof Sys2Proof.Machine

/-- Refutes O34: nothing bounds the value that a one-bit event field holds. Where TRIG_SEQ_EVT.ARM_IGN of a context that does not evaluate
holds 3, a value that `Eng.wr` never stores, its bit counts as set, so an ARM leaves the field at 3 and not at 1. `armCommand_ignored` proves
the clause with the bound that it lacks; the clauses on ARM_IGN of an arm at its instant and on CMT_REJ lack the same bound. -/
theorem not_sequencerCommandsApply : ¬ Obligations.SequencerCommandsApply := by
  unfold Obligations.SequencerCommandsApply
  intro h
  obtain ⟨-, hignored, -⟩ := h armIgnWide 1 rfl (by decide)
  obtain ⟨t, hexec, -, hone, -⟩ := hignored (by decide) (.arm 1) (List.mem_cons_self ..)
  have hthree : outcomeHas (.arm 1) armIgnWide (fun t => t.rd (TRIG_SEQ_EVT_ARM_IGN 1) == 3) = true := by decide +kernel
  rw [outcomeHas_next _ hexec, hone] at hthree
  exact absurd hthree (by decide)

end

section
/-!
SUPPORT. What a read of capture memory through a port changes besides what the reader receives (R255, R261, R268 to R273): no field of the
compressor's block, and of the memories the Vault only.
-/
namespace Sys2Proof
namespace Machine

/-- A field outside the registers of the compressor (R479). -/
def OutsideCmp (f : Fld) : Prop := f.key < 8 * 0x800000 ∨ 8 * 0x900000 ≤ f.key

/-- A field of the registers of the compressor. -/
def CmpField (g : Fld) : Prop := 8 * 0x800000 ≤ g.key ∧ g.key < 8 * 0x900000

theorem outsideCmp_fld {off lsb width reset : Nat} (h : off < 0x7FFFF0 ∧ lsb < 32 ∨ 0x900000 ≤ off) :
    OutsideCmp (fld off lsb width reset) := by
  simp only [OutsideCmp, fld]
  omega

theorem cmpField_fld {off lsb width reset : Nat} (h : 0x800000 ≤ off ∧ off < 0x8FFFF0 ∧ lsb < 32) : CmpField (fld off lsb width reset) := by
  simp only [CmpField, fld]
  omega

theorem OutsideCmp.ne {f g : Fld} (hf : OutsideCmp f) (hg : CmpField g) : f.key ≠ g.key := by
  simp only [OutsideCmp, CmpField] at hf hg
  omega

theorem CmpField.still {g : Fld} (hg : CmpField g) : Still g := by
  have hout : ∀ k ∈ reportKeys, k < 8 * 0x800000 ∨ 8 * 0x900000 ≤ k := by decide
  intro hk
  have hrange := hout _ hk
  simp only [CmpField] at hg
  omega

/-- A memory write that only the Vault sees. -/
def MemOp.InVault : MemOp → Prop
  | .vlt _ _ | .vltBad _ _ | .vltClear _ _ => True
  | _ => False

/-- Between two states of the engine no field of the compressor changes, and the memory writes issued go to the Vault. -/
structure ReadNoted (e e' : Eng) : Prop where
  rd : ∀ g : Fld, CmpField g → e'.rd g = e.rd g
  wq : ∃ ops, e'.wq = e.wq ++ ops ∧ ∀ o ∈ ops, o.InVault

namespace ReadNoted

variable {e e' e'' : Eng}

theorem of_wq (hrd : ∀ g : Fld, CmpField g → e'.rd g = e.rd g) (hwq : e'.wq = e.wq) : ReadNoted e e' :=
  ⟨hrd, [], by rw [hwq, List.append_nil], by simp⟩

theorem refl (e : Eng) : ReadNoted e e := of_wq (fun _ _ => rfl) rfl

theorem trans (h : ReadNoted e e') (h' : ReadNoted e' e'') : ReadNoted e e'' := by
  obtain ⟨ops, hwq, hops⟩ := h.wq
  obtain ⟨ops', hwq', hops'⟩ := h'.wq
  refine ⟨fun g hg => (h'.rd g hg).trans (h.rd g hg), ops ++ ops', by rw [hwq', hwq, List.append_assoc], fun o ho => ?_⟩
  exact (List.mem_append.1 ho).elim (hops o) (hops' o)

theorem of_regs (hregs : e'.regs = e.regs) (hwq : e'.wq = e.wq) : ReadNoted e e' :=
  of_wq (fun g _ => by rw [Eng.rd, hregs, ← Eng.rd]) hwq

theorem with_mc (h : ReadNoted e e') (x : MemSt) : ReadNoted e { e' with mc := x } := h.trans (of_regs rfl rfl)

theorem with_cu (h : ReadNoted e e') (x : CurSt) : ReadNoted e { e' with cu := x } := h.trans (of_regs rfl rfl)

theorem modStk (h : ReadNoted e e') (s : Nat) (f : StackSt → StackSt) : ReadNoted e (e'.modStk s f) := h.with_mc _

theorem wr (h : ReadNoted e e') {f : Fld} (v : Nat) (hf : OutsideCmp f := by exact outsideCmp_fld (by omega)) : ReadNoted e (e'.wr f v) :=
  h.trans <| of_wq (fun _ hg => Eng.rd_wr_other e' v (hf.ne hg)) rfl

/-- A report issues no memory write. -/
theorem of_hush (hh : e'.hush = e.hush) (hrd : ∀ g : Fld, CmpField g → e'.rd g = e.rd g) : ReadNoted e e' := by
  have hwq := congrArg Eng.wq hh
  exact of_wq hrd hwq

theorem raise (h : ReadNoted e e') {f : Fld} (i : Nat) (hf : OutsideCmp f := by exact outsideCmp_fld (by omega)) :
    ReadNoted e (e'.raise f i) :=
  h.trans <| of_hush (raise_hush e' f i) fun _ hg => raise_rd e' f i (hf.ne hg) hg.still

theorem raisePost (h : ReadNoted e e') {f : Fld} (i : Nat) (d : List Byte) (hf : OutsideCmp f := by exact outsideCmp_fld (by omega)) :
    ReadNoted e (e'.raisePost f i d) :=
  h.trans <| of_hush (raisePost_hush e' f i d) fun _ hg => raisePost_rd e' f i d (hf.ne hg) hg.still

theorem postCur (h : ReadNoted e e') (c v : Nat) (d : List Byte) : ReadNoted e (e'.postCur c v d) :=
  h.trans <| of_hush (postCur_hush e' c v d) fun _ hg => postCur_rd e' c v d hg.still

theorem irqMessage (h : ReadNoted e e') (v : Nat) : ReadNoted e (Machine.irqMessage v e') :=
  h.trans <| of_hush (irqMessage_hush v e') fun _ hg => irqMessage_rd v e' hg.still

theorem foldl {α : Type} (f : Eng → α → Eng) (l : List α) (h : ∀ e a, ReadNoted e (f e a)) (e : Eng) : ReadNoted e (l.foldl f e) :=
  List.foldlRecOn l f (motive := ReadNoted e) (refl e) fun b hb a _ => hb.trans (h b a)

theorem ite {c : Prop} [Decidable c] (h : ReadNoted e e') (h' : ReadNoted e e'') : ReadNoted e (if c then e' else e'') := by
  split
  · exact h
  · exact h'

theorem rdq (h : ReadNoted e e') {p : Fld2} (hlo : CmpField p.lo) (hhi : CmpField p.hi) : e'.rdq p = e.rdq p := by
  rw [Eng.rdq, h.rd _ hlo, h.rd _ hhi, ← Eng.rdq]

end ReadNoted

/-! ### Retirement (R255, R273, R276) -/

theorem mapSave_noted (e : Eng) : ReadNoted e (mapSave e) :=
  .ite ⟨fun _ _ => rfl, [_], rfl, by simp [MemOp.InVault]⟩ (.of_regs rfl rfl)

theorem guarCheck_noted (e : Eng) : ReadNoted e (guarCheck e) := by
  have hlost (a : Eng) : ReadNoted a (guarLost a) := .raise (.wr (.refl a) _) _
  have hshow : ReadNoted e (guarShow e) := .wr (.wr (.wr (.wr (.wr (.wr (.refl e) _) _) _) _) _) _
  unfold guarCheck
  extract_lets e1 c e2 was is lost e3
  have h2 : ReadNoted e e2 := hshow.with_cu _
  have h3 : ReadNoted e e3 := .ite (h2.trans (hlost e2)) h2
  exact .ite (h3.raise _) h3

theorem marginCheck_noted (e : Eng) : ReadNoted e (marginCheck e) := by
  unfold marginCheck
  extract_lets n c e1
  have h1 : ReadNoted e e1 := .with_mc (.refl e) _
  exact .trans (.ite (.ite (h1.irqMessage 3) (h1.raise 0)) h1) (guarCheck_noted _)

theorem migrate_noted (s p : Nat) (e : Eng) : ReadNoted e (migrate s p e) := by
  have hset (st : Nat) : ReadNoted e (setPos s p st e) := .wr (.refl e) _
  unfold migrate
  split
  · exact .modStk (.wr (.wr (.wr (hset 3) _) _) _) _ _
  · exact .trans (.raise (.modStk (.wr (hset 4) _) _ _) 0) (mapSave_noted _)

theorem showInv_noted {e e' : Eng} (h : ReadNoted e e') : ReadNoted e (showInv e') := .wr (.wr h _) _

theorem dropInv_noted (f : InvEntry → Bool) (e : Eng) : ReadNoted e (dropInv f e) :=
  showInv_noted (.with_mc (.refl e) _)

theorem retire_noted (s p : Nat) (e : Eng) : ReadNoted e (retire s p e) := by
  unfold retire
  extract_lets st k ownSweep e1 e2 e3 e4
  split
  · exact .refl e
  · have h1 : ReadNoted e e1 := .ite (.wr (.refl e) _) (.refl e)
    have h2 : ReadNoted e e2 := h1.modStk _ _
    have h3 : ReadNoted e e3 := h2.trans (dropInv_noted _ e2)
    have hwait : ReadNoted e3 ((setPos s p 3 e3).modStk s fun q => { q with waiting := q.waiting ++ [p] }) :=
      .modStk (.wr (.refl e3) _) _ _
    have h4 : ReadNoted e e4 := h3.trans (.ite (.ite hwait (migrate_noted s p e3)) (migrate_noted s p e3))
    exact (h4.raisePost 0 _).trans (marginCheck_noted _)

theorem autoRetire_noted (s : Nat) (also : List Nat) (e : Eng) : ReadNoted e (autoRetire s also e) :=
  .ite (.refl e) (.foldl _ _ (fun a p => retire_noted s p a) e)

/-! ### What a read counts (R261, R268, R270, R272) -/

theorem charge_noted (s : Nat) {cnt : Nat → Nat → Fld} (hcnt : ∀ s r, OutsideCmp (cnt s r)) (e : Eng) (p : Nat) :
    ReadNoted e (charge s cnt e p) := .wr (.wr (.refl e) _ (hcnt _ _)) _

theorem invNote_noted (line : Nat) (e : Eng) (p : Nat) : ReadNoted e (invNote line e p) := by
  unfold invNote
  extract_lets same new
  refine .ite (.with_mc (.refl e) _) (.ite (showInv_noted (.with_mc (.refl e) _)) ?_)
  split
  · exact showInv_noted (.with_mc (.refl e) _)
  · exact .raise (.wr (.refl e) _) 0

theorem ceLog_noted (line port pos kind : Nat) (e : Eng) : ReadNoted e (ceLog line port pos kind e) := by
  unfold ceLog
  extract_lets w x e1 sec used
  have h1 : ReadNoted e e1 := .wr (.wr (.wr (.wr (.wr (.wr (.refl e) _) _) _) _) _) _
  exact .ite (.postCur (h1.with_mc _) _ _ _) (h1.wr _)

theorem ceNote_noted (line port : Nat) (lr : LineRead) (e : Eng) : ReadNoted e (ceNote line port lr e) := by
  unfold ceNote
  extract_lets d e1 c e2
  have h1 : ReadNoted e e1 := .wr (.refl e) _
  have h2 : ReadNoted e e2 := .ite (.raise (h1.with_mc _) 0) (h1.with_mc _)
  split
  · exact h2.trans (ceLog_noted _ _ _ _ _)
  · exact .ite (h2.trans (ceLog_noted _ _ _ _ _)) h2

theorem readNote_noted (line port src : Nat) (queue : Bool) (lr : LineRead) (e : Eng) : ReadNoted e (readNote line port src queue lr e) := by
  have hcharge (s : Nat) (cnt : Nat → Nat → Fld) (hcnt : ∀ s r, OutsideCmp (cnt s r)) (l : List Nat) (a : Eng) :
      ReadNoted a (l.foldl (charge s cnt) a) := .foldl _ _ (charge_noted s hcnt) a
  unfold readNote
  extract_lets s e1 e2 e3 e4 e5 e6 c e7
  have h1 : ReadNoted e e1 := .foldl _ _ (fun a p => .wr (.refl a) _) e
  have h2 : ReadNoted e e2 := h1.trans (hcharge _ _ (fun _ _ => outsideCmp_fld (by omega)) _ e1)
  have h3 : ReadNoted e e3 := h2.trans (hcharge _ _ (fun _ _ => outsideCmp_fld (by omega)) _ e2)
  have h4 : ReadNoted e e4 := .ite (h3.trans (hcharge _ _ (fun _ _ => outsideCmp_fld (by omega)) _ e3)) h3
  have h5 : ReadNoted e e5 := .ite (h4.trans (ceNote_noted line port lr e4)) h4
  have h6 : ReadNoted e e6 := h5.trans (.foldl _ _ (invNote_noted line) e5)
  have h7 : ReadNoted e e7 := .ite (h6.with_mc _) h6
  exact h7.trans (autoRetire_noted _ _ e7)

theorem poisonTold_noted (port want pois : Nat) (e : Eng) : ReadNoted e (poisonTold port want pois e) := by
  have hcount : ReadNoted e (e.addSat MEM_ERR_PRD_CNT_CNT 1) := .wr (.refl e) _
  exact .ite (hcount.raisePost 0 []) (.ite (.refl e) (hcount.raise 0))

theorem linesNoted_noted (port : Nat) (m : Mems) (lines : List Nat) (e : Eng) : ReadNoted e (linesNoted port m lines e) :=
  .foldl _ _ (fun a _ => .ite (.refl a) ((readNote_noted _ _ _ _ _ a).trans (poisonTold_noted _ _ _ _))) e

end Machine
end Sys2Proof
end

section
/-!
SUPPORT. Where a container of a job writes (R249, R251, R252): in capture memory within DST .. DST + DSTLEN only, and besides that at most
the Vault, where the read of its source retires a rank (R255, R273).
-/
namespace Sys2Proof
namespace Machine

/-- A memory write within the `l` bytes of capture memory from `a` on, or one that only the Vault sees. -/
def MemOp.Within (a l : Nat) : MemOp → Prop
  | .cap x bs => a ≤ x ∧ x + bs.length ≤ a + l
  | o => o.InVault

theorem MemOp.InVault.within {o : MemOp} (h : o.InVault) (a l : Nat) : o.Within a l := by
  cases o with
  | cap x bs => exact absurd h id
  | _ => exact h

theorem apply_within {m : Mems} {a l : Nat} {o : MemOp} (h : o.Within a l) :
    (∀ x, ¬(a ≤ x ∧ x < a + l) → memGet (m.apply o).cap x = memGet m.cap x) ∧ (m.apply o).scr = m.scr ∧ (m.apply o).ram = m.ram := by
  cases o with
  | cap y bs =>
    obtain ⟨hlo, hhi⟩ := h
    exact ⟨fun x hx => memGet_write_outside m.cap bs (by omega), rfl, rfl⟩
  | vlt | vltBad | vltClear => exact ⟨fun _ _ => rfl, rfl, rfl⟩
  | _ => exact absurd h id

theorem applyAll_within {a l : Nat} {ops : List MemOp} (h : ∀ o ∈ ops, o.Within a l) (m : Mems) :
    (∀ x, ¬(a ≤ x ∧ x < a + l) → memGet (m.applyAll ops).cap x = memGet m.cap x) ∧ (m.applyAll ops).scr = m.scr ∧
      (m.applyAll ops).ram = m.ram := by
  induction ops generalizing m with
  | nil => exact ⟨fun _ _ => rfl, rfl, rfl⟩
  | cons o ops ih =>
    obtain ⟨hcap, hscr, hram⟩ := apply_within (m := m) (h o (List.mem_cons_self ..))
    obtain ⟨hcap', hscr', hram'⟩ := ih (fun p hp => h p (List.mem_cons_of_mem o hp)) (m.apply o)
    exact ⟨fun x hx => (hcap' x hx).trans (hcap x hx), hscr'.trans hscr, hram'.trans hram⟩

/-- Between two states of the engine the memory writes issued stay within the `l` bytes of capture memory from `a` on, or in the Vault. -/
def WritesWithin (a l : Nat) (e e' : Eng) : Prop := ∃ ops, e'.wq = e.wq ++ ops ∧ ∀ o ∈ ops, o.Within a l

namespace WritesWithin

variable {a l : Nat} {e e' e'' : Eng}

theorem refl (e : Eng) : WritesWithin a l e e := ⟨[], (List.append_nil _).symm, by simp⟩

theorem of_wq (h : WritesWithin a l e e') (hwq : e''.wq = e'.wq) : WritesWithin a l e e'' := by
  rwa [WritesWithin, hwq]

theorem of_wq_left (h : WritesWithin a l e' e'') (hwq : e'.wq = e.wq) : WritesWithin a l e e'' := by
  rwa [WritesWithin, ← hwq]

theorem append (h : WritesWithin a l e e') {ops : List MemOp} (hwq : e''.wq = e'.wq ++ ops) (hops : ∀ o ∈ ops, o.Within a l) :
    WritesWithin a l e e'' := by
  obtain ⟨ops', hwq', hops'⟩ := h
  exact ⟨ops' ++ ops, by rw [hwq, hwq', List.append_assoc], fun o ho => (List.mem_append.1 ho).elim (hops' o) (hops o)⟩

theorem read (h : WritesWithin a l e e') (hread : ReadNoted e' e'') : WritesWithin a l e e'' := by
  obtain ⟨ops, hwq, hops⟩ := hread.wq
  exact h.append hwq fun o ho => (hops o ho).within a l

/-- A write of bytes at the offset `out` of the range, where it has room for them. -/
theorem write (h : WritesWithin a l e e') {out : Nat} {bs : List Byte} (hwq : e''.wq = e'.wq ++ [.cap (a + out) bs])
    (hroom : out + bs.length ≤ l) : WritesWithin a l e e'' := by
  refine h.append hwq fun o ho => ?_
  obtain rfl := List.mem_singleton.1 ho
  exact ⟨by omega, by omega⟩

end WritesWithin

theorem jobEnd_wq (q st : Nat) (e : Eng) : (jobEnd q st e).wq = e.wq := raise_wq _ _ _
theorem jobError_wq (q err : Nat) (e : Eng) : (jobError q err e).wq = e.wq := jobEnd_wq _ _ _
theorem jobStop_wq (q why : Nat) (e : Eng) : (jobStop q why e).wq = e.wq := jobEnd_wq _ _ _
theorem decBad_wq (why user slot : Nat) (e : Eng) : (decBad why user slot e).wq = e.wq := raise_wq _ _ _

theorem takeLane_regs (q : Nat) (e : Eng) : (takeLane q e).regs = e.regs := by
  unfold takeLane
  split <;> rfl

theorem takeLane_wq (q : Nat) (e : Eng) : (takeLane q e).wq = e.wq := by
  unfold takeLane
  split <;> rfl

/-! ### One container (R249, R251, R252) -/

theorem compressStep_within (q : Nat) (mismatch : Bool) (e : Eng) (m : Mems) :
    WritesWithin (e.rdq (CMP_JOB_DST q)) (e.rd (CMP_JOB_DSTLEN_LEN q)) e (compressStep q mismatch e m) := by
  unfold compressStep
  extract_lets j src left take inp pitch fin pp got items used last endT sp edges lane looked a enc bytes0 bytes a1 a2 a3 a4
  have hnoted : ReadNoted e a := linesNoted_noted _ _ _ _
  have hread : WritesWithin (e.rdq (CMP_JOB_DST q)) (e.rd (CMP_JOB_DSTLEN_LEN q)) e a := .read (.refl e) hnoted
  have hdst : a.rdq (CMP_JOB_DST q) = e.rdq (CMP_JOB_DST q) := hnoted.rdq (cmpField_fld (by omega)) (cmpField_fld (by omega))
  have hlen : a.rd (CMP_JOB_DSTLEN_LEN q) = e.rd (CMP_JOB_DSTLEN_LEN q) := hnoted.rd _ (cmpField_fld (by omega))
  split
  · exact hread.of_wq (jobError_wq _ _ _)
  split
  · exact hread.of_wq (jobError_wq _ _ _)
  split
  · exact hread.of_wq (jobStop_wq _ _ _)
  next hroom =>
    have hwq4 : a4.wq = a.wq ++ [.cap (e.rdq (CMP_JOB_DST q) + a.rd (CMP_JOB_DONE_OUT_CNT q)) bytes] := by
      rw [← hdst]
      unfold a4
      split
      · exact raisePost_wq _ _ _ _
      · rfl
    have hwrite := hread.write hwq4 (by omega)
    split
    · exact hwrite.of_wq (jobEnd_wq _ _ _)
    · exact hwrite

theorem decompressOne_within (q : Nat) (r : LaneRead) (e : Eng) :
    WritesWithin (e.rdq (CMP_JOB_DST q)) (e.rd (CMP_JOB_DSTLEN_LEN q)) e (decompressOne q r e) := by
  unfold decompressOne
  extract_lets d used bytes fits bad e1 e2
  have hbad : (bad e).wq = e.wq := by
    unfold bad
    split
    · rfl
    · rw [raise_wq, decBad_wq]
      rfl
  split
  · exact .of_wq (.refl e) ((jobError_wq _ _ _).trans hbad)
  split
  · exact .of_wq (.refl e) (jobStop_wq _ _ _)
  next hroom =>
    have hwq2 : e2.wq = e.wq ++ [.cap (e.rdq (CMP_JOB_DST q) + e.rd (CMP_JOB_DONE_OUT_CNT q)) bytes] := by
      rw [← hbad]
      rfl
    have hwrite := (WritesWithin.refl e).write hwq2 (not_not.1 hroom)
    split
    · exact hwrite.of_wq (jobEnd_wq _ _ _)
    · exact hwrite

theorem decompressStep_within (q : Nat) (e : Eng) (m : Mems) :
    WritesWithin (e.rdq (CMP_JOB_DST q)) (e.rd (CMP_JOB_DSTLEN_LEN q)) e (decompressStep q e m) := by
  unfold decompressStep
  split
  · extract_lets left a
    have hend (v : Nat) : (jobEnd q 4 (e.wr (CMP_JOB_DONE_IN_CNT q) v)).wq = e.wq := jobEnd_wq _ _ _
    exact .read (.of_wq (.refl e) (hend _)) (linesNoted_noted _ _ _ _)
  · exact .read (decompressOne_within _ _ _) (linesNoted_noted _ _ _ _)

theorem jobContainer_within (q : Nat) (mismatch : Bool) (e : Eng) (m : Mems) :
    WritesWithin (e.rdq (CMP_JOB_DST q)) (e.rd (CMP_JOB_DSTLEN_LEN q)) e (jobContainer q mismatch e m) := by
  unfold jobContainer
  split
  · exact .refl e
  extract_lets e0 e1
  have hrd {g : Fld} (hg : (CMP_JOB_STAT_STATE q).key ≠ g.key) : e0.rd g = e.rd g := by
    rw [Eng.rd_wr_other _ _ hg, Eng.rd, takeLane_regs, ← Eng.rd]
  have hkeys : (CMP_JOB_STAT_STATE q).key ≠ (CMP_JOB_DSTLEN_LEN q).key ∧ (CMP_JOB_STAT_STATE q).key ≠ (CMP_JOB_DST q).lo.key ∧
      (CMP_JOB_STAT_STATE q).key ≠ (CMP_JOB_DST q).hi.key := by
    simp only [CMP_JOB_STAT_STATE, CMP_JOB_DSTLEN_LEN, CMP_JOB_DST, CMP_JOB_DST_LO_ADDR, CMP_JOB_DST_HI_ADDR, fld]
    omega
  obtain ⟨hlenKey, hloKey, hhiKey⟩ := hkeys
  have hlen := hrd hlenKey
  have hdst : e0.rdq (CMP_JOB_DST q) = e.rdq (CMP_JOB_DST q) := by rw [Eng.rdq, hrd hloKey, hrd hhiKey, ← Eng.rdq]
  have hstep : WritesWithin (e.rdq (CMP_JOB_DST q)) (e.rd (CMP_JOB_DSTLEN_LEN q)) e e1 := by
    rw [← hlen, ← hdst]
    refine .of_wq_left ?_ (takeLane_wq q e)
    unfold e1
    split
    · exact compressStep_within _ _ _ _
    · exact decompressStep_within _ _ _
  split
  · exact hstep
  split
  · exact hstep.of_wq (jobStop_wq _ _ _)
  split
  · exact hstep.of_wq (jobError_wq _ _ _)
  · exact hstep

/-- A container of a job leaves scratch and Curator RAM as they were, and capture memory outside DST .. DST + DSTLEN. -/
theorem jobContainer_writesDst (s : State) (q : Nat) (mismatch : Bool) (hup : s.up) (hinv : Inv s) :
    let a := s.eng.rdq (CMP_JOB_DST q)
    let l := s.rd (CMP_JOB_DSTLEN_LEN q)
    Completes (.jobContainer q mismatch) s fun t => (∀ x, ¬(a ≤ x ∧ x < a + l) → memGet t.mem.cap x = memGet s.mem.cap x) ∧
      t.mem.scr = s.mem.scr ∧ t.mem.ram = s.mem.ram := by
  intro a l
  obtain ⟨ops, hwq, hops⟩ := jobContainer_within q mismatch s.eng s.mem
  rw [hinv.2, List.nil_append] at hwq
  have hmem := applyAll_within hops s.mem
  rw [← hwq] at hmem
  exact ⟨_, onMem_up s (jobContainer q mismatch) hup, rfl, hmem⟩

/-- Job slot 0 is queued to decompress line 0, whose sector at position 0 returns FLAGGED. No spare is left in stack 0, whose position 0 is
one event short of RET_THR; Curator executes, and the older copy of the state record in the Vault holds a byte. -/
def jobBeforeRetirement : State :=
  { eng :=
      { regs := [((CLK_LOOP_STAT_STATE 5).key, 2), ((CMP_JOB_CTRL_OP 0).key, 2), ((CMP_JOB_SRCLEN_LEN 0).key, 4),
          ((CMP_JOB_STAT_STATE 0).key, 1), ((MEM_FAB_RSV_MAX_REQ 1).key, 1), ((MEM_STK_MAP_LO_RANK 0).key, 0x76543210),
          ((MEM_STK_MAP_HI_RANK 0).key, 0x98), ((MEM_RANK_STAT_SCORE 0 0).key, 255), (CUR_STAT_RUN.key, 1), (PWR_STRT_FILL_DONE.key, 1)]
        mc := { dmg := [⟨0, 0, 1⟩] } }
    mem := { vlt := [(0x3D00000, 1)] } }

end Machine
end Sys2Proof
end

section
/-!
SUPPORT. The obligation O43.
-/
open Sys2Proof Sys2Proof.Machine

/-- Refutes O43: JOB_CONTAINER may write the Vault. The line that the job decompresses returns FLAGGED, which takes its rank's score to
RET_THR (R270, R271); the rank is retired with no spare left (R273), and Curator writes the rank map into the older copy of the state record
in the Vault (R255, R402), where the statement has the Vault unchanged. `jobContainer_writesDst` proves the clause without the Vault. The
clauses on a stop for SPACE, on a failing container and on a poisoned line have all memories unchanged, and lack the same exception. The
refused RESUME and the end of a refused GO, which the clauses also speak of, are log entries 126 and 45. -/
theorem not_containersAndJobsWork : ¬ Obligations.ContainersAndJobsWork := by
  unfold Obligations.ContainersAndJobsWork
  intro h
  have hinv : Inv jobBeforeRetirement := ⟨by decide, rfl⟩
  obtain ⟨-, -, -, hslots, -⟩ := h jobBeforeRetirement rfl
  obtain ⟨-, -, -, -, -, -, -, -, hcontainer⟩ := hslots 0 (by decide)
  obtain ⟨-, hframe, -⟩ := hcontainer false hinv
  obtain ⟨t, hexec, -, -, -, hvlt, -⟩ := hframe
  have hcleared : outcomeHas (.jobContainer 0 false) jobBeforeRetirement (fun t => t.mem.vlt.isEmpty) = true := by decide +kernel
  rw [outcomeHas_next _ hexec, hvlt] at hcleared
  exact absurd hcleared (by decide)

end

section
/-!
SUPPORT. INJECT_ARM (R279) and CE_DIV_WRITE (R272): the three outcomes, and the state that refutes O22.
-/
namespace Sys2Proof
namespace Machine

/-- What a write of MEM_INJ makes of the engine (R279). -/
def injWritten (line : Nat) (arm : Bool) (e : Eng) : Eng :=
  if arm ∧ !(e.mode = .service ∨ e.mode = .review) then e.raise MEM_INJ_REJ else (e.wr MEM_INJ_LINE line).wrb MEM_INJ_ARM arm

theorem exec_injectArm (s : State) (line : Nat) (arm : Bool) (hup : s.up) :
    exec (.injectArm line arm) s = .next { s with eng := { injWritten line arm s.eng with wq := [] } } :=
  onEng_up s (injWritten line arm) hup

theorem injWritten_refused {e : Eng} (line : Nat) (hmode : ¬(e.mode = .service ∨ e.mode = .review)) :
    injWritten line true e = e.raise MEM_INJ_REJ := by
  simp [injWritten, hmode]

theorem injWritten_stored {e : Eng} (line : Nat) {arm : Bool} (hallowed : arm = false ∨ e.mode = .service ∨ e.mode = .review) :
    injWritten line arm e = (e.wr MEM_INJ_LINE line).wrb MEM_INJ_ARM arm := by
  rcases hallowed with rfl | hmode
  · simp [injWritten]
  · simp [injWritten, hmode]

/-- Where the mode allows no injection, a write with ARM 1 sets REJ, where that field holds a value of its width, and changes no other field
but those of a report. -/
theorem injectArm_refused (s : State) (line : Nat) (hup : s.up) (hmode : ¬(s.eng.mode = .service ∨ s.eng.mode = .review))
    (hrej : s.rd MEM_INJ_REJ < 2) :
    Completes (.injectArm line true) s fun t => t.rd MEM_INJ_REJ = 1 ∧ Kept [MEM_INJ_REJ.key] s t := by
  have hstill : Still MEM_INJ_REJ := (by decide : MEM_INJ_REJ.key ∉ reportKeys)
  have hexec := exec_injectArm s line true hup
  rw [injWritten_refused line hmode] at hexec
  exact ⟨_, hexec, rfl, raise_reads_one s.eng rfl hstill hrej,
    kept_withEng fun g hg hs => raise_rd s.eng _ _ (key_ne_of_mem hg (List.mem_singleton_self _)) hs⟩

/-- A write that the mode allows, or with ARM 0, stores LINE and ARM and changes nothing else. -/
theorem injectArm_stored (s : State) (line : Nat) (arm : Bool) (hup : s.up)
    (hallowed : arm = false ∨ s.eng.mode = .service ∨ s.eng.mode = .review) :
    Completes (.injectArm line arm) s fun t =>
      t.rd MEM_INJ_LINE = line % 2 ^ 29 ∧ t.rd MEM_INJ_ARM = (if arm then 1 else 0) ∧ Only [MEM_INJ_LINE.key, MEM_INJ_ARM.key] s t := by
  have hexec := exec_injectArm s line arm hup
  rw [injWritten_stored line hallowed] at hexec
  have harm : ((s.eng.wr MEM_INJ_LINE line).wrb MEM_INJ_ARM arm).rd MEM_INJ_ARM = if arm then 1 else 0 := by
    rw [wrb_eq, Eng.rd_wr]
    cases arm <;> rfl
  refine ⟨_, hexec, rfl, ?_, harm, rfl, rfl, fun g hg => ?_⟩
  · exact (Eng.rd_wr_other _ _ (by decide)).trans (Eng.rd_wr s.eng MEM_INJ_LINE line)
  · have hline : MEM_INJ_LINE.key ≠ g.key := key_ne_of_mem hg (by simp)
    have harm : MEM_INJ_ARM.key ≠ g.key := key_ne_of_mem hg (by simp)
    exact (Eng.rd_wr_other _ _ harm).trans (Eng.rd_wr_other s.eng _ hline)

/-- What a write of MEM_ERR_CFG makes of the engine (R272). -/
def ceDivWritten (v : Nat) (e : Eng) : Eng := { e.wr MEM_ERR_CFG_CE_DIV (min (v % 32) 24) with mc := { e.mc with ceDiv := 0 } }

/-- The divider that is written is stored up to 24, and its count starts at 0. -/
theorem ceDivWrite_stored (s : State) (v : Nat) (hup : s.up) :
    Completes (.ceDivWrite v) s fun t =>
      t.rd MEM_ERR_CFG_CE_DIV = min (v % 32) 24 ∧ t.eng.mc = { s.eng.mc with ceDiv := 0 } ∧ Kept [MEM_ERR_CFG_CE_DIV.key] s t := by
  have hdiv : (ceDivWritten v s.eng).rd MEM_ERR_CFG_CE_DIV = min (v % 32) 24 :=
    (Eng.rd_wr s.eng MEM_ERR_CFG_CE_DIV _).trans (Nat.mod_eq_of_lt (lt_of_le_of_lt (min_le_right _ _) (by decide)))
  exact ⟨_, onEng_up s (ceDivWritten v) hup, rfl, hdiv, rfl,
    kept_withEng fun g hg _ => Eng.rd_wr_other s.eng _ (key_ne_of_mem hg (List.mem_singleton_self _))⟩

/-- The engine is in acquisition, and MEM_INJ.REJ, a field of one bit, holds 3. -/
def injRejWide : State := { eng := { regs := [(GLB_MODE_STAT_CUR.key, 1), (MEM_INJ_REJ.key, 3)] } }

end Machine
end Sys2Proof
end

section
/-!
SUPPORT. The obligation O22.
-/
open Sys2Proof Sys2Proof.Machine

/-- Refutes O22: nothing bounds the value that a one-bit field holds. Where MEM_INJ.REJ holds 3, a value that `Eng.wr` never stores, its bit
counts as set, so a refused INJECT_ARM leaves the field at 3 and not at 1. `injectArm_refused` proves the clause with the bound that it lacks;
the other two clauses hold as they stand (`injectArm_stored`, `ceDivWrite_stored`). -/
theorem not_injectionAndDividerWrites : ¬ Obligations.InjectionAndDividerWrites := by
  unfold Obligations.InjectionAndDividerWrites
  intro h
  obtain ⟨hrefused, -, -⟩ := h injRejWide rfl
  obtain ⟨t, hexec, -, hone, -⟩ := hrefused 0 (by decide)
  have hthree : outcomeHas (.injectArm 0 true) injRejWide (fun t => t.rd MEM_INJ_REJ == 3) = true := by decide +kernel
  rw [outcomeHas_next _ hexec, hone] at hthree
  exact absurd hthree (by decide)

end

section
/-!
SUPPORT. How far the clock goes while time passes (R128), and that the memory controller stays as it is meanwhile.
-/
namespace Sys2Proof
namespace Machine

/-- Between two states of the engine `k` ticks of `now` have passed, and the memory controller is as it was. -/
structure Elapsed (k : Nat) (e e' : Eng) : Prop where
  mc : e'.mc = e.mc
  now : e'.now = e.now + k

namespace Elapsed

variable {e e' e'' : Eng} {j k : Nat}

theorem refl (e : Eng) : Elapsed 0 e e := ⟨rfl, rfl⟩

theorem trans (h : Elapsed j e e') (h' : Elapsed k e' e'') : Elapsed (j + k) e e'' :=
  ⟨h'.mc.trans h.mc, by rw [h'.now, h.now, Nat.add_assoc]⟩

/-- What takes no time may follow. -/
theorem then_none (h : Elapsed k e e') (h' : Elapsed 0 e' e'') : Elapsed k e e'' := h.trans h'

theorem ite {c : Prop} [Decidable c] (h : Elapsed k e e') (h' : Elapsed k e e'') : Elapsed k e (if c then e' else e'') := by
  split
  · exact h
  · exact h'

theorem wr (e : Eng) (f : Fld) (v : Nat) : Elapsed 0 e (e.wr f v) := ⟨rfl, rfl⟩

theorem raise (e : Eng) (f : Fld) (i : Nat) : Elapsed 0 e (e.raise f i) := ⟨raise_mc e f i, raise_now e f i⟩

theorem raisePost (e : Eng) (f : Fld) (i : Nat) (d : List Byte) : Elapsed 0 e (e.raisePost f i d) :=
  ⟨raisePost_mc e f i d, raisePost_now e f i d⟩

theorem foldl {α : Type} (f : Eng → α → Eng) (l : List α) (h : ∀ e a, Elapsed 0 e (f e a)) (e : Eng) : Elapsed 0 e (l.foldl f e) :=
  List.foldlRecOn l f (motive := Elapsed 0 e) (refl e) fun b hb a _ => hb.then_none (h b a)

end Elapsed

/-! ### What takes no time -/

theorem tbSwitch_elapsed (e : Eng) : Elapsed 0 e (tbSwitch e) := .ite (.refl e) (.ite ⟨rfl, rfl⟩ ⟨rfl, rfl⟩)

theorem anchorFollow_elapsed (d : Nat) (e : Eng) : Elapsed 0 e (anchorFollow d e) := .ite (.refl e) ⟨rfl, rfl⟩

theorem clkOutShow_elapsed (e : Eng) (k : Nat) : Elapsed 0 e (clkOutShow e k) := by
  unfold clkOutShow
  dsimp only
  split <;> exact ⟨rfl, rfl⟩

theorem outsDue_elapsed (e : Eng) : Elapsed 0 e (outsDue e) := by
  unfold outsDue
  refine .foldl _ _ (fun a k => ?_) e
  split
  · exact .refl a
  · refine .then_none ?_ (clkOutShow_elapsed _ k)
    exact ⟨rfl, rfl⟩

theorem timeShow_elapsed (e : Eng) : Elapsed 0 e (timeShow e) := by
  unfold timeShow
  extract_lets n e1
  have h1 : Elapsed 0 e e1 := .ite ((Elapsed.wr e _ _).then_none (.wr _ _ _)) (.refl e)
  exact h1.then_none (.wr e1 _ _)

theorem timeCause_elapsed (cause ts : Nat) (e : Eng) : Elapsed 0 e (timeCause cause ts e) := by
  unfold timeCause
  refine .foldl _ _ (fun a n => ?_) e
  split
  · exact ⟨rfl, rfl⟩
  · exact .refl a

theorem pulseOver_elapsed (e : Eng) : Elapsed 0 e (pulseOver e) := .ite ⟨rfl, rfl⟩ (.refl e)

theorem leapApply_elapsed (tod : Nat) (e : Eng) : Elapsed 0 e (leapApply tod e) := by
  unfold leapApply
  split
  · exact ((Elapsed.wr e _ _).then_none (.wr _ _ _)).then_none (.raise _ _ _)
  · exact .refl e

/-- What drives the time outputs is neither the clock nor the memory controller. -/
theorem Elapsed.with_tout {k : Nat} {e e' : Eng} (h : Elapsed k e e') (x : TimeOut) : Elapsed k e { e' with tout := x } := ⟨h.mc, h.now⟩

theorem secondEffects_elapsed (e : Eng) : Elapsed 0 e (secondEffects e) := by
  unfold secondEffects
  extract_lets tod out e1
  have h1 : Elapsed 0 e e1 := ((Elapsed.refl e).with_tout _).then_none (leapApply_elapsed tod _)
  exact h1.with_tout _

theorem ppsBegin_elapsed (e : Eng) : Elapsed 0 e (ppsBegin e) := .ite (.refl e) (.ite (.raise e _ _) ⟨rfl, rfl⟩)

/-! ### What takes time -/

/-- The counts of the clock alone. -/
theorem counted_elapsed (k : Nat) (e : Eng) (ts : Nat) (clk : ClkSt) : Elapsed k e { e with now := e.now + k, ts := ts, clk := clk } :=
  ⟨rfl, rfl⟩

/-- What a wrap of TS64 does takes no time (R128). -/
theorem wrap_elapsed (d : List Byte) (e : Eng) :
    Elapsed 0 e (timeCause 3 0 ((e.addWrap TIME_EPOCH_GEN 1).raisePost TIME_EVT_TS_WRAP 0 d)) :=
  ((Elapsed.wr e _ _).then_none (.raisePost _ _ _ _)).then_none (timeCause_elapsed 3 0 _)

theorem shown_elapsed {k : Nat} {e e' : Eng} (h : Elapsed k e e') (c : Prop) [Decidable c] (d : List Byte) :
    Elapsed k e (timeShow (if c then e' else timeCause 3 0 ((e'.addWrap TIME_EPOCH_GEN 1).raisePost TIME_EVT_TS_WRAP 0 d))) :=
  (Elapsed.ite h (h.then_none (wrap_elapsed d e'))).then_none (timeShow_elapsed _)

theorem advance_elapsed (k : Nat) (e : Eng) : Elapsed k e (advance k e) := by
  have hready : Elapsed 0 e (anchorFollow (tbStep k (tbSwitch e)).2 (tbSwitch e)) := (tbSwitch_elapsed e).then_none (anchorFollow_elapsed _ _)
  unfold advance
  extract_lets e0 r t e1 clk e2
  have hcounted := hready.trans (counted_elapsed k e1 (t % 2 ^ 64) { clk with tb := r.1 })
  rw [Nat.zero_add] at hcounted
  exact shown_elapsed (hcounted.then_none (outsDue_elapsed _)) _ _

theorem pulsed_elapsed (k : Nat) (e : Eng) : Elapsed k e (pulseOver (advance k e)) := (advance_elapsed k e).then_none (pulseOver_elapsed _)

theorem passTicks_elapsed (fuel k : Nat) (e : Eng) : Elapsed k e (passTicks fuel k e) := by
  induction fuel generalizing k e with
  | zero => exact pulsed_elapsed k e
  | succ fuel ih =>
    unfold passTicks
    extract_lets a b n e1 e2
    split
    · exact pulsed_elapsed k e
    case isFalse hn =>
      have h2 : Elapsed n e e2 := .ite ((pulsed_elapsed n e).then_none (secondEffects_elapsed _)) (pulsed_elapsed n e)
      have h3 : Elapsed n e (if b = n then ppsBegin e2 else e2) := .ite (h2.then_none (ppsBegin_elapsed e2)) h2
      have hall := h3.trans (ih (k - n) _)
      rwa [Nat.add_sub_cancel' (by omega)] at hall

theorem passLong_elapsed (k : Nat) (e : Eng) : Elapsed k e (passLong k e) := by
  unfold passLong
  split
  · exact passTicks_elapsed 8 k e
  case isFalse hk =>
    have hall := (pulsed_elapsed (k - 3 * tps) e).trans (passTicks_elapsed 8 (3 * tps) _)
    rwa [Nat.sub_add_cancel (by omega)] at hall

theorem passTime_elapsed (k : Nat) (e : Eng) : Elapsed k e (passTime k e) := by
  unfold passTime
  extract_lets n
  split
  case isTrue hleap =>
    have hall := ((pulsed_elapsed n e).then_none (secondEffects_elapsed _)).trans (passLong_elapsed (k - n) _)
    rwa [Nat.add_sub_cancel' hleap.2.2] at hall
  · exact passLong_elapsed k e

/-- Time passes up to the tick that is asked for, and not at all where that has gone by. -/
theorem advanceTo_elapsed (t : Nat) (e : Eng) : Elapsed (t - e.now) e (advanceTo t e) := by
  unfold advanceTo
  split
  · exact passTime_elapsed _ e
  case isFalse hpast =>
    rw [Nat.sub_eq_zero_of_le (by omega)]
    exact .refl e

theorem advanceTo_clockOnly (t : Nat) (e : Eng) : ClockOnly e (advanceTo t e) := .ite (passTime_clockOnly _ e) (.refl e)

end Machine
end Sys2Proof
end

section
/-!
SUPPORT. The inventory of corrected errors (R268) and the scores of the ranks (R270): what the entry that is tested, the ageing and the
halving leave.
-/
namespace Sys2Proof
namespace Machine

/-! ### The entry that is tested (R268 steps 1 to 3) -/

@[simp] theorem dropInv_inv (f : InvEntry → Bool) (e : Eng) : (dropInv f e).mc.inv = e.mc.inv.filter fun x => !f x := by
  simp only [dropInv, showInv, Eng.wr_mc]

@[simp] theorem dropInv_now (f : InvEntry → Bool) (e : Eng) : (dropInv f e).now = e.now := by
  simp only [dropInv, showInv, Eng.wr_now]

/-- Whether a hard fault is declared or not, an entry of the inventory is one of before with the count it had. -/
theorem mem_inv_hardCheck {e : Eng} {x z : InvEntry} (h : z ∈ (hardCheck e x).mc.inv) :
    ∃ w ∈ e.mc.inv, z.line = w.line ∧ z.pos = w.pos ∧ z.due = w.due ∧ z.count = w.count := by
  unfold hardCheck at h
  split at h
  · extract_lets mc e1 at h
    have hmem : z ∈ e1.mc.inv := by
      split at h
      · rw [dropInv_inv] at h
        exact List.mem_of_mem_filter h
      · exact h
    simp only [e1, raisePost_mc] at hmem
    obtain ⟨w, hw, rfl⟩ := List.mem_map.1 hmem
    refine ⟨w, hw, ?_⟩
    split <;> exact ⟨rfl, rfl, rfl, rfl⟩
  · exact ⟨z, h, rfl, rfl, rfl, rfl⟩

/-- The entries of a line and position are no longer due, and their count is that of `x` or one more. -/
def Tested (x : InvEntry) (e : Eng) : Prop :=
  ∀ z ∈ e.mc.inv, z.line = x.line → z.pos = x.pos → z.due = false ∧ (z.count = x.count ∨ z.count = x.count + 1)

/-- The line of an entry is written back and read again: whatever the reads note, the entry is put back last, tested. -/
theorem retestEntry_tested {x : InvEntry} (resp : List SecResp) {e : Eng} (m : Mems) (hx : x ∈ e.mc.inv) :
    Tested x (retestEntry x resp e m) := by
  unfold retestEntry
  rw [if_neg (by simpa using hx)]
  extract_lets lr0 e0 lr again y put
  intro z hz hline hpos
  obtain ⟨w, hw, hwline, hwpos, hwdue, hwcount⟩ := mem_inv_hardCheck hz
  obtain ⟨v, -, hv⟩ := List.mem_map.1 hw
  have hwy : w = y := by
    split at hv
    · exact hv.symm
    case isFalse hother => exact absurd ⟨by rw [hv, ← hwline, hline], by rw [hv, ← hwpos, hpos]⟩ hother
  rw [hwdue, hwcount, hwy]
  refine ⟨rfl, ?_⟩
  show x.count + (if again then 1 else 0) = x.count ∨ x.count + (if again then 1 else 0) = x.count + 1
  split
  · exact .inr rfl
  · exact .inl rfl

theorem inventoryWriteback_due {resp : List SecResp} {e : Eng} {m : Mems} {x : InvEntry} (hruns : memRuns e = true)
    (hdue : e.mc.inv.find? (fun y => y.due) = some x) : inventoryWriteback resp e m = retestEntry x resp e m := by
  simp [inventoryWriteback, hruns, hdue]

theorem inventoryRetest_one {resps : List (List SecResp)} {e : Eng} {m : Mems} {x : InvEntry} (hruns : memRuns e = true)
    (hone : (e.mc.inv.filter fun y => y.count != 0) = [x]) :
    inventoryRetest resps e m = retestEntry x (resps.getD 0 []) e (m.applyAll e.wq) := by
  simp [inventoryRetest, hruns, hone]

theorem inventoryRetest_none {e : Eng} (resps : List (List SecResp)) (m : Mems) (hnone : (e.mc.inv.filter fun y => y.count != 0) = []) :
    inventoryRetest resps e m = e := by
  simp [inventoryRetest, hnone]

/-! ### Ageing (R268 step 5) -/

/-- The least of some numbers and a first one is one of them. -/
theorem foldl_min_mem {α : Type} (f : α → Nat) (l : List α) (x : α) : ∃ y ∈ x :: l, f y = l.foldl (fun a y => min a (f y)) (f x) := by
  induction l using List.reverseRecOn with
  | nil => exact ⟨x, List.mem_singleton_self x, rfl⟩
  | append_singleton l a ih =>
    obtain ⟨y, hy, hmin⟩ := ih
    rw [List.foldl_append, List.foldl_cons, List.foldl_nil, ← hmin]
    rcases min_cases (f y) (f a) with ⟨h, -⟩ | ⟨h, -⟩
    · exact ⟨y, by rw [← List.cons_append]; exact List.mem_append_left _ hy, h.symm⟩
    · exact ⟨a, by simp, h.symm⟩

/-- The clock goes on until the entry longest without a correction has reached its age, and no entry that has stays. -/
theorem inventoryAge_aged {e : Eng} (hinv : e.mc.inv ≠ []) :
    (∀ z ∈ (inventoryAge e).mc.inv, (inventoryAge e).now < z.seen + e.rd MEM_INV_CFG_AGE_H * hourTicks) ∧
    ∃ x ∈ e.mc.inv, x.seen + e.rd MEM_INV_CFG_AGE_H * hourTicks ≤ (inventoryAge e).now := by
  unfold inventoryAge
  cases hlist : e.mc.inv with
  | nil => exact absurd hlist hinv
  | cons x xs =>
    dsimp only
    generalize hage : e.rd MEM_INV_CFG_AGE_H * hourTicks = age
    obtain ⟨y, hy, hmin⟩ := foldl_min_mem InvEntry.seen xs x
    rw [← hmin]
    have htime := advanceTo_elapsed (y.seen + age) e
    generalize advanceTo (y.seen + age) e = e1 at htime ⊢
    rw [dropInv_now, dropInv_inv]
    refine ⟨fun z hz => ?_, y, hy, ?_⟩
    · have hyoung := (List.mem_filter.1 hz).2
      simpa using hyoung
    · have hnow := htime.now
      omega

/-! ### The halving of scores (R270) -/

theorem score_key_ne {st r i : Nat} (hst : st < 4) (hr : r < 12) (hi : i < 48) (hne : i ≠ 12 * st + r) :
    (MEM_RANK_STAT_SCORE (i / 12) (i % 12)).key ≠ (MEM_RANK_STAT_SCORE st r).key := by
  simp only [MEM_RANK_STAT_SCORE, fld]
  omega

theorem score_notClock (st r : Nat) : (MEM_RANK_STAT_SCORE st r).key ∉ clockKeys ∧ Still (MEM_RANK_STAT_SCORE st r) := by
  refine ⟨fun hk => ?_, fun hk => ?_⟩
  · have hrange := (clockKeys_range _ hk).2
    simp only [MEM_RANK_STAT_SCORE, fld] at hrange
    omega
  · have hrange : ∀ k ∈ reportKeys, k < 8 * 0x903000 ∨ 8 * 0x904000 ≤ k := by decide
    have hout := hrange _ hk
    simp only [MEM_RANK_STAT_SCORE, fld] at hout
    omega

/-- SCORE of the rank `i % 12` of the stack `i / 12` is halved. -/
def halveScore (e : Eng) (i : Nat) : Eng :=
  e.wr (MEM_RANK_STAT_SCORE (i / 12) (i % 12)) (e.rd (MEM_RANK_STAT_SCORE (i / 12) (i % 12)) / 2)

theorem halveScore_at (e : Eng) {st r : Nat} (hr : r < 12) :
    (halveScore e (12 * st + r)).rd (MEM_RANK_STAT_SCORE st r) = e.rd (MEM_RANK_STAT_SCORE st r) / 2 % 2 ^ 16 := by
  have hdiv : (12 * st + r) / 12 = st := by omega
  have hmod : (12 * st + r) % 12 = r := by omega
  rw [halveScore, hdiv, hmod]
  exact Eng.rd_wr e (MEM_RANK_STAT_SCORE st r) _

theorem halveScores_score {st r : Nat} (hst : st < 4) (hr : r < 12) (e : Eng) :
    ((List.range 48).foldl halveScore e).rd (MEM_RANK_STAT_SCORE st r) = e.rd (MEM_RANK_STAT_SCORE st r) / 2 % 2 ^ 16 :=
  foldl_once (fun a : Eng => a.rd (MEM_RANK_STAT_SCORE st r)) (fun v => v / 2 % 2 ^ 16) halveScore List.nodup_range
    (List.mem_range.2 (by omega : 12 * st + r < 48)) (fun a => halveScore_at a hr)
    (fun a _ hi hne => Eng.rd_wr_other a _ (score_key_ne hst hr (List.mem_range.1 hi) hne)) e

/-- Each score is halved once, and the clock leaves it alone. -/
theorem scoreHalve_score {st r : Nat} (hst : st < 4) (hr : r < 12) (e : Eng) :
    (scoreHalve e).rd (MEM_RANK_STAT_SCORE st r) = e.rd (MEM_RANK_STAT_SCORE st r) / 2 % 2 ^ 16 := by
  obtain ⟨hclock, hstill⟩ := score_notClock st r
  have hkept := (advanceTo_clockOnly (e.mc.scoreAt + e.rd MEM_RET_CFG_HALF_H * hourTicks) e).rd _ hclock hstill
  unfold scoreHalve
  generalize advanceTo (e.mc.scoreAt + e.rd MEM_RET_CFG_HALF_H * hourTicks) e = e1 at hkept ⊢
  refine (halveScores_score hst hr _).trans ?_
  exact congrArg (fun v => v / 2 % 2 ^ 16) ((Eng.rd_with_mc e1 _ _).trans hkept)

/-! ### How the commands answer -/

theorem inventoryWriteback_completes (s : State) (resp : List SecResp) {x : InvEntry} (hup : s.up) (hruns : memRuns s.eng = true)
    (hdue : s.eng.mc.inv.find? (fun y => y.due) = some x) : Completes (.inventoryWriteback resp) s fun t => Tested x t.eng := by
  have hexec := onMem_up s (inventoryWriteback resp) hup
  have htested := retestEntry_tested resp s.mem (List.mem_of_find?_eq_some hdue)
  rw [← inventoryWriteback_due hruns hdue] at htested
  rw [applyMem] at hexec
  generalize inventoryWriteback resp s.eng s.mem = e at hexec htested
  exact ⟨_, hexec, rfl, htested⟩

theorem inventoryRetest_completes (s : State) (resps : List (List SecResp)) {x : InvEntry} (hup : s.up) (hruns : memRuns s.eng = true)
    (hone : (s.eng.mc.inv.filter fun y => y.count != 0) = [x]) : Completes (.inventoryRetest resps) s fun t => Tested x t.eng := by
  have hexec := onMem_up s (inventoryRetest resps) hup
  have hx : x ∈ s.eng.mc.inv := List.mem_of_mem_filter (by rw [hone]; exact List.mem_singleton_self x)
  have htested := retestEntry_tested (resps.getD 0 []) (s.mem.applyAll s.eng.wq) hx
  rw [← inventoryRetest_one hruns hone] at htested
  rw [applyMem] at hexec
  generalize inventoryRetest resps s.eng s.mem = e at hexec htested
  exact ⟨_, hexec, rfl, htested⟩

theorem inventoryAge_completes (s : State) (hup : s.up) (hinv : s.eng.mc.inv ≠ []) : Completes .inventoryAge s fun t =>
    (∀ z ∈ t.eng.mc.inv, t.eng.now < z.seen + s.rd MEM_INV_CFG_AGE_H * hourTicks) ∧
    (∃ x ∈ s.eng.mc.inv, x.seen + s.rd MEM_INV_CFG_AGE_H * hourTicks ≤ t.eng.now) ∧ t.mem = s.mem := by
  have hexec := onEng_up s inventoryAge hup
  obtain ⟨hyoung, hold⟩ := inventoryAge_aged hinv
  generalize inventoryAge s.eng = e at hexec hyoung hold
  exact ⟨_, hexec, rfl, hyoung, hold, rfl⟩

theorem scoreHalve_completes (s : State) (hup : s.up) : Completes .scoreHalve s fun t =>
    (∀ st < 4, ∀ r < 12, t.rd (MEM_RANK_STAT_SCORE st r) = s.rd (MEM_RANK_STAT_SCORE st r) / 2 % 2 ^ 16) ∧ t.mem = s.mem := by
  refine ⟨_, onEng_up s scoreHalve hup, rfl, fun st hst r hr => ?_, rfl⟩
  exact (Eng.rd_with_wq (scoreHalve s.eng) [] _).trans (scoreHalve_score hst hr s.eng)

end Machine
end Sys2Proof
end

section
/-!
SUPPORT. The obligation O20.
-/
open Sys2Proof Sys2Proof.Machine

/-- Settles O20: the entry that is written back or retested is put into the inventory again after everything that its reads note
(`retestEntry_tested`), the ageing waits for the oldest entry (`inventoryAge_aged`), and each score is halved once (`scoreHalve_score`). -/
theorem inventoryIsTested : Obligations.InventoryIsTested := by
  unfold Obligations.InventoryIsTested
  intro s hup
  refine ⟨fun resp x hruns hdue => ?writeback, fun resps x hruns hone => ?retest, fun resps hnone hinv => ?none, fun hinv => ?age, ?halve⟩
  case writeback => exact inventoryWriteback_completes s resp hup hruns hdue
  case retest => exact inventoryRetest_completes s resps hup hruns hone
  case none => exact onMem_idle s (inventoryRetest resps) hup hinv (inventoryRetest_none resps s.mem hnone)
  case age => exact inventoryAge_completes s hup hinv
  case halve => exact scoreHalve_completes s hup

end

section
/-!
SUPPORT. What a read of Conservator leaves besides its counts (R262, R266), and where a line that the controller stores ends up (R263).
-/
namespace Sys2Proof
namespace Machine

/-! ### What a line read leaves alone -/

/-- The counts of Conservator that no line read changes of itself: passes of the patrol and lines stored poisoned. -/
def conservatorCounts : List Nat := [MEM_CONS_PASS_CNT.key, MEM_ERR_UE_CNT_CNT.key]

/-- A field that is neither of the two counts. -/
def NoCount (f : Fld) : Prop := f.key ∉ conservatorCounts

theorem noCount_fld {off lsb width reset : Nat} (h : lsb < 32 ∧ off ≠ 0x901008 ∧ off ≠ 0x90102C ∧ off % 4 = 0) :
    NoCount (fld off lsb width reset) := by
  simp only [NoCount, conservatorCounts, MEM_CONS_PASS_CNT, MEM_ERR_UE_CNT_CNT, fld, List.mem_cons, List.not_mem_nil, or_false]
  omega

/-- Between two states of the engine the counts of Conservator stay, and so does its queue, unless lines may be queued. -/
structure CountsKept (queue : Bool) (e e' : Eng) : Prop where
  rd : ∀ g : Fld, g.key ∈ conservatorCounts → e'.rd g = e.rd g
  cons : queue = false → e'.mc.cons = e.mc.cons

theorem still_of_count {g : Fld} (h : g.key ∈ conservatorCounts) : Still g :=
  (by decide : ∀ k ∈ conservatorCounts, k ∉ reportKeys) _ h

theorem NoCount.ne {f g : Fld} (hf : NoCount f) (hg : g.key ∈ conservatorCounts) : f.key ≠ g.key := fun h => hf (h ▸ hg)

namespace CountsKept

variable {q : Bool} {e e' e'' : Eng}

theorem refl (e : Eng) : CountsKept q e e := ⟨fun _ _ => rfl, fun _ => rfl⟩

theorem trans (h : CountsKept q e e') (h' : CountsKept q e' e'') : CountsKept q e e'' :=
  ⟨fun g hg => (h'.rd g hg).trans (h.rd g hg), fun hq => (h'.cons hq).trans (h.cons hq)⟩

theorem with_mc (h : CountsKept q e e') {x : MemSt} (hx : q = false → x.cons = e'.mc.cons := by exact fun _ => rfl) :
    CountsKept q e { e' with mc := x } :=
  ⟨h.rd, fun hq => (hx hq).trans (h.cons hq)⟩

theorem with_cu (h : CountsKept q e e') (x : CurSt) : CountsKept q e { e' with cu := x } := ⟨h.rd, h.cons⟩

theorem modStk (h : CountsKept q e e') (s : Nat) (f : StackSt → StackSt) : CountsKept q e (e'.modStk s f) := h.with_mc

theorem emit (h : CountsKept q e e') (o : MemOp) : CountsKept q e (e'.emit o) := ⟨h.rd, h.cons⟩

theorem wr (h : CountsKept q e e') {f : Fld} (v : Nat) (hf : NoCount f := by exact noCount_fld (by omega)) : CountsKept q e (e'.wr f v) :=
  ⟨fun g hg => (Eng.rd_wr_other e' v (hf.ne hg)).trans (h.rd g hg), h.cons⟩

/-- A report leaves Conservator's queue alone. -/
theorem of_hush (hh : e'.hush = e.hush) (hrd : ∀ g : Fld, g.key ∈ conservatorCounts → e'.rd g = e.rd g) : CountsKept q e e' := by
  have hmc := congrArg (fun a => a.mc.cons) hh
  exact ⟨hrd, fun _ => hmc⟩

theorem raise (h : CountsKept q e e') {f : Fld} (i : Nat) (hf : NoCount f := by exact noCount_fld (by omega)) :
    CountsKept q e (e'.raise f i) :=
  h.trans <| of_hush (raise_hush e' f i) fun _ hg => raise_rd e' f i (hf.ne hg) (still_of_count hg)

theorem raisePost (h : CountsKept q e e') {f : Fld} (i : Nat) (d : List Byte) (hf : NoCount f := by exact noCount_fld (by omega)) :
    CountsKept q e (e'.raisePost f i d) :=
  h.trans <| of_hush (raisePost_hush e' f i d) fun _ hg => raisePost_rd e' f i d (hf.ne hg) (still_of_count hg)

theorem postCur (h : CountsKept q e e') (c v : Nat) (d : List Byte) : CountsKept q e (e'.postCur c v d) :=
  h.trans <| of_hush (postCur_hush e' c v d) fun _ hg => postCur_rd e' c v d (still_of_count hg)

theorem irqMessage (h : CountsKept q e e') (v : Nat) : CountsKept q e (Machine.irqMessage v e') :=
  h.trans <| of_hush (irqMessage_hush v e') fun _ hg => irqMessage_rd v e' (still_of_count hg)

theorem foldl {α : Type} (f : Eng → α → Eng) (l : List α) (h : ∀ e a, CountsKept q e (f e a)) (e : Eng) : CountsKept q e (l.foldl f e) :=
  List.foldlRecOn l f (motive := CountsKept q e) (refl e) fun b hb a _ => hb.trans (h b a)

theorem ite {c : Prop} [Decidable c] (h : CountsKept q e e') (h' : CountsKept q e e'') : CountsKept q e (if c then e' else e'') := by
  split
  · exact h
  · exact h'

end CountsKept

variable {q : Bool}

theorem mapSave_counts (e : Eng) : CountsKept q e (mapSave e) := by
  unfold mapSave
  split
  · exact ⟨fun _ _ => rfl, fun _ => rfl⟩
  · exact .with_cu (.refl e) _

theorem guarCheck_counts (e : Eng) : CountsKept q e (guarCheck e) := by
  have hlost (a : Eng) : CountsKept q a (guarLost a) := .raise (.wr (.refl a) _) _
  have hshow : CountsKept q e (guarShow e) := .wr (.wr (.wr (.wr (.wr (.wr (.refl e) _) _) _) _) _) _
  unfold guarCheck
  extract_lets e1 c e2 was is lost e3
  have h2 : CountsKept q e e2 := hshow.with_cu _
  have h3 : CountsKept q e e3 := .ite (h2.trans (hlost e2)) h2
  exact .ite (h3.raise _) h3

theorem marginCheck_counts (e : Eng) : CountsKept q e (marginCheck e) := by
  unfold marginCheck
  extract_lets n c e1
  have h1 : CountsKept q e e1 := .with_mc (.refl e)
  exact .trans (.ite (.ite (h1.irqMessage 3) (h1.raise 0)) h1) (guarCheck_counts _)

theorem migrate_counts (s p : Nat) (e : Eng) : CountsKept q e (migrate s p e) := by
  have hset (st : Nat) : CountsKept q e (setPos s p st e) := .wr (.refl e) _
  unfold migrate
  split
  · exact .modStk (.wr (.wr (.wr (hset 3) _) _) _) _ _
  · exact .trans (.raise (.modStk (.wr (hset 4) _) _ _) 0) (mapSave_counts _)

theorem showInv_counts {e e' : Eng} (h : CountsKept q e e') : CountsKept q e (showInv e') := .wr (.wr h _) _

theorem dropInv_counts (f : InvEntry → Bool) (e : Eng) : CountsKept q e (dropInv f e) := showInv_counts (.with_mc (.refl e))

theorem retire_counts (s p : Nat) (e : Eng) : CountsKept q e (retire s p e) := by
  unfold retire
  extract_lets st k ownSweep e1 e2 e3 e4
  split
  · exact .refl e
  · have h1 : CountsKept q e e1 := .ite (.wr (.refl e) _) (.refl e)
    have h2 : CountsKept q e e2 := h1.modStk _ _
    have h3 : CountsKept q e e3 := h2.trans (dropInv_counts _ e2)
    have hwait : CountsKept q e3 ((setPos s p 3 e3).modStk s fun k => { k with waiting := k.waiting ++ [p] }) :=
      .modStk (.wr (.refl e3) _) _ _
    have h4 : CountsKept q e e4 := h3.trans (.ite (.ite hwait (migrate_counts s p e3)) (migrate_counts s p e3))
    exact (h4.raisePost 0 _).trans (marginCheck_counts _)

theorem autoRetire_counts (s : Nat) (also : List Nat) (e : Eng) : CountsKept q e (autoRetire s also e) :=
  .ite (.refl e) (.foldl _ _ (fun a p => retire_counts s p a) e)

theorem charge_counts (s : Nat) {cnt : Nat → Nat → Fld} (hcnt : ∀ s r, NoCount (cnt s r)) (e : Eng) (p : Nat) :
    CountsKept q e (charge s cnt e p) := .wr (.wr (.refl e) _ (hcnt _ _)) _

theorem invNote_counts (line : Nat) (e : Eng) (p : Nat) : CountsKept q e (invNote line e p) := by
  unfold invNote
  extract_lets same new
  refine .ite (.with_mc (.refl e)) (.ite (showInv_counts (.with_mc (.refl e))) ?_)
  split
  · exact showInv_counts (.with_mc (.refl e))
  · exact .raise (.wr (.refl e) _) 0

theorem ceLog_counts (line port pos kind : Nat) (e : Eng) : CountsKept q e (ceLog line port pos kind e) := by
  unfold ceLog
  extract_lets w x e1 sec used
  have h1 : CountsKept q e e1 := .wr (.wr (.wr (.wr (.wr (.wr (.refl e) _) _) _) _) _) _
  exact .ite (.postCur h1.with_mc _ _ _) (h1.wr _)

theorem ceNote_counts (line port : Nat) (lr : LineRead) (e : Eng) : CountsKept q e (ceNote line port lr e) := by
  unfold ceNote
  extract_lets d e1 c e2
  have h1 : CountsKept q e e1 := .wr (.refl e) _
  have h2 : CountsKept q e e2 := .ite (.raise h1.with_mc 0) h1.with_mc
  split
  · exact h2.trans (ceLog_counts _ _ _ _ _)
  · exact .ite (h2.trans (ceLog_counts _ _ _ _ _)) h2

/-- A read queues its line at most where it is told to. -/
theorem readNote_counts (line port src : Nat) (lr : LineRead) (e : Eng) : CountsKept q e (readNote line port src q lr e) := by
  have hcharge (s : Nat) (cnt : Nat → Nat → Fld) (hcnt : ∀ s r, NoCount (cnt s r)) (l : List Nat) (a : Eng) :
      CountsKept q a (l.foldl (charge s cnt) a) := .foldl _ _ (charge_counts s hcnt) a
  unfold readNote
  extract_lets s e1 e2 e3 e4 e5 e6 c e7
  have h1 : CountsKept q e e1 := .foldl _ _ (fun a p => .wr (.refl a) _) e
  have h2 : CountsKept q e e2 := h1.trans (hcharge _ _ (fun _ _ => noCount_fld (by omega)) _ e1)
  have h3 : CountsKept q e e3 := h2.trans (hcharge _ _ (fun _ _ => noCount_fld (by omega)) _ e2)
  have h4 : CountsKept q e e4 := .ite (h3.trans (hcharge _ _ (fun _ _ => noCount_fld (by omega)) _ e3)) h3
  have h5 : CountsKept q e e5 := .ite (h4.trans (ceNote_counts line port lr e4)) h4
  have h6 : CountsKept q e e6 := h5.trans (.foldl _ _ (invNote_counts line) e5)
  have h7 : CountsKept q e e7 := by
    cases q
    · simpa [e7] using h6
    · exact .ite (h6.with_mc fun h => absurd h (by decide)) h6
  exact h7.trans (autoRetire_counts _ _ e7)

theorem poisonRead_counts (pois : Nat) (e : Eng) : CountsKept q e (poisonRead pois e) := .ite (.refl e) (.raise (.wr (.refl e) _) 0)

theorem stackHeld_counts (line : Nat) (e : Eng) : CountsKept q e (stackHeld line e) := .ite (.refl e) (.with_mc (.wr (.refl e) _))

/-- A line stored poisoned is counted once (R262). -/
theorem ueNote_counted (x : ConsItem) (e : Eng) :
    (ueNote x e).rd MEM_ERR_UE_CNT_CNT = min (e.rd MEM_ERR_UE_CNT_CNT + 1) (2 ^ MEM_ERR_UE_CNT_CNT.width - 1) ∧
      (ueNote x e).mc.cons = e.mc.cons := by
  unfold ueNote
  extract_lets e1
  have h1 : CountsKept false (e.addSat MEM_ERR_UE_CNT_CNT 1) e1 := .wr (.wr (.wr (.refl _) _) _) _
  have hall := CountsKept.raisePost (f := MEM_ERR_EVT_UE) (.wr (f := MEM_UE_INFO_SRC) (.wr (f := MEM_UE_INFO_POS) h1 x.pos) x.src) 0
    (leBytes 4 x.line ++ [BitVec.ofNat 8 x.port] ++ leBytes 2 x.pos)
  refine ⟨(hall.rd _ (by decide)).trans ?_, hall.cons rfl⟩
  rw [addSat_eq, Eng.rd_wr]
  exact Nat.mod_eq_of_lt (lt_of_le_of_lt (min_le_right _ _) (by decide))

/-! ### A line that is stored (R263) -/

/-- The memory writes that store a line: its bytes, and the poison of each sector. -/
def lineOps (line : Nat) (bytes : List Byte) (pois : Nat) : List MemOp :=
  .cap (line * 256) bytes :: (List.range 8).map fun k => .capPoison (line * 8 + k) (natBit pois k)

/-- The bytes that are stored: zeros in a poisoned sector. -/
def storedBytes (data : List Byte) (pois : Nat) : List Byte :=
  (List.range 8).flatMap fun k => if natBit pois k then List.replicate 32 (0 : Byte) else (data.drop (32 * k)).take 32

theorem storedBytes_length (data : List Byte) (pois : Nat) : (storedBytes data pois).length ≤ 256 := by
  have hsector (k : Nat) : (if natBit pois k then List.replicate 32 (0 : Byte) else (data.drop (32 * k)).take 32).length ≤ 32 := by
    split
    · simp
    · exact List.length_take_le _ _
  rw [storedBytes, List.length_flatMap]
  refine (List.sum_le_card_nsmul _ 32 fun n hn => ?_).trans (by simp)
  obtain ⟨k, -, rfl⟩ := List.mem_map.1 hn
  exact hsector k

theorem foldl_emit (f : Nat → MemOp) (l : List Nat) (e : Eng) :
    (l.foldl (fun a k => a.emit (f k)) e).wq = e.wq ++ l.map f ∧ CountsKept q e (l.foldl (fun a k => a.emit (f k)) e) := by
  induction l generalizing e with
  | nil => exact ⟨(List.append_nil _).symm, .refl e⟩
  | cons k l ih =>
    obtain ⟨hwq, hkept⟩ := ih (e.emit (f k))
    refine ⟨?_, (CountsKept.emit (.refl e) (f k)).trans hkept⟩
    rw [List.foldl_cons, hwq, Eng.emit_wq, List.append_assoc, List.map_cons, List.singleton_append]

theorem stackHeld_wq (line : Nat) (e : Eng) : (stackHeld line e).wq = e.wq := by
  unfold stackHeld
  split <;> rfl

theorem storeLine_stored (line : Nat) (data : List Byte) (pois : Nat) (e : Eng) :
    (storeLine line data pois e).wq = e.wq ++ lineOps line (storedBytes data pois) pois ∧ CountsKept q e (storeLine line data pois e) := by
  unfold storeLine
  extract_lets bytes e0 e1
  have h0 : e0.wq = e.wq ++ [.cap (line * 256) (storedBytes data pois)] ∧ CountsKept q e e0 :=
    ⟨stackHeld_wq _ _, (CountsKept.emit (.refl e) _).trans (stackHeld_counts _ _)⟩
  have h1 : e1.wq = e.wq ++ lineOps line (storedBytes data pois) pois ∧ CountsKept q e e1 := by
    obtain ⟨hwq, hkept⟩ := foldl_emit (q := q) (fun k => .capPoison (line * 8 + k) (natBit pois k)) (List.range 8) e0
    refine ⟨hwq.trans ?_, h0.2.trans hkept⟩
    rw [h0.1, List.append_assoc, List.singleton_append, lineOps]
  split
  · exact h1
  · exact ⟨h1.1, h1.2.with_mc⟩

/-! ### What the memories hold then -/

theorem mem_idxAdd (s : IdxSet) (i j : Nat) : j ∈ idxAdd s i ↔ j = i ∨ j ∈ s := by
  refine ⟨idxAdd_mem s i j, ?_⟩
  induction s with
  | nil => simp [idxAdd]
  | cons a s ih =>
    simp only [idxAdd]
    split
    · simp
    · split
      case isTrue heq => simp [heq]
      case isFalse =>
        rintro (h | h)
        · exact List.mem_cons_of_mem a (ih (.inl h))
        · rcases List.mem_cons.1 h with rfl | h
          · exact List.mem_cons_self
          · exact List.mem_cons_of_mem a (ih (.inr h))

/-- An index is in the set as it was put last. -/
theorem idxMem_put (s : IdxSet) (i j : Nat) (on : Bool) : idxMem (idxPut s i on) j = if i = j then on else idxMem s j := by
  have hon : (j ∈ idxPut s i on) ↔ if i = j then on = true else j ∈ s := by
    by_cases hij : i = j
    · subst hij
      cases on <;> simp [idxPut, idxDel, mem_idxAdd]
    · have hji : j ≠ i := Ne.symm hij
      cases on <;> simp [idxPut, idxDel, mem_idxAdd, hij, hji]
  rw [Bool.eq_iff_iff, idxMem, List.contains_iff_mem, hon]
  split
  · exact Iff.rfl
  · exact List.contains_iff_mem.symm

theorem applyAll_append (m : Mems) (os os' : List MemOp) : m.applyAll (os ++ os') = (m.applyAll os).applyAll os' := List.foldl_append

/-- Writes that only the Vault sees leave capture memory alone. -/
theorem applyAll_inVault {os : List MemOp} (h : ∀ o ∈ os, o.InVault) (m : Mems) :
    (m.applyAll os).cap = m.cap ∧ (m.applyAll os).capPois = m.capPois := by
  refine List.foldlRecOn os Mems.apply (motive := fun m' => m'.cap = m.cap ∧ m'.capPois = m.capPois) ⟨rfl, rfl⟩ fun m' hm o ho => ?_
  have hvault := h o ho
  cases o with
  | vlt | vltBad | vltClear => exact hm
  | _ => exact absurd hvault id

/-- The poison of sectors is written one after the other. -/
theorem applyAll_poison (m : Mems) (f : Nat → Bool) (line n : Nat) :
    (m.applyAll ((List.range n).map fun k => .capPoison (line + k) (f k))).cap = m.cap ∧
      ∀ k < n, idxMem (m.applyAll ((List.range n).map fun k => .capPoison (line + k) (f k))).capPois (line + k) = f k := by
  induction n with
  | zero => exact ⟨rfl, fun k hk => absurd hk (Nat.not_lt_zero k)⟩
  | succ n ih =>
    obtain ⟨hcap, hpois⟩ := ih
    rw [List.range_succ, List.map_append, applyAll_append]
    refine ⟨hcap, fun k hk => (idxMem_put _ _ _ _).trans ?_⟩
    by_cases hkn : k = n
    · rw [if_pos (by omega), hkn]
    · rw [if_neg (by omega)]
      exact hpois k (by omega)

/-- A line has been stored: its sectors are poisoned as given, and no byte outside it has changed. -/
theorem applyAll_lineOps (m : Mems) (line pois : Nat) {bytes : List Byte} (hbytes : bytes.length ≤ 256) :
    (∀ k < 8, idxMem (m.applyAll (lineOps line bytes pois)).capPois (line * 8 + k) = natBit pois k) ∧
      ∀ a, a < line * 256 ∨ line * 256 + 256 ≤ a → memGet (m.applyAll (lineOps line bytes pois)).cap a = memGet m.cap a := by
  obtain ⟨hcap, hpois⟩ := applyAll_poison (m.apply (.cap (line * 256) bytes)) (natBit pois) (line * 8) 8
  refine ⟨hpois, fun a ha => ?_⟩
  rw [lineOps, Mems.applyAll, List.foldl_cons, ← Mems.applyAll, hcap]
  exact memGet_write_outside m.cap bytes (by omega)

/-- Between two states of the engine the memory writes issued are those to the Vault that a read may bring about (R255, R273), and then,
where there is a line given, those that store it with poison `pois`. -/
def Stores (line : Option Nat) (pois : Nat) (e e' : Eng) : Prop :=
  ∃ ops, (∀ o ∈ ops, o.InVault) ∧ match line with
    | some l => ∃ bytes : List Byte, bytes.length ≤ 256 ∧ e'.wq = e.wq ++ ops ++ lineOps l bytes pois
    | none => e'.wq = e.wq ++ ops

theorem ReadNoted.stores_none {e e' : Eng} (h : ReadNoted e e') (pois : Nat) : Stores none pois e e' :=
  let ⟨ops, hwq, hops⟩ := h.wq
  ⟨ops, hops, hwq⟩

theorem ReadNoted.stores {e e' : Eng} (h : ReadNoted e e') (line : Nat) (data : List Byte) (pois : Nat) :
    Stores (some line) pois e (storeLine line data pois e') := by
  obtain ⟨ops, hwq, hops⟩ := h.wq
  refine ⟨ops, hops, storedBytes data pois, storedBytes_length data pois, ?_⟩
  rw [(storeLine_stored (q := false) line data pois e').1, hwq]

/-- No byte of capture memory outside the line has changed, and a line that was stored has its poison. -/
theorem Stores.memory {line : Option Nat} {pois : Nat} {e e' : Eng} (h : Stores line pois e e') (hwq : e.wq = []) (m : Mems) :
    (∀ l, line = some l → ∀ k < 8, idxMem (m.applyAll e'.wq).capPois (l * 8 + k) = natBit pois k) ∧
      ∀ a, (∀ l, line = some l → a < l * 256 ∨ l * 256 + 256 ≤ a) → memGet (m.applyAll e'.wq).cap a = memGet m.cap a := by
  obtain ⟨ops, hops, hline⟩ := h
  obtain ⟨hcap, -⟩ := applyAll_inVault hops m
  cases line with
  | none =>
    have hwq' : e'.wq = ops := by rw [hline, hwq, List.nil_append]
    exact ⟨fun l hl => (by cases hl), fun a _ => by rw [hwq', hcap]⟩
  | some l =>
    obtain ⟨bytes, hlen, hwq'⟩ := hline
    rw [hwq, List.nil_append] at hwq'
    obtain ⟨hpois, hframe⟩ := applyAll_lineOps (m.applyAll ops) l pois hlen
    rw [← applyAll_append, ← hwq'] at hpois hframe
    refine ⟨fun l' hl => (by cases hl; exact hpois), fun a ha => ?_⟩
    rw [hframe a (ha l rfl), hcap]

end Machine
end Sys2Proof
end

section
/-!
SUPPORT. CONSERVATOR_REREAD (R262, R263) and PATROL_READ (R266).
-/
namespace Sys2Proof
namespace Machine

theorem poisonRead_noted (pois : Nat) (e : Eng) : ReadNoted e (poisonRead pois e) := .ite (.refl e) (.raise (.wr (.refl e) _) 0)

theorem stackHeld_noted (line : Nat) (e : Eng) : ReadNoted e (stackHeld line e) := .ite (.refl e) (.with_mc (.wr (.refl e) _) _)

theorem ueNote_noted (x : ConsItem) (e : Eng) : ReadNoted e (ueNote x e) := by
  unfold ueNote
  extract_lets e1
  have h1 : ReadNoted e e1 := .wr (.wr (.wr (.wr (.refl e) _) _) _) _
  exact .raisePost (.wr (.wr h1 _) _) 0 _

/-- What a read of Conservator counts, with poison that it receives as a reader (R261). -/
def conservatorNoted (line : Nat) (queue : Bool) (lr : LineRead) (e : Eng) : Eng := scbNote lr (readNote line 5 1 queue lr e)

theorem conservatorNoted_noted (line : Nat) (queue : Bool) (lr : LineRead) (e : Eng) : ReadNoted e (conservatorNoted line queue lr e) :=
  (readNote_noted line 5 1 queue lr e).trans (poisonRead_noted _ _)

theorem conservatorNoted_counts (line : Nat) (queue : Bool) (lr : LineRead) (e : Eng) :
    CountsKept queue e (conservatorNoted line queue lr e) :=
  (readNote_counts line 5 1 lr e).trans (poisonRead_counts _ _)

/-! ### CONSERVATOR_REREAD (R262, R263) -/

/-- The queue without its oldest line. -/
def queueLeft (rest : List ConsItem) (e : Eng) : Eng := { e with mc := { e.mc with cons := rest } }

/-- The queue is no part of what a read of a line meets. -/
theorem lineRead_queueLeft (rest : List ConsItem) (e : Eng) (m : Mems) (line : Nat) (resp : List SecResp) :
    lineRead (queueLeft rest e) m line resp = lineRead e m line resp := rfl

/-- A line read the second time is stored, fully poisoned where it failed again. -/
def rereadStored (x : ConsItem) (lr : LineRead) (e : Eng) : Eng :=
  if lr.result = 2 then storeLine x.line lr.data 255 (ueNote { x with cw := lr.cw, pos := lr.pos } e) else storeLine x.line lr.data lr.pois e

theorem conservatorReread_queued {resp : List SecResp} {e : Eng} {m : Mems} {x : ConsItem} {rest : List ConsItem}
    (hcons : e.mc.cons = x :: rest) (hruns : memRuns e = true) :
    conservatorReread resp e m =
      rereadStored x (lineRead e m x.line resp) (conservatorNoted x.line false (lineRead e m x.line resp) (queueLeft rest e)) := by
  rw [← lineRead_queueLeft rest]
  unfold conservatorReread
  rw [hcons]
  simp only [hruns]
  rfl

theorem conservatorReread_empty {e : Eng} (resp : List SecResp) (m : Mems) (hcons : e.mc.cons = []) : conservatorReread resp e m = e := by
  simp [conservatorReread, hcons]

theorem rereadStored_stores (x : ConsItem) (lr : LineRead) {e e' : Eng} (h : ReadNoted e e') :
    ∃ pois, (lr.result = 2 → pois = 255) ∧ Stores (some x.line) pois e (rereadStored x lr e') := by
  unfold rereadStored
  split
  · exact ⟨255, fun _ => rfl, (h.trans (ueNote_noted _ e')).stores x.line lr.data 255⟩
  case isFalse hpass => exact ⟨lr.pois, fun hfail => absurd hfail hpass, h.stores x.line lr.data lr.pois⟩

theorem rereadStored_counted (x : ConsItem) (lr : LineRead) (e : Eng) :
    (rereadStored x lr e).mc.cons = e.mc.cons ∧ (lr.result = 2 → (rereadStored x lr e).rd MEM_ERR_UE_CNT_CNT =
      min (e.rd MEM_ERR_UE_CNT_CNT + 1) (2 ^ MEM_ERR_UE_CNT_CNT.width - 1)) := by
  unfold rereadStored
  split
  · obtain ⟨hcount, hcons⟩ := ueNote_counted { x with cw := lr.cw, pos := lr.pos } e
    have hstored := (storeLine_stored (q := false) x.line lr.data 255 (ueNote { x with cw := lr.cw, pos := lr.pos } e)).2
    exact ⟨(hstored.cons rfl).trans hcons, fun _ => (hstored.rd _ (by decide)).trans hcount⟩
  case isFalse hpass => exact ⟨(storeLine_stored x.line lr.data lr.pois e).2.cons rfl, fun hfail => absurd hfail hpass⟩

/-- The oldest queued line is taken, read again and stored. -/
theorem conservatorReread_completes (s : State) (resp : List SecResp) {x : ConsItem} {rest : List ConsItem} (hup : s.up) (hinv : Inv s)
    (hcons : s.eng.mc.cons = x :: rest) (hruns : memRuns s.eng = true) : Completes (.conservatorReread resp) s fun t =>
      t.eng.mc.cons = rest ∧
      ((lineRead s.eng s.mem x.line resp).result = 2 → (∀ k < 8, idxMem t.mem.capPois (x.line * 8 + k) = true) ∧
        t.rd MEM_ERR_UE_CNT_CNT = min (s.rd MEM_ERR_UE_CNT_CNT + 1) (2 ^ MEM_ERR_UE_CNT_CNT.width - 1)) ∧
      (∀ a, a < x.line * 256 ∨ x.line * 256 + 256 ≤ a → memGet t.mem.cap a = memGet s.mem.cap a) := by
  have hexec := onMem_up s (conservatorReread resp) hup
  rw [applyMem, conservatorReread_queued hcons hruns] at hexec
  have hnoted := conservatorNoted_noted x.line false (lineRead s.eng s.mem x.line resp) (queueLeft rest s.eng)
  have hkept := conservatorNoted_counts x.line false (lineRead s.eng s.mem x.line resp) (queueLeft rest s.eng)
  generalize lineRead s.eng s.mem x.line resp = lr at hexec hnoted hkept ⊢
  generalize conservatorNoted x.line false lr (queueLeft rest s.eng) = e1 at hexec hnoted hkept
  obtain ⟨pois, hpois, hstores⟩ := rereadStored_stores x lr hnoted
  obtain ⟨hqueue, hcount⟩ := rereadStored_counted x lr e1
  generalize rereadStored x lr e1 = e2 at hexec hstores hqueue hcount
  obtain ⟨hsectors, hframe⟩ := hstores.memory hinv.2 s.mem
  refine ⟨_, hexec, rfl, hqueue.trans (hkept.cons rfl), fun hfail => ⟨fun k hk => ?_, ?_⟩, fun a ha => ?_⟩
  · have hall : ∀ k < 8, natBit 255 k = true := by decide
    exact (hsectors _ rfl k hk).trans (by rw [hpois hfail, hall k hk])
  · have hsame : e1.rd MEM_ERR_UE_CNT_CNT = s.rd MEM_ERR_UE_CNT_CNT := hkept.rd _ (by decide)
    rw [← hsame]
    exact hcount hfail
  · exact hframe a fun l hl => by cases hl; exact ha

/-! ### PATROL_READ (R266) -/

/-- What the patrol's read leaves before the position moves on: the line is written back where it was CORRECTED, or CLEAN with WB_ALL. -/
def patrolStored (line : Nat) (lr : LineRead) (e : Eng) : Eng :=
  if lr.result = 1 ∨ (lr.result = 0 ∧ e.on MEM_CONS_CFG_WB_ALL) then
    storeLine line lr.data lr.pois (conservatorNoted line true lr (stackHeld line e))
  else conservatorNoted line true lr (stackHeld line e)

/-- The patrol goes on to the next line; after the last one a pass is complete. -/
def patrolMoved (line : Nat) (e : Eng) : Eng :=
  if line + 1 < 2 ^ 29 then e.wr MEM_CONS_POS_LINE (line + 1)
  else
    let e1 := ((e.wr MEM_CONS_POS_LINE 0).addWrap MEM_CONS_PASS_CNT 1).wr MEM_CONS_LAST_SEC (min ((e.now - e.mc.passAt) / tps) (2 ^ 32 - 1))
    { e1 with mc := { e1.mc with passAt := e1.now } }

theorem patrolRead_on {resp : List SecResp} {e : Eng} {m : Mems} {line : Nat} (hline : e.rd MEM_CONS_POS_LINE = line)
    (hen : e.rd MEM_CONS_CFG_PATROL_EN = 1) (hruns : memRuns e = true) :
    patrolRead resp e m = patrolMoved line (patrolStored line (lineRead e m line resp) e) := by
  have hnot : ¬((!e.on MEM_CONS_CFG_PATROL_EN) = true ∨ (!memRuns e) = true) := by simp [Eng.on, hen, hruns]
  subst hline
  unfold patrolRead
  rw [if_neg hnot]
  rfl

theorem patrolRead_off {e : Eng} (resp : List SecResp) (m : Mems) (hen : e.rd MEM_CONS_CFG_PATROL_EN = 0) : patrolRead resp e m = e := by
  simp [patrolRead, Eng.on, hen]

theorem patrolStored_stores (line : Nat) (lr : LineRead) (e : Eng) :
    (∃ stored pois, (∀ l, stored = some l → l = line) ∧ Stores stored pois e (patrolStored line lr e)) ∧
      CountsKept true e (patrolStored line lr e) := by
  have hnoted := (stackHeld_noted line e).trans (conservatorNoted_noted line true lr _)
  have hkept := (stackHeld_counts line e).trans (conservatorNoted_counts line true lr _)
  unfold patrolStored
  split
  · exact ⟨⟨some line, lr.pois, fun l hl => (Option.some.inj hl).symm, hnoted.stores line lr.data lr.pois⟩,
      hkept.trans (storeLine_stored line lr.data lr.pois _).2⟩
  · exact ⟨⟨none, 0, fun l hl => (by cases hl), hnoted.stores_none 0⟩, hkept⟩

theorem patrolMoved_wq (line : Nat) (e : Eng) : (patrolMoved line e).wq = e.wq := by
  unfold patrolMoved
  split <;> rfl

theorem patrolMoved_shows (line : Nat) (e : Eng) :
    (line + 1 < 2 ^ 29 → (patrolMoved line e).rd MEM_CONS_POS_LINE = line + 1 ∧
      (patrolMoved line e).rd MEM_CONS_PASS_CNT = e.rd MEM_CONS_PASS_CNT) ∧
    (2 ^ 29 ≤ line + 1 → (patrolMoved line e).rd MEM_CONS_POS_LINE = 0 ∧
      (patrolMoved line e).rd MEM_CONS_PASS_CNT = (e.rd MEM_CONS_PASS_CNT + 1) % 2 ^ 32) := by
  refine ⟨fun hnext => ?_, fun hlast => ?_⟩
  · rw [patrolMoved, if_pos hnext]
    exact ⟨(Eng.rd_wr e MEM_CONS_POS_LINE _).trans (Nat.mod_eq_of_lt hnext), Eng.rd_wr_other e _ (by decide)⟩
  · rw [patrolMoved, if_neg (not_lt.2 hlast)]
    simp only [Eng.rd_with_mc, addWrap_eq]
    rw [Eng.rd_wr_other _ _ (by decide : MEM_CONS_LAST_SEC.key ≠ MEM_CONS_POS_LINE.key),
      Eng.rd_wr_other _ _ (by decide : MEM_CONS_PASS_CNT.key ≠ MEM_CONS_POS_LINE.key),
      Eng.rd_wr_other _ _ (by decide : MEM_CONS_LAST_SEC.key ≠ MEM_CONS_PASS_CNT.key), Eng.rd_wr, Eng.rd_wr,
      Eng.rd_wr_other e 0 (by decide : MEM_CONS_POS_LINE.key ≠ MEM_CONS_PASS_CNT.key)]
    exact ⟨Nat.zero_mod _, rfl⟩

/-- The patrol reads the line at its position and goes on. -/
theorem patrolRead_completes (s : State) (resp : List SecResp) {line : Nat} (hup : s.up) (hinv : Inv s)
    (hline : s.rd MEM_CONS_POS_LINE = line) (hen : s.rd MEM_CONS_CFG_PATROL_EN = 1) (hruns : memRuns s.eng = true) :
    Completes (.patrolRead resp) s fun t =>
      (line + 1 < 2 ^ 29 → t.rd MEM_CONS_POS_LINE = line + 1 ∧ t.rd MEM_CONS_PASS_CNT = s.rd MEM_CONS_PASS_CNT) ∧
      (2 ^ 29 ≤ line + 1 → t.rd MEM_CONS_POS_LINE = 0 ∧ t.rd MEM_CONS_PASS_CNT = (s.rd MEM_CONS_PASS_CNT + 1) % 2 ^ 32) ∧
      (∀ a, a < line * 256 ∨ line * 256 + 256 ≤ a → memGet t.mem.cap a = memGet s.mem.cap a) := by
  have hexec := onMem_up s (patrolRead resp) hup
  rw [applyMem, patrolRead_on hline hen hruns, patrolMoved_wq] at hexec
  obtain ⟨⟨stored, pois, hstored, hstores⟩, hkept⟩ := patrolStored_stores line (lineRead s.eng s.mem line resp) s.eng
  generalize patrolStored line (lineRead s.eng s.mem line resp) s.eng = e1 at hexec hstores hkept
  obtain ⟨hnext, hlast⟩ := patrolMoved_shows line e1
  generalize patrolMoved line e1 = e2 at hexec hnext hlast
  obtain ⟨-, hframe⟩ := hstores.memory hinv.2 s.mem
  have hpass : e1.rd MEM_CONS_PASS_CNT = s.rd MEM_CONS_PASS_CNT := hkept.rd _ (by decide)
  rw [hpass] at hnext hlast
  exact ⟨_, hexec, rfl, hnext, hlast, fun a ha => hframe a fun l hl => hstored l hl ▸ ha⟩

end Machine
end Sys2Proof
end

section
/-!
SUPPORT. The obligation O19.
-/
open Sys2Proof Sys2Proof.Machine

/-- Settles O19: a line that is read again is taken off the queue and stored (`conservatorReread_completes`), and the patrol reads its line and
goes on (`patrolRead_completes`). Besides the line that is stored, what a read counts writes the Vault at most (`readNote_noted`). -/
theorem conservatorReadsOn : Obligations.ConservatorReadsOn := by
  unfold Obligations.ConservatorReadsOn
  intro s resp hup hinv
  refine ⟨fun hempty => ?empty, fun x rest hcons hruns => ?reread, fun hoff => ?off, fun hon hruns => ?patrol⟩
  case empty => exact onMem_idle s (conservatorReread resp) hup hinv (conservatorReread_empty resp s.mem hempty)
  case reread => exact conservatorReread_completes s resp hup hinv hcons hruns
  case off => exact onMem_idle s (patrolRead resp) hup hinv (patrolRead_off resp s.mem hoff)
  case patrol => exact patrolRead_completes s resp hup hinv rfl hon hruns

end

section
/-!
SUPPORT. Every command answers a next state, with writes applied to the memories and no write left over.
-/
namespace Sys2Proof
namespace Machine

theorem onTap_ran (s : State) (f : Eng → Mems → Eng) : ∃ t, onTap s f = .next t ∧ Ran s t := by
  unfold onTap
  split
  · exact ⟨s, rfl, rfl, ⟨[], rfl⟩, .inl rfl⟩
  · exact applyMem_ran s f

/-- Each command changes the engine only, or may write memories while the core is up, or is of the TAP, or is a reset that acts on a
core that is held too. -/
theorem exec_ran (c : Instr) (s : State) : ∃ t, exec c s = .next t ∧ Ran s t := by
  unfold exec
  cases c with
  | bar0InvalidAccess | lockAll | sampleWord | slackWindowEnd | clrMin | ebClr | fabRsvWrite | fabOutRead | modeRequest | modeLockFail
  | tileSvcRequest | keepCtrlWrite | wakeAssert | tipWrite | thrWrite | feFieldWrite | eyeScanStart | eyeScanAbort | calRequest
  | podInserted | podRemoved | podPowerRequest | softStartEnd | podOvercurrent | attnPress | attnPowerOff | identDone | reread | sbGo
  | sbDone | podPwrStatRead | loopCommit | clockMonitorPass | clkLdAnWrite | rampSegWrite | rampPeriod | clkoutCfgWrite | ts64Wrap | set
  | step | todSet | todStep | timeCmdAbandon | todSecond | ppsOutPulseEnd | ppsInEdge | trefUpdate | ppsMiss | hoLimit | rateWrite
  | steerModeWrite | aqlFrameRx | aqlFrameTx | enum | adopt | aqlArm | aqlOffsetAverage | timeTsRead | counterTerminal | timerLimit
  | resCommit | resFieldWrite | lastRead | arm | disarm | seqCommit | seqCommitApply | seqCfgWrite | rrStop | clear | cregPosRead
  | cregEnWrite | jobGo | resume | jobAbort | cmpRegCfgWrite | inventoryAge | pprStart | pprDone | scoreHalve | retire | injectArm
  | ceDivWrite | refreshAccrual | burstNotice | rdTableClear | powerDownEntry | selfRefreshEntry | trainingPassStart | binRequest
  | binChange | binLockTimeout | qosMaxRead | scrRgnWrite | scratchInvAge | scratchRepairDone | marchTestStart | configRequest
  | hotReset | functionLevelReset | d3hotEntry | d0Entry | linkDown | irqEoi | msixUnmask | evqRead | evqPop | dmaTailWrite | dmaEnable
  | dmaDisable | atsInvalidate | completionTimeout | winCommit | train | linkTrainDone | hpdIrq | hpdUnplug | hpdPlug | auxGo | auxDone
  | timingCommit | flip | render | renderStop | dirty | readbackScan | tokenLockoutEnd | rngHealthFail | stageResetRetry | trickleEntry
  | idleReturn | pcieLinkUp | rngHealthRestored | levelChange => exact onEng_ran _ _
  | elasticGap | accessionLine | memoryRequest | acquisitionEntry | tileServiceEntry | tileServiceExit | eyeScanDone | tileRejoin
  | portAbsentRecord | unlockRecord | evaluationInstant | retentionEnd | resCommitApply | armApply | disarmApply | rrStart | rrEnd
  | clearDone | containerCommit | containerDecode | jobContainer | conservatorReread | patrolRead | inventoryWriteback | inventoryRetest
  | sweepLine | refreshRound | targetedRefresh | scratchAccess | atomicGo | scratchPatrol | apertureAccess | dmaAbort | dmaDescriptor
  | dmaDescriptorDone | streamFlush | quarantineExpiry | completionReceived | latchPoint | renderDone | scanoutLine | lockstepMismatch
  | curRamPatrol | curWindowAccess | lifeHour | ledgerSecond | ledgerRead | info | slotInfo | updBegin | updWrite | updCheck | updCommit
  | updConfirm | bootSelect | ldgNote | trialExpiry | vaultPatrol | powerFault | load | tileLoad | datapathParity | handshakeWatchdog
  | swrst | registerWrite | provision | transition | keyLoad | keyErase | sealGen | sealUse | raiseMinver | dbgAuth | dbgClose | dbgOpen
  | tamperAck | nonce | debugSessionExpiry | acquisitionStop | forcedStop | keptLineCopy | calDone | lockWindowEnd | analogueLock
  | clockMonitorFail | phaseAlignDone | loopReturn | secureWipeDone | marchTestAbort | marchTestEnd | tempSample | voltSample
  | tamperDetection | ledgerWrite | off | curatorResume | watchdogExpiry => exact onMem_ran _ _
  | tapReset | bypass | idcode | samplePreload | extest | clamp | highz | dap | dapAuth => exact onTap_ran _ _
  | perstN | powerOnReset | perstNRelease => exact applyMem_ran _ _
  -- the SEAL of a kept window, whose name is a keyword here
  | _ => exact onMem_ran _ _

theorem step_ran (s : State) : ∃ s' t, s'.eng = s.eng ∧ s'.mem = s.mem ∧ step s = .next t ∧ Ran s' t := by
  unfold step
  split
  · obtain ⟨t, hstep, hran⟩ := onMem_ran s fun e m => fabGo (tick e) m
    exact ⟨s, t, rfl, rfl, hstep, hran⟩
  · next c rest _ =>
    obtain ⟨t, hexec, hran⟩ := exec_ran c { s with pending := rest }
    exact ⟨{ s with pending := rest }, t, rfl, rfl, hexec, hran⟩

/-- Writes keep the canonical form (`Mems.applyAll_wf`). -/
theorem Ran.keeps_inv {s t : State} (hran : Ran s t) (hinv : Inv s) : Inv t := by
  obtain ⟨-, ⟨ops, hmem⟩, hwq⟩ := hran
  obtain ⟨hwf, hnone⟩ := hinv
  refine ⟨hmem ▸ Mems.applyAll_wf s.mem ops hwf, ?_⟩
  obtain heng | hempty := hwq
  · rw [heng, hnone]
  · exact hempty

end Machine
end Sys2Proof
end

section
/-!
SUPPORT. The obligations O1 and O2.
-/
open Sys2Proof Sys2Proof.Machine

/-- Settles O1: `step` takes the front of the queue, and on an empty queue ticks. -/
theorem stepRunsFrontCommand : Obligations.StepRunsFrontCommand := by
  unfold Obligations.StepRunsFrontCommand
  refine ⟨fun c s => rfl, fun s hempty => ?_⟩
  unfold step
  rw [hempty]

/-- Settles O2: every step applies writes to the memories and leaves none over (`step_ran`), and writes keep the canonical form
(`Ran.keeps_inv`). -/
theorem memoryStaysCanonical : Obligations.MemoryStaysCanonical := by
  unfold Obligations.MemoryStaysCanonical
  intro s t hinv hstep
  obtain ⟨s', t', heng, hmem, hstep', hran⟩ := step_ran s
  obtain rfl : t = t' := by
    rw [hstep] at hstep'
    injection hstep'
  exact hran.keeps_inv ⟨hmem ▸ hinv.1, heng ▸ hinv.2⟩

end

section
/-!
SUPPORT. Engines between which fields alone change, and the three clears of the architecture chapter (R459, R354).
-/
namespace Sys2Proof
namespace Machine

/-! ### Changes of fields only -/

/-- Between two engines nothing changes but the fields of `ks`. -/
def OnlyWrote (ks : List Nat) (e e' : Eng) : Prop :=
  { e' with regs := [] } = { e with regs := [] } ∧ ∀ g : Fld, g.key ∉ ks → e'.rd g = e.rd g

namespace OnlyWrote

variable {ks : List Nat} {e e' e'' : Eng}

theorem refl (ks : List Nat) (e : Eng) : OnlyWrote ks e e := ⟨rfl, fun _ _ => rfl⟩

theorem trans (h : OnlyWrote ks e e') (h' : OnlyWrote ks e' e'') : OnlyWrote ks e e'' := by
  obtain ⟨hrest, hrd⟩ := h
  obtain ⟨hrest', hrd'⟩ := h'
  exact ⟨hrest'.trans hrest, fun g hg => (hrd' g hg).trans (hrd g hg)⟩

theorem wr (h : OnlyWrote ks e e') {f : Fld} (v : Nat) (hf : f.key ∈ ks) : OnlyWrote ks e (e'.wr f v) :=
  h.trans ⟨rfl, fun _ hg => Eng.rd_wr_other _ _ (key_ne_of_mem hg hf)⟩

theorem foldl {α : Type} (f : Eng → α → Eng) (l : List α) (h : ∀ a, ∀ x ∈ l, OnlyWrote ks a (f a x)) (e : Eng) :
    OnlyWrote ks e (l.foldl f e) :=
  List.foldlRecOn l f (motive := OnlyWrote ks e) (refl ks e) fun a ha x hx => ha.trans (h a x hx)

theorem mono {ks' : List Nat} (h : OnlyWrote ks e e') (hsub : ∀ x ∈ ks, x ∈ ks') : OnlyWrote ks' e e' := by
  obtain ⟨hrest, hrd⟩ := h
  exact ⟨hrest, fun g hg => hrd g fun hmem => hg (hsub _ hmem)⟩

/-- A command that changes fields only. -/
theorem only {s : State} (h : OnlyWrote ks s.eng e') : Only ks s { s with eng := { e' with wq := [] } } := by
  obtain ⟨hrest, hrd⟩ := h
  have hsame := congrArg Eng.rest hrest
  exact ⟨rfl, hsame, hrd⟩

end OnlyWrote

/-- The fields of the state that a command answers. -/
theorem rd_ended (s : State) (e : Eng) (f : Fld) : State.rd { s with eng := { e with wq := [] } } f = e.rd f := rfl

/-! ### CLR_MIN, EB_CLR and FAB_OUT_READ -/

/-- EB_CLR of one tile. -/
def ebClear (tiles : Nat) (e : Eng) (k : Nat) : Eng :=
  if natBit tiles k then ((e.wr (GLB_EB_STAT_PEAK k) 0).wr (GLB_EB_OVF_CNT k) 0).wr (GLB_EB_DROP_WORDS k) 0 else e

/-- The fields that EB_CLR clears for one tile. -/
def ebKeys (k : Nat) : List Nat := [(GLB_EB_STAT_PEAK k).key, (GLB_EB_OVF_CNT k).key, (GLB_EB_DROP_WORDS k).key]

theorem ebKeys_disjoint {j k : Nat} (hj : j < 8) (hk : k < 8) (h : j ≠ k) : ∀ x ∈ ebKeys j, x ∉ ebKeys k := by
  simp only [ebKeys, GLB_EB_STAT_PEAK, GLB_EB_OVF_CNT, GLB_EB_DROP_WORDS, fld, List.mem_cons, List.not_mem_nil, or_false, not_or]
  omega

theorem ebClear_wrote (tiles : Nat) (e : Eng) (k : Nat) : OnlyWrote (ebKeys k) e (ebClear tiles e k) := by
  unfold ebClear
  split
  · exact ((OnlyWrote.refl _ e).wr 0 (by simp [ebKeys])).wr 0 (by simp [ebKeys]) |>.wr 0 (by simp [ebKeys])
  · exact .refl _ e

theorem ebClear_cleared {tiles k : Nat} (hbit : natBit tiles k = true) (e : Eng) {f : Fld}
    (hmem : f = GLB_EB_STAT_PEAK k ∨ f = GLB_EB_OVF_CNT k ∨ f = GLB_EB_DROP_WORDS k) : (ebClear tiles e k).rd f = 0 := by
  have hpeak : (GLB_EB_OVF_CNT k).key ≠ (GLB_EB_STAT_PEAK k).key ∧ (GLB_EB_DROP_WORDS k).key ≠ (GLB_EB_STAT_PEAK k).key ∧
      (GLB_EB_DROP_WORDS k).key ≠ (GLB_EB_OVF_CNT k).key := by
    simp only [GLB_EB_STAT_PEAK, GLB_EB_OVF_CNT, GLB_EB_DROP_WORDS, fld]
    omega
  obtain ⟨hcp, hwp, hwc⟩ := hpeak
  rw [ebClear, if_pos hbit]
  obtain rfl | rfl | rfl := hmem
  · rw [Eng.rd_wr_other _ _ hwp, Eng.rd_wr_other _ _ hcp, Eng.rd_wr, Nat.zero_mod]
  · rw [Eng.rd_wr_other _ _ hwc, Eng.rd_wr, Nat.zero_mod]
  · rw [Eng.rd_wr, Nat.zero_mod]

/-- What CLR_MIN makes of the registers. -/
def minCleared (e : Eng) : Eng := (List.range 16).foldl (fun a n => a.wr (GLB_SLK_MARGIN_MIN n) 100) e

theorem minCleared_wrote (e : Eng) : OnlyWrote ((List.range 16).map fun n => (GLB_SLK_MARGIN_MIN n).key) e (minCleared e) := by
  unfold minCleared
  refine OnlyWrote.foldl _ _ (fun a n hn => ?_) e
  exact (OnlyWrote.refl _ a).wr 100 (List.mem_map_of_mem hn)

theorem minCleared_rd (e : Eng) {n : Nat} (hn : n < 16) : (minCleared e).rd (GLB_SLK_MARGIN_MIN n) = 100 := by
  have hsame (a : Eng) : (a.wr (GLB_SLK_MARGIN_MIN n) 100).rd (GLB_SLK_MARGIN_MIN n) = 100 := by
    rw [Eng.rd_wr]
    rfl
  have hother (a : Eng) : ∀ m ∈ List.range 16, m ≠ n → (a.wr (GLB_SLK_MARGIN_MIN m) 100).rd (GLB_SLK_MARGIN_MIN n) =
      a.rd (GLB_SLK_MARGIN_MIN n) := fun m hm hne =>
    have hkey := marginCur_key_ne (List.mem_range.1 hm) hn hne
    Eng.rd_wr_other a 100 hkey.2
  exact foldl_once (Eng.rd · (GLB_SLK_MARGIN_MIN n)) (fun _ => 100) _ List.nodup_range (List.mem_range.2 hn) hsame hother e

/-- What EB_CLR makes of the registers. -/
def ebCleared (tiles : Nat) (e : Eng) : Eng := (List.range 8).foldl (ebClear tiles) e

theorem ebCleared_wrote (tiles : Nat) (e : Eng) :
    OnlyWrote (((List.range 8).filter (natBit tiles)).flatMap ebKeys) e (ebCleared tiles e) := by
  refine .foldl _ _ (fun a k hk => ?_) e
  by_cases hbit : natBit tiles k = true
  · have hsub : ∀ x ∈ ebKeys k, x ∈ ((List.range 8).filter (natBit tiles)).flatMap ebKeys :=
      fun x hx => List.mem_flatMap.2 ⟨k, List.mem_filter.2 ⟨hk, hbit⟩, hx⟩
    exact (ebClear_wrote tiles a k).mono hsub
  · rw [ebClear, if_neg hbit]
    exact .refl _ a

theorem ebCleared_rd {tiles k : Nat} (hk : k < 8) (hbit : natBit tiles k = true) (e : Eng) {f : Fld}
    (hf : f = GLB_EB_STAT_PEAK k ∨ f = GLB_EB_OVF_CNT k ∨ f = GLB_EB_DROP_WORDS k) : (ebCleared tiles e).rd f = 0 := by
  refine foldl_once (fun a : Eng => a.rd f) (fun _ => 0) _ List.nodup_range (List.mem_range.2 hk)
    (fun a => ebClear_cleared hbit a hf) (fun a j hj hne => ?_) e
  obtain ⟨-, hrd⟩ := ebClear_wrote tiles a j
  refine hrd f fun hmem => ebKeys_disjoint (List.mem_range.1 hj) hk hne _ hmem ?_
  obtain rfl | rfl | rfl := hf <;> simp [ebKeys]

end Machine
end Sys2Proof
end

section
/-!
SUPPORT. The obligation O5.
-/
open Sys2Proof Sys2Proof.Machine

/-- Settles O5: each of the three writes fields only (`OnlyWrote`), and of the folds over stages and tiles one step writes the field
(`minCleared_rd`, `ebCleared_rd`). -/
theorem gaugeAndBufferCountersClear : Obligations.GaugeAndBufferCountersClear := by
  unfold Obligations.GaugeAndBufferCountersClear
  refine ⟨fun s hup => ?_, fun s tiles hup => ?_, fun s p hup hp => ?_⟩
  · have hexec : exec .clrMin s = onEng s minCleared := rfl
    rw [onEng_up s minCleared hup] at hexec
    exact ⟨_, hexec, rfl, fun n hn => (rd_ended s _ _).trans (minCleared_rd s.eng hn), (minCleared_wrote s.eng).only⟩
  · have hexec : exec (.ebClr tiles) s = onEng s (ebCleared tiles) := rfl
    rw [onEng_up s (ebCleared tiles) hup] at hexec
    have hzero {k : Nat} (hk : k < 8) (hbit : natBit tiles k = true) (f : Fld)
        (hf : f = GLB_EB_STAT_PEAK k ∨ f = GLB_EB_OVF_CNT k ∨ f = GLB_EB_DROP_WORDS k) :
        State.rd { s with eng := { ebCleared tiles s.eng with wq := [] } } f = 0 :=
      (rd_ended s _ f).trans (ebCleared_rd hk hbit s.eng hf)
    exact ⟨_, hexec, rfl, fun k hk hbit => ⟨hzero hk hbit _ (.inl rfl), hzero hk hbit _ (.inr (.inl rfl)), hzero hk hbit _ (.inr (.inr rfl))⟩,
      (ebCleared_wrote tiles s.eng).only⟩
  · exact ⟨_, onEng_up s (fabOutRead p) hup, rfl, Eng.rd_wr .., ((OnlyWrote.refl _ s.eng).wr _ (List.mem_singleton_self _)).only⟩

end

section
/-!
SUPPORT. Vectors in service and the messages of an end of interrupt and of the MSI-X masks (R335, R337), and the word of the event FIFO
(R340, R341).
-/
namespace Sys2Proof
namespace Machine

/-! ### Which vectors are asserted -/

/-- The part of a register word that one listed field adds. -/
def wordStep (off : Nat) (a : Nat) (p : Nat × Nat) : Nat :=
  if 8 * off ≤ p.1 && p.1 < 8 * off + 32 then a + p.2 * 2 ^ (p.1 - 8 * off) else a

theorem wordStep_outside {off : Nat} {k : Nat} (hk : k < 8 * off ∨ 8 * off + 32 ≤ k) (a v : Nat) : wordStep off a (k, v) = a := by
  simp [wordStep]
  omega

theorem word_rfInsert {off k : Nat} (hk : k < 8 * off ∨ 8 * off + 32 ≤ k) (r : RegFile) (v a : Nat) :
    (rfInsert r k v).foldl (wordStep off) a = r.foldl (wordStep off) a := by
  induction r generalizing a with
  | nil => exact wordStep_outside hk a v
  | cons p r ih =>
    obtain ⟨j, x⟩ := p
    unfold rfInsert
    split
    · rw [List.foldl_cons, wordStep_outside hk]
    split
    · next heq =>
      subst heq
      rw [List.foldl_cons, List.foldl_cons, wordStep_outside hk, wordStep_outside hk]
    · rw [List.foldl_cons, List.foldl_cons, ih]

theorem word_rfErase {off k : Nat} (hk : k < 8 * off ∨ 8 * off + 32 ≤ k) (r : RegFile) (a : Nat) :
    (rfErase r k).foldl (wordStep off) a = r.foldl (wordStep off) a := by
  induction r generalizing a with
  | nil => rfl
  | cons p r ih =>
    obtain ⟨j, x⟩ := p
    by_cases hj : j = k
    · subst hj
      have hdrop : rfErase ((j, x) :: r) j = rfErase r j := by simp [rfErase]
      rw [hdrop, ih, List.foldl_cons, wordStep_outside hk]
    · have hkeep : rfErase ((j, x) :: r) k = (j, x) :: rfErase r k := by simp [rfErase, hj]
      rw [hkeep, List.foldl_cons, List.foldl_cons, ih]

/-- A write outside a register word leaves the word. -/
theorem word_wr_other {off : Nat} {f : Fld} (hk : f.key < 8 * off ∨ 8 * off + 32 ≤ f.key) (e : Eng) (v : Nat) :
    (e.wr f v).word off = e.word off := by
  show (rfSet e.regs f v).foldl (wordStep off) 0 = e.regs.foldl (wordStep off) 0
  unfold rfSet
  split
  · exact word_rfErase hk e.regs 0
  · exact word_rfInsert hk e.regs _ 0

/-- A field that is in no register of event bits and in no enable register of one. -/
def feedsNone (f : Fld) : Bool :=
  evGroups.all fun g => (List.range g.count).all fun k =>
    (f.key < 8 * (g.off + g.stride * k) || 8 * (g.off + g.stride * k) + 32 ≤ f.key) &&
      g.en.all fun en => f.key != (enField (en + g.stride * k)).key

theorem asserted_wr {f : Fld} (hf : feedsNone f = true) (e : Eng) (x v : Nat) : asserted (e.wr f x) v = asserted e v := by
  unfold asserted
  rw [Bool.eq_iff_iff, List.any_eq_true, List.any_eq_true]
  refine exists_congr fun g => and_congr_right fun hg => ?_
  rw [List.any_eq_true, List.any_eq_true]
  refine exists_congr fun k => and_congr_right fun hk => ?_
  have hplace := List.all_eq_true.1 (List.all_eq_true.1 hf g hg) k hk
  simp only [Bool.and_eq_true, Bool.or_eq_true, decide_eq_true_eq] at hplace
  obtain ⟨hword, hen⟩ := hplace
  rw [word_wr_other hword]
  cases hen' : g.en with
  | none => rfl
  | some en =>
    have hne : f.key ≠ (enField (en + g.stride * k)).key := by simpa [hen'] using hen
    simp only [Eng.rd_wr_other e x hne]

theorem asserted_putService (e : Eng) (v : Nat) (b : Bool) (w : Nat) : asserted (putService e v b) w = asserted e w := by
  unfold putService
  rw [wrq_eq, asserted_wr (by decide), asserted_wr (by decide)]

/-! ### Vectors in service -/

theorem inService_putService (e : Eng) {v : Nat} (b : Bool) (hv : v < 64) : inService (putService e v b) v = b := by
  have hpair (x : Nat) : (e.wrq HOST_IRQ_INSVC x).rdq HOST_IRQ_INSVC = x % 2 ^ 64 := by
    rw [Eng.rdq, wrq_eq, Eng.rd_wr_other _ _ (by decide : HOST_IRQ_INSVC.hi.key ≠ HOST_IRQ_INSVC.lo.key), Eng.rd_wr, Eng.rd_wr]
    simp only [HOST_IRQ_INSVC, HOST_IRQ_INSVC_LO_VEC, HOST_IRQ_INSVC_HI_VEC, fld]
    omega
  unfold inService putService
  rw [hpair, natBit_mod _ _ _ hv, natBit_putNatBit]

theorem putService_rd_cfg (e : Eng) (v : Nat) (b : Bool) {g : Fld} (hlo : HOST_IRQ_INSVC_LO_VEC.key ≠ g.key)
    (hhi : HOST_IRQ_INSVC_HI_VEC.key ≠ g.key) : (putService e v b).rd g = e.rd g := by
  unfold putService
  rw [wrq_eq]
  exact (Eng.rd_wr_other _ _ hhi).trans (Eng.rd_wr_other _ _ hlo)

/-! ### Messages (R337) -/

/-- What MSI-X does for a vector that is asserted and not in service. -/
theorem irqMessage_msix {e : Eng} {v : Nat} (hstate : e.rd CS_PM_STATE ≠ 3) (hidle : inService e v = false) (hmsix : e.rd CS_MSIX_EN ≠ 0) :
    irqMessage v e = if e.on CS_MSIX_FMASK || natBit e.vmask v then { e with pba := setNatBit e.pba v }
      else putService (e.send (.msix v)) v true := by
  have hmode : irqMode e = .msix := by simp [irqMode, Eng.on, hmsix]
  simp [irqMessage, hstate, hidle, hmode]

theorem irqMessage_sent {e : Eng} {v : Nat} (hstate : e.rd CS_PM_STATE ≠ 3) (hidle : inService e v = false) (hmsix : e.rd CS_MSIX_EN ≠ 0)
    (hopen : e.rd CS_MSIX_FMASK = 0) (hmask : natBit e.vmask v = false) : irqMessage v e = putService (e.send (.msix v)) v true := by
  rw [irqMessage_msix hstate hidle hmsix]
  simp [Eng.on, hopen, hmask]

theorem irqMessage_masked {e : Eng} {v : Nat} (hstate : e.rd CS_PM_STATE ≠ 3) (hidle : inService e v = false) (hmsix : e.rd CS_MSIX_EN ≠ 0)
    (hmask : natBit e.vmask v = true) : irqMessage v e = { e with pba := setNatBit e.pba v } := by
  rw [irqMessage_msix hstate hidle hmsix]
  simp [hmask]

theorem irqMessage_vmask (v : Nat) (e : Eng) : (irqMessage v e).vmask = e.vmask := by
  have h := congrArg Eng.vmask (irqMessage_hush v e)
  exact h

/-- Only a masked vector has its pending bit set. -/
theorem irqMessage_pba {e : Eng} {v : Nat} (hopen : e.rd CS_MSIX_FMASK = 0) (hmask : natBit e.vmask v = false) :
    (irqMessage v e).pba = e.pba := by
  unfold irqMessage
  split
  · rfl
  split
  · rfl
  · simp [Eng.on, hopen, hmask]
    rfl
  · split <;> rfl

/-! ### IRQ_EOI and MSIX_UNMASK -/

theorem irqEoi_quiet {e : Eng} {v : Nat} (h : asserted e v = false) : irqEoi v e = putService e v false := by
  simp [irqEoi, asserted_putService, h]

theorem irqEoi_asserted {e : Eng} {v : Nat} (h : asserted e v = true) : irqEoi v e = irqMessage v (putService e v false) := by
  simp [irqEoi, asserted_putService, h]

theorem irqEoi_rd (v : Nat) (e : Eng) {g : Fld} (hg : Still g) : (irqEoi v e).rd g = e.rd g := by
  unfold irqEoi
  extract_lets e1
  split
  · rw [irqMessage_rd _ _ hg, putService_rd _ _ _ hg]
  · exact putService_rd _ _ _ hg

theorem msixUnmask_rd (v : Nat) (mask : Bool) (e : Eng) {g : Fld} (hg : Still g) : (msixUnmask v mask e).rd g = e.rd g := by
  unfold msixUnmask pbaRelease
  extract_lets e1 e2
  repeat' split
  · rfl
  · exact irqMessage_rd v e2 hg
  · rfl
  · rfl


theorem msixUnmask_masks (v : Nat) (e : Eng) : msixUnmask v true e = { e with vmask := setNatBit e.vmask v } := rfl

theorem msixUnmask_unmasks (v : Nat) (e : Eng) : msixUnmask v false e = pbaRelease { e with vmask := clrNatBit e.vmask v } v := rfl

theorem pbaRelease_vmask (e : Eng) (v : Nat) : (pbaRelease e v).vmask = e.vmask := by
  unfold pbaRelease
  extract_lets e1
  repeat' split
  · exact irqMessage_vmask v e1
  · rfl
  · rfl

/-- A vector whose pending bit is clear sends nothing when it is unmasked. -/
theorem pbaRelease_idle {e : Eng} {v : Nat} (hpend : natBit e.pba v = false) : pbaRelease e v = e := by
  simp [pbaRelease, hpend]

/-- The engine once the pending bit of a vector is clear. -/
def unpended (e : Eng) (v : Nat) : Eng := { e with pba := clrNatBit e.pba v }

theorem pbaRelease_pending {e : Eng} {v : Nat} (hpend : natBit e.pba v = true) (hopen : e.rd CS_MSIX_FMASK = 0)
    (hmask : natBit e.vmask v = false) : pbaRelease e v =
      if asserted e v then irqMessage v (unpended e v) else unpended e v := by
  simp [pbaRelease, hpend, Eng.on, hopen, hmask]
  rfl

/-- Unmasking a pending vector clears its pending bit. -/
theorem pbaRelease_pba {e : Eng} {v : Nat} (hpend : natBit e.pba v = true) (hopen : e.rd CS_MSIX_FMASK = 0)
    (hmask : natBit e.vmask v = false) : natBit (pbaRelease e v).pba v = false := by
  rw [pbaRelease_pending hpend hopen hmask]
  split
  · rw [irqMessage_pba (e := unpended e v) hopen hmask]
    exact natBit_clrNatBit e.pba v
  · exact natBit_clrNatBit e.pba v

/-- A pending vector that is still asserted is sent when it is unmasked, and is then in service. -/
theorem pbaRelease_sent {e : Eng} {v : Nat} (hv : v < 64) (hpend : natBit e.pba v = true) (hopen : e.rd CS_MSIX_FMASK = 0)
    (hmask : natBit e.vmask v = false) (hasserted : asserted e v = true) (hstate : e.rd CS_PM_STATE ≠ 3) (hmsix : e.rd CS_MSIX_EN ≠ 0)
    (hidle : inService e v = false) : (pbaRelease e v).out = e.out ++ [.msix v] ∧ inService (pbaRelease e v) v = true := by
  rw [pbaRelease_pending hpend hopen hmask, if_pos hasserted, irqMessage_sent (e := unpended e v) hstate hidle hmsix hopen hmask]
  exact ⟨rfl, inService_putService _ true hv⟩

/-! ### The word of the event FIFO (R340, R341) -/

/-- The fields that show the word. -/
def wordKeys : List Nat := (List.range 8).map fun k => (HOST_EVQ_DATA_ITEM k).key

theorem evqShow_wrote (w : List Nat) (e : Eng) : OnlyWrote wordKeys e (evqShow w e) := by
  unfold evqShow
  refine .foldl _ _ (fun a k hk => ?_) e
  exact (OnlyWrote.refl _ a).wr _ (List.mem_map_of_mem hk)

theorem evqShow_evq (w : List Nat) (e : Eng) : (evqShow w e).evq = e.evq := by
  obtain ⟨hrest, -⟩ := evqShow_wrote w e
  have hevq := congrArg Eng.evq hrest
  exact hevq

theorem evqShow_rd (w : List Nat) (e : Eng) {k : Nat} (hk : k < 8) : (evqShow w e).rd (HOST_EVQ_DATA_ITEM k) = w.getD k 0 % 2 ^ 32 := by
  refine foldl_once (fun a : Eng => a.rd (HOST_EVQ_DATA_ITEM k)) (fun _ => w.getD k 0 % 2 ^ 32) _ List.nodup_range (List.mem_range.2 hk)
    (fun a => Eng.rd_wr ..) (fun a j hj hne => Eng.rd_wr_other _ _ ?_) e
  have hj8 := List.mem_range.1 hj
  simp only [HOST_EVQ_DATA_ITEM, fld]
  omega

theorem evqWord_item {items : List Nat} {k : Nat} (hk : k < 8) (hlen : k < items.length) : (evqWord items).getD k 0 = items.getD k 0 := by
  have hsome : items.length ≠ 0 := by omega
  rw [evqWord, if_neg hsome]
  split
  · simp [List.getD_eq_getElem?_getD, hk]
  · simp [List.getD_eq_getElem?_getD, List.getElem?_append, hlen]

/-- The last item of a short word tells how many items it holds. -/
theorem evqWord_last {items : List Nat} (hsome : items ≠ []) (hlen : items.length < 8) :
    (evqWord items).getD 7 0 = 2 * 2 ^ 29 + 4 * items.length := by
  have hpos : items.length ≠ 0 := by simpa using hsome
  have hfill : (items ++ List.replicate (7 - items.length) (2 ^ 29)).length = 7 := by
    simp
    omega
  rw [evqWord, if_neg (by omega), if_neg hpos, List.getD_append_right _ _ _ _ hfill.le, hfill]
  rfl

theorem evqRead_latched {e : Eng} (h : e.evq.latched ≠ none) : evqRead e = e := by
  obtain ⟨w, hw⟩ := Option.ne_none_iff_exists'.1 h
  simp [evqRead, hw]

theorem evqRead_empty {e : Eng} (hlatch : e.evq.latched = none) (hitems : e.evq.items = []) :
    evqRead e = evqShow (List.replicate 8 0) e := by
  simp [evqRead, hlatch, hitems, evqWord]

theorem evqRead_items {e : Eng} (hlatch : e.evq.latched = none) (hitems : e.evq.items ≠ []) :
    evqRead e = (evqShow (evqWord e.evq.items) { e with evq := { e.evq with latched := some (evqWord e.evq.items) } }).wr
      HOST_EVQ_STAT_LATCHED 1 := by
  simp [evqRead, hlatch, hitems]

theorem evqPop_unlatched {e : Eng} (h : e.evq.latched = none) : evqPop e = e := by
  simp [evqPop, h]

/-- The event FIFO after its latched word `w` is popped. -/
def evqPopped (w : List Nat) (e : Eng) : Eng :=
  { e with evq := { items := e.evq.items.drop (wordItems w) ++ (if e.evq.lost = 0 then [] else [5 * 2 ^ 29 + e.evq.lost]) } }

theorem evqPop_word {e : Eng} {w : List Nat} (h : e.evq.latched = some w) :
    evqPop e = evqCount (evqShow [] ((evqPopped w e).wr HOST_EVQ_STAT_LATCHED 0)) := by
  simp only [evqPop, h, evqPopped]
  split <;> simp

end Machine
end Sys2Proof
end

section
/-!
SUPPORT. The obligation O47.
-/
namespace Sys2Proof
namespace Machine

/-! ### Commands whose reports write no other field -/

/-- A command that changes the engine as `f` does, where `f` leaves the fields outside `ks` to the reports. -/
theorem completes_onEng {c : Instr} {s : State} {f : Eng → Eng} {ks : List Nat} {P : State → Prop} (hexec : exec c s = onEng s f) (hup : s.up)
    (hkept : ∀ g : Fld, g.key ∉ ks → Still g → (f s.eng).rd g = s.eng.rd g)
    (hP : Kept ks s { s with eng := { f s.eng with wq := [] } } → P { s with eng := { f s.eng with wq := [] } }) : Completes c s P :=
  ⟨_, hexec.trans (onEng_up s f hup), rfl, hP (kept_withEng hkept)⟩

theorem exec_irqEoi (s : State) {v : Nat} (hv : v < 64) : exec (.irqEoi v) s = onEng s (irqEoi v) := by
  show onEng s (irqEoi (v % 64)) = _
  rw [Nat.mod_eq_of_lt hv]

theorem exec_msixUnmask (s : State) {v : Nat} (mask : Bool) (hv : v < 64) : exec (.msixUnmask v mask) s = onEng s (msixUnmask v mask) := by
  show onEng s (msixUnmask (v % 64) mask) = _
  rw [Nat.mod_eq_of_lt hv]

/-- IRQ_EOI writes no field but those of the reports. -/
theorem irqEoi_completes {s : State} {v : Nat} {P : State → Prop} (hup : s.up) (hv : v < 64)
    (hP : Kept [] s { s with eng := { irqEoi v s.eng with wq := [] } } → P { s with eng := { irqEoi v s.eng with wq := [] } }) :
    Completes (.irqEoi v) s P :=
  completes_onEng (exec_irqEoi s hv) hup (fun _ _ hg => irqEoi_rd v s.eng hg) hP

theorem msixUnmask_completes {s : State} {v : Nat} {mask : Bool} {P : State → Prop} (hup : s.up) (hv : v < 64)
    (hP : Kept [] s { s with eng := { msixUnmask v mask s.eng with wq := [] } } → P { s with eng := { msixUnmask v mask s.eng with wq := [] } }) :
    Completes (.msixUnmask v mask) s P :=
  completes_onEng (exec_msixUnmask s mask hv) hup (fun _ _ hg => msixUnmask_rd v mask s.eng hg) hP

/-- A vector that is asserted after its end of interrupt is sent again, or is pending while it is masked (R337). -/
theorem irqEoi_ends (s : State) {v : Nat} (hup : s.up) (hv : v < 64) :
    (asserted s.eng v = false → Completes (.irqEoi v) s fun t => inService t.eng v = false ∧ t.eng.out = s.eng.out ∧ Kept [] s t) ∧
      (asserted s.eng v = true → s.rd CS_PM_STATE ≠ 3 → s.rd CS_MSIX_EN ≠ 0 →
        (s.rd CS_MSIX_FMASK = 0 → natBit s.eng.vmask v = false → Completes (.irqEoi v) s fun t =>
          inService t.eng v = true ∧ t.eng.out = s.eng.out ++ [.msix v] ∧ Kept [] s t) ∧
        (natBit s.eng.vmask v = true → Completes (.irqEoi v) s fun t =>
          inService t.eng v = false ∧ t.eng.out = s.eng.out ∧ natBit t.eng.pba v = true ∧ Kept [] s t)) := by
  have hcfg {g : Fld} (hlo : HOST_IRQ_INSVC_LO_VEC.key ≠ g.key) (hhi : HOST_IRQ_INSVC_HI_VEC.key ≠ g.key) :
      (putService s.eng v false).rd g = s.rd g := putService_rd_cfg s.eng v false hlo hhi
  have hidle : inService (putService s.eng v false) v = false := inService_putService s.eng false hv
  refine ⟨fun hquiet => irqEoi_completes hup hv fun hkept => ?_, fun hasserted hstate hmsix =>
    ⟨fun hopen hmask => irqEoi_completes hup hv fun hkept => ?_, fun hmask => irqEoi_completes hup hv fun hkept => ?_⟩⟩
  · rw [irqEoi_quiet hquiet] at hkept ⊢
    exact ⟨hidle, rfl, hkept⟩
  · have hsent : irqEoi v s.eng = putService ((putService s.eng v false).send (.msix v)) v true := by
      rw [irqEoi_asserted hasserted, irqMessage_sent ?_ hidle ?_ ?_ hmask]
      · rwa [hcfg (by decide) (by decide)]
      · rwa [hcfg (by decide) (by decide)]
      · rwa [hcfg (by decide) (by decide)]
    rw [hsent] at hkept ⊢
    exact ⟨inService_putService _ true hv, rfl, hkept⟩
  · have hpends : irqEoi v s.eng = { putService s.eng v false with pba := setNatBit s.eng.pba v } := by
      rw [irqEoi_asserted hasserted, irqMessage_masked ?_ hidle ?_ hmask]
      · rfl
      · rwa [hcfg (by decide) (by decide)]
      · rwa [hcfg (by decide) (by decide)]
    rw [hpends] at hkept ⊢
    exact ⟨hidle, rfl, natBit_setNatBit s.eng.pba v, hkept⟩

/-- Unmasking a vector releases its pending message (R337). -/
theorem msixUnmask_releases (s : State) {v : Nat} (hup : s.up) (hv : v < 64) :
    Completes (.msixUnmask v false) s fun t => natBit t.eng.vmask v = false ∧ Kept [] s t ∧
      (natBit s.eng.pba v = true → s.rd CS_MSIX_FMASK = 0 → natBit t.eng.pba v = false ∧
        (asserted s.eng v = true → s.rd CS_PM_STATE ≠ 3 → s.rd CS_MSIX_EN ≠ 0 → inService s.eng v = false →
          t.eng.out = s.eng.out ++ [.msix v] ∧ inService t.eng v = true)) ∧
      (natBit s.eng.pba v = false → t.eng.pba = s.eng.pba ∧ t.eng.out = s.eng.out) := by
  have hmask : natBit (clrNatBit s.eng.vmask v) v = false := natBit_clrNatBit s.eng.vmask v
  refine msixUnmask_completes hup hv fun hkept => ?_
  rw [msixUnmask_unmasks] at hkept ⊢
  refine ⟨?_, hkept, fun hpend hopen => ⟨pbaRelease_pba hpend hopen hmask, fun hasserted hstate hmsix hidle => ?_⟩, fun hpend => ?_⟩
  · show natBit (pbaRelease _ v).vmask v = false
    rw [pbaRelease_vmask]
    exact hmask
  · exact pbaRelease_sent hv hpend hopen hmask hasserted hstate hmsix hidle
  · rw [pbaRelease_idle (e := { s.eng with vmask := clrNatBit s.eng.vmask v }) hpend]
    exact ⟨rfl, rfl⟩

/-- A read of the event FIFO without a latched word shows and latches the word of the oldest items (R340). -/
theorem evqRead_shows (s : State) (hup : s.up) (hlatch : s.eng.evq.latched = none) (hitems : s.eng.evq.items ≠ []) :
    Completes .evqRead s fun t =>
      t.eng.evq.latched = some (evqWord s.eng.evq.items) ∧ t.eng.evq.items = s.eng.evq.items ∧ t.rd HOST_EVQ_STAT_LATCHED = 1 ∧
      (∀ k < 8, k < s.eng.evq.items.length → t.rd (HOST_EVQ_DATA_ITEM k) = s.eng.evq.items.getD k 0 % 2 ^ 32) ∧
      (s.eng.evq.items.length < 8 → t.rd (HOST_EVQ_DATA_ITEM 7) = 2 * 2 ^ 29 + 4 * s.eng.evq.items.length) ∧
      Kept (HOST_EVQ_STAT_LATCHED.key :: wordKeys) s t := by
  let w := evqWord s.eng.evq.items
  let e1 : Eng := { s.eng with evq := { s.eng.evq with latched := some w } }
  have hread : evqRead s.eng = (evqShow w e1).wr HOST_EVQ_STAT_LATCHED 1 := evqRead_items hlatch hitems
  obtain ⟨-, hrd⟩ := evqShow_wrote w e1
  have hevq : (evqRead s.eng).evq = e1.evq := by
    rw [hread]
    exact evqShow_evq w e1
  have hitem {k : Nat} (hk : k < 8) : (evqRead s.eng).rd (HOST_EVQ_DATA_ITEM k) = w.getD k 0 % 2 ^ 32 := by
    rw [hread, Eng.rd_wr_other _ _ ?_, evqShow_rd w e1 hk]
    simp only [HOST_EVQ_STAT_LATCHED, HOST_EVQ_DATA_ITEM, fld]
    omega
  refine completes_onEng (f := evqRead) rfl hup (fun g hg _ => ?_) fun hkept => ⟨?_, ?_, ?_, fun k hk hlen => ?_, fun hlen => ?_, hkept⟩
  · rw [List.mem_cons, not_or] at hg
    rw [hread, Eng.rd_wr_other _ _ (Ne.symm hg.1)]
    exact hrd g hg.2
  · show (evqRead s.eng).evq.latched = _
    rw [hevq]
  · show (evqRead s.eng).evq.items = _
    rw [hevq]
  · rw [rd_ended, hread, Eng.rd_wr]
    rfl
  · rw [rd_ended, hitem hk, evqWord_item hk hlen]
  · rw [rd_ended, hitem (by decide), evqWord_last hitems hlen]
    omega

/-- A pop of the event FIFO removes the items of the latched word (R341). -/
theorem evqPop_removes (s : State) {w : List Nat} (hup : s.up) (hlatch : s.eng.evq.latched = some w) : Completes .evqPop s fun t =>
    t.eng.evq.latched = none ∧ t.eng.evq.lost = 0 ∧ t.rd HOST_EVQ_STAT_LATCHED = 0 ∧
    t.eng.evq.items = s.eng.evq.items.drop (wordItems w) ++ (if s.eng.evq.lost = 0 then [] else [5 * 2 ^ 29 + s.eng.evq.lost]) ∧
    t.rd HOST_EVQ_STAT_COUNT = t.eng.evq.items.length % 2 ^ 13 ∧ Kept (HOST_EVQ_STAT_LATCHED.key :: wordKeys) s t := by
  let e1 := (evqPopped w s.eng).wr HOST_EVQ_STAT_LATCHED 0
  have hpop : evqPop s.eng = evqCount (evqShow [] e1) := evqPop_word hlatch
  obtain ⟨-, hrd⟩ := evqShow_wrote [] e1
  have hevq : (evqPop s.eng).evq = (evqPopped w s.eng).evq := by
    rw [hpop]
    exact evqShow_evq [] e1
  have hbase {g : Fld} (hcount : HOST_EVQ_STAT_COUNT.key ≠ g.key) (hword : g.key ∉ wordKeys) : (evqPop s.eng).rd g = e1.rd g := by
    rw [hpop, evqCount, Eng.rd_wr_other _ _ hcount]
    exact hrd g hword
  refine completes_onEng (f := evqPop) rfl hup (fun g hg hstill => ?_) fun hkept => ⟨?_, ?_, ?_, ?_, ?_, hkept⟩
  · rw [List.mem_cons, not_or] at hg
    rw [hbase (still_ne hstill (by simp [reportKeys])) hg.2]
    exact Eng.rd_wr_other _ _ (Ne.symm hg.1)
  · exact congrArg EvqSt.latched hevq
  · exact congrArg EvqSt.lost hevq
  · rw [rd_ended, hbase (by decide) (by decide), Eng.rd_wr]
    rfl
  · exact congrArg EvqSt.items hevq
  · rw [rd_ended, hpop, evqCount, Eng.rd_wr]
    rfl

end Machine
end Sys2Proof

open Sys2Proof Sys2Proof.Machine

/-- Settles O47, by the cases of a message (`irqEoi_ends`, `msixUnmask_releases`) and of the latched word (`evqRead_shows`,
`evqPop_removes`). -/
theorem interruptsAndEventFifo : Obligations.InterruptsAndEventFifo := by
  unfold Obligations.InterruptsAndEventFifo
  refine fun s hup => ⟨fun v hv => ?_, fun hlatch => ?_, fun hlatch hitems => ?_, evqRead_shows s hup, fun hlatch => ?_,
    fun w hlatch => evqPop_removes s hup hlatch⟩
  · obtain ⟨hquiet, hagain⟩ := irqEoi_ends s hup hv
    refine ⟨hquiet, hagain, msixUnmask_completes hup hv fun hkept => ?_, msixUnmask_releases s hup hv⟩
    exact ⟨natBit_setNatBit s.eng.vmask v, rfl, rfl, hkept⟩
  · have hread : exec .evqRead s = onEng s evqRead := rfl
    rw [onEng_up s evqRead hup, evqRead_latched hlatch] at hread
    exact ⟨_, hread, rfl, (OnlyWrote.refl [] s.eng).only⟩
  · have hread : exec .evqRead s = onEng s evqRead := rfl
    rw [onEng_up s evqRead hup, evqRead_empty hlatch hitems] at hread
    refine ⟨_, hread, rfl, fun k hk => ?_, (evqShow_wrote _ s.eng).only⟩
    rw [rd_ended, evqShow_rd _ s.eng hk]
    rw [List.getD_replicate _ hk, Nat.zero_mod]
  · have hpop : exec .evqPop s = onEng s evqPop := rfl
    rw [onEng_up s evqPop hup, evqPop_unlatched hlatch] at hpop
    exact ⟨_, hpop, rfl, (OnlyWrote.refl [] s.eng).only⟩

end

section
/-!
SUPPORT. What the service of a request leaves of the latency registers of the ports (R282, R283).
-/
namespace Sys2Proof
namespace Machine

/-! ### The latency registers -/

/-- A register of chapter 12 that holds a port's latency target, count or maximum. -/
def QosField (g : Fld) : Prop := 8 * 0x904000 ≤ g.key ∧ g.key < 8 * 0x904080

/-- A field outside the latency registers. -/
def NoQos (f : Fld) : Prop := f.key < 8 * 0x904000 ∨ 8 * 0x904080 ≤ f.key

theorem noQos_fld {off lsb width reset : Nat} (h : off + 4 ≤ 0x904000 ∧ lsb < 32 ∨ 0x904080 ≤ off) : NoQos (fld off lsb width reset) := by
  simp only [NoQos, fld]
  omega

theorem qosField_target (p : Nat) : QosField (MEM_QOS_TARGET_NS p) := by
  simp only [QosField, MEM_QOS_TARGET_NS, fld]
  omega

theorem qosField_late (p : Nat) : QosField (MEM_QOS_LATE_CNT p) := by
  simp only [QosField, MEM_QOS_LATE_CNT, fld]
  omega

theorem qosField_max (p : Nat) : QosField (MEM_QOS_MAX_NS p) := by
  simp only [QosField, MEM_QOS_MAX_NS, fld]
  omega

theorem NoQos.ne {f g : Fld} (hf : NoQos f) (hg : QosField g) : f.key ≠ g.key := by
  simp only [NoQos, QosField] at hf hg
  omega

theorem QosField.still {g : Fld} (hg : QosField g) : Still g := by
  have hout : ∀ k ∈ reportKeys, k < 8 * 0x904000 ∨ 8 * 0x904080 ≤ k := by decide
  obtain ⟨hlow, hhigh⟩ := hg
  intro hk
  have hrange := hout _ hk
  omega

/-- Between two states of the engine no latency register changes. -/
structure QosKept (e e' : Eng) : Prop where
  rd : ∀ g : Fld, QosField g → e'.rd g = e.rd g

namespace QosKept

variable {e e' e'' : Eng}

theorem refl (e : Eng) : QosKept e e := ⟨fun _ _ => rfl⟩

theorem trans (h : QosKept e e') (h' : QosKept e' e'') : QosKept e e'' := ⟨fun g hg => (h'.rd g hg).trans (h.rd g hg)⟩

/-- A step that writes no register. -/
theorem of_regs (hregs : e'.regs = e.regs) : QosKept e e' := ⟨fun g _ => by rw [Eng.rd, hregs, ← Eng.rd]⟩

theorem with_mc (h : QosKept e e') (x : MemSt) : QosKept e { e' with mc := x } := h.trans (of_regs rfl)

theorem modStk (h : QosKept e e') (s : Nat) (f : StackSt → StackSt) : QosKept e (e'.modStk s f) := h.with_mc _

theorem emit (h : QosKept e e') (o : MemOp) : QosKept e (e'.emit o) := h.trans (of_regs rfl)

theorem wr (h : QosKept e e') {f : Fld} (v : Nat) (hf : NoQos f := by exact noQos_fld (by omega)) : QosKept e (e'.wr f v) :=
  ⟨fun g hg => (Eng.rd_wr_other e' v (hf.ne hg)).trans (h.rd g hg)⟩

theorem raise (h : QosKept e e') {f : Fld} (i : Nat) (hf : NoQos f := by exact noQos_fld (by omega)) : QosKept e (e'.raise f i) :=
  ⟨fun g hg => (raise_rd e' f i (hf.ne hg) hg.still).trans (h.rd g hg)⟩

theorem raisePost (h : QosKept e e') {f : Fld} (i : Nat) (d : List Byte) (hf : NoQos f := by exact noQos_fld (by omega)) :
    QosKept e (e'.raisePost f i d) :=
  ⟨fun g hg => (raisePost_rd e' f i d (hf.ne hg) hg.still).trans (h.rd g hg)⟩

theorem postCur (h : QosKept e e') (c v : Nat) (d : List Byte) : QosKept e (e'.postCur c v d) :=
  ⟨fun g hg => (postCur_rd e' c v d hg.still).trans (h.rd g hg)⟩

theorem irqMessage (h : QosKept e e') (v : Nat) : QosKept e (Machine.irqMessage v e') :=
  ⟨fun g hg => (irqMessage_rd v e' hg.still).trans (h.rd g hg)⟩

theorem foldl {α : Type} (f : Eng → α → Eng) (l : List α) (h : ∀ e a, QosKept e (f e a)) (e : Eng) : QosKept e (l.foldl f e) :=
  List.foldlRecOn l f (motive := QosKept e) (refl e) fun b hb a _ => hb.trans (h b a)

theorem ite {c : Prop} [Decidable c] (h : QosKept e e') (h' : QosKept e e'') : QosKept e (if c then e' else e'') := by
  split
  · exact h
  · exact h'

end QosKept

/-! ### The rows and queues of a stack -/

theorem stackHeld_qos (line : Nat) (e : Eng) : QosKept e (stackHeld line e) := .ite (.refl e) (.with_mc (.wr (.refl e) _) _)

theorem trqPush_qos (s bank row : Nat) (counted : Bool) (e : Eng) : QosKept e (trqPush s bank row counted e) := by
  unfold trqPush
  extract_lets k e1
  have h1 : QosKept e e1 := .modStk (.refl e) _ _
  exact .ite (.refl e) (.ite (.raise (.wr (h1.modStk _ _) _) 0) h1)

theorem rowCount_qos (s bank row : Nat) (e : Eng) : QosKept e (rowCount s bank row e) := by
  have hset (f : StackSt → StackSt) : QosKept e (e.modStk s f) := .modStk (.refl e) _ _
  unfold rowCount
  extract_lets tab mine old
  split
  exact .ite ((hset _).trans (trqPush_qos _ _ _ _ _)) (hset _)

theorem rowDraw_qos (s bank row : Nat) (e : Eng) : QosKept e (rowDraw s bank row e) := by
  unfold rowDraw
  extract_lets e1
  have h1 : QosKept e e1 := .of_regs rfl
  exact .ite ((h1.wr _).trans (trqPush_qos _ _ _ _ _)) h1

theorem activate_qos (port line : Nat) (e : Eng) : QosKept e (activate port line e) :=
  .ite (.ite (rowCount_qos _ _ _ e) (.refl e)) (.ite (rowDraw_qos _ _ _ e) (.refl e))

theorem rowTouch_qos (line : Nat) (e : Eng) : QosKept e (rowTouch line e) := .modStk (.refl e) _ _

theorem showFab_qos (e : Eng) : QosKept e (showFab e) := .wr (.foldl _ _ (fun a _ => .wr (.wr (.refl a) _) _) e) _

/-! ### A retired position (R255, R273, R276) -/

theorem mapSave_qos (e : Eng) : QosKept e (mapSave e) := .ite (.of_regs rfl) (.of_regs rfl)

theorem guarCheck_qos (e : Eng) : QosKept e (guarCheck e) := by
  have hlost (a : Eng) : QosKept a (guarLost a) := .raise (.wr (.refl a) _) _
  have hshow : QosKept e (guarShow e) := .wr (.wr (.wr (.wr (.wr (.wr (.refl e) _) _) _) _) _) _
  unfold guarCheck
  extract_lets e1 c e2 was is lost e3
  have h2 : QosKept e e2 := hshow.trans (.of_regs rfl)
  have h3 : QosKept e e3 := .ite (h2.trans (hlost e2)) h2
  exact .ite (h3.raise _) h3

theorem marginCheck_qos (e : Eng) : QosKept e (marginCheck e) := by
  unfold marginCheck
  extract_lets n c e1
  have h1 : QosKept e e1 := .with_mc (.refl e) _
  exact .trans (.ite (.ite (h1.irqMessage 3) (h1.raise 0)) h1) (guarCheck_qos _)

theorem migrate_qos (s p : Nat) (e : Eng) : QosKept e (migrate s p e) := by
  have hset (st : Nat) : QosKept e (setPos s p st e) := .wr (.refl e) _
  unfold migrate
  split
  · exact .modStk (.wr (.wr (.wr (hset 3) _) _) _) _ _
  · exact .trans (.raise (.modStk (.wr (hset 4) _) _ _) 0) (mapSave_qos _)

theorem showInv_qos {e e' : Eng} (h : QosKept e e') : QosKept e (showInv e') := .wr (.wr h _) _

theorem retire_qos (s p : Nat) (e : Eng) : QosKept e (retire s p e) := by
  unfold retire
  extract_lets st k ownSweep e1 e2 e3 e4
  split
  case isTrue => exact .refl e
  case isFalse =>
    have h1 : QosKept e e1 := .ite (.wr (.refl e) _) (.refl e)
    have h3 : QosKept e e3 := showInv_qos (.with_mc (h1.modStk _ _) _)
    have hwait : QosKept e3 ((setPos s p 3 e3).modStk s fun q => { q with waiting := q.waiting ++ [p] }) := .modStk (.wr (.refl e3) _) _ _
    have h4 : QosKept e e4 := h3.trans (.ite (.ite hwait (migrate_qos s p e3)) (migrate_qos s p e3))
    exact (h4.raisePost 0 _).trans (marginCheck_qos _)

theorem autoRetire_qos (s : Nat) (also : List Nat) (e : Eng) : QosKept e (autoRetire s also e) :=
  .ite (.refl e) (.foldl _ _ (fun a p => retire_qos s p a) e)

/-! ### A line that is read (R261, R268, R270, R272) -/

theorem invNote_qos (line : Nat) (e : Eng) (p : Nat) : QosKept e (invNote line e p) := by
  have hshown (x : MemSt) : QosKept e (showInv { e with mc := x }) := showInv_qos (.with_mc (.refl e) x)
  unfold invNote
  extract_lets same new
  refine .ite (.with_mc (.refl e) _) (.ite (hshown _) ?_)
  split
  · exact hshown _
  · exact .raise (.wr (.refl e) _) 0

theorem ceLog_qos (line port pos kind : Nat) (e : Eng) : QosKept e (ceLog line port pos kind e) := by
  unfold ceLog
  extract_lets w x e1 sec used
  have h1 : QosKept e e1 := .wr (.wr (.wr (.wr (.wr (.wr (.refl e) _) _) _) _) _) _
  exact .ite (.postCur (h1.with_mc _) _ _ _) (h1.wr _)

theorem ceNote_qos (line port : Nat) (lr : LineRead) (e : Eng) : QosKept e (ceNote line port lr e) := by
  unfold ceNote
  extract_lets d e1 c e2
  have h1 : QosKept e e1 := .wr (.refl e) _
  have h2 : QosKept e e2 := .ite (.raise (h1.with_mc _) 0) (h1.with_mc _)
  split
  · exact h2.trans (ceLog_qos _ _ _ _ _)
  · exact .ite (h2.trans (ceLog_qos _ _ _ _ _)) h2

theorem readNote_qos (line port src : Nat) (queue : Bool) (lr : LineRead) (e : Eng) : QosKept e (readNote line port src queue lr e) := by
  have hcharge (s : Nat) (cnt : Nat → Nat → Fld) (hcnt : ∀ s r, NoQos (cnt s r)) (l : List Nat) (a : Eng) :
      QosKept a (l.foldl (charge s cnt) a) := .foldl _ _ (fun b _ => .wr (.wr (.refl b) _ (hcnt _ _)) _) a
  unfold readNote
  extract_lets s e1 e2 e3 e4 e5 e6 c e7
  have h1 : QosKept e e1 := .foldl _ _ (fun a p => .wr (.refl a) _) e
  have h2 : QosKept e e2 := h1.trans (hcharge _ _ (fun _ _ => noQos_fld (by omega)) _ e1)
  have h3 : QosKept e e3 := h2.trans (hcharge _ _ (fun _ _ => noQos_fld (by omega)) _ e2)
  have h4 : QosKept e e4 := .ite (h3.trans (hcharge _ _ (fun _ _ => noQos_fld (by omega)) _ e3)) h3
  have h5 : QosKept e e5 := .ite (h4.trans (ceNote_qos line port lr e4)) h4
  have h6 : QosKept e e6 := h5.trans (.foldl _ _ (invNote_qos line) e5)
  have h7 : QosKept e e7 := .ite (h6.with_mc _) h6
  exact h7.trans (autoRetire_qos _ _ e7)

theorem poisonTold_qos (port want pois : Nat) (e : Eng) : QosKept e (poisonTold port want pois e) := by
  have hcount : QosKept e (e.addSat MEM_ERR_PRD_CNT_CNT 1) := .wr (.refl e) _
  exact .ite (hcount.raisePost 0 []) (.ite (.refl e) (hcount.raise 0))

theorem portRead_qos (port line want : Nat) (resp : List SecResp) (e : Eng) (m : Mems) : QosKept e (portRead port line want resp e m) := by
  unfold portRead
  extract_lets lr pois bytes
  exact ((readNote_qos line port 0 true lr e).trans (poisonTold_qos port want pois _)).trans (.of_regs rfl)

/-! ### A line that is stored (R263 to R265) -/

theorem ueNote_qos (x : ConsItem) (e : Eng) : QosKept e (ueNote x e) := by
  unfold ueNote
  extract_lets e1
  have h1 : QosKept e e1 := .wr (.wr (.wr (.wr (.refl e) _) _) _) _
  exact .raisePost (.wr (.wr h1 _) _) 0 _

theorem emits_qos (o : Nat → MemOp) (l : List Nat) (e : Eng) : QosKept e (l.foldl (fun a k => a.emit (o k)) e) :=
  .foldl _ _ (fun a _ => .emit (.refl a) _) e

theorem storeLine_qos (line : Nat) (data : List Byte) (pois : Nat) (e : Eng) : QosKept e (storeLine line data pois e) := by
  unfold storeLine
  extract_lets bytes e0 e1
  have h0 : QosKept e e0 := .trans (.emit (.refl e) _) (stackHeld_qos line _)
  have h1 : QosKept e e1 := h0.trans (emits_qos _ _ e0)
  exact .ite h1 (h1.with_mc _)

theorem partialWrite_qos (port line mask : Nat) (data : List Byte) (resp : List SecResp) (e : Eng) (m : Mems) :
    QosKept e (partialWrite port line mask data resp e m) := by
  unfold partialWrite
  extract_lets lr merged covered hurt pois e1 bad e2
  have h1 : QosKept e e1 := readNote_qos line port 0 false lr e
  have h2 : QosKept e e2 := .ite (h1.trans (ueNote_qos _ e1)) h1
  exact h2.trans (storeLine_qos line merged pois e2)

theorem lineStored_qos (line : Nat) (e : Eng) : QosKept e (lineStored line e) :=
  .trans (.ite (.wr (.with_mc (.refl e) _) _) (.with_mc (.refl e) _)) (stackHeld_qos line _)

theorem fullWrite_qos (line : Nat) (data : List Byte) (e : Eng) : QosKept e (fullWrite line data e) :=
  .trans (.trans (.emit (.refl e) _) (emits_qos _ _ _)) (lineStored_qos _ _)

/-! ### Requests of the fabric (R259, R282) -/

theorem fabAccept_qos (e : Eng) : QosKept e (fabAccept e) := by
  unfold fabAccept
  extract_lets r
  refine .with_mc (?_ : QosKept e r.1) _
  refine List.foldlRecOn e.mc.stalled _ (motive := fun acc : Eng × List MemReq => QosKept e acc.1) (.refl e) fun acc hacc x _ => ?_
  dsimp only
  split
  · exact (hacc.with_mc _).trans (showFab_qos _)
  · exact hacc

/-- What the service of a request of port `p`, which takes `lat` ns, leaves in the latency registers (R283). -/
structure LatencyNoted (p lat : Nat) (e e' : Eng) : Prop where
  late : e'.rd (MEM_QOS_LATE_CNT p) =
    if e.rd (MEM_QOS_TARGET_NS p) ≤ lat then min (e.rd (MEM_QOS_LATE_CNT p) + 1) (2 ^ 32 - 1) else e.rd (MEM_QOS_LATE_CNT p)
  max : e'.rd (MEM_QOS_MAX_NS p) = max (e.rd (MEM_QOS_MAX_NS p)) (min lat (2 ^ 24 - 1)) % 2 ^ 24
  other : ∀ q < 6, q ≠ p → e'.rd (MEM_QOS_LATE_CNT q) = e.rd (MEM_QOS_LATE_CNT q) ∧ e'.rd (MEM_QOS_MAX_NS q) = e.rd (MEM_QOS_MAX_NS q)

namespace LatencyNoted

variable {p lat : Nat} {e e' e'' : Eng}

theorem after (hk : QosKept e e') (h : LatencyNoted p lat e' e'') : LatencyNoted p lat e e'' := by
  obtain ⟨hlate, hmax, hother⟩ := h
  rw [hk.rd _ (qosField_target p), hk.rd _ (qosField_late p)] at hlate
  rw [hk.rd _ (qosField_max p)] at hmax
  refine ⟨hlate, hmax, fun q hq hne => ?_⟩
  rw [← hk.rd _ (qosField_late q), ← hk.rd _ (qosField_max q)]
  exact hother q hq hne

theorem before (h : LatencyNoted p lat e e') (hk : QosKept e' e'') : LatencyNoted p lat e e'' := by
  obtain ⟨hlate, hmax, hother⟩ := h
  refine ⟨(hk.rd _ (qosField_late p)).trans hlate, (hk.rd _ (qosField_max p)).trans hmax, fun q hq hne => ?_⟩
  rw [hk.rd _ (qosField_late q), hk.rd _ (qosField_max q)]
  exact hother q hq hne

end LatencyNoted

theorem latencyNote_noted {p : Nat} (hp : p < 6) (lat : Nat) (e : Eng) : LatencyNoted p lat e (latencyNote p lat e) := by
  have hkeys {q : Nat} (hq : q < 6) : (MEM_QOS_MAX_NS p).key ≠ (MEM_QOS_LATE_CNT q).key ∧
      (q ≠ p → (MEM_QOS_LATE_CNT p).key ≠ (MEM_QOS_LATE_CNT q).key ∧ (MEM_QOS_MAX_NS p).key ≠ (MEM_QOS_MAX_NS q).key ∧
        (MEM_QOS_LATE_CNT p).key ≠ (MEM_QOS_MAX_NS q).key) := by
    simp only [MEM_QOS_MAX_NS, MEM_QOS_LATE_CNT, fld]
    omega
  have hown : (MEM_QOS_LATE_CNT p).key ≠ (MEM_QOS_MAX_NS p).key := by
    simp only [MEM_QOS_MAX_NS, MEM_QOS_LATE_CNT, fld]
    omega
  obtain ⟨hmaxLate, -⟩ := hkeys hp
  unfold latencyNote
  extract_lets e1
  have hlate : e1.rd (MEM_QOS_LATE_CNT p) = e.rd (MEM_QOS_LATE_CNT p) := Eng.rd_wr_other e _ hmaxLate
  have hmax : e1.rd (MEM_QOS_MAX_NS p) = max (e.rd (MEM_QOS_MAX_NS p)) (min lat (2 ^ 24 - 1)) % 2 ^ 24 := Eng.rd_wr ..
  have hother : ∀ q < 6, q ≠ p → e1.rd (MEM_QOS_LATE_CNT q) = e.rd (MEM_QOS_LATE_CNT q) ∧ e1.rd (MEM_QOS_MAX_NS q) = e.rd (MEM_QOS_MAX_NS q) :=
    fun q hq hne => by
      obtain ⟨hlate, hkeys⟩ := hkeys hq
      obtain ⟨-, hmax, -⟩ := hkeys hne
      exact ⟨Eng.rd_wr_other e _ hlate, Eng.rd_wr_other e _ hmax⟩
  split
  case isTrue hslow =>
    refine ⟨?_, ?_, fun q hq hne => ?_⟩
    · rw [if_pos hslow, addSat_eq, Eng.rd_wr, hlate]
      exact Nat.mod_eq_of_lt (lt_of_le_of_lt (Nat.min_le_right _ _) (show 2 ^ 32 - 1 < 2 ^ 32 by decide))
    · rw [addSat_eq, Eng.rd_wr_other _ _ hown, hmax]
    · obtain ⟨-, hkeys⟩ := hkeys hq
      obtain ⟨hlate, -, hcross⟩ := hkeys hne
      rw [addSat_eq, Eng.rd_wr_other _ _ hlate, Eng.rd_wr_other _ _ hcross]
      exact hother q hq hne
  case isFalse hfast =>
    refine ⟨?_, hmax, hother⟩
    rw [if_neg hfast, hlate]

/-- A service writes the latency registers once, whatever the request asks for. -/
theorem serve_noted (x : MemReq) (e : Eng) (m : Mems) (hp : x.port < 6) :
    LatencyNoted x.port (waited e x + x.lat) e (serve x e m) := by
  unfold serve
  extract_lets s hit u e1 e2 e3 c e4
  have h1 : QosKept e e1 := .trans (.trans (stackHeld_qos _ _) (.ite (activate_qos _ _ _) (.refl _))) (rowTouch_qos _ _)
  have h2 : QosKept e e2 := h1.modStk _ _
  have h3 : LatencyNoted x.port (waited e x + x.lat) e e3 := .after h2 (latencyNote_noted hp _ e2)
  have h4 : LatencyNoted x.port (waited e x + x.lat) e e4 := h3.before (.trans (.with_mc (.refl e3) _) (showFab_qos _))
  split
  · exact h4.before (portRead_qos _ _ _ _ _ _)
  · exact h4.before (.ite (fullWrite_qos _ _ _) (partialWrite_qos _ _ _ _ _ _ _))

/-! ### One request in an empty fabric -/

/-- The fields that show how many requests of each port are outstanding. -/
def fabKeys : List Nat :=
  MEM_FAB_STAT_SHARED_FREE.key :: (List.range 6).flatMap fun p => [(MEM_FAB_OUT_CUR p).key, (MEM_FAB_OUT_PEAK p).key]

theorem showFab_wrote (e : Eng) : OnlyWrote fabKeys e (showFab e) := by
  unfold showFab
  extract_lets e1
  have h1 : OnlyWrote fabKeys e e1 := by
    refine .foldl _ _ (fun a p hp => ?_) e
    have hmem {k : Nat} (hk : k ∈ [(MEM_FAB_OUT_CUR p).key, (MEM_FAB_OUT_PEAK p).key]) : k ∈ fabKeys :=
      List.mem_cons_of_mem _ (List.mem_flatMap.2 ⟨p, hp, hk⟩)
    exact ((OnlyWrote.refl _ a).wr _ (hmem (by simp))).wr _ (hmem (by simp))
  exact h1.wr _ List.mem_cons_self

theorem showFab_mc (e : Eng) : (showFab e).mc = e.mc := by
  obtain ⟨hrest, -⟩ := showFab_wrote e
  have hmc := congrArg Eng.mc hrest
  exact hmc

theorem showFab_now (e : Eng) : (showFab e).now = e.now := by
  obtain ⟨hrest, -⟩ := showFab_wrote e
  have hnow := congrArg Eng.now hrest
  exact hnow

/-- The engine with one request in an empty fabric, before the counts show it. -/
def requestIn (x : MemReq) (e : Eng) : Eng := { e with mc := { e.mc with stalled := [x], fab := [{ x with since := e.now }] } }

/-- The engine after an empty fabric accepts a request. -/
def oneAccepted (x : MemReq) (e : Eng) : Eng :=
  { showFab (requestIn x e) with mc := { (showFab (requestIn x e)).mc with stalled := [] } }

theorem portFree_with_mc (e : Eng) (x : MemSt) (p : Nat) : portFree { e with mc := x } p = portFree e p := rfl

theorem fabAccept_one {x : MemReq} {e : Eng} (hfree : portFree e x.port = true) (hempty : e.mc.fab = []) :
    fabAccept { e with mc := { e.mc with stalled := [x] } } = oneAccepted x e := by
  simp [fabAccept, portFree_with_mc, hfree, hempty, oneAccepted, requestIn]

theorem oneAccepted_mc (x : MemReq) (e : Eng) : (oneAccepted x e).mc = { e.mc with stalled := [], fab := [{ x with since := e.now }] } := by
  simp only [oneAccepted, showFab_mc, requestIn]

theorem oneAccepted_now (x : MemReq) (e : Eng) : (oneAccepted x e).now = e.now := showFab_now (requestIn x e)

theorem oneAccepted_rd (x : MemReq) (e : Eng) {g : Fld} (hg : g.key ∉ fabKeys) : (oneAccepted x e).rd g = e.rd g := by
  obtain ⟨-, hrd⟩ := showFab_wrote (requestIn x e)
  have hout : (oneAccepted x e).rd g = (showFab (requestIn x e)).rd g := Eng.rd_with_mc _ _ g
  rw [hout, hrd g hg]
  exact Eng.rd_with_mc e _ g

theorem oneAccepted_qos (x : MemReq) (e : Eng) : QosKept e (oneAccepted x e) :=
  .with_mc (.trans (.with_mc (.refl e) _) (showFab_qos _)) _

theorem oneAccepted_getStk (x : MemReq) (e : Eng) (s : Nat) : (oneAccepted x e).getStk s = e.getStk s := by
  rw [Eng.getStk, oneAccepted_mc, Eng.getStk]

theorem oneAccepted_rowHit (x : MemReq) (e : Eng) (line : Nat) : rowHit (oneAccepted x e) line = rowHit e line := by
  rw [rowHit, oneAccepted_getStk, oneAccepted_now, rowHit]

theorem oneAccepted_memWaits (x : MemReq) (e : Eng) (port line : Nat) (act : Bool) :
    memWaits port line act (oneAccepted x e) = memWaits port line act e := by
  simp only [memWaits, memRuns, loopLocked, Eng.inService, Eng.bit, Eng.on, oneAccepted_getStk, oneAccepted_mc]
  simp only [oneAccepted_rd x e (by decide : (CLK_LOOP_STAT_STATE 5).key ∉ fabKeys), oneAccepted_rd x e (by decide : PWR_STRT_FILL_DONE.key ∉ fabKeys),
    oneAccepted_rd x e (by decide : PWR_FILL_LINE.key ∉ fabKeys), oneAccepted_rd x e (by decide : GLB_TILE_SVC_STAT_ACT.key ∉ fabKeys)]

/-! ### The scheduler's choice (R284) -/

theorem schedOf_one {x : MemReq} {e : Eng} (hfab : e.mc.fab = [x]) (s : Nat) : schedOf e s = if stackOf x.line = s then [x] else [] := by
  simp only [schedOf, hfab, List.filter_cons, List.filter_nil, beq_iff_eq]
  split <;> rfl

theorem schedPick_other {x : MemReq} {e : Eng} (hfab : e.mc.fab = [x]) {s : Nat} (hs : stackOf x.line ≠ s) : schedPick e s = none := by
  simp [schedPick, servable, schedOf_one hfab, hs, oldestOf]

theorem schedPick_own {x : MemReq} {e : Eng} (hfab : e.mc.fab = [x]) (hwait : memWaits x.port x.line (!rowHit e x.line) e = false)
    (htrq : trqFirst e x = false) : schedPick e (stackOf x.line) = some x := by
  have hserv : servable e (stackOf x.line) = [x] := by simp [servable, schedOf_one hfab, hwait, htrq]
  cases hhit : rowHit e x.line <;> simp [schedPick, hserv, hhit, oldestOf]

/-- A lone request that need not wait is served next. -/
theorem nextServed_one {x : MemReq} {e : Eng} (hfab : e.mc.fab = [x]) (hwait : memWaits x.port x.line (!rowHit e x.line) e = false)
    (htrq : trqFirst e x = false) : nextServed e = some x := by
  have hown := schedPick_own hfab hwait htrq
  have hstack : stackOf x.line < 4 := Nat.mod_lt _ (by decide)
  have hother (s : Nat) (hs : stackOf x.line ≠ s) : schedPick e s = none := schedPick_other hfab hs
  unfold nextServed
  obtain h | h | h | h : stackOf x.line = 0 ∨ stackOf x.line = 1 ∨ stackOf x.line = 2 ∨ stackOf x.line = 3 := by omega
  all_goals
    rw [h] at hown hother
    simp [hown, hother]

/-- A request that meets an empty fabric and need not wait is served within its command. -/
theorem fabRequest_noted {x : MemReq} {e : Eng} (m : Mems) (hp : x.port < 6) (hfab : e.mc.fab = []) (hstalled : e.mc.stalled = [])
    (hfree : portFree e x.port = true) (htrq : (e.getStk (stackOf x.line)).trq = [])
    (hwait : memWaits x.port x.line (!rowHit e x.line) e = false) : LatencyNoted x.port x.lat e (fabRequest x e m) := by
  let y : MemReq := { x with since := e.now }
  let a := oneAccepted x e
  have ha : a.mc = { e.mc with stalled := [], fab := [y] } := oneAccepted_mc x e
  have hfab' : a.mc.fab = [y] := by rw [ha]
  have hwait' : memWaits y.port y.line (!rowHit a y.line) a = false := by
    rw [oneAccepted_memWaits, oneAccepted_rowHit]
    exact hwait
  have htrq' : trqFirst a y = false := by
    rw [trqFirst, oneAccepted_getStk]
    simp [y, htrq]
  have hage : waited a y = 0 := by
    rw [waited, oneAccepted_now]
    simp [y]
  have hgo : fabRequest x e m = fabAccept (serve y a (m.applyAll a.wq)) := by
    have haccept : fabAccept { e with mc := { e.mc with stalled := e.mc.stalled ++ [x] } } = a := by
      rw [hstalled]
      exact fabAccept_one hfree hfab
    simp only [fabRequest, fabGo, haccept]
    simp [ha, hstalled, fabServe, nextServed_one hfab' hwait' htrq']
  have hserve := serve_noted y a (m.applyAll a.wq) hp
  rw [hage, Nat.zero_add] at hserve
  rw [hgo]
  exact .before (.after (oneAccepted_qos x e) hserve) (fabAccept_qos _)

end Machine
end Sys2Proof
end

section
/-!
SUPPORT. The obligation O17.
-/
open Sys2Proof Sys2Proof.Machine

/-- Settles O17: the service of the one request writes the latency registers once (`serve_noted`), with no wait behind it
(`fabRequest_noted`), and nothing else of the command writes them (`QosKept`). -/
theorem requestLatencyIsCounted : Obligations.RequestLatencyIsCounted := by
  unfold Obligations.RequestLatencyIsCounted
  intro s p line lat wr resp hup hp hidle hfree htrq hwait
  obtain ⟨hfab, hstalled⟩ := hidle
  let x : MemReq := { port := p, line := line, wr := wr, resp := resp, lat := lat, since := s.eng.now }
  let e' := memoryRequest p line wr resp lat s.eng s.mem
  have hexec : exec (.memoryRequest p line wr resp lat) s = applyMem s (memoryRequest p line wr resp lat) := onMem_up s _ hup
  have hnoted : LatencyNoted p lat s.eng e' := fabRequest_noted (x := x) s.mem hp hfab hstalled hfree htrq hwait
  obtain ⟨hlate, hmax, hother⟩ := hnoted
  have hended (f : Fld) : State.rd { s with eng := { e' with wq := [] }, mem := s.mem.applyAll e'.wq } f = e'.rd f := rfl
  refine ⟨_, hexec, rfl, (hended _).trans hlate, (hended _).trans hmax, fun q hq hne => ?_⟩
  obtain ⟨hlate', hmax'⟩ := hother q hq hne
  exact ⟨(hended _).trans hlate', (hended _).trans hmax'⟩

end

section
/-!
SUPPORT. Commands that raise an event or reject bit of one bit: where the field holds a value of its width before, it holds 1 after.
-/
namespace Sys2Proof
namespace Machine

/-! ### One bit raised -/

/-- The end of a command that changes the engine to `e` and its memories not. -/
def ended (s : State) (e : Eng) : State := { s with eng := { e with wq := [] } }

theorem exec_ended {c : Instr} {s : State} {f : Eng → Eng} (hexec : exec c s = onEng s f) (hup : s.up) :
    exec c s = .next (ended s (f s.eng)) := hexec.trans (onEng_up s f hup)

/-- A command that may write memory but issues no write. -/
theorem exec_endedMem {c : Instr} {s : State} {f : Eng → Mems → Eng} (hexec : exec c s = onMem s f) (hup : s.up)
    (hwq : (f s.eng s.mem).wq = []) : exec c s = .next (ended s (f s.eng s.mem)) := by
  rw [hexec, onMem_up s f hup, applyMem, hwq]
  rfl

/-- What a command leaves that makes `a` of the engine, with no field written but those of `ks`, and then raises the bit `f`. -/
structure RaisedAfter (ks : List Nat) (f : Fld) (s : State) (a : Eng) (t : State) : Prop where
  one : t.rd f = 1
  rd : ∀ g : Fld, f.key ≠ g.key → g.key ∉ reportKeys → t.rd g = a.rd g
  hush : t.eng.hush = { a with wq := [] }.hush
  kept : Kept (f.key :: ks) s t

namespace RaisedAfter

variable {ks : List Nat} {f : Fld} {s t : State} {a : Eng}

theorem act (h : RaisedAfter ks f s a t) : t.eng.act = a.act := by
  have hact := congrArg Eng.act h.hush
  exact hact

theorem vt (h : RaisedAfter ks f s a t) : t.eng.vt = a.vt := by
  have hvt := congrArg Eng.vt h.hush
  exact hvt

theorem hl (h : RaisedAfter ks f s a t) : t.eng.hl = a.hl := by
  have hhl := congrArg Eng.hl h.hush
  exact hhl

theorem cu (h : RaisedAfter ks f s a t) : t.eng.cu = a.cu := by
  have hcu := congrArg Eng.cu h.hush
  exact hcu

theorem se (h : RaisedAfter ks f s a t) : t.eng.se = a.se := by
  have hse := congrArg Eng.se h.hush
  exact hse

end RaisedAfter

/-- A command whose last step is a report of `f`. -/
theorem completes_reported {c : Instr} {s : State} {a e' : Eng} {f : Fld} {ks : List Nat} (hexec : exec c s = .next (ended s e'))
    (hone : e'.rd f = 1) (hsame : ∀ g : Fld, f.key ≠ g.key → g.key ∉ reportKeys → e'.rd g = a.rd g) (hhush : e'.hush = a.hush)
    (hrd : ∀ g : Fld, g.key ∉ ks → a.rd g = s.rd g) : Completes c s (RaisedAfter ks f s a) := by
  have hhush' := congrArg (fun e : Eng => { e with wq := [] }) hhush
  refine ⟨_, hexec, rfl, hone, hsame, hhush', kept_withEng fun g hg hstill => ?_⟩
  rw [List.mem_cons, not_or] at hg
  obtain ⟨hne, hout⟩ := hg
  exact (hsame g (Ne.symm hne) hstill).trans (hrd g hout)

theorem completes_raised {c : Instr} {s : State} {a : Eng} {f : Fld} {ks : List Nat} (hexec : exec c s = .next (ended s (a.raise f)))
    (hwidth : f.width = 1) (hstill : f.key ∉ reportKeys) (hbound : a.rd f < 2) (hrd : ∀ g : Fld, g.key ∉ ks → a.rd g = s.rd g) :
    Completes c s (RaisedAfter ks f s a) :=
  completes_reported hexec (raise_reads_one a hwidth hstill hbound) (fun _ hne hg => raise_rd a f 0 hne hg) (raise_hush a f 0) hrd

theorem Kept.mono {ks ks' : List Nat} {s t : State} (h : Kept ks s t) (hsub : ∀ x ∈ ks, x ∈ ks') : Kept ks' s t := by
  obtain ⟨hmem, hkept⟩ := h
  refine ⟨hmem, fun g hg => hkept g ?_⟩
  rw [List.mem_append, not_or] at hg ⊢
  obtain ⟨hout, hstill⟩ := hg
  exact ⟨fun hin => hout (hsub _ hin), hstill⟩

theorem Completes.imp {c : Instr} {s : State} {P Q : State → Prop} (h : Completes c s P) (hPQ : ∀ t, P t → Q t) : Completes c s Q := by
  obtain ⟨t, hexec, hpending, hP⟩ := h
  exact ⟨t, hexec, hpending, hPQ t hP⟩

/-- A command that raises the bit `f` and does nothing else. -/
theorem completes_raise {c : Instr} {s : State} {f : Fld} (hexec : exec c s = .next (ended s (s.eng.raise f))) (hwidth : f.width = 1)
    (hstill : f.key ∉ reportKeys) (hbound : s.rd f < 2) : Completes c s fun t => t.rd f = 1 ∧ Kept [f.key] s t :=
  (completes_raised (ks := []) hexec hwidth hstill hbound fun _ _ => rfl).imp fun _ ht => ⟨ht.one, ht.kept⟩

/-- What an event with data makes of its own field. -/
theorem raisePost_rd_same (e : Eng) (f : Fld) (i : Nat) (d : List Byte) (h : Still f) :
    (e.raisePost f i d).rd f = if e.bit f i then e.rd f else setNatBit (e.rd f) i % 2 ^ f.width := by
  have hleaves : Leaves (fun g j a => raiseAt 2 g j [] a) f := fun g j a hk => raiseAt_rd 2 g j [] a (still_ne h hk) h
  have hpost : ((e.raise f i).postEv f i d).rd f = if e.bit f i then e.rd f else setNatBit (e.rd f) i % 2 ^ f.width := by
    rw [postEv_rd _ _ _ _ h, raise_rd_same _ _ _ h]
  unfold Eng.raisePost
  split
  · split
    case isTrue hnew =>
      obtain ⟨-, hclear⟩ := hnew
      rw [hclear, if_neg Bool.false_ne_true, Eng.raiseWith, raiseAt, hclear, if_neg Bool.false_ne_true]
      rw [evSend_rd h, evWake_rd hleaves, evPost_rd h hleaves, evNote_rd h hleaves, wrBit_eq, Eng.rd_wr]
      rfl
    case isFalse => exact hpost
  · exact hpost

theorem raisePost_reads_one (e : Eng) {f : Fld} (d : List Byte) (hwidth : f.width = 1) (hstill : Still f) (hbound : e.rd f < 2) :
    (e.raisePost f 0 d).rd f = 1 := by
  rw [raisePost_rd_same _ _ _ _ hstill, Eng.bit, hwidth]
  generalize e.rd f = x at hbound
  interval_cases x <;> rfl

/-! ### Commands that only raise -/

/-- A region write of a master other than Curator is refused (R312). -/
theorem scrRgnWrite_refused (s : State) (hup : s.up) {master : Nat} (hmaster : master ≠ 0) (m j reg v : Nat)
    (hbound : s.rd SCR_EVT_PRIV_ERR < 2) :
    Completes (.scrRgnWrite master m j reg v) s fun t => t.rd SCR_EVT_PRIV_ERR = 1 ∧ Kept [SCR_EVT_PRIV_ERR.key] s t := by
  have hexec : exec (.scrRgnWrite master m j reg v) s = onEng s (scrRgnWrite master m j reg v) := rfl
  have hraise : scrRgnWrite master m j reg v s.eng = s.eng.raise SCR_EVT_PRIV_ERR := by rw [scrRgnWrite, if_pos hmaster]
  exact completes_raise (hraise ▸ exec_ended hexec hup) rfl (by decide) hbound

/-- A march test is rejected while one runs, or where a DESTRUCTIVE one may not run (R318). -/
theorem marchTestStart_rejected (s : State) (hup : s.up) (hbound : s.rd SCR_MT_STAT_REJ < 2)
    (hbad : s.rd SCR_MT_STAT_BUSY ≠ 0 ∨ (s.rd SCR_MT_CTRL_MODE = 0 ∧ marchAllowed s.eng = false)) :
    Completes .marchTestStart s fun t => t.rd SCR_MT_STAT_REJ = 1 ∧ Kept [SCR_MT_STAT_REJ.key] s t := by
  have hexec : exec .marchTestStart s = onEng s marchStart := rfl
  have hraise : marchStart s.eng = s.eng.raise SCR_MT_STAT_REJ := by
    refine if_pos ?_
    obtain hbusy | ⟨hmode, hallowed⟩ := hbad
    · simpa [Eng.on] using .inl hbusy
    · simpa [hallowed] using .inr hmode
  exact completes_raise (hraise ▸ exec_ended hexec hup) rfl (by decide) hbound

/-- A TAIL too far ahead is discarded (R343). -/
theorem dmaTailWrite_rejected (s : State) (hup : s.up) {c v : Nat} (hc : c < 8) (hv : v < 2 ^ 32) (hbound : s.rd (HOST_DMA_STAT_TAIL_REJ c) < 2)
    (hahead : 2 ^ s.rd (HOST_DMA_RING_CFG_LOG2 c) < (v + 2 ^ 32 - s.rd (HOST_DMA_HEAD_IDX c)) % 2 ^ 32) :
    Completes (.dmaTailWrite c v) s fun t => t.rd (HOST_DMA_STAT_TAIL_REJ c) = 1 ∧ Kept [(HOST_DMA_STAT_TAIL_REJ c).key] s t := by
  have hexec : exec (.dmaTailWrite c v) s = onEng s (tailWrite c v) := by
    show onEng s (tailWrite (c % 8) (v % 2 ^ 32)) = _
    rw [Nat.mod_eq_of_lt hc, Nat.mod_eq_of_lt hv]
  have hraise : tailWrite c v s.eng = s.eng.raise (HOST_DMA_STAT_TAIL_REJ c) := if_pos hahead
  have hstill : ∀ c < 8, (HOST_DMA_STAT_TAIL_REJ c).key ∉ reportKeys := by decide
  exact completes_raise (hraise ▸ exec_ended hexec hup) rfl (hstill c hc) hbound

/-- An interrupt pulse without the loss of the link (R360). -/
theorem hpdIrq_kept (s : State) (hup : s.up) (hbound : s.rd VIT_EVT_HPD_IRQ < 2) :
    Completes (.hpdIrq false) s fun t => t.rd VIT_EVT_HPD_IRQ = 1 ∧ Kept [VIT_EVT_HPD_IRQ.key] s t := by
  have hexec : exec (.hpdIrq false) s = onEng s fun e => e.raise VIT_EVT_HPD_IRQ := rfl
  exact completes_raise (exec_ended hexec hup) rfl (by decide) hbound

/-- SWRST without its key, in acquisition, or during a mode change is rejected (R472). -/
theorem swrst_rejected (s : State) (hup : s.up) (hinv : Inv s) (key : Nat) (pgFail : Option Nat) (train : List LaneFind) (bad : List (Nat × Nat))
    (hbound : s.rd PWR_EVT_CMD_REJ < 2) (hmay : ¬(key = 0xA5 ∧ s.eng.inAcq = false ∧ s.rd GLB_MODE_STAT_BUSY = 0)) :
    Completes (.swrst key pgFail train bad) s fun t => t.rd PWR_EVT_CMD_REJ = 1 ∧ Kept [PWR_EVT_CMD_REJ.key] s t := by
  have hexec : exec (.swrst key pgFail train bad) s = onMem s (swrst key pgFail train bad) := rfl
  have hraise : swrst key pgFail train bad s.eng s.mem = s.eng.raise PWR_EVT_CMD_REJ := by
    refine if_pos ?_
    by_contra hnone
    simp only [not_or, not_not, Bool.not_eq_true, Eng.on, bne_eq_false_iff_eq] at hnone
    exact hmay hnone
  obtain ⟨-, hwq⟩ := hinv
  have hended := exec_endedMem hexec hup (by rw [hraise, raise_wq, hwq])
  exact completes_raise (hraise ▸ hended) rfl (by decide) hbound

/-! ### Commands that write and then raise -/

/-- Fields that a chain of writes leaves alone. -/
theorem rd_of_onlyWrote {ks : List Nat} {s : State} {a : Eng} (h : OnlyWrote ks s.eng a) : ∀ g : Fld, g.key ∉ ks → a.rd g = s.rd g := by
  obtain ⟨-, hrd⟩ := h
  exact hrd

/-- A commit whose windows fail a check (R329). -/
theorem winCommit_rejected (s : State) (hup : s.up) {w y : Nat} (hfail : winFail s.eng = some (w, y)) (hw : w < 16) (hy : y < 8)
    (hbound : s.rd HOST_WIN_STAT_REJ < 2) :
    Completes .winCommit s fun t => t.rd HOST_WIN_STAT_WIN = w ∧ t.rd HOST_WIN_STAT_WHY = y ∧ t.rd HOST_WIN_STAT_REJ = 1 ∧
      t.eng.act = s.eng.act ∧ Kept [HOST_WIN_STAT_WIN.key, HOST_WIN_STAT_WHY.key, HOST_WIN_STAT_REJ.key] s t := by
  let a := (s.eng.wr HOST_WIN_STAT_WIN w).wr HOST_WIN_STAT_WHY y
  have hwrote : OnlyWrote [HOST_WIN_STAT_WIN.key, HOST_WIN_STAT_WHY.key] s.eng a :=
    ((OnlyWrote.refl _ s.eng).wr w (by simp)).wr y (by simp)
  have hrd := rd_of_onlyWrote hwrote
  have hexec : exec .winCommit s = onEng s winCommit := rfl
  have hraise : winCommit s.eng = a.raise HOST_WIN_STAT_REJ := by simp only [winCommit, hfail, a]
  have hbound' : a.rd HOST_WIN_STAT_REJ < 2 := by rwa [hrd _ (by decide)]
  refine (completes_raised (hraise ▸ exec_ended hexec hup) rfl (by decide) hbound' hrd).imp fun t ht => ?_
  refine ⟨?_, ?_, ht.one, ht.act, ht.kept.mono (by simp)⟩
  · rw [ht.rd _ (by decide) (by decide), Eng.rd_wr_other _ _ (by decide), Eng.rd_wr]
    exact Nat.mod_eq_of_lt hw
  · rw [ht.rd _ (by decide) (by decide), Eng.rd_wr]
    exact Nat.mod_eq_of_lt hy

/-- A rejected timing commit, with its reason (R363). -/
theorem timingCommit_rejected (s : State) (hup : s.up) (now : Bool) (hwhy : timWhy s.eng ≠ 0) (hbound : s.rd VIT_EVT_TIM_REJ < 2) :
    Completes (.timingCommit now) s fun t => t.rd VIT_STAT_TIM_WHY = timWhy s.eng % 2 ^ VIT_STAT_TIM_WHY.width ∧ t.rd VIT_EVT_TIM_REJ = 1 ∧
      t.eng.act = s.eng.act ∧ t.eng.vt = s.eng.vt ∧ Kept [VIT_STAT_TIM_WHY.key, VIT_EVT_TIM_REJ.key] s t := by
  let a := s.eng.wr VIT_STAT_TIM_WHY (timWhy s.eng)
  have hwrote : OnlyWrote [VIT_STAT_TIM_WHY.key] s.eng a := (OnlyWrote.refl _ s.eng).wr _ (by simp)
  have hrd := rd_of_onlyWrote hwrote
  have hexec : exec (.timingCommit now) s = onEng s (timingCommit now) := rfl
  have hraise : timingCommit now s.eng = a.raise VIT_EVT_TIM_REJ := if_pos hwhy
  have hbound' : a.rd VIT_EVT_TIM_REJ < 2 := by rwa [hrd _ (by decide)]
  refine (completes_raised (hraise ▸ exec_ended hexec hup) rfl (by decide) hbound' hrd).imp fun t ht => ?_
  refine ⟨?_, ht.one, ht.act, ht.vt, ht.kept.mono (by simp)⟩
  rw [ht.rd _ (by decide) (by decide)]
  exact Eng.rd_wr ..

/-- A bin request that fails a condition of R300 is rejected with its code. -/
theorem binRequest_rejected (s : State) (hup : s.up) {bin c : Nat} (pol : Bool) (hc : c < 2 ^ MEM_BIN_STAT_REJ_CODE.width)
    (hcheck : binCheck ((s.eng.wr MEM_BIN_CTRL_BIN bin).wrb MEM_BIN_CTRL_TRN_POL pol) (bin % 4) = some c)
    (hbound : s.rd MEM_BIN_STAT_REJ < 2) :
    Completes (.binRequest bin pol) s fun t => t.rd MEM_BIN_STAT_REJ = 1 ∧ t.rd MEM_BIN_STAT_REJ_CODE = c ∧
      t.rd MEM_BIN_STAT_BUSY = s.rd MEM_BIN_STAT_BUSY ∧ t.rd MEM_BIN_CTRL_BIN = bin % 4 ∧
      Kept [MEM_BIN_STAT_REJ.key, MEM_BIN_STAT_REJ_CODE.key, MEM_BIN_CTRL_BIN.key, MEM_BIN_CTRL_TRN_POL.key] s t := by
  let e1 := (s.eng.wr MEM_BIN_CTRL_BIN bin).wrb MEM_BIN_CTRL_TRN_POL pol
  let a := e1.wr MEM_BIN_STAT_REJ_CODE c
  have hwrote : OnlyWrote [MEM_BIN_STAT_REJ_CODE.key, MEM_BIN_CTRL_BIN.key, MEM_BIN_CTRL_TRN_POL.key] s.eng a :=
    (((OnlyWrote.refl _ s.eng).wr _ (by simp)).wr _ (by simp)).wr _ (by simp)
  have hrd := rd_of_onlyWrote hwrote
  have hexec : exec (.binRequest bin pol) s = onEng s (binRequest bin pol) := rfl
  have hraise : binRequest bin pol s.eng = a.raise MEM_BIN_STAT_REJ := by simp only [binRequest, hcheck, a, e1]
  have hbound' : a.rd MEM_BIN_STAT_REJ < 2 := by rwa [hrd _ (by decide)]
  refine (completes_raised (hraise ▸ exec_ended hexec hup) rfl (by decide) hbound' hrd).imp fun t ht => ?_
  refine ⟨ht.one, ?_, ?_, ?_, ht.kept⟩
  · rw [ht.rd _ (by decide) (by decide), Eng.rd_wr]
    exact Nat.mod_eq_of_lt hc
  · rw [ht.rd _ (by decide) (by decide), hrd _ (by decide)]
  · rw [ht.rd _ (by decide) (by decide), Eng.rd_wr_other _ _ (by decide)]
    show ((s.eng.wr MEM_BIN_CTRL_BIN bin).wr MEM_BIN_CTRL_TRN_POL _).rd MEM_BIN_CTRL_BIN = _
    rw [Eng.rd_wr_other _ _ (by decide), Eng.rd_wr]
    rfl

/-- A failed test of the noise source (R437). -/
theorem rngHealthFail_shown (s : State) (hup : s.up) (hbound : s.rd SEC_EVT_RNG_FAIL < 2) :
    Completes .rngHealthFail s fun t => t.rd SEC_RNG_STAT_OK = 0 ∧
      t.rd SEC_RNG_STAT_FAILS = min (s.rd SEC_RNG_STAT_FAILS + 1) (2 ^ 16 - 1) ∧ t.rd SEC_EVT_RNG_FAIL = 1 ∧ t.eng.se.rngBad = true ∧
      Kept [SEC_RNG_STAT_OK.key, SEC_RNG_STAT_FAILS.key, SEC_EVT_RNG_FAIL.key] s t := by
  let e1 := s.eng.modSe fun x => { x with rngBad := true }
  let a := (e1.wr SEC_RNG_STAT_OK 0).addSat SEC_RNG_STAT_FAILS 1
  have hrd : ∀ g : Fld, g.key ∉ [SEC_RNG_STAT_OK.key, SEC_RNG_STAT_FAILS.key] → a.rd g = s.rd g :=
    rd_of_onlyWrote (s := { s with eng := e1 }) (((OnlyWrote.refl _ e1).wr _ (by simp)).wr _ (by simp))
  have hexec : exec .rngHealthFail s = onEng s rngFail := rfl
  have hraise : rngFail s.eng = a.raise SEC_EVT_RNG_FAIL := rfl
  have hbound' : a.rd SEC_EVT_RNG_FAIL < 2 := by rwa [hrd _ (by decide)]
  refine (completes_raised (hraise ▸ exec_ended hexec hup) rfl (by decide) hbound' hrd).imp fun t ht => ?_
  refine ⟨?_, ?_, ht.one, ?_, ht.kept.mono (by simp)⟩
  · rw [ht.rd _ (by decide) (by decide)]
    simp only [a, addSat_eq]
    rw [Eng.rd_wr_other _ _ (by decide), Eng.rd_wr]
    rfl
  · rw [ht.rd _ (by decide) (by decide)]
    simp only [a, addSat_eq]
    rw [Eng.rd_wr, Eng.rd_wr_other _ _ (by decide)]
    exact Nat.mod_eq_of_lt (lt_of_le_of_lt (Nat.min_le_right _ _) (show 2 ^ 16 - 1 < 2 ^ 16 by decide))
  · rw [ht.se]
    rfl

/-- How a tile load ends (R425). -/
theorem tileLoad_refused (s : State) (hup : s.up) (hinv : Inv s) (bad : Bool) (hrefused : tileAccepts s.eng = false)
    (hbound : s.rd CFG_EVT_TILE_END < 2) :
    Completes (.tileLoad bad) s fun t => t.rd CFG_TILE_STAT_ERR = 10 ∧ t.rd CFG_TILE_STAT_VALID = 1 ∧ t.rd CFG_TILE_STAT_BUSY = 0 ∧
      t.rd CFG_TILE_STAT_GEN = (s.rd CFG_TILE_STAT_GEN + 1) % 2 ^ 16 ∧ t.rd CFG_EVT_TILE_END = 1 ∧ t.rd CFG_TILE_STAT_SECT = 0 ∧
      Kept [CFG_TILE_STAT_ERR.key, CFG_TILE_STAT_SECT.key, CFG_TILE_STAT_GEN.key, CFG_TILE_STAT_VALID.key, CFG_TILE_STAT_BUSY.key,
        CFG_EVT_TILE_END.key] s t := by
  let a := (((s.eng.wr CFG_TILE_STAT_ERR 10).wr CFG_TILE_STAT_SECT 0).addWrap CFG_TILE_STAT_GEN 1).wr CFG_TILE_STAT_VALID 1
    |>.wr CFG_TILE_STAT_BUSY 0
  have hwrote : OnlyWrote [CFG_TILE_STAT_ERR.key, CFG_TILE_STAT_SECT.key, CFG_TILE_STAT_GEN.key, CFG_TILE_STAT_VALID.key,
      CFG_TILE_STAT_BUSY.key] s.eng a :=
    (((((OnlyWrote.refl _ s.eng).wr _ (by simp)).wr _ (by simp)).wr _ (by simp)).wr _ (by simp)).wr _ (by simp)
  have hrd := rd_of_onlyWrote hwrote
  have hexec : exec (.tileLoad bad) s = onMem s (tileLoad bad) := rfl
  have hraise : tileLoad bad s.eng s.mem = a.raise CFG_EVT_TILE_END := by
    rw [tileLoad, hrefused]
    rfl
  obtain ⟨-, hwq⟩ := hinv
  have hended := exec_endedMem hexec hup (by rw [hraise, raise_wq]; exact hwq)
  have hbound' : a.rd CFG_EVT_TILE_END < 2 := by rwa [hrd _ (by decide)]
  refine (completes_raised (hraise ▸ hended) rfl (by decide) hbound' hrd).imp fun t ht => ?_
  refine ⟨?_, ?_, ?_, ?_, ht.one, ?_, ht.kept.mono (by simp)⟩
  all_goals
    rw [ht.rd _ (by decide) (by decide)]
    simp only [a, addWrap_eq]
    repeat rw [Eng.rd_wr_other _ _ (by decide)]
    rw [Eng.rd_wr]
    repeat rw [Eng.rd_wr_other _ _ (by decide)]
    rfl

/-- A corrected block of the Vault (R404). -/
theorem vaultPatrol_corrected (s : State) (hup : s.up) (hinv : Inv s) (n : Nat) (key : Option Nat)
    (hgood : idxMem s.mem.vltBad (s.eng.cu.vp % 2 ^ 20) = false) (hbound : s.rd CUR_EVT_VLT_CE < 2) :
    Completes (.vaultPatrol (.corrected n) key) s fun t => t.eng.cu.vp = (s.eng.cu.vp % 2 ^ 20 + 1) % 2 ^ 20 ∧
      t.rd CUR_VLT_CE_CNT = min (s.rd CUR_VLT_CE_CNT + 1) (2 ^ 32 - 1) ∧ t.rd CUR_EVT_VLT_CE = 1 ∧
      Kept [CUR_VLT_PASS_CNT.key, CUR_VLT_CE_CNT.key, CUR_EVT_VLT_CE.key] s t := by
  let b := s.eng.cu.vp % 2 ^ 20
  let e1 := s.eng.modCu fun k => { k with vp := (b + 1) % 2 ^ 20 }
  let e2 := if b + 1 = 2 ^ 20 then e1.addWrap CUR_VLT_PASS_CNT 1 else e1
  let a := e2.addSat CUR_VLT_CE_CNT 1
  have hpass : OnlyWrote [CUR_VLT_PASS_CNT.key] e1 e2 := by
    unfold e2
    split
    · exact (OnlyWrote.refl _ e1).wr _ (by simp)
    · exact .refl _ e1
  have hwrote : OnlyWrote [CUR_VLT_PASS_CNT.key, CUR_VLT_CE_CNT.key] e1 a := (hpass.mono (by simp)).wr _ (by simp)
  obtain ⟨hrest, hrd⟩ := hwrote
  obtain ⟨-, hbefore⟩ := hpass
  have hexec : exec (.vaultPatrol (.corrected n) key) s = onMem s (vaultPatrol (.corrected n) key) := rfl
  have hraise : vaultPatrol (.corrected n) key s.eng s.mem = a.raise CUR_EVT_VLT_CE := by
    have hsound : ¬((ScrResp.corrected n) = .uncorrectable ∨ idxMem s.mem.vltBad b = true) := by
      rintro (h | h)
      · exact absurd h (by simp)
      · exact absurd (hgood.symm.trans h) (by decide)
    have hfound : (ScrResp.corrected n) ≠ .clean := by simp
    unfold vaultPatrol
    rw [if_neg hsound, if_neg hfound]
  obtain ⟨-, hwq⟩ := hinv
  have hended := exec_endedMem hexec hup (by rw [hraise, raise_wq]; exact (congrArg Eng.wq hrest).trans hwq)
  have hbound' : a.rd CUR_EVT_VLT_CE < 2 := by rwa [hrd _ (by decide)]
  refine (completes_raised (hraise ▸ hended) rfl (by decide) hbound' hrd).imp fun t ht => ?_
  refine ⟨?_, ?_, ht.one, ht.kept.mono (by simp)⟩
  · have hsame := congrArg Eng.cu hrest
    exact congrArg CurSt.vp (ht.cu.trans hsame)
  · rw [ht.rd _ (by decide) (by decide)]
    simp only [a, addSat_eq]
    rw [Eng.rd_wr, hbefore _ (by decide)]
    exact Nat.mod_eq_of_lt (lt_of_le_of_lt (Nat.min_le_right _ _) (show 2 ^ 32 - 1 < 2 ^ 32 by decide))

/-- A completion without an outstanding request is counted, logged and discarded (R350). -/
theorem completionReceived_unexpected (s : State) (hup : s.up) (hinv : Inv s) {tag cplid : Nat} (status : Nat) (ep : Bool) (bytes : List Byte)
    (hnone : ∀ r ∈ s.eng.hl.reqs, r.tag ≠ tag) (htag : tag < 2 ^ 10) (hcplid : cplid < 2 ^ 16) (hbound : s.rd HOST_EVT_UNEXP < 2) :
    Completes (.completionReceived tag status ep bytes cplid) s fun t =>
      t.eng.bit CS_AER_UE 16 = true ∧ t.rd HOST_UNEXP_CNT_CNT = min (s.rd HOST_UNEXP_CNT_CNT + 1) (2 ^ 32 - 1) ∧
      t.rd HOST_UNEXP_LOG_TAG = tag ∧ t.rd HOST_UNEXP_LOG_QUAR = (if s.eng.hl.quar.any fun x => x.1 == tag then 1 else 0) ∧
      t.rd HOST_UNEXP_LOG_CPLID = cplid ∧ t.rd HOST_EVT_UNEXP = 1 ∧ t.eng.hl = s.eng.hl ∧
      Kept [CS_AER_UE.key, HOST_UNEXP_CNT_CNT.key, HOST_UNEXP_LOG_TAG.key, HOST_UNEXP_LOG_QUAR.key, HOST_UNEXP_LOG_CPLID.key,
        HOST_EVT_UNEXP.key] s t := by
  let q := s.eng.hl.quar.any fun x => x.1 == tag
  let e1 := (aerSet 16 s.eng).addSat HOST_UNEXP_CNT_CNT 1
  let a := ((e1.wr HOST_UNEXP_LOG_TAG tag).wrb HOST_UNEXP_LOG_QUAR q).wr HOST_UNEXP_LOG_CPLID cplid
  let data := leBytes 2 tag ++ leBytes 1 (if q then 1 else 0) ++ leBytes 2 cplid
  have hwrote : OnlyWrote [CS_AER_UE.key, HOST_UNEXP_CNT_CNT.key, HOST_UNEXP_LOG_TAG.key, HOST_UNEXP_LOG_QUAR.key, HOST_UNEXP_LOG_CPLID.key]
      s.eng a := (((((OnlyWrote.refl _ s.eng).wr _ (by simp)).wr _ (by simp)).wr _ (by simp)).wr _ (by simp)).wr _ (by simp)
  have hrd := rd_of_onlyWrote hwrote
  have hexec : exec (.completionReceived tag status ep bytes cplid) s = onMem s (completionReceived tag status ep bytes cplid) := rfl
  have hfind : (s.eng.hl.reqs.find? fun r => r.tag == tag) = none := List.find?_eq_none.2 fun r hr => by simpa using hnone r hr
  have hraise : completionReceived tag status ep bytes cplid s.eng s.mem = a.raisePost HOST_EVT_UNEXP 0 data := by
    simp only [completionReceived, hfind]
    rfl
  obtain ⟨-, hwq⟩ := hinv
  have hended := exec_endedMem hexec hup (by rw [hraise, raisePost_wq]; exact hwq)
  have hone : (a.raisePost HOST_EVT_UNEXP 0 data).rd HOST_EVT_UNEXP = 1 :=
    raisePost_reads_one a data rfl (by unfold Still; decide) (by rwa [hrd _ (by decide)])
  have hsame : ∀ g : Fld, HOST_EVT_UNEXP.key ≠ g.key → g.key ∉ reportKeys → (a.raisePost HOST_EVT_UNEXP 0 data).rd g = a.rd g :=
    fun g hne hg => raisePost_rd a HOST_EVT_UNEXP 0 data hne hg
  refine (completes_reported (hraise ▸ hended) hone hsame (raisePost_hush _ _ _ _) hrd).imp fun t ht => ?_
  refine ⟨?_, ?_, ?_, ?_, ?_, ht.one, ht.hl, ht.kept.mono (by simp)⟩
  · have haer : a.rd CS_AER_UE = (aerSet 16 s.eng).rd CS_AER_UE := by
      simp only [a, e1, Eng.wrb, addSat_eq]
      repeat rw [Eng.rd_wr_other _ _ (by decide)]
    have hshown : t.eng.rd CS_AER_UE = (aerSet 16 s.eng).rd CS_AER_UE := (ht.rd _ (by decide) (by decide)).trans haer
    rw [Eng.bit, hshown]
    exact wrBit_bit_same s.eng (by decide)
  all_goals
    rw [ht.rd _ (by decide) (by decide)]
    simp only [a, e1, Eng.wrb, addSat_eq]
    repeat rw [Eng.rd_wr_other _ _ (by decide)]
    rw [Eng.rd_wr]
  · rw [aerSet, wrBit_eq, Eng.rd_wr_other _ _ (by decide)]
    exact Nat.mod_eq_of_lt (lt_of_le_of_lt (Nat.min_le_right _ _) (show 2 ^ 32 - 1 < 2 ^ 32 by decide))
  · exact Nat.mod_eq_of_lt htag
  · exact Nat.mod_eq_of_lt (by split <;> decide)
  · exact Nat.mod_eq_of_lt hcplid

/-- The fields of a mailbox answer, but the event. -/
def answerKeys : List Nat :=
  [CUR_MBX_CMD_OP.key, CUR_MBX_CMD_SEQ.key, CUR_MBX_STAT_BUSY.key, CUR_MBX_STAT_VALID.key, CUR_MBX_STAT_STATUS.key, CUR_MBX_STAT_SEQ.key,
    CUR_MBX_STAT_GEN.key]

/-- The registers once the mailbox has taken a request. -/
def mbxTaken (op sq : Nat) (e : Eng) : Eng :=
  (((e.wr CUR_MBX_CMD_OP op).wr CUR_MBX_CMD_SEQ sq).wr CUR_MBX_STAT_VALID 0).wr CUR_MBX_STAT_BUSY 1

/-- The registers once an answer without words is in them. -/
def mbxAnswered (sq status : Nat) (e : Eng) : Eng :=
  ((((e.wr CUR_MBX_STAT_STATUS status).wr CUR_MBX_STAT_SEQ sq).addWrap CUR_MBX_STAT_GEN 1).wr CUR_MBX_STAT_VALID 1).wr CUR_MBX_STAT_BUSY 0

theorem mbxAnswered_wrote (op sq status : Nat) (e : Eng) : OnlyWrote answerKeys e (mbxAnswered sq status (mbxTaken op sq e)) :=
  .wr (.wr (.wr (.wr (.wr (.wr (.wr (.wr (.wr (.refl _ e) _ (by decide)) _ (by decide)) _ (by decide)) _ (by decide)) _ (by decide)) _
    (by decide)) _ (by decide)) _ (by decide)) _ (by decide)

theorem mbxAnswered_gen (op sq status : Nat) (e : Eng) :
    (mbxAnswered sq status (mbxTaken op sq e)).rd CUR_MBX_STAT_GEN = (e.rd CUR_MBX_STAT_GEN + 1) % 2 ^ 16 := by
  unfold mbxAnswered mbxTaken
  rw [Eng.rd_wr_other _ _ (by decide), Eng.rd_wr_other _ _ (by decide), addWrap_eq, Eng.rd_wr]
  repeat rw [Eng.rd_wr_other _ _ (by decide)]
  rfl

theorem mbxAnswered_rd (sq status : Nat) (e : Eng) : (mbxAnswered sq status e).rd CUR_MBX_STAT_STATUS = status % 2 ^ CUR_MBX_STAT_STATUS.width ∧
    (mbxAnswered sq status e).rd CUR_MBX_STAT_SEQ = sq % 2 ^ 8 ∧ (mbxAnswered sq status e).rd CUR_MBX_STAT_VALID = 1 ∧
    (mbxAnswered sq status e).rd CUR_MBX_STAT_BUSY = 0 := by
  unfold mbxAnswered
  refine ⟨?_, ?_, ?_, ?_⟩
  all_goals
    rw [addWrap_eq]
    repeat rw [Eng.rd_wr_other _ _ (by decide)]
    exact Eng.rd_wr ..

theorem mbxAnswer_wordless (sq status : Nat) (e : Eng) :
    mbxAnswer sq status [] e = ((mbxAnswered sq status e).modCu fun k => { k with mbx := none }).raise CUR_EVT_MBX := by
  have hnowords : (List.range 16).foldl (fun a k => if k < ([] : List Nat).length then a.wr (CUR_MBX_RSP_VAL k) (([] : List Nat).getD k 0) else a) e =
      e := foldl_keeps id _ _ (fun a k _ => by simp) e
  unfold mbxAnswer
  rw [hnowords]
  rfl

/-- A request of the mailbox while Curator is halted is answered with STATUS 12 (R399). -/
theorem mbxGo_halted {c : Instr} {s : State} {op sq : Nat} (hexec : exec c s = onMem s (mbxGo op sq)) (hup : s.up) (hinv : Inv s)
    (hsq : sq < 256) (hfree : s.rd CUR_MBX_STAT_BUSY = 0) (hhalted : s.rd CUR_STAT_HALTED ≠ 0) (hbound : s.rd CUR_EVT_MBX < 2) :
    Completes c s fun t => t.rd CUR_MBX_STAT_STATUS = 12 ∧ t.rd CUR_MBX_STAT_SEQ = sq ∧
      t.rd CUR_MBX_STAT_GEN = (s.rd CUR_MBX_STAT_GEN + 1) % 2 ^ 16 ∧ t.rd CUR_MBX_STAT_VALID = 1 ∧ t.rd CUR_MBX_STAT_BUSY = 0 ∧
      t.rd CUR_EVT_MBX = 1 ∧ t.eng.cu.mbx = none ∧ Kept (CUR_EVT_MBX.key :: answerKeys) s t := by
  let e1 := mbxAnswered sq 12 (mbxTaken op sq s.eng)
  let a := e1.modCu fun k => { k with mbx := none }
  have hsame (g : Fld) : a.rd g = e1.rd g := Eng.rd_with_cu e1 _ g
  have hrd (g : Fld) (hg : g.key ∉ answerKeys) : a.rd g = s.rd g :=
    (hsame g).trans (rd_of_onlyWrote (mbxAnswered_wrote op sq 12 s.eng) g hg)
  have hraise : mbxGo op sq s.eng s.mem = a.raise CUR_EVT_MBX := by
    have hbusy : s.eng.on CUR_MBX_STAT_BUSY = false := by rw [Eng.on]; exact (bne_eq_false_iff_eq ..).2 hfree
    have hhalt : s.eng.on CUR_STAT_HALTED = true := by rw [Eng.on]; exact bne_iff_ne.2 hhalted
    unfold mbxGo
    rw [hbusy, hhalt, if_neg Bool.false_ne_true, if_pos rfl, mbxAnswer_wordless, Nat.mod_eq_of_lt hsq]
    rfl
  obtain ⟨-, hwq⟩ := hinv
  have hended := exec_endedMem hexec hup (by rw [hraise, raise_wq]; exact hwq)
  have hbound' : a.rd CUR_EVT_MBX < 2 := by rwa [hrd _ (by decide)]
  obtain ⟨hstatus, hseq, hvalid, hbusy⟩ := mbxAnswered_rd sq 12 (mbxTaken op sq s.eng)
  refine (completes_raised (hraise ▸ hended) rfl (by decide) hbound' hrd).imp fun t ht => ?_
  have hread (g : Fld) (hne : CUR_EVT_MBX.key ≠ g.key) (hg : g.key ∉ reportKeys) : t.rd g = e1.rd g := (ht.rd g hne hg).trans (hsame g)
  refine ⟨?_, ?_, ?_, ?_, ?_, ht.one, ?_, ht.kept⟩
  · rw [hread _ (by decide) (by decide), hstatus]
    rfl
  · rw [hread _ (by decide) (by decide), hseq]
    exact Nat.mod_eq_of_lt hsq
  · rw [hread _ (by decide) (by decide), mbxAnswered_gen]
    rfl
  · rw [hread _ (by decide) (by decide), hvalid]
  · rw [hread _ (by decide) (by decide), hbusy]
  · rw [ht.cu]
    rfl

/-! ### The events inside longer commands -/

/-- The end of a debug session (R445). -/
theorem sessionEnd_event {e : Eng} (hopen : e.rd SEC_DBG_STAT_STATE ≠ 0) (hbound : e.rd SEC_EVT_DBG_END < 2) :
    (sessionEnd e).rd SEC_EVT_DBG_END = 1 := by
  unfold sessionEnd
  rw [if_neg hopen]
  extract_lets e1
  have hsame : (e1.modSe fun x => { x with dbgEnd := none }).rd SEC_EVT_DBG_END = e.rd SEC_EVT_DBG_END := by
    rw [Eng.modSe, Eng.rd_with_se]
    simp only [e1]
    repeat rw [Eng.rd_wr_other _ _ (by decide)]
  rw [guarCheck_rd _ (by decide) (by unfold Still; decide)]
  exact raise_reads_one _ rfl (by unfold Still; decide) (hsame ▸ hbound)

/-- The hold of every stack at MULT 2 (R384) writes the multiples and their event only. -/
theorem multHold_rd (e : Eng) {g : Fld} (hmult : ∀ k < 4, (MEM_REF_STAT_MULT k).key ≠ g.key) (hevt : MEM_OP_EVT_MULT_CHG.key ≠ g.key)
    (hstill : Still g) : (multHold e).rd g = e.rd g := by
  refine foldl_keeps (fun a : Eng => a.rd g) _ _ (fun a k hk => ?_) e
  split
  · rfl
  · rw [raise_rd _ _ _ hevt hstill, Eng.rd_wr_other _ _ (hmult k (List.mem_range.1 hk))]

theorem mbxAnswer_rd (sq status : Nat) (words : List Nat) (e : Eng) {g : Fld} (hword : ∀ k < 16, (CUR_MBX_RSP_VAL k).key ≠ g.key)
    (hanswer : g.key ∉ answerKeys) (hevt : CUR_EVT_MBX.key ≠ g.key) (hstill : Still g) : (mbxAnswer sq status words e).rd g = e.rd g := by
  have hwords : ∀ a : Eng, ∀ k ∈ List.range 16, Eng.rd (if k < words.length then a.wr (CUR_MBX_RSP_VAL k) (words.getD k 0) else a) g = a.rd g := by
    intro a k hk
    split
    · exact Eng.rd_wr_other _ _ (hword k (List.mem_range.1 hk))
    · rfl
  unfold mbxAnswer
  extract_lets e1 e2 c
  have h1 : e1.rd g = e.rd g := foldl_keeps (fun a : Eng => a.rd g) _ _ hwords e
  have h2 : OnlyWrote answerKeys e1 e2 :=
    .wr (.wr (.wr (.wr (.wr (.refl _ e1) _ (by decide)) _ (by decide)) _ (by decide)) _ (by decide)) _ (by decide)
  obtain ⟨-, hrd⟩ := h2
  rw [raise_rd _ _ _ hevt hstill, ← h1, ← hrd g hanswer]
  exact Eng.rd_with_cu e2 _ g

theorem curHalt_rd (e : Eng) {g : Fld} (hhalted : CUR_STAT_HALTED.key ≠ g.key) (hhalt : CUR_EVT_HALT.key ≠ g.key)
    (hfault : GLB_FLT_EVT_CUR_HALT.key ≠ g.key) (hword : ∀ k < 16, (CUR_MBX_RSP_VAL k).key ≠ g.key) (hanswer : g.key ∉ answerKeys)
    (hevt : CUR_EVT_MBX.key ≠ g.key) (hstill : Still g) : (curHalt e).rd g = e.rd g := by
  unfold curHalt
  extract_lets c e1
  have h1 : e1.rd g = e.rd g := by
    rw [raise_rd _ _ _ hfault hstill, raise_rd _ _ _ hhalt hstill, Eng.rd_wr_other _ _ hhalted]
    exact Eng.rd_with_cu e _ g
  split
  · rw [mbxAnswer_rd _ _ _ _ hword hanswer hevt hstill, h1]
  · exact h1

/-- A restart of Curator (R384). -/
theorem curRestart_event (why : Nat) {e : Eng} (hrunning : e.on CUR_STAT_HALTED = false) (hbound : e.rd CUR_EVT_RESTART < 2) :
    (curRestart why e).rd CUR_EVT_RESTART = 1 := by
  have hstill : Still CUR_EVT_RESTART := by unfold Still; decide
  unfold curRestart
  rw [hrunning, if_neg Bool.false_ne_true]
  extract_lets recent cut c e1 e2
  have h1 : (((e1.addSat CUR_STAT_RESTARTS 1).wr CUR_STAT_WHY why).wr CUR_STAT_RUN 0).rd CUR_EVT_RESTART = e.rd CUR_EVT_RESTART := by
    rw [Eng.rd_wr_other _ _ (by decide), Eng.rd_wr_other _ _ (by decide), addSat_eq, Eng.rd_wr_other _ _ (by decide)]
    exact Eng.rd_with_cu e _ _
  have h2 : e2.rd CUR_EVT_RESTART = 1 := raise_reads_one _ rfl hstill (h1 ▸ hbound)
  rw [guarCheck_rd _ (by decide) hstill, multHold_rd _ (by decide) (by decide) hstill]
  split
  · rw [curHalt_rd _ (by decide) (by decide) (by decide) (by decide) (by decide) (by decide) hstill, h2]
  · exact h2

/-- A channel that runs when its power state ends it (R345). -/
theorem dmaPower_event {c : Nat} {e : Eng} (hc : c < 8) (hruns : dmaRuns e c = true) (hbound : e.rd (HOST_DMA_EVT_END c) < 2) :
    (dmaPower c e).rd (HOST_DMA_EVT_END c) = 1 := by
  have hkeys : (HOST_DMA_STAT_STATE c).key ≠ (HOST_DMA_EVT_END c).key ∧ (HOST_DMA_STAT_ERR c).key ≠ (HOST_DMA_EVT_END c).key ∧
      (HOST_DMA_STAT_GEN c).key ≠ (HOST_DMA_EVT_END c).key ∧ (HOST_DMA_STAT_VALID c).key ≠ (HOST_DMA_EVT_END c).key := by
    simp only [HOST_DMA_STAT_STATE, HOST_DMA_STAT_ERR, HOST_DMA_STAT_GEN, HOST_DMA_STAT_VALID, HOST_DMA_EVT_END, fld]
    omega
  obtain ⟨hstate, herr, hgen, hvalid⟩ := hkeys
  have hstill : ∀ k < 8, (HOST_DMA_EVT_END k).key ∉ reportKeys := by decide
  unfold dmaPower
  rw [hruns, Bool.not_true, if_neg Bool.false_ne_true, dmaStop]
  refine raise_reads_one _ rfl (hstill c hc) ?_
  rw [Eng.rd_wr_other _ _ hvalid, addWrap_eq, Eng.rd_wr_other _ _ hgen, Eng.rd_wr_other _ _ herr, Eng.rd_wr_other _ _ hstate]
  exact hbound

theorem trainRound_idle (s : Nat) (eyes : List (Option (Nat × Nat × Nat))) {e : Eng} (hpass : e.mc.pass = false) : trainRound s eyes e = e := by
  simp [trainRound, hpass]

/-- A forced refresh round outside a training pass (R288). -/
theorem refreshAccrual_event {s : Nat} {eyes : List (Option (Nat × Nat × Nat))} {e : Eng} (hpower : e.rd (MEM_REF_STAT_PWR s) ≠ 2)
    (hdebt : (e.rd MEM_REF_CFG_POSTPONE : Int) ≤ debt e s + 1) (hpass : e.mc.pass = false) (hbound : e.rd MEM_OP_EVT_FORCED < 2) :
    (refreshAccrual s eyes e).rd MEM_OP_EVT_FORCED = 1 := by
  have hkeys : (MEM_REF_STAT_DEBT s).key ≠ MEM_OP_EVT_FORCED.key ∧ (MEM_REF_FORCED_CNT s).key ≠ MEM_OP_EVT_FORCED.key := by
    simp only [MEM_REF_STAT_DEBT, MEM_REF_FORCED_CNT, MEM_OP_EVT_FORCED, fld]
    omega
  obtain ⟨hdebtKey, hcountKey⟩ := hkeys
  unfold refreshAccrual
  rw [if_neg hpower]
  extract_lets d e1
  let a := (e1.addSat (MEM_REF_FORCED_CNT s) 1).raise MEM_OP_EVT_FORCED
  have hone : a.rd MEM_OP_EVT_FORCED = 1 := by
    refine raise_reads_one _ rfl (by unfold Still; decide) ?_
    rw [addSat_eq, Eng.rd_wr_other _ _ hcountKey]
    exact (Eng.rd_wr_other e _ hdebtKey).trans_lt hbound
  have hidle : (setDebt s (debt a s - 1) (rowsClose s a)).mc.pass = false := by
    show a.mc.pass = false
    rw [raise_mc]
    exact hpass
  rw [if_pos hdebt, refreshRound, trainRound_idle s eyes hidle, setDebt, Eng.rd_wr_other _ _ hdebtKey]
  exact (Eng.rd_with_mc a _ _).trans hone

end Machine
end Sys2Proof
end

section
/-!
SUPPORT. States in which a field of one bit holds 3: the value is not one that `Eng.wr` stores, but no obligation excludes it.
-/
namespace Sys2Proof
namespace Machine

/-- A command that leaves 3 in a field does not complete with 1 in it. -/
theorem not_completes_of_three {c : Instr} {s : State} {P : State → Prop} {f : Fld}
    (hthree : outcomeHas c s (fun t => t.rd f == 3) = true) (hone : ∀ t, P t → t.rd f = 1) : ¬ Completes c s P := by
  rintro ⟨t, hexec, -, hP⟩
  rw [outcomeHas_next _ hexec, hone t hP] at hthree
  exact absurd hthree (by decide)

/-- POSTPONE is 1, and MEM_OP_EVT.FORCED, a field of one bit, holds 3. -/
def forcedWide : State := { eng := { regs := [(MEM_OP_EVT_FORCED.key, 3), (MEM_REF_CFG_POSTPONE.key, 1)] } }

/-- The mode is SERVICE, so that no bin may change, and MEM_BIN_STAT.REJ, a field of one bit, holds 3. -/
def binRejWide : State := { eng := { regs := [(GLB_MODE_STAT_CUR.key, 1), (MEM_BIN_STAT_REJ.key, 3)] } }

/-- Every register holds its reset value, but SCR_EVT.PRIV_ERR, a field of one bit, holds 3. -/
def privErrWide : State := { eng := { regs := [(SCR_EVT_PRIV_ERR.key, 3)] } }

/-- A march test runs, and SCR_MT_STAT.REJ, a field of one bit, holds 3. -/
def marchRejWide : State := { eng := { regs := [(SCR_MT_STAT_BUSY.key, 1), (SCR_MT_STAT_REJ.key, 3)] } }

/-- DMA channel 0 runs, and its HOST_DMA_EVT.END, a field of one bit, holds 3. -/
def dmaEndWide : State := { eng := { regs := [((HOST_DMA_STAT_STATE 0).key, 1), ((HOST_DMA_EVT_END 0).key, 3)] } }

/-- Every register holds its reset value, but HOST_DMA_STAT.TAIL_REJ of channel 0, a field of one bit, holds 3. -/
def tailRejWide : State := { eng := { regs := [((HOST_DMA_STAT_TAIL_REJ 0).key, 3)] } }

/-- Every register holds its reset value, but HOST_EVT.UNEXP, a field of one bit, holds 3. -/
def unexpWide : State := { eng := { regs := [(HOST_EVT_UNEXP.key, 3)] } }

/-- Window 0 is enabled with size 0, and HOST_WIN_STAT.REJ, a field of one bit, holds 3. -/
def winRejWide : State := { eng := { regs := [(HOST_WIN_STAT_REJ.key, 3), ((HOST_WIN_CFG_EN 0).key, 1)] } }

/-- Every register holds its reset value, but PWR_EVT.CMD_REJ, a field of one bit, holds 3. -/
def cmdRejWide : State := { eng := { regs := [(PWR_EVT_CMD_REJ.key, 3)] } }

/-- Every register holds its reset value, but VIT_EVT.HPD_IRQ, a field of one bit, holds 3. -/
def hpdIrqWide : State := { eng := { regs := [(VIT_EVT_HPD_IRQ.key, 3)] } }

/-- Every register holds its reset value, with a timing out of range, but VIT_EVT.TIM_REJ, a field of one bit, holds 3. -/
def timRejWide : State := { eng := { regs := [(VIT_EVT_TIM_REJ.key, 3)] } }

/-- Curator runs, and CUR_EVT.RESTART, a field of one bit, holds 3. -/
def restartWide : State := { eng := { regs := [(CUR_STAT_RUN.key, 1), (CUR_EVT_RESTART.key, 3)] } }

/-- Every register holds its reset value, but CUR_EVT.VLT_CE, a field of one bit, holds 3. -/
def vltCeWide : State := { eng := { regs := [(CUR_EVT_VLT_CE.key, 3)] } }

/-- Curator is halted, and CUR_EVT.MBX, a field of one bit, holds 3. -/
def mbxWide : State := { eng := { regs := [(CUR_STAT_HALTED.key, 1), (CUR_EVT_MBX.key, 3)] } }

/-- A tile load runs, and CFG_EVT.TILE_END, a field of one bit, holds 3. -/
def tileEndWide : State := { eng := { regs := [(CFG_TILE_STAT_BUSY.key, 1), (CFG_EVT_TILE_END.key, 3)] } }

/-- Every register holds its reset value, but SEC_EVT.RNG_FAIL, a field of one bit, holds 3. -/
def rngFailWide : State := { eng := { regs := [(SEC_EVT_RNG_FAIL.key, 3)] } }

/-- A debug session with scope REG is open, and SEC_EVT.DBG_END, a field of one bit, holds 3. -/
def dbgEndWide : State := { eng := { regs := [(SEC_EVT_DBG_END.key, 3), (SEC_DBG_STAT_STATE.key, 1), (SEC_DBG_STAT_SCOPE.key, 1)] } }

end Machine
end Sys2Proof
end

section
/-!
SUPPORT. The obligations O23, O24, O44, O45, O46, O48, O49, O50, O60, O51, O52, O53, O54, O55, O56, O57 and O58.
-/
open Sys2Proof Sys2Proof.Machine

/-- Refutes O23: nothing bounds the value that a one-bit field holds. Where MEM_OP_EVT.FORCED holds 3, its bit counts as set, so a forced
refresh round leaves the field at 3 and not at 1. `refreshAccrual_event` proves the 1 where the field held a value of its width. -/
theorem not_refreshDebtAccrues : ¬ Obligations.RefreshDebtAccrues := by
  unfold Obligations.RefreshDebtAccrues
  intro h
  obtain ⟨-, hforced, -⟩ := h forcedWide 0 [] rfl (by decide)
  have hcase := hforced (by decide) (by decide +kernel)
  refine not_completes_of_three (f := MEM_OP_EVT_FORCED) (by decide +kernel) (fun t ht => ?_) hcase
  obtain ⟨-, hone, -⟩ := ht
  exact hone

/-- Refutes O24: nothing bounds the value that a one-bit field holds. Where MEM_BIN_STAT.REJ holds 3, its bit counts as set, so a rejected
bin request leaves the field at 3 and not at 1. `binRequest_rejected` proves the 1 where the field held a value of its width. -/
theorem not_speedBinChanges : ¬ Obligations.SpeedBinChanges := by
  unfold Obligations.SpeedBinChanges
  intro h
  obtain ⟨hreject, -⟩ := h binRejWide rfl
  have hcase := hreject 0 false 1 (by decide +kernel)
  refine not_completes_of_three (f := MEM_BIN_STAT_REJ) (by decide +kernel) (fun t ht => ?_) hcase
  obtain ⟨hone, -⟩ := ht
  exact hone

/-- Refutes O44: nothing bounds the value that a one-bit field holds. Where SCR_EVT.PRIV_ERR holds 3, its bit counts as set, so a master's
refused write of a scratch region leaves the field at 3 and not at 1. `scrRgnWrite_refused` proves the 1 where the field held a value of its
width. -/
theorem not_scratchAccessesAreServedOrRefused : ¬ Obligations.ScratchAccessesAreServedOrRefused := by
  unfold Obligations.ScratchAccessesAreServedOrRefused
  intro h
  obtain ⟨-, -, -, -, hregion⟩ := h privErrWide rfl
  obtain ⟨hrefused, -⟩ := hregion 0 0 0 (by decide) (by decide)
  have hcase := hrefused 1 0 (by decide)
  refine not_completes_of_three (f := SCR_EVT_PRIV_ERR) (by decide +kernel) (fun t ht => ?_) hcase
  obtain ⟨hone, -⟩ := ht
  exact hone

/-- Refutes O45: nothing bounds the value that a one-bit field holds. Where SCR_MT_STAT.REJ holds 3, its bit counts as set, so the start of
a second march test leaves the field at 3 and not at 1. `marchTestStart_rejected` proves the 1 where the field held a value of its width. -/
theorem not_scratchIsPatrolledRepairedWipedAndTested : ¬ Obligations.ScratchIsPatrolledRepairedWipedAndTested := by
  unfold Obligations.ScratchIsPatrolledRepairedWipedAndTested
  intro h
  obtain ⟨-, -, -, -, -, -, -, ⟨hreject, -⟩, -⟩ := h marchRejWide rfl
  have hcase := hreject (.inl (by decide))
  refine not_completes_of_three (f := SCR_MT_STAT_REJ) (by decide +kernel) (fun t ht => ?_) hcase
  obtain ⟨hone, -⟩ := ht
  exact hone

/-- Refutes O46: nothing bounds the value that a one-bit field holds. Where HOST_DMA_EVT.END holds 3, its bit counts as set, so the entry
into D3hot leaves the field at 3 and not at 1. `dmaPower_event` proves the 1 where the field held a value of its width. -/
theorem not_hostLinkResetsAndStates : ¬ Obligations.HostLinkResetsAndStates := by
  unfold Obligations.HostLinkResetsAndStates
  intro h
  obtain ⟨-, -, -, ⟨hd3, -⟩, -⟩ := h dmaEndWide rfl
  have hcase := hd3
  refine not_completes_of_three (f := HOST_DMA_EVT_END 0) (by decide +kernel) (fun t ht => ?_) hcase
  obtain ⟨-, -, hstopped, -⟩ := ht
  obtain ⟨hran, -⟩ := hstopped 0 (by decide)
  obtain ⟨-, -, hone, -⟩ := hran (by decide)
  exact hone

/-- Refutes O48: nothing bounds the value that a one-bit field holds. Where HOST_DMA_STAT.TAIL_REJ holds 3, its bit counts as set, so a TAIL
that is too far ahead leaves the field at 3 and not at 1. `dmaTailWrite_rejected` proves the 1 where the field held a value of its width. -/
theorem not_dmaChannelsRunAndStop : ¬ Obligations.DmaChannelsRunAndStop := by
  unfold Obligations.DmaChannelsRunAndStop
  intro h
  have hinv : Inv tailRejWide := ⟨by decide, rfl⟩
  obtain ⟨htail, -⟩ := h tailRejWide 0 rfl hinv (by decide)
  obtain ⟨hreject, -⟩ := htail (2 ^ 32 - 1) (by decide)
  have hcase := hreject (by decide)
  refine not_completes_of_three (f := HOST_DMA_STAT_TAIL_REJ 0) (by decide +kernel) (fun t ht => ?_) hcase
  obtain ⟨hone, -⟩ := ht
  exact hone

/-- Refutes O49: nothing bounds the value that a one-bit field holds. Where HOST_EVT.UNEXP holds 3, its bit counts as set, so an unexpected
completion leaves the field at 3 and not at 1. `completionReceived_unexpected` proves the 1 where the field held a value of its width. -/
theorem not_unexpectedCompletionIsCounted : ¬ Obligations.UnexpectedCompletionIsCounted := by
  unfold Obligations.UnexpectedCompletionIsCounted
  intro h
  have hinv : Inv unexpWide := ⟨by decide, rfl⟩
  have hcase := h unexpWide 0 0 false [] 0 rfl hinv (by simp [unexpWide]) (by decide) (by decide)
  refine not_completes_of_three (f := HOST_EVT_UNEXP) (by decide +kernel) (fun t ht => ?_) hcase
  obtain ⟨-, -, -, -, -, hone, -⟩ := ht
  exact hone

/-- Refutes O50: nothing bounds the value that a one-bit field holds. Where HOST_WIN_STAT.REJ holds 3, its bit counts as set, so a commit of
windows of which one fails leaves the field at 3 and not at 1. `winCommit_rejected` proves the 1 where the field held a value of its width.
-/
theorem not_requestsTimeOutAndWindowsMap : ¬ Obligations.RequestsTimeOutAndWindowsMap := by
  unfold Obligations.RequestsTimeOutAndWindowsMap
  intro h
  have hinv : Inv winRejWide := ⟨by decide, rfl⟩
  obtain ⟨-, -, -, -, -, -, hreject, -⟩ := h winRejWide rfl hinv
  have hcase := hreject 0 5 (by decide +kernel)
  refine not_completes_of_three (f := HOST_WIN_STAT_REJ) (by decide +kernel) (fun t ht => ?_) hcase
  obtain ⟨-, -, hone, -⟩ := ht
  exact hone

/-- Refutes O60: nothing bounds the value that a one-bit field holds. Where PWR_EVT.CMD_REJ holds 3, its bit counts as set, so SWRST without
its key leaves the field at 3 and not at 1. `swrst_rejected` proves the 1 where the field held a value of its width. -/
theorem not_powerResetsAndStartUp : ¬ Obligations.PowerResetsAndStartUp := by
  unfold Obligations.PowerResetsAndStartUp
  intro h
  have hinv : Inv cmdRejWide := ⟨by decide, rfl⟩
  obtain ⟨-, -, hstarts, -⟩ := h cmdRejWide hinv
  obtain ⟨-, -, -, hswrst⟩ := hstarts none [] []
  obtain ⟨hreject, -⟩ := hswrst 0 rfl
  have hcase := hreject (by simp)
  refine not_completes_of_three (f := PWR_EVT_CMD_REJ) (by decide +kernel) (fun t ht => ?_) hcase
  obtain ⟨hone, -⟩ := ht
  exact hone

/-- Refutes O51: nothing bounds the value that a one-bit field holds. Where VIT_EVT.HPD_IRQ holds 3, its bit counts as set, so an interrupt
pulse of the hot-plug line leaves the field at 3 and not at 1. `hpdIrq_kept` proves the 1 where the field held a value of its width. -/
theorem not_displayLinkTrainsAndReports : ¬ Obligations.DisplayLinkTrainsAndReports := by
  unfold Obligations.DisplayLinkTrainsAndReports
  intro h
  obtain ⟨-, -, -, hirq, -⟩ := h hpdIrqWide rfl
  have hcase := hirq false
  refine not_completes_of_three (f := VIT_EVT_HPD_IRQ) (by decide +kernel) (fun t ht => ?_) hcase
  obtain ⟨hone, -⟩ := ht
  exact hone

/-- Refutes O52: nothing bounds the value that a one-bit field holds. Where VIT_EVT.TIM_REJ holds 3, its bit counts as set, so a rejected
timing commit leaves the field at 3 and not at 1. `timingCommit_rejected` proves the 1 where the field held a value of its width. -/
theorem not_framesFlipsAndRenders : ¬ Obligations.FramesFlipsAndRenders := by
  unfold Obligations.FramesFlipsAndRenders
  intro h
  have hinv : Inv timRejWide := ⟨by decide, rfl⟩
  obtain ⟨hcommit, -⟩ := h timRejWide rfl hinv
  obtain ⟨hshape, -⟩ := hcommit false
  have hcase := hshape (by decide)
  refine not_completes_of_three (f := VIT_EVT_TIM_REJ) (by decide +kernel) (fun t ht => ?_) hcase
  obtain ⟨-, hone, -⟩ := ht
  exact hone

/-- Refutes O53: nothing bounds the value that a one-bit field holds. Where CUR_EVT.RESTART holds 3, its bit counts as set, so a restart of
Curator leaves the field at 3 and not at 1. `curRestart_event` proves the 1 where the field held a value of its width. -/
theorem not_curatorRestartsSensesAndTrips : ¬ Obligations.CuratorRestartsSensesAndTrips := by
  unfold Obligations.CuratorRestartsSensesAndTrips
  intro h
  have hinv : Inv restartWide := ⟨by decide, rfl⟩
  obtain ⟨hruns, -⟩ := h restartWide rfl hinv
  obtain ⟨hlockstep, -⟩ := hruns ⟨by decide, by decide, by decide, rfl⟩
  have hcase := hlockstep
  refine not_completes_of_three (f := CUR_EVT_RESTART) (by decide +kernel) (fun t ht => ?_) hcase
  obtain ⟨-, -, -, hone, -⟩ := ht
  exact hone

/-- Refutes O54: nothing bounds the value that a one-bit field holds. Where CUR_EVT.VLT_CE holds 3, its bit counts as set, so a corrected
block of the Vault leaves the field at 3 and not at 1. `vaultPatrol_corrected` proves the 1 where the field held a value of its width. -/
theorem not_ledgerRecordsReadsAndSuppresses : ¬ Obligations.LedgerRecordsReadsAndSuppresses := by
  unfold Obligations.LedgerRecordsReadsAndSuppresses
  intro h
  have hinv : Inv vltCeWide := ⟨by decide, rfl⟩
  obtain ⟨-, -, -, -, -, -, -, hpatrol⟩ := h vltCeWide rfl hinv
  obtain ⟨-, hcorrected, -⟩ := hpatrol none
  have hcase := hcorrected (by decide) 0
  refine not_completes_of_three (f := CUR_EVT_VLT_CE) (by decide +kernel) (fun t ht => ?_) hcase
  obtain ⟨-, -, hone, -⟩ := ht
  exact hone

/-- Refutes O55: nothing bounds the value that a one-bit field holds. Where CUR_EVT.MBX holds 3, its bit counts as set, so the answer of a
request leaves the field at 3 and not at 1. `mbxGo_halted` proves the 1 where the field held a value of its width. -/
theorem not_mailboxAnswersEveryRequest : ¬ Obligations.MailboxAnswersEveryRequest := by
  unfold Obligations.MailboxAnswersEveryRequest
  intro h
  have hinv : Inv mbxWide := ⟨by decide, rfl⟩
  obtain ⟨hany, -⟩ := h mbxWide 0 rfl hinv (by decide)
  obtain ⟨-, hhalted, -⟩ := hany (.info 0) (by simp)
  have hcase := hhalted (by decide) (by decide)
  refine not_completes_of_three (f := CUR_EVT_MBX) (by decide +kernel) (fun t ht => ?_) hcase
  obtain ⟨⟨-, -, -, -, -, hone, -⟩, -⟩ := ht
  exact hone

/-- Refutes O56: nothing bounds the value that a one-bit field holds. Where CFG_EVT.TILE_END holds 3, its bit counts as set, so a refused
tile load leaves the field at 3 and not at 1. `tileLoad_refused` proves the 1 where the field held a value of its width. -/
theorem not_imagesLoadFallBackAndScan : ¬ Obligations.ImagesLoadFallBackAndScan := by
  unfold Obligations.ImagesLoadFallBackAndScan
  intro h
  have hinv : Inv tileEndWide := ⟨by decide, rfl⟩
  obtain ⟨-, htile, -⟩ := h tileEndWide rfl hinv
  obtain ⟨hrefused, -⟩ := htile false
  have hcase := hrefused (by decide)
  refine not_completes_of_three (f := CFG_EVT_TILE_END) (by decide +kernel) (fun t ht => ?_) hcase
  obtain ⟨⟨-, -, -, -, hone⟩, -⟩ := ht
  exact hone

/-- Refutes O57: nothing bounds the value that a one-bit field holds. Where SEC_EVT.RNG_FAIL holds 3, its bit counts as set, so a failed
test of the noise source leaves the field at 3 and not at 1. `rngHealthFail_shown` proves the 1 where the field held a value of its width.
-/
theorem not_securityCommandsCheckAndAct : ¬ Obligations.SecurityCommandsCheckAndAct := by
  unfold Obligations.SecurityCommandsCheckAndAct
  intro h
  have hinv : Inv rngFailWide := ⟨by decide, rfl⟩
  obtain ⟨-, -, -, -, hfail, -⟩ := h rngFailWide 0 rfl hinv rfl (by decide)
  have hcase := hfail
  refine not_completes_of_three (f := SEC_EVT_RNG_FAIL) (by decide +kernel) (fun t ht => ?_) hcase
  obtain ⟨-, -, hone, -⟩ := ht
  exact hone

/-- Refutes O58: nothing bounds the value that a one-bit field holds. Where SEC_EVT.DBG_END holds 3, its bit counts as set, so DBG_CLOSE
through the access port leaves the field at 3 and not at 1. `sessionEnd_event` proves the 1 where the field held a value of its width. -/
theorem not_debugPortAnswersWithinItsScopes : ¬ Obligations.DebugPortAnswersWithinItsScopes := by
  unfold Obligations.DebugPortAnswersWithinItsScopes
  intro h
  have hinv : Inv dbgEndWide := ⟨by decide, rfl⟩
  obtain ⟨-, hport⟩ := h
  obtain ⟨-, -, -, -, -, -, -, hwrite, -⟩ := hport dbgEndWide rfl hinv rfl
  obtain ⟨-, -, hclose⟩ := hwrite 0xF00008 25 15
  have hcase := hclose (by decide) (by decide) (by decide) (by decide) (by decide) (by decide) (by decide)
  refine not_completes_of_three (f := SEC_EVT_DBG_END) (by decide +kernel) (fun t ht => ?_) hcase
  obtain ⟨-, -, -, hone⟩ := ht
  exact hone

end

section
/-!
SUPPORT. Commands of TIME_CMD and TIME_AQL_CMD that are rejected (R129, R131, R148, R151), the holdover limit (R138), and the states that
refute O29 to O32.
-/
namespace Sys2Proof
namespace Machine

/-! ### Rejected commands -/

/-- What a rejected command of TIME_CMD or TIME_AQL_CMD leaves: CMD_REJ is set; TS64, TOD, the steering and the Aqurn link stay. -/
structure TimeRejected (s t : State) : Prop where
  one : t.rd TIME_EVT_CMD_REJ = 1
  ts : t.eng.ts = s.eng.ts
  tod : t.eng.tod = s.eng.tod
  steer : t.eng.steer = s.eng.steer
  aq : t.eng.aq = s.eng.aq
  kept : Kept [TIME_EVT_CMD_REJ.key] s t

theorem timeRej_completes {c : Instr} {s : State} {f : Eng → Eng} (hexec : exec c s = onEng s f) (hup : s.up)
    (hbound : s.rd TIME_EVT_CMD_REJ < 2) (hrej : f s.eng = timeRej s.eng) : Completes c s (TimeRejected s) := by
  have hended : exec c s = .next (ended s (s.eng.raise TIME_EVT_CMD_REJ)) := by rw [exec_ended hexec hup, hrej, timeRej]
  refine (completes_raised (ks := []) hended rfl (by decide) hbound fun _ _ => rfl).imp fun t ht => ?_
  have hts := congrArg Eng.ts ht.hush
  have htod := congrArg Eng.tod ht.hush
  have hsteer := congrArg Eng.steer ht.hush
  have haq := congrArg Eng.aq ht.hush
  exact ⟨ht.one, hts, htod, hsteer, haq, ht.kept⟩

/-- SET and STEP are rejected where TS64 may not change (R129). -/
theorem setStep_rejected (s : State) (hup : s.up) (hbound : s.rd TIME_EVT_CMD_REJ < 2) (atPps : Bool) (hfixed : tsChangeable s.eng = false) :
    Completes (.set atPps) s (TimeRejected s) ∧ Completes (.step atPps) s (TimeRejected s) := by
  have hrej (op : Nat) (hop : op = 1 ∨ op = 2) : timeCmd op atPps s.eng = timeRej s.eng := by simp [timeCmd, hop, hfixed]
  exact ⟨timeRej_completes (f := timeCmd 1 atPps) rfl hup hbound (hrej 1 (.inl rfl)),
    timeRej_completes (f := timeCmd 2 atPps) rfl hup hbound (hrej 2 (.inr rfl))⟩

/-- TOD_SET is rejected where its tick-of-second is none of a second (R131). -/
theorem todSet_rejected (s : State) (hup : s.up) (hbound : s.rd TIME_EVT_CMD_REJ < 2) (atPps : Bool)
    (htick : tps ≤ s.eng.rdq TIME_TODSET_TICK) : Completes (.todSet atPps) s (TimeRejected s) := by
  have hrej : timeCmd 3 atPps s.eng = timeRej s.eng := by simp [timeCmd, htick]
  exact timeRej_completes (f := timeCmd 3 atPps) rfl hup hbound hrej

/-- AQL_ARM is rejected off the master, or where its stamp is not 1,280,000 ticks ahead (R148). -/
theorem aqlArm_rejected (s : State) (hup : s.up) (hbound : s.rd TIME_EVT_CMD_REJ < 2)
    (hmay : s.rd TIME_AQL_CTRL_ROLE ≠ 1 ∨ tsDiff (s.eng.rdq TIME_AQL_ARM) s.eng.ts < 1280000) :
    Completes .aqlArm s (TimeRejected s) := by
  have hrej : aqlArm s.eng = timeRej s.eng := by
    refine if_pos (hmay.imp_left fun hrole => ?_)
    have hother : isMaster s.eng = false := beq_false_of_ne hrole
    rw [hother, Bool.not_false]
  exact timeRej_completes (f := aqlArm) rfl hup hbound hrej

/-- ADOPT is rejected off a member, outside SERVICE, and during a transition (R129, R151). -/
theorem adopt_rejected (s : State) (hup : s.up) (hbound : s.rd TIME_EVT_CMD_REJ < 2)
    (hmay : s.rd TIME_AQL_CTRL_ROLE ≠ 2 ∨ s.eng.mode ≠ .service ∨ s.rd GLB_MODE_STAT_BUSY ≠ 0) : Completes .adopt s (TimeRejected s) := by
  have hrej : adopt s.eng = timeRej s.eng := by
    refine if_pos (hmay.imp (fun hrole => ?_) (Or.imp_right bne_iff_ne.2))
    have hother : isMember s.eng = false := beq_false_of_ne hrole
    rw [hother, Bool.not_false]
  exact timeRej_completes (f := adopt) rfl hup hbound hrej

/-! ### The holdover limit (R138) -/

/-- The limit is reported once time has passed up to a tick `n`. -/
theorem hoLimit_eq {e : Eng} (hstate : e.rd TIME_STEER_STAT_STATE = 3) (hnew : e.steer.hoDone = false)
    (hstab : e.rd TIME_HO_CFG_STAB_PPB ≠ 0) (hown : aqFollows e = false) :
    ∃ n, hoLimit e = { timeShow (advanceTo n e) with
      steer := { (timeShow (advanceTo n e)).steer with hoDone := true } }.raise TIME_EVT_HO_LIMIT := by
  have hruns : ¬(e.rd TIME_STEER_STAT_STATE ≠ 3 ∨ e.steer.hoDone = true ∨ aqFollows e = true) := by simp [hstate, hnew, hown]
  unfold hoLimit
  rw [if_neg hruns]
  extract_lets lim base stab secs e1
  have hgoes : ¬(base ≤ lim ∧ stab = 0) := fun h => hstab h.2
  clear_value lim base stab secs
  exact ⟨e.steer.hoAt + secs * tps, if_neg hgoes⟩

theorem hoLimit_reports (s : State) (hup : s.up) (hstate : s.rd TIME_STEER_STAT_STATE = 3) (hnew : s.eng.steer.hoDone = false)
    (hstab : s.rd TIME_HO_CFG_STAB_PPB ≠ 0) (hown : aqFollows s.eng = false) (hbound : s.rd TIME_EVT_HO_LIMIT < 2) :
    Completes .hoLimit s fun t => t.rd TIME_EVT_HO_LIMIT = 1 ∧ t.eng.steer.hoDone = true ∧ t.mem = s.mem := by
  obtain ⟨n, hlimit⟩ := hoLimit_eq hstate hnew hstab hown
  have hstill : Still TIME_EVT_HO_LIMIT := by unfold Still; decide
  have hexec : exec .hoLimit s = .next (ended s (hoLimit s.eng)) := exec_ended rfl hup
  have hsame : (timeShow (advanceTo n s.eng)).rd TIME_EVT_HO_LIMIT = s.rd TIME_EVT_HO_LIMIT :=
    (timeShow_rd _ (by decide)).trans ((advanceTo_clockOnly n s.eng).rd _ (by decide) hstill)
  generalize timeShow (advanceTo n s.eng) = e1 at hlimit hsame
  have hsteer := congrArg Eng.steer (raise_hush { e1 with steer := { e1.steer with hoDone := true } } TIME_EVT_HO_LIMIT 0)
  rw [hlimit] at hexec
  refine ⟨_, hexec, rfl, ?_, ?_, rfl⟩
  · exact raise_reads_one _ rfl hstill (hsame ▸ hbound)
  · exact congrArg SteerSt.hoDone hsteer

/-! ### The states that refute O29 to O32 -/

/-- A mode transition is under way, and TIME_EVT.CMD_REJ, a field of one bit, holds 3. -/
def timeRejWide : State := { eng := { regs := [(GLB_MODE_STAT_BUSY.key, 1), (TIME_EVT_CMD_REJ.key, 3)] } }

/-- The steering is in HOLDOVER with an error estimate that grows, the timebase runs from BPLL, and TIME_EVT.HO_LIMIT, a field of one bit,
holds 3. -/
def hoLimitWide : State :=
  { eng := { regs := [((CLK_LOOP_STAT_BYPASS 7).key, 0), (TIME_STEER_STAT_STATE.key, 3), (TIME_EVT_HO_LIMIT.key, 3),
      (TIME_HO_CFG_STAB_PPB.key, 1)] } }

/-- TOD stands 50 ms before a second. A pulse of 200 ms, which OFS has let begin 100 ms before that second, is in progress on PPS_OUT, and EN
has been cleared since. The timebase runs from BPLL. -/
def pulseAcrossSecond : State :=
  { eng := { regs := [((CLK_LOOP_STAT_BYPASS 7).key, 0), (TIME_PPSOUT_CFG_WIDTH_MS.key, 200),
               (TIME_PPSOUT_OFS_OFS.key, toField 32 (-1280000000))]
             ts := tps - 640000000
             now := tps - 640000000
             tout := { pulse := true, lead := some (tps - 1280000000), ppsOn := true } } }

end Machine
end Sys2Proof
end

section
/-!
SUPPORT. The obligations O29 to O32.
-/
open Sys2Proof Sys2Proof.Machine

/-- Refutes O29: nothing bounds the value that a one-bit field holds. Where TIME_EVT.CMD_REJ holds 3, its bit counts as set, so a SET that is
rejected during a transition leaves the field at 3 and not at 1. `setStep_rejected` and `todSet_rejected` prove the clauses on rejected
commands where the field held a value of its width. -/
theorem not_timeCommandsApply : ¬ Obligations.TimeCommandsApply := by
  unfold Obligations.TimeCommandsApply
  intro h
  obtain ⟨hfixed, -⟩ := h timeRejWide rfl
  obtain ⟨hset, -⟩ := hfixed false (by decide)
  refine not_completes_of_three (f := TIME_EVT_CMD_REJ) (by decide +kernel) (fun t ht => ?_) hset
  obtain ⟨hone, -⟩ := ht
  exact hone

/-- Refutes O30: with EN at 0 the statement has no pulse on PPS_OUT after a TOD second. But an output switches off without a runt pulse
(R139): a pulse that OFS has let begin before the second ends WIDTH_MS after its leading edge (R140), which may lie behind the second. -/
theorem not_timePassesAndIsRead : ¬ Obligations.TimePassesAndIsRead := by
  unfold Obligations.TimePassesAndIsRead
  intro h
  obtain ⟨-, -, hsecond, -⟩ := h pulseAcrossSecond rfl
  obtain ⟨t, hexec, -, -, -, hoff, -⟩ := hsecond
  obtain ⟨-, hended⟩ := hoff (by decide)
  have hgoesOn : outcomeHas .todSecond pulseAcrossSecond (fun t => t.eng.tout.pulse) = true := by decide +kernel
  rw [outcomeHas_next _ hexec, hended] at hgoesOn
  exact absurd hgoesOn (by decide)

/-- Refutes O31: nothing bounds the value that a one-bit field holds. Where TIME_EVT.HO_LIMIT holds 3, its bit counts as set, so the holdover
limit leaves the field at 3 and not at 1. `hoLimit_reports` proves the clause where the field held a value of its width; the clauses on
PPS_IN, PPS_MISS and HOLDOVER lack the same bound. -/
theorem not_steeringFollowsEdges : ¬ Obligations.SteeringFollowsEdges := by
  unfold Obligations.SteeringFollowsEdges
  intro h
  obtain ⟨-, -, -, hlimit, -⟩ := h hoLimitWide rfl
  have hcase := hlimit (by decide) rfl (by decide) (by decide)
  refine not_completes_of_three (f := TIME_EVT_HO_LIMIT) (by decide +kernel) (fun t ht => ?_) hcase
  obtain ⟨hone, -⟩ := ht
  exact hone

/-- Refutes O32: nothing bounds the value that a one-bit field holds. Where TIME_EVT.CMD_REJ holds 3, its bit counts as set, so AQL_ARM off
the master leaves the field at 3 and not at 1. `aqlArm_rejected` and `adopt_rejected` prove the clauses on rejected commands where the field
held a value of its width; those on AQL_DOWN, AQL_UP, AQL_OFS and CMD_DONE lack the same bound. -/
theorem not_aqurnLinkWorks : ¬ Obligations.AqurnLinkWorks := by
  unfold Obligations.AqurnLinkWorks
  intro h
  obtain ⟨-, -, -, -, -, -, harm, -⟩ := h timeRejWide rfl
  have hcase := harm (.inl (by decide))
  refine not_completes_of_three (f := TIME_EVT_CMD_REJ) (by decide +kernel) (fun t ht => ?_) hcase
  obtain ⟨hone, -⟩ := ht
  exact hone

end
